-- ==== Sys2Proof/Word.lean ====
section
/-! DEFINITION. The words of the model: bytes, 32-bit words, positions of programme time, and
the plainest arithmetic on them. -/

namespace Sys2Proof

/-- One byte. -/
abbrev Byte := BitVec 8

/-- One 32-bit word: a bench register, a device register, a ledger word. -/
abbrev Word := BitVec 32

/-- A position: the pair (epoch, PP) of chapter 4.  PP counts ticks (R34), the epoch counts steps
of the Last (R67). -/
structure Pos where
  epoch : Nat
  pp : Nat
  deriving DecidableEq, Repr

namespace Word

/-- Bits `hi … lo` of a word, as a number. -/
def bits (w : Word) (hi lo : Nat) : Nat := (w.toNat >>> lo) % 2 ^ (hi + 1 - lo)

/-- Bit `i` of a word. -/
def bit (w : Word) (i : Nat) : Bool := w.getLsbD i

/-- A word with bits `hi … lo` replaced by `v`. -/
def setBits (w : Word) (hi lo v : Nat) : Word :=
  BitVec.ofNat 32 (w.toNat - (w.bits hi lo) * 2 ^ lo + (v % 2 ^ (hi + 1 - lo)) * 2 ^ lo)

end Word

/-- A Boolean as the number of one bit. -/
def bitNat (b : Bool) : Nat := if b then 1 else 0

/-- The `n` least significant bytes of a number, most significant byte first (R82, R169). -/
def bytesBE : Nat → Nat → List Byte
  | 0, _ => []
  | n + 1, v => BitVec.ofNat 8 (v / 256 ^ n) :: bytesBE n v

/-- The number that bytes spell, most significant byte first (R82, R169). -/
def natBE (bs : List Byte) : Nat := bs.foldl (fun a b => a * 256 + b.toNat) 0

/-- Byte `i` of a list; bytes beyond its end read 0. -/
def byteAt (bs : List Byte) (i : Nat) : Byte := bs.getD i 0

/-- The number in bytes `i … i+n-1`, most significant byte first. -/
def fieldBE (bs : List Byte) (i n : Nat) : Nat := natBE ((List.range n).map fun k => byteAt bs (i + k))

/-- A saturating count: `n + k`, held at `m`. -/
def satAdd (m n k : Nat) : Nat := min m (n + k)

end Sys2Proof
end

