-- ==== Sys2Proof/Machine/Blocks.lean ====
section
/-! DEFINITION. The blocks of the device as plain data, chapter by chapter: what `State` is built
from, and the records that commands carry as operands. -/

namespace Sys2Proof.Machine

/-! ## Events and benches (chapters 4 and 5) -/

/-- The event classes of Table 4-1. -/
inductive EvClass where
  | record | stamp | rewind | skip | lastloss | tackdone | mail | eyelet | radio | wakeat | fault | pair
  deriving DecidableEq, Repr

/-- An event: its class, position, order key within its rank (Table 4-2), subtype, w4, window
payload and the event fields 6 … 19 of Table 5-12 that apply to it. -/
structure Event where
  cls : EvClass
  pos : Pos
  key : Nat
  sub : Nat
  w4 : Word
  win : List Byte
  fields : List (Nat × Word)
  deriving DecidableEq, Repr

/-- One item of the replay log (Table 4-12). -/
inductive LogItem where
  | llw (value : Word)
  | lsw (addr : Nat) (value : Word)
  | tpost (desc : List Byte) (handle : Word)
  | tcan (operand : Word)
  | msend (dest len status : Nat) (msg : List Byte)
  | mpost (mb len status : Nat) (msg : List Byte)
  | ring (eyelet : Nat)
  | radio (op : Nat) (blk : List Byte) (id : Nat)
  deriving DecidableEq, Repr

/-- One handler as the replay log records it: its event, which gives w1–w4, LEN and the window,
and the items it logged, oldest first; `ran` is false for an event discarded for want of a handler
(R131), which takes no room in the log and only tells the replay that its wake has fired. -/
structure LogHandler where
  ev : Event
  items : List LogItem
  ran : Bool
  deriving DecidableEq, Repr

/-- A handler in progress: its event, PC, registers, call stack (top first), steps used and
budget, the data it logged, the ledger words it wrote (newest first) and how many LSWs it counted;
`script` is the rest of the replay log's items for it while the bench replays. -/
structure Handler where
  ev : Event
  pc : Nat
  regs : Vector Word 16
  stack : List (BitVec 16)
  used : Nat
  budget : Nat
  items : List LogItem
  logBytes : Nat
  ledger : List (Nat × Word)
  lsws : Nat
  script : Option (List LogItem)
  deriving DecidableEq, Repr

/-- What a bench does: OFF, running handlers (IDLE or RUNNING), REPLAY or HALTED (Table 4-10). -/
inductive BenchMode where
  | off | run | replay | halted
  deriving DecidableEq, Repr

/-- One armed wake slot: its PP, the position it was armed at, and whether it fires PASSED at the
next position whatever that position's PP: armed at or before its own position's PP (R220), or
given back by a RESTART with its PP already published (R141). -/
structure Wake where
  pp : Nat
  pos : Pos
  passed : Bool
  deriving DecidableEq, Repr

/-- One bench. -/
structure Bench where
  mode : BenchMode
  /-- data memory, 32 KiB, canonical sparse form -/
  data : List Host.Cell
  wakes : Vector (Option Wake) 16
  queue : List Event
  held : List Event
  /-- pending inter-bench messages, as the MAIL events they will be -/
  inbox : List Event
  handler : Option Handler
  /-- ledger words written at the present position, newest first (R145) -/
  ledgerBuf : List (Nat × Word)
  lsws : Nat
  /-- messages posted at the present position, per destination (R148) -/
  sent : Vector Nat 5
  /-- the posting sequence number, counted from the domain's power-up (R203) -/
  seq : Nat
  log : List LogHandler
  logBytes : Nat
  /-- handlers still to be replayed, oldest first -/
  replay : List LogHandler
  /-- counts `sfs` at the bench's faults in the present window, newest first (R141) -/
  faultSfs : List Nat
  /-- FAULT events waiting for the following position (R127) -/
  faultEvs : List Event
  /-- the bench has completed a restart or has just been started: a checkpoint is due (R151) -/
  fresh : Bool
  /-- waiting to begin with the next position (R141, R888) -/
  joining : Bool
  /-- starting by its RUN bit: it joins with the image's initial data (R888) -/
  starting : Bool
  /-- its RUN bit was cleared: OFF from the next position (R888) -/
  leaving : Bool
  stepsSf : Nat
  stepsPrev : Nat
  events : Nat
  queueHigh : Nat
  deriving DecidableEq, Repr

/-- What a checkpoint holds of one bench (R152). -/
structure BenchCkpt where
  data : List Host.Cell
  wakes : Vector (Option Wake) 16
  queue : List Event
  inbox : List Event
  faultSfs : List Nat
  seq : Nat
  deriving DecidableEq, Repr

/-- A checkpoint (R152): the position it was taken at, the benches and the ledger. -/
structure Ckpt where
  pos : Pos
  benches : List BenchCkpt
  ledger : List (Nat × Word)
  deriving DecidableEq, Repr

/-- One entry of the handler table (Table 4-9): a code word address and a step budget. -/
structure HEntry where
  addr : Nat
  budget : Nat
  deriving DecidableEq, Repr

/-- The loaded image (R162): what of it the benches use. -/
structure Image where
  ver : Word
  relyStream : Bool
  relyLanes : List Nat
  present : List Nat
  codeLen : Nat
  code : List Host.Cell
  /-- entries 0 … 89 of the handler table; `none` is 0xFFFF -/
  table : List (Option HEntry)
  ledger : List (Nat × Word)
  data : List (List Host.Cell)
  pageMap : Word
  config : List (Nat × Word)
  deriving DecidableEq, Repr

/-- The program plane (chapter 4): the benches, their barrier, the ledger and the checkpoints. -/
structure Program where
  bench : Vector Bench 5
  image : Option Image
  ledger : List (Nat × Word)
  /-- the barrier position, once the benches have begun one -/
  barrier : Option Pos
  /-- positions published after the barrier position, oldest first -/
  opened : List Pos
  ckpt : Option Ckpt
  ckptPrev : Option Ckpt
  ckpts : Nat
  restarts : Nat
  lagHigh : Nat
  /-- fault 0x8120 raised and not yet cleared (R161) -/
  lagged : Bool
  lastFault : Nat
  lastFaultBench : Nat
  dropped : Nat
  /-- superframes, each an (epoch, superframe) pair, that the benches have begun positions of -/
  sfs : Nat
  /-- RUN bits in effect; RUN and RESTART bits written, with the tick edge of the write (R823) -/
  runBits : Nat
  runWant : Nat
  runEdge : Nat
  restartWant : Nat
  restartEdge : Nat
  /-- the request ID that the next radio request takes (R215) -/
  nextReq : Nat
  /-- the position from whose superframe on the promise is void (R10, R12), and the position with whose
  superframe an adoption ended it (R734) -/
  void : Option Pos
  voidTo : Option Pos
  deriving DecidableEq, Repr

/-! ## The Last (chapter 2) -/

/-- The rate sources, coded as LAST_STATUS SOURCE (Table 2-10). -/
inductive Source where
  | none | pilot | rdsclk | dabframe | hearth | welt | localRef
  deriving DecidableEq, Repr

/-- The modes of Table 2-10. -/
inductive LastMode where
  | track | hold | slew | stopped
  deriving DecidableEq, Repr

/-- A receiver's timestamp of an anchor point: A in 1/65 536 tick, with the Last's total of
corrections and the epoch latched with it (R52, R890). -/
structure Anchor where
  a : Nat
  corr : Int
  epoch : Nat
  deriving DecidableEq, Repr

/-- A radio request waiting in a block: its ID, parameter block, application PP and the count of
tick edges when it was issued. -/
structure Req where
  id : Nat
  blk : List Byte
  app : Nat
  edge : Nat
  deriving DecidableEq, Repr

/-- The Last. -/
structure Last where
  /-- the published PP -/
  pp : Nat
  /-- the 16 fractional bits of PP, which are not published (R35) -/
  frac : Nat
  epoch : Nat
  src : Source
  mode : LastMode
  /-- the mode a stop interrupted (R79) -/
  resume : LastMode
  /-- correction outstanding, in 1/65 536 tick -/
  rem : Nat
  /-- the whole of the correction in progress, in 1/65 536 tick -/
  total : Nat
  /-- SLEW as the slew in progress started with it, 0 in a hold (R65) -/
  rate : Nat
  /-- corrections made before the one in progress, steps among them, in 1/65 536 tick (R53); R54 keeps
  steps out of C -/
  corr : Int
  /-- errors of the pending confirmation run, in 1/65 536 tick, oldest first (R61) -/
  pendErrs : List Int
  stamped : Bool
  govCarrier : Option Nat
  /-- the governing carrier is fixed by the first applied stamp (R886) -/
  govFixed : Bool
  /-- GOVERN requests and a host write of LAST_GOV waiting for their edge -/
  govReqs : List Req
  govWrite : Option Word
  err : Int
  trim : Int
  trimValid : Bool
  trimEdges : Nat
  frEdges : Nat
  frRaised : Bool
  holds : Nat
  slews : Nat
  skips : Nat
  rewinds : Nat
  evt : Nat
  /-- tick edges since power-up of the BENCH domain -/
  edge : Nat
  /-- the total of corrections and the epoch as they stood at the end of each of the last 1024 ticks,
  newest first: what the receivers latch with their timestamps (R890); and the position of those ticks in
  1/65 536 tick -/
  trail : List (Int × Nat × Nat)
  /-- LAST_PP_HI and LAST_EPOCH as latched (R81) -/
  latchHi : Nat
  latchEpoch : Nat
  deriving DecidableEq, Repr

/-! ## Record intake (chapter 3) -/

/-- The UNVERIFIED causes of R93, and VERIFIED. -/
inductive Verdict where
  | verified | nokey | unknown | wrongkey | badtag
  deriving DecidableEq, Repr

/-- A partial batch of one RDS carrier: the lane, the bytes so far, the CC expected next and the
anchor of each group received. -/
structure Partial where
  carrier : Nat
  bytes : List Byte
  cc : Nat
  anchors : List Anchor
  deriving DecidableEq, Repr

/-- A complete batch in intake: its carrier, bytes, the anchors of its groups (one per four bytes
on RDS, one in all on the other carriers), its verdict, the count of tick edges at completion and,
once held under FLAG, the edge at which UVWAIT ends. -/
structure Batch where
  carrier : Nat
  bytes : List Byte
  anchors : List Anchor
  verdict : Verdict
  edge : Nat
  heldTo : Option Nat
  deriving DecidableEq, Repr

/-- A stream entry (R107): the generation, H, the numbers of the window seen, those unseen with
the edge since which they have stood unseen, the current key and a pending key roll. -/
structure Stream where
  id : Nat
  gen : Nat
  high : Nat
  seen : List Nat
  missing : List (Nat × Nat)
  key : Option Nat
  nextKey : Option Nat
  fromSeq : Nat
  lastEdge : Nat
  deriving DecidableEq, Repr

/-- Record intake. -/
structure Intake where
  partials : List Partial
  batches : List Batch
  streams : List Stream
  /-- keys of streams that have no entry, with the superframe of their latest 0x5302 (R94) -/
  unknownSf : List (Nat × Nat × Nat)
  /-- by stream, the carrier from which its records were most recently released (R886) -/
  released : List (Nat × Nat)
  /-- batches discarded under WITHHOLD (R118), and for want of a stream entry (R110); no register shows
  either count -/
  withheld : Nat
  refused : Nat
  badtag : Nat
  malformed : Nat
  replays : Nat
  abandoned : Nat
  dups : Nat
  lost : Nat
  deriving DecidableEq, Repr

/-! ## Tacks (chapter 6) -/

/-- A tack: its handle, posting bench and sequence, due PP, target, flags, order key, payload,
entry position and, once a SKIP or its entry has set it for dispatch at once, the LATE status. -/
structure Tack where
  handle : Word
  bench : Nat
  seq : Nat
  due : Nat
  target : Nat
  flags : Nat
  order : Nat
  plen : Nat
  tparam : Nat
  payload : List Byte
  entry : Pos
  late : Bool
  deriving DecidableEq, Repr

/-- What a handler hands to the tack store (R205). -/
inductive TackOp where
  | post (t : Tack)
  | cancel (bench : Nat) (handle : Word)
  | cancelKey (bench : Nat) (order : Nat)
  deriving DecidableEq, Repr

/-- A post or cancel on its way to the store, with its bench and entry position. -/
structure TackEntry where
  pos : Pos
  bench : Nat
  op : TackOp
  /-- its epoch has come to lie 32 768 steps behind the present one (R133) -/
  ancient : Bool
  deriving DecidableEq, Repr

/-- A step of the Last as the tack store applies it: the PP it left and the position it made, and whether the
position that it left had been made by a step of the same tick and so was not dispatched (R71). -/
structure StepMade where
  p0 : Nat
  pos : Pos
  undone : Bool
  deriving DecidableEq, Repr

/-- A published position that the store has still to dispatch: the tick edge it was published at,
the steps that led to it, and whether the step rules and the entries have been applied. -/
structure Due where
  pos : Pos
  edge : Nat
  steps : List StepMade
  stepped : Bool
  entered : Bool
  deriving DecidableEq, Repr

/-- The tack store. -/
structure TackStore where
  pending : List Tack
  entries : List TackEntry
  due : List Due
  /-- the pair (epoch, superframe) and position last dispatched -/
  lastDisp : Option Pos
  /-- the latest position dispatched -/
  lastDone : Option Pos
  crc : Word
  inReport : Nat
  warned : Bool
  high : Nat
  full : Nat
  dropped : Nat
  skipped : Nat
  late : Nat
  disp : Nat
  failHearth : Nat
  failIr : Nat
  failMail : Nat
  failMarker : Nat
  repSf : Nat
  repInfo : Word
  repCrc : Word
  repSeq : Nat
  /-- TACK_DREP_INFO, CRC and SEQ as latched (R828) -/
  latch : List Word
  deriving DecidableEq, Repr

/-! ## Faults (chapter 20) -/

/-- One fault log entry (Table 20-3), with the (epoch, superframe) of its first raise (R805). -/
structure FaultEntry where
  code : Nat
  unit : Nat
  cls : Nat
  count : Nat
  pp : Nat
  pos : Pos
  deriving DecidableEq, Repr

/-- The fault log. -/
structure FaultLog where
  entries : List FaultEntry
  lost : Nat
  peek1 : Word
  deriving DecidableEq, Repr

/-! ## RF chains (chapter 7) -/

/-- The chain states of Table 7-3, coded 0 … 4. -/
inductive ChainMode where
  | sleep | standby | synth | rx | tx
  deriving DecidableEq, Repr

/-- The bubble kinds of Table 7-13, coded 1 … 3. -/
inductive BubbleKind where
  | synthcal | dctrim | gaincal
  deriving DecidableEq, Repr

/-- A bubble placed and not yet ended: its kind, priority, start PP and, once begun, the count of
tick edges at its beginning. -/
structure Bubble where
  kind : BubbleKind
  urgent : Bool
  start : Nat
  begun : Option Nat
  /-- the table slot it recalibrates, once begun -/
  slot : Option Nat
  deriving DecidableEq, Repr

/-- A protected window: start and end PP (R305). -/
structure Window where
  start : Nat
  stop : Nat
  deriving DecidableEq, Repr

/-- A transition or tune in progress: the state it ends in, the request it answers (code and ID),
the flags its reply carries and the count of tick edges at its beginning. -/
structure Transition where
  target : ChainMode
  code : Nat
  reqId : Option Nat
  cold : Bool
  dcnear : Bool
  edge : Nat
  deriving DecidableEq, Repr

/-- A CALIBRATE request in work: its ID, the slots still to be calibrated, whether a placed bubble
covered them all when it came (R335), and how many entries were calibrated and failed. -/
structure CalReq where
  id : Nat
  slots : List Nat
  urgent : Bool
  covered : Bool
  done : Nat
  failed : Nat
  deriving DecidableEq, Repr

/-- One RF chain. -/
structure Chain where
  mode : ChainMode
  trans : Option Transition
  /-- held in STANDBY for want of a clock (Table 8-8) -/
  held : Bool
  failed : Bool
  epoch : Nat
  /-- BR: LO in Hz.  HR: the present channel. -/
  lo : Nat
  tuned : Bool
  tunes : List Req
  gains : List Req
  bubbles : List Bubble
  windows : Vector (Option Window) 16
  cals : List CalReq
  gain : Nat
  /-- ticks in succession with a peak below −14 dBFS (R277) -/
  quiet : Nat
  /-- ticks of the present run of clipping at MIN (R281) -/
  clipRun : Nat
  clipped : Nat
  trimI : Int
  trimQ : Int
  loopI : Int
  loopQ : Int
  deriving DecidableEq, Repr

/-- What a chain gives from an instant on: the instant in 1/65 536 tick counted over tick edges, whether its
samples are marked invalid or it gives none (R270, R303), and its gain index (R278). -/
structure ChainMark where
  at_ : Nat
  deaf : Bool
  gain : Nat
  deriving DecidableEq, Repr

/-- What belongs to HR and the chains together: the PA latches, pins and counters, and the mode
of BR_MODE. -/
structure Radio where
  chain : Vector Chain 3
  /-- what each chain has given its lanes, newest mark first -/
  heard : Vector (List ChainMark) 3
  /-- 0 DIVERSE, 1 SPLIT, 2 ALONE -/
  mode : Nat
  /-- the chain that feeds the lanes in ALONE (R285) -/
  survivor : Nat
  paflt : Bool
  clamp : Bool
  maskref : Bool
  noseal : Bool
  clampSf : Option (Nat × Nat)
  txCount : Nat
  pinTrsw : Bool
  pinLnaen : Bool
  pinPaen : Bool
  /-- the codes of the PA gain table in force on PARAMP and at the transmit driver, 0 off -/
  pinParamp : Nat
  txDriver : Nat
  pinAntsel : Bool
  /-- the level of PAFAULT# -/
  pinPafault : Bool
  deriving DecidableEq, Repr

/-! ## Synthesizers and clocks (chapter 8) -/

/-- A calibration entry (Table 8-5). -/
structure CalEntry where
  chain : Nat
  key : Nat
  band : Nat
  kvco : Nat
  spurnear : Bool
  temp : Int
  refmode : Nat
  age : Nat
  deriving DecidableEq, Repr

/-- A sweep: the slots still to calibrate, the request it answers, its chain mask and its counts. -/
structure Sweep where
  mask : Nat
  req : Option Nat
  chain : Nat
  slots : List Nat
  done : Nat
  failed : Nat
  deriving DecidableEq, Repr

/-- Clocks, synthesizer sensors and the calibration table. -/
structure Clocks where
  sysLock : Bool
  sckLock : Bool
  /-- the PLL lost lock of itself and waits for its own return (Table 8-8) -/
  sysLost : Bool
  sckLost : Bool
  refOk : Bool
  refIn : Bool
  limp : Bool
  synLost : Vector Bool 3
  evt : Nat
  limpKHz : Nat
  temp : Vector Int 3
  /-- temperature triggers suspended (0x2320) -/
  tempBad : Vector Bool 3
  /-- DRIFT in °C and MODE BACKGROUND as the latest reading took them (R332) -/
  drift : Nat
  bgMode : Bool
  table : List (Nat × CalEntry)
  sweep : Option Sweep
  cals : Nat
  calFails : Nat
  evictions : Nat
  /-- CAL_ENTRY1 as latched -/
  latch1 : Word
  deriving DecidableEq, Repr

/-! ## Lanes and the filter chain (chapter 9) -/

/-- The presets of Table 9-4. -/
inductive Preset where
  | custom | fmStd | fmNarrow | capture | dab | ir
  deriving DecidableEq, Repr

/-- What a lane number is at work at: LANEn_STATUS [2:0] but for SETTLING, which `settle` tells. -/
inductive LaneUse where
  | free | run | ir | wide
  deriving DecidableEq, Repr

/-- A lane request waiting for its application edge: the request and whether it is a
LANE_RELEASE. -/
structure LaneReq where
  req : Req
  release : Bool
  deriving DecidableEq, Repr

/-- A complex number of whole parts: the I and Q of a sample. -/
structure Iq where
  i : Int
  q : Int
  deriving DecidableEq, Repr

/-- A sample with its marks (chapter 9, Ground), and the instant, in 1/65 536 tick counted over tick edges, of
the input sample that completes it. -/
structure Sample where
  v : Iq
  invalid : Bool
  unsettled : Bool
  step : Bool
  at_ : Nat
  deriving DecidableEq, Repr

/-- The CIC registers of one branch for I or for Q, 56 bits each (R366): integrators and combs. -/
structure Cic where
  integ : List (BitVec 56)
  comb : List (BitVec 56)
  deriving DecidableEq, Repr

/-- One branch of a lane (R383): its CIC; for how many input samples the CIC still spans invalid input, and
whether a gain step waits for its next output; the FIR delay line of 96 samples, newest first (R372); the
UNSETTLED outputs still to come; and of the combiner its weights at the beginning and at the end of the
present block, the power summed over the block, and whether a marked sample holds its weight at 0 (R384,
R385). -/
structure Branch where
  cicI : Cic
  cicQ : Cic
  dirty : Nat
  step : Bool
  line : List Sample
  raw : Nat
  blank : Bool
  wOld : Iq
  wNew : Iq
  power : Nat
  deriving DecidableEq, Repr

/-- What a lane's stages hold (Table 9-2): the instant of the latest input sample, the NCO's phase, the
branches that ran, the counts within a CIC and a FIR decimation, the branches, the outputs of the cross-fade
so far (R373), the combined samples of the present block with their cross term and whether the block holds a
GAINSTEP (R384, R387), the moving average's line and running sum (R377), the resampler's line, and the
output samples of the block being filled, newest first. -/
structure Signal where
  last : Nat
  phase : BitVec 32
  mask : Nat
  cic : Nat
  fir : Nat
  branch : Vector Branch 2
  fadeK : Nat
  comb : Nat
  cross : Iq
  excl : Bool
  mean : List Sample
  sumI : BitVec 26
  sumQ : BitVec 26
  line : List Sample
  out : List Sample
  deriving DecidableEq, Repr

/-- An output block of a lane with what its descriptor carries (R351): the lane epoch, the PP of its first
sample in 1/65 536 tick, the GAP count before it, and its samples, oldest first. -/
structure OutBlock where
  epoch : Nat
  first : Nat
  gap : Nat
  samples : List Sample
  deriving DecidableEq, Repr

/-- One lane number 0 … 101.  N, DEC, F and A are held as LANEn_CIC codes them: N − 3, DEC − 1, F − 1
and A − 1. -/
structure Lane where
  use : LaneUse
  preset : Preset
  /-- the register fields: LANEn_CTRL HOLD and RESON, NCO, CIC, FIR and SFD -/
  hold : Bool
  reson : Bool
  nco : Word
  n : Nat
  dec : Nat
  f : Nat
  a : Nat
  setA : Nat
  setB : Nat
  bankB : Bool
  xf : Nat
  fading : Bool
  sfdFreq : Nat
  sfdK : Nat
  sfdIn : Nat
  centre : Nat
  epoch : Nat
  /-- UNSETTLED output samples still to come (R390) -/
  settle : Nat
  /-- output samples computed and not delivered (GAP) -/
  gap : Nat
  level : Nat
  /-- the resampler's extra delay and the delay it slews to, in 1/1024 samples; slewing, ρ is 1 − 1/64 -/
  delta : Nat
  goal : Nat
  slewing : Bool
  branches : Nat
  /-- consecutive blocks that failed their residue check -/
  badRun : Nat
  failed : Bool
  /-- FAILED since this count of tick edges, and waiting for its substitution -/
  failing : Option Nat
  /-- understudy 0 … 3 bound to the number -/
  under : Option Nat
  /-- returned by LANE_FAILED: retakes its number at the next ASSIGN -/
  returned : Bool
  /-- an understudy has failed on it, and it has none until it is returned (R410) -/
  bare : Bool
  blocks : Nat
  delayBlocks : Nat
  sig : Signal
  /-- output blocks that wait for their shared pool block (R402), and the latest one delivered -/
  wait : List OutBlock
  latest : Option OutBlock
  /-- the detector's samples since its latest block, each with whether it is marked; whether its blocks have
  begun; and the slot whose end begins them (R396, R419) -/
  sfd : List (Iq × Bool)
  sfdRun : Bool
  sfdSlot : Option Nat
  deriving DecidableEq, Repr

/-- One coefficient set in RAM: taps 0 … 47, L as stored, and the double-bit error flag. -/
structure CoefSet where
  taps : List (Nat × Word)
  len : Nat
  ecc : Bool
  deriving DecidableEq, Repr

/-- A claim waiting for its grant round: the position of its issue, the requester, and whether it is for
resampler delay. -/
structure Claim where
  pos : Pos
  who : Nat
  delay : Bool
  deriving DecidableEq, Repr

/-- The lane array, the understudies, the sample pool and the coefficient RAM. -/
structure Lanes where
  /-- lanes that differ from a lane at reset, by number, ascending -/
  lane : List (Nat × Lane)
  /-- lane requests waiting for their edge, in the order issued -/
  reqs : List LaneReq
  underFailed : Vector Bool 4
  wideFailed : Vector Bool 2
  sharedUsed : Nat
  claims : List Claim
  poolLow : Nat
  none : Nat
  /-- requesters refused, with the superframe of their latest 0x4201 (R404) -/
  noneSf : List (Nat × Nat × Nat)
  coef : List (Nat × CoefSet)
  coefRef : Nat
  coefFixed : Nat
  deriving DecidableEq, Repr

/-! ## FM and RDS (chapter 10) -/

/-- A quality record (Table 10-2), 12 bytes, with the superframe it is of. -/
structure Quality where
  bytes : List Byte
  sf : Nat
  deriving DecidableEq, Repr

/-- A MEASURE subscription: request ID, event mask, QUALITY period and the superframes left to the
next QUALITY. -/
structure Subscr where
  id : Nat
  mask : Nat
  period : Nat
  left : Nat
  deriving DecidableEq, Repr

/-- One MPX sample of an FM lane (R414, R416): its value, full scale ±120 kHz; the marks of the lane sample
that it comes from; whether its block holds a GAINSTEP; the power of the lane sample, and its instant. -/
structure Mpx where
  v : Int
  invalid : Bool
  unsettled : Bool
  step : Bool
  power : Nat
  at_ : Nat
  deriving DecidableEq, Repr

/-- The receiver of one FM lane (R417): the lane sample before the next one, none after a GAP; the pilot PLL;
the MPX samples of the present superframe (R454); pilot lock, RDS sync, the group being assembled, and the
decoded-feature memory. -/
structure FmLane where
  prev : Option Sample
  /-- a GAP came in the present superframe -/
  gapSeen : Bool
  pllPhase : BitVec 32
  pllFreq : BitVec 32
  meas : List Mpx
  lockRun : Nat
  noLockRun : Nat
  locked : Bool
  level : Nat
  sync : Bool
  badRun : Nat
  /-- expected block 0 A … 3 D, and blocks of the group in progress with their status (0 OK, 1 CORRECTED, 2 BAD) -/
  next : Nat
  group : List (Nat × Nat)
  groupVerB : Option Bool
  /-- while searching: the zero-syndrome blocks of the last 26 bits, each as the number of its last bit,
  its offset (0 A, 1 B, 2 C, 3 C′, 4 D) and its information word -/
  zeros : List (Nat × Nat × Nat)
  /-- in sync: the number of the latest block's last bit -/
  lastBit : Nat
  piLast : Nat
  piRun : Nat
  pi : Option Nat
  pty : Nat
  tp : Bool
  ta : Bool
  taSeen : Bool
  ps : List (Nat × Nat)
  psRep : Option (List Byte)
  ptyn : List (Nat × Nat)
  ptynRep : Option (List Byte)
  ptyRep : Option Nat
  ptynAb : Option Bool
  rt0 : List (Nat × Nat)
  rt1 : List (Nat × Nat)
  rtRep0 : Option (List Byte)
  rtRep1 : Option (List Byte)
  rtAb : Option Bool
  afWant : Option Nat
  afCodes : List Nat
  afLfmf : Bool
  afSkip : Bool
  /-- every pair after the count pair so far holds the own code -/
  afPairs : Bool
  afRep : Option (List Byte)
  oda : List (Nat × Nat × Nat)
  slc : Option (List Byte)
  hist : List Nat
  sub : Option Subscr
  quality : Option Quality
  deriving DecidableEq, Repr

/-- A sample of a programme output (R425, R426): left and right, and its PP in 1/65 536 tick. -/
structure Frame where
  l : BitVec 24
  r : BitVec 24
  stamp : Nat
  deriving DecidableEq, Repr

/-- A stereo decoder of a programme output: the copy of the programme that one lane carries (R425, R479). -/
structure Copy where
  /-- blend factor b in 1/16 320 -/
  blend : Nat
  /-- soft-mute attenuation in quarter dB -/
  mute : Nat
  /-- the MPX samples since the latest tick (R428) -/
  since : List Mpx
  /-- the INVALID run in progress: its samples while it lasts up to 1 ms, and whether it lasts longer (R431) -/
  run : List (Mpx × BitVec 32)
  long : Bool
  /-- the fade of a muting, a lost or a changed source, 24 for full level (R431, R433, R700) -/
  fade : Nat
  /-- the latest MPX samples, newest first, each with twice the pilot PLL's phase, and their count within an
  output sample -/
  mpx : List (Int × BitVec 32)
  count : Nat
  /-- the de-emphasis filters (R427) -/
  deL : Int
  deR : Int
  /-- the alignment delay's coarse part B in 48 kS/s samples -/
  coarse : Nat
  /-- the alignment buffer, newest first, and the samples that have left it, oldest first -/
  buffer : List Frame
  ready : List Frame
  deriving DecidableEq, Repr

/-- A programme output: its source lane, the decoder of the source, the decoder of a splice's target, the
output samples of the cross-fade so far, and the samples that the ports may send, newest first. -/
structure Po where
  source : Option Nat
  noSrc : Bool
  main : Copy
  other : Copy
  fadeK : Nat
  out : List Frame
  deriving DecidableEq, Repr

/-- The FM receivers. -/
structure Fm where
  lanes : List (Nat × FmLane)
  /-- MEASURE requests of every receiver waiting for their edge -/
  reqs : List Req
  po : Vector Po 2
  rdsCorr : Nat
  rdsBad : Nat
  afBad : Nat
  /-- FM_VQ1, FM_VRDS, FM_VPI and FM_VPS0–1 as captured (R841) -/
  latch : List Word
  deriving DecidableEq, Repr

/-! ## Following (chapter 11) -/

/-- A correlation in progress: its request, the tick edge that it took effect at, the edge and the PP
of its first superframe boundary, and the MPX samples recorded of the reference and of the candidate, newest
first (MPX); and for STAMP the antenna instants, in 1/65 536 tick, of the
named stream's records seen on the two carriers, by sequence number, with the edge and PP at which the
last common record needed was seen. -/
structure Corr where
  id : Nat
  blk : List Byte
  edge : Nat
  start : Nat
  startPp : Nat
  refRec : List Mpx
  candRec : List Mpx
  refSeen : List (Nat × Int)
  candSeen : List (Nat × Int)
  common : Option (Nat × Nat)
  deriving DecidableEq, Repr

/-- A correlation result kept for SPLICE (R469): what Table 11-3 gives of it, d in ns, and the tick edge
of its reply. -/
structure CorrResult where
  id : Nat
  refCarrier : Nat
  cand : Nat
  mpx : Bool
  ok : Bool
  d : Int
  conf : Nat
  ratio : Nat
  edge : Nat
  deriving DecidableEq, Repr

/-- The stages of Table 11-6 at which a splice waits: SLEW, ALIGN, ARMED, the wait of AT for its splice
PP, and FADE. -/
inductive SpliceStage where
  | slew | align | armed | waiting | fade
  deriving DecidableEq, Repr

/-- A splice in progress: its stage and the tick edge at which the stage began, d in ns, the
coarse delay of the target copy in 48 kS/s samples, and the splice edge PP. -/
structure Splice where
  id : Nat
  blk : List Byte
  stage : SpliceStage
  stageEdge : Nat
  d : Int
  coarse : Nat
  edgePp : Nat
  deriving DecidableEq, Repr

/-- A carrier's timebase offset in 1/65 536 tick, and whether it is valid. -/
structure Offset where
  carrier : Nat
  off : Int
  valid : Bool
  deriving DecidableEq, Repr

/-- Following. -/
structure Follow where
  reqs : List (Nat × Req)
  corrs : List Corr
  results : List CorrResult
  splices : List Splice
  offsets : List Offset
  bleed : Bool
  /-- the SPLICE request that started the bleed -/
  bleedId : Nat
  /-- edge at which the latest bleed correction ended -/
  bleedEdge : Nat
  /-- the correction in progress is a bleed correction -/
  bleeding : Bool
  done : Nat
  abandoned : Nat
  latchV : Word
  deriving DecidableEq, Repr

/-! ## DAB (chapter 12) -/

/-- The states of an ensemble decoder, coded 0 … 3 (Table 12-10). -/
inductive DabMode where
  | idle | search | sync | holdover
  deriving DecidableEq, Repr

/-- One sub-channel of the MCI (FIG 0/1): SubChId, start and size in CU, the protection byte of
DAB_SUBCHORG and the bitrate in kbit/s. -/
structure SubCh where
  id : Nat
  start : Nat
  size : Nat
  prot : Nat
  rate : Nat
  deriving DecidableEq, Repr

/-- One component of a service (FIG 0/2): TMid, ASCTy or DSCTy, its SubChId, or SCId in packet mode,
and the CA flag. -/
structure SvcComp where
  tmid : Nat
  kind : Nat
  id : Nat
  ca : Nat
  deriving DecidableEq, Repr

/-- A packet-mode component (FIG 0/3): SCId, SubChId, packet address, DSCTy and CA organisation. -/
structure PktComp where
  scid : Nat
  subch : Nat
  addr : Nat
  dscty : Nat
  caOrg : Nat
  deriving DecidableEq, Repr

/-- A service as the FIGs give it: SId, components, programme type, user application types and label. -/
structure Service where
  sid : Nat
  comps : List SvcComp
  pty : Nat
  apps : List Nat
  label : List Byte
  deriving DecidableEq, Repr

/-- The data group being assembled from one packet address: the next continuity index, the bytes so far
(`none` while no first packet has come), and the continuity index of the last data group handed on. -/
structure DGroup where
  addr : Nat
  cont : Nat
  bytes : Option (List Byte)
  lastDone : Option Nat
  deriving DecidableEq, Repr

/-- A selected sub-channel: its SubChId, the SELECT that selected it, its delivery and addresses; the edge
count at which it was selected; the CIF count its present run of de-interleaving begins with, the SELECTs
whose replies wait for that CIF and whether it has never been taken in; a DESELECT's request that
waits; the data groups in progress; and of
superframe sync (R515) the CIFs gathered with their anchor PP, newest first, and the firecode
failures in succession. -/
structure Selection where
  id : Nat
  reqId : Nat
  raw : Bool
  super : Bool
  packet : Bool
  addrs : List Nat
  edge : Nat
  fromCif : Option Nat
  owed : List Nat
  fresh : Bool
  leaving : Option Nat
  groups : List DGroup
  gathered : List (Nat × Nat × List Byte)
  inSync : Bool
  fails : Nat
  deriving DecidableEq, Repr

/-- One frame of the history of R522: the antenna instant, with the Last's latched total and
epoch, and its first CIF count. -/
structure FrameRec where
  anchor : Anchor
  cif : Nat
  deriving DecidableEq, Repr

/-- A START that covers a failed decoder and waits for its tick edge (Table 20-5): the frequency, the
selections, the ENSEMBLE request and the edge count of the failure. -/
structure Cover where
  freq : Nat
  sels : List Selection
  runReq : Nat
  edge : Nat
  deriving DecidableEq, Repr

/-- One ensemble decoder. -/
structure Decoder where
  mode : DabMode
  ready : Bool
  failed : Bool
  epoch : Nat
  freq : Nat
  eid : Nat
  ecc : Nat
  lto : Nat
  alarm : Bool
  ensLabel : List Byte
  cif : Nat
  foff : Int
  /-- antenna instant of the latest null found, in 1/65 536 tick, less the corrections made up to it -/
  lastNull : Option Int
  missed : Nat
  /-- the ENSEMBLE request still to complete, the one that started the present run, and its edge -/
  startReq : Option Nat
  runReq : Nat
  startEdge : Nat
  cover : Option Cover
  /-- ENSEMBLE (11) and SUBCHANNEL (12) requests waiting for their tick edge -/
  reqs : List (Nat × Req)
  mci : List SubCh
  services : List Service
  packets : List PktComp
  fec : List (Nat × Nat)
  haveFig00 : Bool
  nextMci : List SubCh
  /-- the CIF count of an announced change -/
  changeAt : Option Nat
  sels : List Selection
  /-- SELECT replies due at the next tick edge: request, first CIF count and the edge of its boundary -/
  selDone : List (Nat × Nat × Nat)
  history : List FrameRec
  /-- what the events of Table 12-8 last reported, by event code and key -/
  contents : List (Nat × List Byte)
  sub : Option Subscr
  quality : Option Quality
  /-- the outcome of the last 48 FIBs, newest first, failed ones true -/
  fibHist : List Bool
  qCor : Nat
  qBad : Nat
  qGroups : Nat
  gap : Bool
  badFib : Nat
  badPacket : Nat
  badGroup : Nat
  badRs : Nat
  repeats : Nat
  otherFigs : Nat
  deriving DecidableEq, Repr

/-! ## The hearth link and the seal (chapter 13) -/

/-- The states of the link, coded 0 … 2. -/
inductive LinkMode where
  | stopped | starting | running
  deriving DecidableEq, Repr

/-- A slot plan (Table 13-4). -/
structure Plan where
  id : Nat
  hub : Nat
  site : Nat
  sync : Nat
  roles : List Nat
  stride : Nat
  seed : Nat
  hops : List Nat
  bcn : Nat
  troupes : Nat
  maxWait : Nat
  level : Int
  bcnRes : Nat
  bper : Nat
  ackUp : Bool
  deriving DecidableEq, Repr

/-- A frame of the downlink queue: the tack's handle, its troupe, type, SEQ and payload, superframe
starts published since dispatch, whether its last attempt was deferred by LBT, whether its burst A
was refused and by which check, and how many of its bursts were on the air. -/
structure HFrame where
  handle : Word
  troupe : Nat
  type : Nat
  seq : Nat
  payload : List Byte
  starts : Nat
  deferred : Bool
  refusedA : Option Nat
  onAir : Nat
  deriving DecidableEq, Repr

/-- What the present slot is doing. -/
inductive SlotWork where
  | none | rx | burstA | burstB | beacon
  deriving DecidableEq, Repr

/-- The burst of the present slot: its frame (`none` for a beacon), slot, channel and airtime in µs;
whether its LBT has found the channel clear and whether it is being transmitted. -/
structure Burst where
  frame : Option HFrame
  isB : Bool
  slot : Nat
  chan : Nat
  bytes : List Byte
  lbt : Option Bool
  onAir : Bool
  deriving DecidableEq, Repr

/-- A burst B scheduled for a slot (R545). -/
structure SchedB where
  frame : HFrame
  at_ : Nat
  deriving DecidableEq, Repr

/-- An accepted uplink triple (R560). -/
structure UpTriple where
  troupe : Nat
  target : Nat
  seq : Nat
  deriving DecidableEq, Repr

/-- A downlink frame a listener has accepted (R557): troupe, type, SEQ and superframe. -/
structure HeardFrame where
  troupe : Nat
  type : Nat
  seq : Nat
  sf : Nat
  deriving DecidableEq, Repr

/-- The hearth link. -/
structure Hearth where
  mode : LinkMode
  plan : Option Plan
  reqs : List (Nat × Req)
  queue : List HFrame
  sched : List SchedB
  burst : Option Burst
  /-- PP of the present slot's start, its tick edge, and the total of corrections and the epoch latched there;
  whether a slot start has been published and not yet been worked, and whether the present slot is dead
  (R542) -/
  slotStart : Nat
  slotEdge : Nat
  slotCorr : Int
  slotEpoch : Nat
  slotDue : Bool
  deadSlot : Bool
  troupeSeq : List (Nat × Nat)
  beaconSeq : Nat
  acks : List UpTriple
  triples : List UpTriple
  heard : List HeardFrame
  /-- what was last reported of other hubs' beacons: hub, flags byte, plan ID -/
  beaconRep : List (Nat × Nat × Nat)
  /-- the HEARTH rate source: beacons received and missed in succession, qualified -/
  bcnRun : Nat
  bcnMiss : Nat
  bcnQual : Bool
  /-- the START in work: its request, 0 once it has completed -/
  startId : Nat
  /-- the STOPs waiting for the next slot start: their requests, 0 for the host's -/
  stopping : List Nat
  /-- the superframe of the latest fault 0x6201 -/
  lostSf : Option (Nat × Nat)
  lbtBusy : Nat
  dutyRef : Nat
  lost : Nat
  oneBurst : Nat
  upOk : Nat
  upCrc : Nat
  upMac : Nat
  rxOk : Nat
  rxBad : Nat
  deriving DecidableEq, Repr

/-- The results of SEAL_STATUS [4:2]. -/
inductive SealResult where
  | ok | invalid | energy | verify | loosen | full
  deriving DecidableEq, Repr

/-- The regulatory seal, in the Keeper: whether it is programmed, the seal-view registers 0x0622 …
0x0644 as the view reads them, and those the OTP and its amendments hold; and the airtime buckets,
in the Sole: per sub-band 60 of them in µs, oldest first. -/
structure SealState where
  sealed : Bool
  busy : Bool
  result : SealResult
  /-- amendment slots used, and seal records tried -/
  used : Nat
  tried : Nat
  view : List (Nat × Word)
  otp : List (Nat × Word)
  writing : Option (Nat × Word)
  buckets : List (Nat × List Nat)
  dutySf : List Nat
  deriving DecidableEq, Repr

/-! ## Infrared and GPIO (chapters 14 and 22) -/

/-- The states of a receive channel, coded 0 … 4. -/
inductive IrMode where
  | off | clear | flood | recover | stuck
  deriving DecidableEq, Repr

/-- A burst in progress or decided: start PP in 1/256 tick, its durations in µs (mark first), the sum of its
marks' carriers (10 Hz), each weighted by the µs that R589 counts of its mark, and the sum of those weights; its
peak level in 0.5 dB below full scale, and the flood cause that cut it, 0 for another. -/
structure IrBurst where
  start : Nat
  durs : List Nat
  cut : Bool
  cSum : Nat
  cWt : Nat
  peak : Nat
  cause : Nat
  deriving DecidableEq, Repr

/-- The first burst of a pair that waits for its second: the burst, whether it may itself be the second of
a code (it began within PAIRMAX of a blind interval's end), and whether a blind interval that has ended
overlapped its window (Table 14-3). -/
structure IrFirst where
  burst : IrBurst
  unknown : Bool
  blindWin : Bool
  deriving DecidableEq, Repr

/-- A code decided and not yet raised: its bursts, status, cause and flags, which bursts are delivered (0
first, 1 second), and the count of tick edges at its decision. -/
structure IrDecided where
  first : Option IrBurst
  second : Option IrBurst
  status : Nat
  cause : Nat
  flags : Nat
  deliver : List Nat
  edge : Nat
  deriving DecidableEq, Repr

/-- One receive channel: its state, configuration block and floor (0.5 dB below full scale); the space in µs
before a mark that may yet prove a glitch; the burst in progress and the pairs waiting, oldest first; since when
it has been blind and when it last was, as PP in 1/256 tick; whether its lane settles and until which tick edge
a timed blind interval lasts; the flood cause and the tick edge of the latest criterion; and the codes decided.
Of the envelope: its level at the latest sample and that sample, the starts of the latest marks (newest first)
and of the latest space, since when it recovers, whether its last block was saturated, and how many samples of
each of the last 20 blocks lay off the carrier (R586, R590, R592). -/
structure IrChan where
  mode : IrMode
  cfg : List Byte
  floor : Nat
  inMark : Bool
  lead : Nat
  burst : Option IrBurst
  firsts : List IrFirst
  blindFrom : Option Nat
  blindEnd : Option Nat
  settling : Bool
  holdOff : Nat
  cause : Nat
  critEdge : Nat
  decided : List IrDecided
  faultSf : Option (Nat × Nat)
  env : Nat
  prev : Iq
  marks : List Nat
  spaceFrom : Nat
  recFrom : Nat
  sat : Bool
  offs : List Nat
  deriving DecidableEq, Repr

/-- A code at an output: its tack's handle, its profile's word and its encoding (R605, Table 14-5). -/
structure IrTx where
  handle : Word
  prof : Word
  code : List Byte
  deriving DecidableEq, Repr

/-- The codes of one IROUT: sending and waiting (R608). -/
structure IrOut where
  sending : Option IrTx
  waiting : Option IrTx
  deriving DecidableEq, Repr

/-- The IR front end and the GPIO lines: IR_CONFIG requests waiting for their edge, the ambient loop, the
transmit profiles and the counters. -/
structure Infra where
  chan : Vector IrChan 2
  out : Vector IrOut 4
  reqs : List Req
  bias : Nat
  mean : Nat
  /-- a RECENTRE is needed -/
  recentre : Bool
  prof : Vector Word 16
  ok : Nat
  single : Nat
  floodCodes : Nat
  floods : Nat
  sent : Nat
  busy : Nat
  noneTx : Nat
  aborted : Nat
  evt : Nat
  gpioLevel : Nat
  deriving DecidableEq, Repr

/-! ## The two-wire bus (chapter 15) -/

/-- The bus interface. -/
structure Bus where
  /-- the data bytes the latest read part returned, in the order of the wire -/
  out : List Byte
  /-- the address the straps gave (R613) -/
  addr : Nat
  /-- ADDR0 and ADDR1 as the pins stand, 0 low, 1 open, 2 high -/
  strap0 : Nat
  strap1 : Nat
  /-- BUS_LASTNACK -/
  lastNack : Word
  /-- latched alert causes, bits 3 … 10 of Table 15-5 -/
  latched : Nat
  /-- ALERT# released after a win of the Alert Response (R640) -/
  released : Bool
  /-- the level at which the Sole holds ALERT# in SLEEP (R635) -/
  sleepAlert : Bool
  notifying : Bool
  notifyTries : Nat
  notifyWait : Bool
  notifyFail : Bool
  sclStuck : Bool
  sdaStuck : Bool
  alertStuck : Bool
  recoverTries : Nat
  /-- SCL is stretched while the device wakes (R632) -/
  stretching : Bool
  busy : Nat
  refusals : Nat
  pecErrs : Nat
  timeouts : Nat
  evt : Nat
  deriving DecidableEq, Repr

/-! ## Mailboxes, eyelets, sessions and keys (chapter 16) -/

/-- Who sent a message: MB_VINFO [13:11]. -/
inductive Sender where
  | bench (b : Nat) | tack | host | keeper
  deriving DecidableEq, Repr

/-- A message in a slot (R656), with the bench an inbound one was bound to on landing. -/
structure Msg where
  bytes : List Byte
  sender : Sender
  pos : Pos
  reader : Nat
  stale : Bool
  orphan : Bool
  timeout : Bool
  /-- its MAIL event has been queued -/
  queued : Bool
  deriving DecidableEq, Repr

/-- The states of a session: SESS_STATUS [1:0] but LOCKED. -/
inductive SessMode where
  | closed | challenge | open_
  deriving DecidableEq, Repr

/-- A step of the session the Keeper is computing: the opening, or the check of a response. -/
inductive SessStep where
  | opening (kind : Nat) | response (bytes : List Byte)
  deriving DecidableEq, Repr

/-- The secure session (R678 … R683). -/
structure Session where
  mode : SessMode
  kind : Nat
  nonce : List Byte
  hostNonce : List Byte
  number : Nat
  key : List Byte
  rxCount : Nat
  txCount : Nat
  failures : Nat
  locked : Bool
  step : Option SessStep
  /-- a session command has come since the domain's power-up -/
  asked : Bool
  deriving DecidableEq, Repr

/-- A show key: its ID, stream (0xFFFF for any) and key (R92). -/
structure ShowKey where
  id : Nat
  stream : Nat
  key : List Byte
  deriving DecidableEq, Repr

/-- The key store. -/
structure Keys where
  show_ : List ShowKey
  site : Option (List Byte)
  link : List (Nat × List Byte)
  hak : Option (List Byte)
  deriving DecidableEq, Repr

/-- An MPOST of a cue bench held back to the end of its position (R663). -/
structure HeldPost where
  bench : Nat
  mb : Nat
  bytes : List Byte
  pos : Pos
  deriving DecidableEq, Repr

/-- Mailboxes and eyelets. -/
structure Mail where
  inb : Vector (Option Msg) 16
  outb : Vector (Option Msg) 16
  heldPosts : List HeldPost
  rung : Vector Word 7
  mask : Vector Word 7
  /-- bench eyelets whose EYELET event is queued -/
  ringQueued : Vector Word 5
  eyeEvt : Nat
  timeouts : Nat
  stales : Nat
  orphans : Nat
  refused : Nat
  /-- mailboxes with the superframe of their latest 0x9202 -/
  refusedSf : List (Nat × Nat × Nat)
  session : Session
  keys : Keys
  /-- a provisioning command whose store write is in progress -/
  provCmd : Option (List Byte)
  keeperRings : Nat
  /-- MB_VPPLO and MB_VPPHI as latched -/
  latch : List Word
  deriving DecidableEq, Repr

/-! ## Stream port and audio ports (chapter 17) -/

/-- A packet in the stream buffer: its bytes from TYPE to CRC. -/
structure Packet where
  bytes : List Byte
  deriving DecidableEq, Repr

/-- A run of drops in progress (R696). -/
structure DropRun where
  count : Nat
  bytes : Nat
  firstSeq : Nat
  firstPos : Pos
  lastPp : Nat
  deriving DecidableEq, Repr

/-- An AUDIO marker waiting for its frame (R708). -/
structure Marker where
  handle : Word
  due : Nat
  epoch : Nat
  payload : List Byte
  deriving DecidableEq, Repr

/-- An audio port. -/
structure Audio where
  routed : Option Nat
  lock : Bool
  muted : Bool
  /-- the ratio offset in ppm (R705), and what the resampler adds to it to track a slave clock (R704) -/
  ratio : Int
  slave : Int
  /-- the stamp of the sample that the next frame carries, in 1/65 536 tick, with the remainder of the steps that
  led to it; the frames left of a fade out and in, and the move of the read point between the two (R707) -/
  read : Nat
  rem : Nat
  fading : Nat
  shift : Int
  /-- the slots of the latest frame sent (R702) -/
  sentL : BitVec 24
  sentR : BitVec 24
  frames : Nat
  err : Int
  markers : List Marker
  deriving DecidableEq, Repr

/-- The stream port and the audio ports. -/
structure Port where
  queue : List Packet
  /-- the packet sent last -/
  sent : Option Packet
  seq : Nat
  drop : Option DropRun
  stHold : Bool
  dropped : Nat
  drops : Nat
  capLeft : Nat
  /-- capture blocks that wait for their pool block: lane, position in 1/65 536 tick, payload -/
  capWait : List (Nat × Nat × List Byte)
  aud : Vector Audio 2
  routeReqs : List Req
  deriving DecidableEq, Repr

/-! ## Welt pairs (chapter 18) -/

/-- The roles of Table 18-3, coded 0 … 3. -/
inductive Role where
  | solo | active | standby | parted
  deriving DecidableEq, Repr

/-- A digest report (R254) as the two members compare it. -/
structure DigestRep where
  sf : Nat
  epoch : Nat
  count : Nat
  crc : Word
  void : Bool
  deriving DecidableEq, Repr

/-- What a HOSTMSG frame mirrors (Table 18-2): a host message that landed on MB0–MB7, or a host ring
of a bench's eyelet, with its landing position. -/
inductive HostMirror where
  | post (mb : Nat) (bytes : List Byte) (pos : Pos)
  | ring (bench eyelet : Nat) (pos : Pos)
  deriving DecidableEq, Repr

/-- The content of a sequenced welt frame (Table 18-2). -/
inductive WPayload where
  | tick (pos : Pos)
  | record (ev : Event) (mask : Nat)
  | lastev (ev : Event)
  | hostmsg (m : HostMirror)
  | b4msg (dest : Nat) (ev : Event)
  | decision (code : Nat) (blk : List Byte) (app : Nat)
  | digest (rep : DigestRep)
  | ckpt (pos : Pos) (full : Bool)
  | adopt
  deriving DecidableEq, Repr

/-- A welt frame sent and not yet acknowledged. -/
structure WFrame where
  seq : Nat
  payload : WPayload
  deriving DecidableEq, Repr

/-- The checkpoint a standby holds of the active: the state that adoption takes (R732). -/
structure Adopted where
  ckpt : Ckpt
  tacks : List Tack
  /-- posts and cancels on their way to the store -/
  entries : List TackEntry
  /-- the running cue digest, and the tacks it holds of the superframe (R254) -/
  crc : Word
  inReport : Nat
  streams : List Stream
  pp : Nat
  epoch : Nat
  deriving DecidableEq, Repr

/-- A heartbeat as sent and received (Table 18-2). -/
structure Heartbeat where
  role : Role
  pri : Bool
  digest : List Byte
  pos : Pos
  conf : Nat
  troupeSeq : List Nat
  beaconSeq : Nat
  ack : Nat
  deriving DecidableEq, Repr

/-- The welt link. -/
structure Welt where
  role : Role
  /-- EN is 1 and no role has been taken since the benches entered RUN -/
  deciding : Bool
  partner : Role
  partnerPri : Bool
  /-- the WELTPRI strap -/
  pri : Bool
  up : Bool
  hbRun : Nat
  hbMiss : Nat
  digestOk : Bool
  /-- 0xA104 raised and the digests still differ -/
  mismatch : Bool
  /-- CONFPP with its epoch -/
  conf : Pos
  diverged : Bool
  adopting : Bool
  adoptFails : Nat
  /-- a checkpoint adopted since the reset; the present STANDBY state rests on one -/
  adopted : Bool
  inSync : Bool
  pages : List (Nat × List Byte)
  /-- mirrored events, each with its bench, and positions, since adoption was asked for (R732) -/
  mirrored : List (Nat × Event)
  ticks : List Pos
  /-- the partner has asked for a full checkpoint -/
  sendFull : Bool
  arbitrating : Bool
  absences : Nat
  /-- B of R740: the slot start of the last ACTIVE beacon heard from the partner -/
  lastBeacon : Pos
  /-- such a beacon has been heard since the link went down -/
  heard : Bool
  /-- the member was STANDBY when the link went down (R740) -/
  ambiguous : Bool
  yielding : Bool
  txSeq : Nat
  unacked : List WFrame
  rxSeq : Nat
  /-- the latest heartbeat sent, and the latest pulse driven on WLSYNC, in µs -/
  beat : Option Heartbeat
  sync : Nat
  troupeSeq : List Nat
  beaconSeq : Nat
  shadow : List Event
  silent : List (Tack × Pos)
  /-- digest reports of this member and of the active that wait for the other's, oldest first -/
  reports : List DigestRep
  theirs : List DigestRep
  digCmp : Word
  take : Nat
  resends : Nat
  crcErrs : Nat
  mismatches : Nat
  matches_ : Nat
  shadowLost : Nat
  evt : Nat
  latchHi : Word
  deriving DecidableEq, Repr

/-! ## Power, reset, the Awl and the store (chapter 19) -/

/-- The device power states, and the reset a device is in: SYS_PWR [1:0] codes IDLE 1, RUN 2,
AWL_HOLD 3. -/
inductive Power where
  | off | reset | sleep | idle | run | hold
  deriving DecidableEq, Repr

/-- The removable power domains of Table 1-2, in the order of SYS_PWR [12:8]. -/
inductive Domain where
  | host | keeper | bench | broadcast | hearth
  deriving DecidableEq, Repr

/-- A domain's state. -/
inductive DomMode where
  | down | powering | up
  deriving DecidableEq, Repr

/-- The kinds of a journal record (Table 19-12), coded 1 … 5. -/
inductive JKind where
  | install | cal | key | boot | powerfail
  deriving DecidableEq, Repr

/-- What a valid journal record says: its kind, SEQ, STEP and bytes 10 … 59 (Table 19-12). -/
structure JRec where
  kind : JKind
  seq : Nat
  step : Nat
  body : List Byte
  deriving DecidableEq, Repr

/-- The store and OTP operations (Table 19-13), by what each is for: the erase of an install's target bank,
one of its pages, its journal record of a step (6 for a revert), a key store copy with its record, a BOOT
record, the seal, an amendment of it, and the IVK. -/
inductive StoreOp where
  | instErase | instPage | instRecord (step : Nat) | key | boot (value : Nat) | seal | sealWrite | ivk
  deriving DecidableEq, Repr

/-- The install steps: STORE_INST [2:0]. -/
inductive InstStep where
  | none | erasing | programming | verifying | verified | committed | abandoned | failed
  deriving DecidableEq, Repr

/-- The commit steps of Table 19-16. -/
inductive CommitStep where
  | idle | erase | program | check | record
  deriving DecidableEq, Repr

/-- A bank: its bytes programmed, and IMGVER and the digest of a valid image in it. -/
structure Bank where
  bytes : List Byte
  valid : Bool
  ver : Word
  digest : List Byte
  deriving DecidableEq, Repr

/-- The flash store, the journal and the work in progress on them. -/
structure Store where
  bankA : Bank
  bankB : Bank
  active : Option Bool
  previous : Option Bool
  inst : InstStep
  instAt : InstStep
  target : Bool
  imgLen : Nat
  got : Nat
  /-- image bytes taken and not yet programmed -/
  chunk : List Byte
  chunksLost : Nat
  /-- an install's operation refused for energy and re-checked, and its tries so far (R785) -/
  recheck : Option (StoreOp × Nat)
  /-- the journal's sectors in use, oldest first, each with its 64-byte records in the order of writing (R779,
  R781) -/
  journal : List (List (List Byte))
  journalSeq : Nat
  calSlots : List (Nat × List (Nat × CalEntry))
  calSlot : Nat
  calPrev : Nat
  commit : CommitStep
  /-- a sweep has ended during a commit, and its own commit follows (R334) -/
  commitDue : Bool
  sweepLost : Bool
  calEmpty : Bool
  boot : Nat
  ivk : Option (List Word)
  ivkView : List (Nat × Word)
  op : Option StoreOp
  c : Nat
  vhold : Nat
  vsys : Nat
  need : Nat
  evt : Nat
  deriving DecidableEq, Repr

/-- The Awl. -/
structure Awl where
  running : Bool
  powerUp : Bool
  mask : Nat
  req : Option Nat
  pass : Nat
  fail : Nat
  warn : Nat
  defer : Nat
  cause : Nat
  details : List (Nat × List Byte)
  degraded : Bool
  deriving DecidableEq, Repr

/-- Power and reset. -/
structure Supply where
  power : Power
  dom : Vector DomMode 5
  vsysGood : Bool
  vioGood : Bool
  /-- the high-impedance hold of R748 -/
  hiZ : Bool
  /-- a TEST ball read high at the end of the latest reset (R861) -/
  testHigh : Bool
  vio33 : Bool
  rstCause : Nat
  resetPin : Bool
  wakePin : Bool
  /-- a POWERFAIL sequence waits for the store operation to complete -/
  failing : Bool
  /-- moving to RUN: the domains of R760 power up -/
  moving : Bool
  /-- the configuration block is applied: the benches start at the next tick edge (R760) -/
  starting : Bool
  deriving DecidableEq, Repr

/-! ## What commands carry -/

/-- The PEC of a write part (R618, R620): none, the byte that R617 gives, another byte, or the byte named, which the
device checks. -/
inductive Pec where
  | absent | good | bad
  | byte (b : Byte)
  deriving DecidableEq, Repr

/-- The PLLs (chapter 8). -/
inductive Pll where
  | sys | sck | br0 | br1 | hr
  deriving DecidableEq, Repr

/-- What one calibration measured (Table 8-5, R323, R331). -/
structure CalResult where
  ok : Bool
  band : Nat
  kvco : Nat
  trimI : Int
  trimQ : Int
  deriving DecidableEq, Repr

/-- What a lane takes in for an output block: the instant of the first input sample in 1/65 536 tick counted
over tick edges; the input samples, of BR0 and BR1 or the real IRIN samples; whether the residue checks of
the blocks it completes pass (R406); and the blocks that the lane's consumers have released (R405). -/
structure LaneInput where
  at_ : Nat
  input : List (Iq × Iq)
  residueOk : Bool
  freed : Nat
  deriving DecidableEq, Repr

/-- One RDS symbol as the receiver integrates it: its two half bits against the carrier from the pilot PLL,
and against the Costas loop's (R434), and whether it falls wholly within erasures (R435). -/
structure RdsSym where
  pilot1 : Int
  pilot2 : Int
  costas1 : Int
  costas2 : Int
  erased : Bool
  deriving DecidableEq, Repr

/-- A FIG of a FIB as the decoder reads it, by Table 12-5 (R503, R504). -/
inductive Fig where
  /-- 0/0: EId, CIF count, change flags, alarm flag and occurrence change -/
  | ens (eid cif change : Nat) (alarm : Bool) (occurrence : Nat)
  /-- 0/1: one sub-channel of the current or the next configuration -/
  | subch (next : Bool) (c : SubCh)
  /-- 0/2: one service -/
  | service (sid : Nat) (comps : List SvcComp)
  /-- 0/3: one packet-mode component -/
  | packet (c : PktComp)
  /-- 0/6: LSN, byte 4 of DAB_LINK, IdLQ and the identifiers -/
  | link (lsn flags idlq : Nat) (ids : List Nat)
  /-- 0/8: SId, SCIdS and the SubChId or SCId of a component -/
  | compDef (sid scids id : Nat)
  /-- 0/9: ECC and LTO -/
  | lto (ecc lto : Nat)
  /-- 0/10 -/
  | time (mjd hour minute second ms : Nat)
  /-- 0/13 -/
  | userApp (sid : Nat) (types : List Nat)
  /-- 0/14 -/
  | fec (subch scheme : Nat)
  /-- 0/17 -/
  | pty (sid pty : Nat)
  /-- 0/21: identifier, R&M, continuity flag and frequencies in kHz -/
  | freqInfo (id rm cont : Nat) (freqs : List Nat)
  /-- 0/24 -/
  | otherEns (sid : Nat) (eids : List Nat)
  /-- 1/0 -/
  | ensLabel (label : List Byte)
  /-- 1/1 and 1/5 -/
  | srvLabel (sid : Nat) (label : List Byte)
  /-- any other type and extension -/
  | other
  deriving DecidableEq, Repr

/-- A FIB: its 32 bytes and its FIGs. -/
structure Fib where
  bytes : List Byte
  figs : List Fig
  deriving DecidableEq, Repr

/-- A packet of a packet-mode sub-channel (R517). -/
structure DabPacket where
  addr : Nat
  crcOk : Bool
  command : Bool
  first : Bool
  last : Bool
  cont : Nat
  data : List Byte
  deriving DecidableEq, Repr

/-- The data of one sub-channel in one de-interleaved CIF (R513): its SubChId, and its bytes after Viterbi decoding
and energy dispersal. -/
structure CifSub where
  id : Nat
  data : List Byte
  deriving DecidableEq, Repr

/-- A received hearth burst (R536): its bytes from header to CRC, the sync bits in error, the
time of its first preamble bit against the slot's start in µs, its level in dBm, and the quality in 0.5 dB
and the gain index measured on the antenna in ANTSEL, then on the other one (R282, R297, Table 7-12). -/
structure HearthRx where
  bytes : List Byte
  syncErrs : Nat
  offset : Int
  rssi : Int
  quality : Int
  gain : Nat
  quality2 : Int
  gain2 : Nat
  deriving DecidableEq, Repr

/-- A BR chain's loopback as measured: the level received and the image rejection, in 0.1 dB (R766). -/
structure BrLoop where
  level : Int
  image : Int
  deriving DecidableEq, Repr

/-- A lane under its test tone: its number, its output level against the tone's in 0.01 dB, and whether every residue
check passed (R767). -/
structure LaneTest where
  lane : Nat
  level : Int
  residueOk : Bool
  deriving DecidableEq, Repr

/-- What an Awl run found: the digital tests that failed or warned; the loopbacks of BR0 and BR1; the bytes of HR's
looped frame from header to CRC; the lanes tested; how far 10 mA drew VHOLD down in 5 ms, in mV, and VHOLD; and the
details of the digital tests (R766–R768). -/
structure AwlResult where
  fail : Nat
  warn : Nat
  br0 : BrLoop
  br1 : BrLoop
  frame : List Byte
  lanes : List LaneTest
  drop : Nat
  vhold : Nat
  details : List (Nat × List Byte)
  deriving DecidableEq, Repr

/-- The pins sampled as straps at power-up and reset: the address pins, WELTPRI, the edges counted on REFIN
in 100 µs (R312), whether a TEST ball reads high (R861), and whether VIO stands at 2.4 V or more, which a
power-on reset senses (R613, R749). -/
structure Straps where
  addr0 : Nat
  addr1 : Nat
  weltPri : Bool
  refCount : Nat
  testHigh : Bool
  vio33 : Bool
  deriving DecidableEq, Repr

/-- A welt frame as received: its bytes from TYPE to payload and its CRC (Table 18-1). -/
structure WHead where
  bytes : List Byte
  crc : Word
  deriving DecidableEq, Repr

end Sys2Proof.Machine
end

