-- ==== Sys2Proof/Syntax.lean ====
section
/-! DEFINITION. The commands of the block: one constructor per row of the opcode table, with what
the row's command carries. -/

namespace Sys2Proof

open Sys2Proof.Machine

/-- The commands.  A bench's instruction carries the bench `b` that executes it and its decoded
operands; a radio request its 32-byte block; a bus transaction its data and its PEC; an event of the
block's surroundings what the surroundings supply. -/
inductive Instr where
  /-- ADD (R177): Wrapping 32-bit add of ra and rb into rd, 1 step. -/
  | add (b : Fin 5) (rd ra rb : Fin 16)
  /-- SUB (R177): Wrapping subtract rb from ra into rd. -/
  | sub (b : Fin 5) (rd ra rb : Fin 16)
  /-- ADDS (R177): Signed saturating add into rd. -/
  | adds (b : Fin 5) (rd ra rb : Fin 16)
  /-- SUBS (R177): Signed saturating subtract into rd. -/
  | subs (b : Fin 5) (rd ra rb : Fin 16)
  /-- ADDUS (R177): Unsigned add saturating at 0xFFFF_FFFF. -/
  | addus (b : Fin 5) (rd ra rb : Fin 16)
  /-- SUBUS (R177): Unsigned subtract saturating at 0. -/
  | subus (b : Fin 5) (rd ra rb : Fin 16)
  /-- AND (R177): Bitwise and of ra and rb into rd. -/
  | and (b : Fin 5) (rd ra rb : Fin 16)
  /-- OR (R177): Bitwise or of ra and rb into rd. -/
  | or (b : Fin 5) (rd ra rb : Fin 16)
  /-- XOR (R177): Bitwise exclusive or of ra and rb into rd. -/
  | xor (b : Fin 5) (rd ra rb : Fin 16)
  /-- SHL (R177): Shift ra left by rb[4:0]. -/
  | shl (b : Fin 5) (rd ra rb : Fin 16)
  /-- SHR (R177): Shift ra right by rb[4:0] with zero fill. -/
  | shr (b : Fin 5) (rd ra rb : Fin 16)
  /-- SAR (R177): Shift ra right by rb[4:0] with sign fill. -/
  | sar (b : Fin 5) (rd ra rb : Fin 16)
  /-- ROL (R177): Rotate ra left by rb[4:0]. -/
  | rol (b : Fin 5) (rd ra rb : Fin 16)
  /-- SLT (R177): Set rd to 1 if ra is signed-less than rb. -/
  | slt (b : Fin 5) (rd ra rb : Fin 16)
  /-- SLTU (R177): Set rd to 1 if ra is unsigned-less than rb. -/
  | sltu (b : Fin 5) (rd ra rb : Fin 16)
  /-- SEQ (R177): Set rd to 1 if ra equals rb. -/
  | seq (b : Fin 5) (rd ra rb : Fin 16)
  /-- SNE (R177): Set rd to 1 if ra differs from rb. -/
  | sne (b : Fin 5) (rd ra rb : Fin 16)
  /-- MIN (R177): Signed minimum of ra and rb. -/
  | min (b : Fin 5) (rd ra rb : Fin 16)
  /-- MAX (R177): Signed maximum of ra and rb. -/
  | max (b : Fin 5) (rd ra rb : Fin 16)
  /-- MINU (R177): Unsigned minimum of ra and rb. -/
  | minu (b : Fin 5) (rd ra rb : Fin 16)
  /-- MAXU (R177): Unsigned maximum of ra and rb. -/
  | maxu (b : Fin 5) (rd ra rb : Fin 16)
  /-- CLZ (R177): Count leading zero bits of ra. -/
  | clz (b : Fin 5) (rd ra : Fin 16)
  /-- POPC (R177): Count one bits of ra. -/
  | popc (b : Fin 5) (rd ra : Fin 16)
  /-- MUL (R178): Low 32 bits of ra times rb, 2 steps. -/
  | mul (b : Fin 5) (rd ra rb : Fin 16)
  /-- MULH (R178): High 32 bits of the signed product. -/
  | mulh (b : Fin 5) (rd ra rb : Fin 16)
  /-- MULHU (R178): High 32 bits of the unsigned product. -/
  | mulhu (b : Fin 5) (rd ra rb : Fin 16)
  /-- DIV (R181): Signed division truncated toward zero, never faulting, 34 steps. -/
  | div (b : Fin 5) (rd ra rb : Fin 16)
  /-- DIVU (R181): Unsigned division, 0xFFFF_FFFF on divisor 0. -/
  | divu (b : Fin 5) (rd ra rb : Fin 16)
  /-- REM (R181): Signed remainder, ra on divisor 0. -/
  | rem (b : Fin 5) (rd ra rb : Fin 16)
  /-- REMU (R181): Unsigned remainder, ra on divisor 0. -/
  | remu (b : Fin 5) (rd ra rb : Fin 16)
  /-- ADDI (R179): Add sign-extended imm18 to ra, wrapping. -/
  | addi (b : Fin 5) (rd ra : Fin 16) (imm : BitVec 18)
  /-- ADDIS (R179): Add imm18 to ra with signed saturation. -/
  | addis (b : Fin 5) (rd ra : Fin 16) (imm : BitVec 18)
  /-- ANDI (R179): And ra with zero-extended imm18. -/
  | andi (b : Fin 5) (rd ra : Fin 16) (imm : BitVec 18)
  /-- ORI (R179): Or ra with zero-extended imm18. -/
  | ori (b : Fin 5) (rd ra : Fin 16) (imm : BitVec 18)
  /-- XORI (R179): Exclusive or ra with zero-extended imm18. -/
  | xori (b : Fin 5) (rd ra : Fin 16) (imm : BitVec 18)
  /-- SHLI (R179): Shift ra left by imm18[4:0]. -/
  | shli (b : Fin 5) (rd ra : Fin 16) (sh : BitVec 5)
  /-- SHRI (R179): Shift ra right by imm18[4:0], zero fill. -/
  | shri (b : Fin 5) (rd ra : Fin 16) (sh : BitVec 5)
  /-- SARI (R179): Shift ra right by imm18[4:0], sign fill. -/
  | sari (b : Fin 5) (rd ra : Fin 16) (sh : BitVec 5)
  /-- SLTI (R179): Set rd if ra is signed-less than imm18. -/
  | slti (b : Fin 5) (rd ra : Fin 16) (imm : BitVec 18)
  /-- SLTIU (R179): Set rd if ra is unsigned-less than zero-extended imm18. -/
  | sltiu (b : Fin 5) (rd ra : Fin 16) (imm : BitVec 18)
  /-- LUI (R179): Load imm18[15:0] into the upper half of rd. -/
  | lui (b : Fin 5) (rd : Fin 16) (imm : BitVec 16)
  /-- BEQ (R182): Branch by off18 if ra equals rb, faulting on an out-of-section target. -/
  | beq (b : Fin 5) (ra rb : Fin 16) (off : BitVec 18)
  /-- BNE (R182): Branch if ra differs from rb. -/
  | bne (b : Fin 5) (ra rb : Fin 16) (off : BitVec 18)
  /-- BLT (R182): Branch if ra is signed-less than rb. -/
  | blt (b : Fin 5) (ra rb : Fin 16) (off : BitVec 18)
  /-- BGE (R182): Branch if ra is signed-greater or equal to rb. -/
  | bge (b : Fin 5) (ra rb : Fin 16) (off : BitVec 18)
  /-- BLTU (R182): Branch if ra is unsigned-less than rb. -/
  | bltu (b : Fin 5) (ra rb : Fin 16) (off : BitVec 18)
  /-- BGEU (R182): Branch if ra is unsigned-greater or equal to rb. -/
  | bgeu (b : Fin 5) (ra rb : Fin 16) (off : BitVec 18)
  /-- JMP (R182): Jump to target16. -/
  | jmp (b : Fin 5) (target : BitVec 16)
  /-- CALL (R184): Push w15, link and jump to target16; faults on a full call stack. -/
  | call (b : Fin 5) (target : BitVec 16)
  /-- JR (R182): Jump to the address in ra. -/
  | jr (b : Fin 5) (ra : Fin 16)
  /-- CALLR (R184): Push w15, link and jump to ra. -/
  | callr (b : Fin 5) (ra : Fin 16)
  /-- RET (R185): Return through w15 and pop the call stack; faults on an empty stack. -/
  | ret (b : Fin 5)
  /-- END (R186): End the handler, faulting if the call stack is not empty. -/
  | endHandler (b : Fin 5)
  /-- NOP (R182): No operation, 1 step. -/
  | nop (b : Fin 5)
  /-- TRAP (R189): Raise fault 0x811F with imm8 in FAULTARG. -/
  | trap (b : Fin 5) (code : BitVec 8)
  /-- SREM (R188): Write the steps remaining in the budget into rd. -/
  | srem (b : Fin 5) (rd : Fin 16)
  /-- UNDEFINED_INSTRUCTION (R175): An undefined encoding costs 1 step and faults 0x8102, or 0x8101 with no step
  left. -/
  | undefinedInstruction (b : Fin 5)
  /-- LDW (R191): Load a data-memory word, faulting on misalignment or range. -/
  | ldw (b : Fin 5) (rd ra : Fin 16) (imm : BitVec 18)
  /-- LDH (R191): Load a sign-extended data halfword. -/
  | ldh (b : Fin 5) (rd ra : Fin 16) (imm : BitVec 18)
  /-- LDHU (R191): Load a zero-extended data halfword. -/
  | ldhu (b : Fin 5) (rd ra : Fin 16) (imm : BitVec 18)
  /-- LDB (R191): Load a sign-extended data byte. -/
  | ldb (b : Fin 5) (rd ra : Fin 16) (imm : BitVec 18)
  /-- LDBU (R191): Load a zero-extended data byte. -/
  | ldbu (b : Fin 5) (rd ra : Fin 16) (imm : BitVec 18)
  /-- STW (R191): Store a word to data memory. -/
  | stw (b : Fin 5) (rd ra : Fin 16) (imm : BitVec 18)
  /-- STH (R191): Store a halfword to data memory. -/
  | sth (b : Fin 5) (rd ra : Fin 16) (imm : BitVec 18)
  /-- STB (R191): Store a byte to data memory. -/
  | stb (b : Fin 5) (rd ra : Fin 16) (imm : BitVec 18)
  /-- LLW (R194): Read a ledger word as this bench sees it, logged for replay. -/
  | llw (b : Fin 5) (rd ra : Fin 16) (imm : BitVec 18)
  /-- LSW (R193): Buffer a ledger write subject to the page map and the 512-write limit. -/
  | lsw (b : Fin 5) (rd ra : Fin 16) (imm : BitVec 18)
  /-- LDC (R191): Load a word from the code section. -/
  | ldc (b : Fin 5) (rd ra : Fin 16) (imm : BitVec 18)
  /-- EVB (R197): Read a byte of the event window. -/
  | evb (b : Fin 5) (rd ra : Fin 16) (off : BitVec 8)
  /-- EVH (R197): Read a halfword of the event window. -/
  | evh (b : Fin 5) (rd ra : Fin 16) (off : BitVec 8)
  /-- EVW (R197): Read a word of the event window. -/
  | evw (b : Fin 5) (rd ra : Fin 16) (off : BitVec 8)
  /-- EVF (R198): Read a numbered event field. -/
  | evf (b : Fin 5) (rd : Fin 16) (field : BitVec 8)
  /-- EVCPY (R197): Copy the 64-byte event window into data memory. -/
  | evcpy (b : Fin 5) (ra : Fin 16)
  /-- TPOST (R202): Post a tack from a 64-byte descriptor and return its handle. -/
  | tpost (b : Fin 5) (rd ra : Fin 16)
  /-- TCAN (R206): Cancel a tack of this bench by handle. -/
  | tcan (b : Fin 5) (ra : Fin 16)
  /-- TCANK (R199): Cancel every pending tack of this bench with a given order key. -/
  | tcank (b : Fin 5) (ra : Fin 16)
  /-- MSEND (R208): Send an inter-bench message of 1-32 bytes, returning OK or FULL. -/
  | msend (b : Fin 5) (rd ra rb : Fin 16) (dest : BitVec 8)
  /-- MPOST (R209): Post a message to the host-bound slot of mailbox 0-7. -/
  | mpost (b : Fin 5) (rd ra rb : Fin 16) (mb : BitVec 8)
  /-- RING (R213): Ring an eyelet of the host endpoint. -/
  | ring (b : Fin 5) (eyelet : BitVec 8)
  /-- RADIO (R214): Issue a radio request from bench 4 with a 32-byte parameter block. -/
  | radio (b : Fin 5) (rd ra : Fin 16) (op : BitVec 8)
  /-- WAKE (R219): Arm a wake slot for a 48-bit PP. -/
  | wake (b : Fin 5) (ra rb : Fin 16) (slot : BitVec 8)
  /-- WCAN (R219): Disarm a wake slot. -/
  | wcan (b : Fin 5) (slot : BitVec 8)
  /-- CRCB (R222): Update a running CRC-32C with one byte. -/
  | crcb (b : Fin 5) (rd ra : Fin 16)
  /-- CRCW (R222): Update a running CRC-32C with four bytes of a register. -/
  | crcw (b : Fin 5) (rd ra : Fin 16)
  /-- CRCD (R224): Update a running CRC-32C with 32 bytes of data memory. -/
  | crcd (b : Fin 5) (rd ra : Fin 16)
  /-- REPLAY_DONE (R138): Replay of logged handlers ends and the faulted handler is skipped. -/
  | replayDone (b : Fin 5)
  /-- HANDLER_ENTRY (R134): A bench takes its next event of a closed position and starts its handler with the
  entry registers. -/
  | handlerEntry (b : Fin 5)
  /-- POSITION_CLOSE (R126): A position closes 1 µs after a later one is published and all benches may begin it. -/
  | positionClose
  /-- EVENT_HOLD_RELEASE (R132): Sources release held-back events in order as a full bench queue frees room. -/
  | eventHoldRelease (b : Fin 5)
  /-- WAKEAT_FIRE (R129): An armed wake fires at the first published position at or after its PP. -/
  | wakeatFire (b : Fin 5) (slot : Fin 16)
  /-- BENCH_CTRL_RUN (R888): Host write of a RUN bit of BENCH_CTRL. -/
  | benchCtrlRun (v : Word) (pec : Pec)
  /-- BENCH_RUN_EFFECT (R888): At the tick edge after the write, a bench starts from its initial data or stops
  and goes OFF. -/
  | benchRunEffect (b : Fin 5)
  /-- BENCH_CTRL_RESTART (R141): Host write of a RESTART bit for a HALTED bench. -/
  | benchCtrlRestart (v : Word) (pec : Pec)
  /-- BENCH_RESTART_EFFECT (R141): At the tick edge after the write, the bench takes back its checkpoint and
  rejoins the barrier. -/
  | benchRestartEffect (b : Fin 5)
  /-- TICK_EDGE (R889): A tick edge of the selected rate source publishes the next PP or continues a hold. -/
  | tickEdge
  /-- TACK_DISPATCH (R240): Tacks due at a published position are dispatched in order once the dispatch horizon
  allows. -/
  | tackDispatch
  /-- HOLD_END (R57): A hold ends after |e| rate ticks and PP advances again. -/
  | holdEnd
  /-- SLEW_END (R59): A slew ends once its error has been absorbed. -/
  | slewEnd
  /-- SOURCE_QUALIFY (R42): A higher rate source qualifies and the Last moves to it at the next tick edge. -/
  | sourceQualify
  /-- TRIM_MEASURE (R72): A count of 7296 source edges completes and replaces the rate trim. -/
  | trimMeasure (trim : Int)
  /-- FRLIMIT_REACHED (R75): Free-run lasting FRLIMIT superframes raises LASTLOSS FRLIMIT and 0x2103. -/
  | frlimitReached
  /-- GOVERN (R50): Radio request setting the governing stream at an application PP. -/
  | govern (blk : List Byte)
  /-- GOVERN_APPLY (R50): At the application edge LAST_GOV is written and the reply raised. -/
  | governApply
  /-- LAST_GOV_WRITE (R827): Host write of LAST_GOV taking effect at the next tick edge. -/
  | lastGovWrite (v : Word) (pec : Pec)
  /-- BLEED_CORRECTION (R489): Under BLEED a 1-tick hold or slew moves offsets toward zero. -/
  | bleedCorrection
  /-- RDS_BLOCK_DELIVERY (R440): An RDS block is delivered with its status and judged for sync and groups. -/
  | rdsBlockDelivery (lane : Nat) (syms : List RdsSym) (bitPos anchor ago : Nat)
  /-- INTAKE_RELEASE (R114): At the tick edge after completion and verification, records are de-duplicated,
  stamped and queued. -/
  | intakeRelease
  /-- UVWAIT_EXPIRY (R118): A held UNVERIFIED batch is released with the mark after UVWAIT. -/
  | uvwaitExpiry
  /-- GAPTIME_LOSS (R113): A sequence gap unseen for GAPTIME is declared lost with a LOSS record. -/
  | gaptimeLoss
  /-- STREAM_ENTRY_IDLE (R107): A stream entry with no record for IDLE superframes is freed. -/
  | streamEntryIdle
  /-- PILOT_TICK_JUDGE (R420): Each tick the pilot PLL judges lock and updates LOCKED counts. -/
  | pilotTickJudge (lane : Nat) (clean : Bool) (phaseErr : Nat)
  /-- DETECTOR_BLOCK (R396): A single-frequency detector block of K samples ends and reports LEVEL. -/
  | detectorBlock (lane : Nat)
  /-- PO_TICK (R428): A programme output updates soft mute, blend and concealment each tick. -/
  | poTick (po : Fin 2)
  /-- FM_QUALITY (R457): A subscription's QUALITY record is raised at the period's first position. -/
  | fmQuality (carrier : Nat) (aliased : Bool) (record : List Byte)
  /-- MEASURE_SUBSCRIBE (R456): MEASURE SUBSCRIBE replaces a lane or decoder subscription. -/
  | measureSubscribe (blk : List Byte)
  /-- MEASURE_UNSUBSCRIBE (R456): MEASURE UNSUBSCRIBE ends a subscription. -/
  | measureUnsubscribe (blk : List Byte)
  /-- MEASURE_ONCE (R455): MEASURE ONCE replies with the last complete quality record. -/
  | measureOnce (blk : List Byte)
  /-- LANE_ASSIGN (R353): LANE_ASSIGN operation ASSIGN configures a free lane at its application edge. -/
  | laneAssign (blk : List Byte)
  /-- LANE_MODIFY (R357): LANE_ASSIGN operation MODIFY changes masked fields. -/
  | laneModify (blk : List Byte)
  /-- LANE_FADE (R358): LANE_ASSIGN operation FADE starts a bank cross-fade. -/
  | laneFade (blk : List Byte)
  /-- LANE_RELEASE (R360): LANE_RELEASE frees a lane at its application edge. -/
  | laneRelease (blk : List Byte)
  /-- LANE_APPLY_EDGE (R353): At the application tick edge, pending lane requests take effect in request ID order. -/
  | laneApplyEdge
  /-- FADE_DONE (R374): After XF outputs the other bank becomes active and FADE_DONE is raised. -/
  | fadeDone (lane : Nat)
  /-- LANE_OUTPUT_BLOCK (R351): A lane completes an output block, claims a pool block and runs residue checks. -/
  | laneOutputBlock (lane : Nat) (inp : LaneInput)
  /-- LANE_SETTLED (R390): The settling count ends and output is no longer UNSETTLED. -/
  | laneSettled (lane : Nat)
  /-- LANE_SUBSTITUTION (R407): At the tick edge after failure an understudy takes the lane, or the lane is lost. -/
  | laneSubstitution (lane : Nat)
  /-- POOL_GRANT_ROUND (R403): Pool claims of a 64-cycle round are granted by claim key or refused NONE. -/
  | poolGrantRound
  /-- COEF_ECC_ERROR (R376): A coefficient double-bit error marks outputs INVALID and raises 0x4110. -/
  | coefEccError (set : Nat) (double : Bool)
  /-- LANE_CTRL_EN_WRITE (R850): Host write of LANEn_CTRL EN assigns as CUSTOM or releases the lane. -/
  | laneCtrlEnWrite (lane : Nat) (v : Word) (pec : Pec)
  /-- LANE_FIR_FADE_WRITE (R851): Host write of LANEn_FIR FADE starts a fade unless one runs. -/
  | laneFirFadeWrite (lane : Nat) (v : Word) (pec : Pec)
  /-- LANE_FAILED_WRITE (R855): Writing 1 to LANE_FAILED returns a failed lane or unit. -/
  | laneFailedWrite (reg : Fin 4) (v : Word) (pec : Pec)
  /-- LANE_COEFDAT_ACCESS (R852): Read or write of a coefficient or length, advancing the index. -/
  | laneCoefdatAccess (write : Option Word) (pec : Pec)
  /-- LANE_COEFIDX_WRITE (R852): Host write selecting a RAM coefficient set and index. -/
  | laneCoefidxWrite (v : Word) (pec : Pec)
  /-- CHAIN_TUNE (R270): Radio request retuning a chain at an application PP. -/
  | chainTune (blk : List Byte)
  /-- CHAIN_TUNE_APPLY (R270): At the application edge a chain retunes and lanes recompute NCO words. -/
  | chainTuneApply (c : Fin 3)
  /-- CHAIN_STATE (R266): Radio request moving a chain to SLEEP, STANDBY, SYNTH or RX, optionally clearing PAFLT. -/
  | chainState (blk : List Byte)
  /-- CHAIN_TRANSITION_DONE (R266): A chain transition or tune finishes and its request completes. -/
  | chainTransitionDone (c : Fin 3) (us : Nat) (cal : CalResult)
  /-- GAIN (R280): Radio request setting gain mode and limits at the next tick edge. -/
  | gain (blk : List Byte)
  /-- PROTECT_SET (R306): PROTECT SET declares a protected window, refused if it leaves no free run. -/
  | protectSet (blk : List Byte)
  /-- PROTECT_CLEAR (R305): PROTECT CLEAR removes a protected window. -/
  | protectClear (blk : List Byte)
  /-- PROTECT_WINDOW_END (R308): A window ends when the Last first publishes its end PP. -/
  | protectWindowEnd (c : Fin 3) (w : Fin 16)
  /-- GAIN_AUTO_TICK (R277): In AUTO each tick the chain steps gain by peak measurement. -/
  | gainAutoTick (c : Fin 3) (above clipped : Nat) (low : Bool)
  /-- DC_LOOP_LIMIT (R274): Digital DC correction beyond 48 LSB requests a DCTRIM bubble. -/
  | dcLoopLimit (c : Fin 3) (i q : Int)
  /-- BUBBLE_START (R331): A placed bubble begins and calibrates the first entry needing it. -/
  | bubbleStart (c : Fin 3)
  /-- BUBBLE_DONE (R302): A bubble ends and BUBBLE_DONE is raised. -/
  | bubbleDone (c : Fin 3) (cal : CalResult)
  /-- PAFAULT_ASSERT (R295): PAFAULT# low during a burst abandons it and latches PAFLT; `level` is the level it
  takes. -/
  | pafaultAssert (level : Bool)
  /-- HR_PAEVT_CLEAR (R296): Host W1C write to HR_PAEVT clears the PAFLT latch. -/
  | hrPaevtClear (v : Word) (pec : Pec)
  /-- CHAIN_RESET (R309): BRc_CTRL or HR_CTRL RESET sends the chain to SLEEP and aborts its requests. -/
  | chainReset (c : Fin 3) (v : Word) (pec : Pec)
  /-- CHAIN_STATE_WRITE (R269): Host write of a chain STATE field, ignored unless bench 4 is OFF or HALTED. -/
  | chainStateWrite (c : Fin 3) (v : Word) (pec : Pec)
  /-- BR_MODE_WRITE (R840): Host write of BR_MODE accepting only DIVERSE or SPLIT. -/
  | brModeWrite (v : Word) (pec : Pec)
  /-- ADC_STUCK_FAIL (R310): ADC outputs unchanged for a tick in RX make the chain FAILED. -/
  | adcStuckFail (c : Fin 3)
  /-- TEMP_READING (R327): Synthesizer temperatures are read at each superframe and recalibration triggered. -/
  | tempReading (t0 t1 t2 : Int)
  /-- CALIBRATE_CURRENT (R333): CALIBRATE scope CURRENT recalibrates the entry in use. -/
  | calibrateCurrent (blk : List Byte)
  /-- CALIBRATE_KEY (R333): CALIBRATE scope KEY recalibrates a named entry. -/
  | calibrateKey (blk : List Byte)
  /-- CALIBRATE_STALE (R333): CALIBRATE scope STALE recalibrates every stale entry. -/
  | calibrateStale (blk : List Byte)
  /-- CALIBRATE_ALL (R333): CALIBRATE scope ALL recalibrates every valid entry. -/
  | calibrateAll (blk : List Byte)
  /-- CALIBRATE_SWEEP (R334): CALIBRATE scope SWEEP sweeps the table out of reception and commits. -/
  | calibrateSweep (blk : List Byte)
  /-- CAL_SWEEP (R334): Host CAL_CTRL SWEEP starts a sweep of the named chains. -/
  | calSweep (v : Word) (pec : Pec)
  /-- SWEEP_DONE (R334): A sweep finishes calibrating its entries and starts the commit. -/
  | sweepDone (cals : List CalResult)
  /-- CAL_COMMIT (R794): Host CAL_CTRL COMMIT starts a journalled commit of the table. -/
  | calCommit (v : Word) (pec : Pec)
  /-- CAL_COMMIT_STEP_DONE (R794): A commit step's store operation finishes and the next begins or the CAL
  record lands. -/
  | calCommitStepDone (ok : Bool)
  /-- PLL_LOCK_LOSS (R339): A PLL declares loss of lock and the gating action of its row follows. -/
  | pllLockLoss (pll : Pll)
  /-- REFERENCE_LOSS (R338): The reference monitor declares loss of reference and every PLL gates. -/
  | referenceLoss
  /-- REFERENCE_BACK (R340): After 1 ms of good windows the reference is back and PLLs relock. -/
  | referenceBack
  /-- SYSRESTART (R347): Host CLK_CTRL SYSRESTART relocks the system PLL. -/
  | sysrestart (v : Word) (pec : Pec)
  /-- SCKRESTART (R339): Host CLK_CTRL SCKRESTART relocks the sample-clock PLL. -/
  | sckrestart (v : Word) (pec : Pec)
  /-- PLL_RELOCK (R347): A relocked PLL returns host clock and benches at the next tick edge. -/
  | pllRelock (pll : Pll)
  /-- LIMP_MEASURE (R346): The limp clock is measured each superframe, raising 0x2205 out of range. -/
  | limpMeasure (kHz : Nat)
  /-- ENSEMBLE_START (R497): ENSEMBLE START assigns a wide lane and puts the decoder in SEARCH. -/
  | ensembleStart (blk : List Byte)
  /-- ENSEMBLE_STOP (R501): ENSEMBLE STOP ends selections and returns the decoder to IDLE. -/
  | ensembleStop (blk : List Byte)
  /-- DAB_FRAME (R498): A null symbol is found and PRS-checked; sync, frame edge and FIC follow. -/
  | dabFrame (d : Fin 2) (anchor ago : Nat) (foff : Int) (fibs : List Fib)
  /-- DAB_FRAME_MISSED (R502): An expected null is not found, leading to HOLDOVER or SEARCH. -/
  | dabFrameMissed (d : Fin 2)
  /-- ACQTIME_EXPIRY (R500): A decoder not READY within ACQTIME completes NONE and goes IDLE. -/
  | acqtimeExpiry (d : Fin 2)
  /-- CIF_BOUNDARY (R510): At a CIF start selections take in, deselects and reconfigurations apply. -/
  | cifBoundary (d : Fin 2) (cif : Nat)
  /-- SUBCHANNEL_SELECT (R510): SUBCHANNEL SELECT takes in a sub-channel from the next CIF. -/
  | subchannelSelect (blk : List Byte)
  /-- SUBCHANNEL_DESELECT (R512): SUBCHANNEL DESELECT ends delivery at the next CIF boundary. -/
  | subchannelDeselect (blk : List Byte)
  /-- CIF_DECODED (R513): De-interleaved CIF data leave the decoder for RAW, SUPERFRAME and PACKET delivery. -/
  | cifDecoded (d : Fin 2) (cif anchor : Nat) (subs : List CifSub)
  /-- DAB_DECODER_RESET (R526): DABd_CTRL RESET aborts requests and re-enters SEARCH. -/
  | dabDecoderReset (d : Fin 2) (v : Word) (pec : Pec)
  /-- DAB_DECODER_FAILED (R527): A failed self-check makes the decoder FAILED and the other may cover. -/
  | dabDecoderFailed (d : Fin 2)
  /-- CORRELATE_MPX (R464): CORRELATE kind MPX measures the delay between two FM lanes. -/
  | correlateMpx (blk : List Byte)
  /-- CORRELATE_STAMP (R465): CORRELATE kind STAMP measures delay from STAMP anchors. -/
  | correlateStamp (blk : List Byte)
  /-- CORRELATE_REPLY (R467): A correlation completes with its reply and optional offset install. -/
  | correlateReply (id : Nat)
  /-- SPLICE_AT (R473): SPLICE mode AT checks and starts a splice at a splice PP. -/
  | spliceAt (blk : List Byte)
  /-- SPLICE_ARMED (R473): SPLICE mode ARMED checks and arms a splice on triggers. -/
  | spliceArmed (blk : List Byte)
  /-- SPLICE_ALIGN_END (R475): The SLEW or ALIGN stage of a splice ends. -/
  | spliceAlignEnd (id : Nat)
  /-- SPLICE_EDGE (R478): At the splice edge the offset is set, governing moves and the fade begins. -/
  | spliceEdge (id : Nat) (invalid : Bool)
  /-- SPLICE_FADE_END (R479): The cross-fade ends and the splice completes OK. -/
  | spliceFadeEnd (id : Nat)
  /-- SPLICE_EXPIRY (R477): An ARMED splice reaches its expiry PP and completes NONE. -/
  | spliceExpiry (id : Nat)
  /-- HEARTH_PLAN (R537): HEARTH_PLAN validates a slot plan, calibrates and pins its channels. -/
  | hearthPlan (blk : List Byte)
  /-- HEARTH_START (R539): HEARTH_STATE START makes the link STARTING. -/
  | hearthStart (blk : List Byte)
  /-- HEARTH_STOP (R539): HEARTH_STATE STOP stops the link at the next slot start. -/
  | hearthStop (blk : List Byte)
  /-- HL_CTRL_STOP (R539): Host HL_CTRL STOP stops the link as HEARTH_STATE STOP does. -/
  | hlCtrlStop (v : Word) (pec : Pec)
  /-- HEARTH_RUNNING (R539): At the next superframe start the link becomes RUNNING. -/
  | hearthRunning
  /-- SLOT_START (R540): A slot start hops HR and takes a queued frame or burst B. -/
  | slotStart
  /-- LBT_RESULT (R565): The LBT window ends and the channel is judged busy or clear. -/
  | lbtResult (rssi : Int)
  /-- BURST_TRANSMIT (R292): A burst passes the seal checks and is transmitted, or is refused. -/
  | burstTransmit
  /-- BURST_END (R289): The last bit leaves and HR returns to RX. -/
  | burstEnd
  /-- HEARTH_FRAME_RX (R536): A received frame is accepted and routed to intake, bench 4 or the beacon logic. -/
  | hearthFrameRx (rx : HearthRx)
  /-- BEACON_MISSED (R555): A due beacon is not accepted in its slot, counted for HEARTH qualification and
  arbitration. -/
  | beaconMissed (own : Bool)
  /-- MAXWAIT_TIMEOUT (R546): A frame without burst A on air by MAXWAIT ends TIMEOUT or BUSY. -/
  | maxwaitTimeout (handle : Word)
  /-- DUTY_BUCKET_ROLL (R567): A 60 s duty bucket ends and the rolling hour advances. -/
  | dutyBucketRoll
  /-- SEAL_CMD (R573): Writing the seal word to SEAL_CMD programs the seal OTP. -/
  | sealCmd (v : Word) (pec : Pec)
  /-- SEAL_WRITE (R574): A seal-view write is staged before sealing, or tightened or refused after. -/
  | sealWrite (addr : Nat) (v : Word) (pec : Pec)
  /-- IR_RX_SET (R582): IR_CONFIG RX_SET enables or reconfigures a receive channel. -/
  | irRxSet (blk : List Byte)
  /-- IR_RX_OFF (R583): IR_CONFIG RX_OFF disables a receive channel. -/
  | irRxOff (blk : List Byte)
  /-- IR_TX_PROFILE (R605): IR_CONFIG TX_PROFILE loads a transmit profile. -/
  | irTxProfile (blk : List Byte)
  /-- IR_AMBIENT_STEP (R585): Each ms the ambient loop steps IRBIAS or calls for a RECENTRE. -/
  | irAmbientStep (irin : List Nat)
  /-- IR_MARK_EDGE (R587): The envelope crosses ON or OFF, starting or ending a mark. -/
  | irMarkEdge (c : Fin 2) (y : Iq) (us at_ carrier peak : Nat)
  /-- IR_BURST_END (R587): A space reaches ENDGAP and the burst's end is decided. -/
  | irBurstEnd (c : Fin 2)
  /-- IR_FLOOD_BLOCK (R590): Flood criteria are judged at the end of each 100 µs block. -/
  | irFloodBlock (c : Fin 2) (at_ : Nat) (irin : List Nat) (out : List Iq)
  /-- FLOODHOLD_EXPIRY (R592): No criterion for FLOODHOLD moves the channel to RECOVER. -/
  | floodholdExpiry (c : Fin 2)
  /-- IR_RECOVER_END (R592): After floor re-estimate and ENDGAP of space the channel is CLEAR. -/
  | irRecoverEnd (c : Fin 2) (at_ : Nat)
  /-- IR_STUCK (R594): IRIN steady for 100 ms puts both channels in STUCK. -/
  | irStuck (lo hi : Nat)
  /-- IR_STUCK_RELEASE (R594): IRIN varying again moves both channels to RECOVER. -/
  | irStuckRelease (lo hi : Nat)
  /-- RECENTRE (R596): The device steps IRBIAS to mid-scale, blinding both channels 400 µs. -/
  | recentre (bias : Nat)
  /-- PAIR_WINDOW_EXPIRY (R599): PAIRMAX passes and a pending code is decided. -/
  | pairWindowExpiry (c : Fin 2)
  /-- IR_CODE (R602): A decided code raises IR_EDGES chunks then IR_CODE. -/
  | irCode (c : Fin 2)
  /-- IR_TX_CODE_END (R608): A code's final space ends and the waiting code starts. -/
  | irTxCodeEnd (out : Fin 4)
  /-- IR_TXRESET (R610): IR_CTRL TXRESET stops an output and abandons its codes. -/
  | irTxreset (v : Word) (pec : Pec)
  /-- IR_RXRESET (R603): IR_CTRL RXRESET resets lanes 94 and 95, abandoning bursts. -/
  | irRxreset (v : Word) (pec : Pec)
  /-- STATUS (R622): Bus STATUS returns power state, flags, domains and address. -/
  | status (ack : Bool)
  /-- DEVID (R622): Bus DEVID returns 0x0000_9696. -/
  | devid (ack : Bool)
  /-- REVID (R829): Bus REVID returns the silicon revision. -/
  | revid (ack : Bool)
  /-- LASTNACK (R630): Bus LASTNACK returns the latest refusal. -/
  | lastnack (ack : Bool)
  /-- FAULT_READ (R622): Bus FAULT_READ returns up to 8 log entries and removes them at STOP. -/
  | faultRead (complete ack : Bool)
  /-- POWER_IDLE (R761): POWER IDLE moves the device from RUN to IDLE. -/
  | powerIdle (pec : Pec)
  /-- POWER_RUN (R760): POWER RUN moves the device from IDLE to RUN. -/
  | powerRun (pec : Pec)
  /-- POWER_SLEEP (R759): POWER SLEEP moves the device from IDLE to SLEEP. -/
  | powerSleep (pec : Pec)
  /-- HOLD_EXIT_NORMAL (R772): HOLD_EXIT NORMAL leaves AWL_HOLD for IDLE. -/
  | holdExitNormal (pec : Pec)
  /-- HOLD_EXIT_DEGRADED (R772): HOLD_EXIT DEGRADED marks failed units and leaves for IDLE. -/
  | holdExitDegraded (pec : Pec)
  /-- REG_READ (R623): Bus REG_READ returns a register value. -/
  | regRead (addr : Nat) (ack : Bool)
  /-- REG_WRITE (R623): Bus REG_WRITE writes a register that has no behaviour row of its own. -/
  | regWrite (addr : Nat) (v : Word) (pec : Pec)
  /-- CAPTURE_READ (R828): A read of a leading register captures its followers. -/
  | captureRead (addr : Nat) (ack : Bool)
  /-- READ_CLEAR (R826): A read of an RC register returns and clears its count. -/
  | readClear (addr : Nat) (ack : Bool)
  /-- MB_POST (R625): Bus MB_POST lands a host message in an inbound slot or is refused FULL. -/
  | mbPost (mb count : Nat) (bytes : List Byte) (pec : Pec)
  /-- MB_READ (R625): Bus MB_READ takes the outbound message, emptying the slot at STOP. -/
  | mbRead (mb : Nat) (complete ack : Bool)
  /-- EYELET_RING (R668): Bus EYELET_RING rings an eyelet of a bench or the Keeper. -/
  | eyeletRing (endpoint eyelet : Nat) (pec : Pec)
  /-- EYELET_TAKE (R671): Bus EYELET_TAKE returns and clears rung enabled host eyelets. -/
  | eyeletTake (complete ack : Bool)
  /-- ALERT_CAUSE (R639): Bus ALERT_CAUSE returns pending causes and clears latched ones. -/
  | alertCause (complete ack : Bool)
  /-- LAST_SNAPSHOT (R624): Bus LAST_SNAPSHOT returns PP, epoch and status of one tick. -/
  | lastSnapshot (ack : Bool)
  /-- SESS_OPEN (R678): Bus SESS_OPEN starts a MAIL or PROVISION session with a nonce. -/
  | sessOpen (kind : Nat) (pec : Pec)
  /-- SESS_OPEN_INSTALL (R679): SESS_OPEN kind INSTALL accepts a clear HAK on MB8 in AWL_HOLD. -/
  | sessOpenInstall (pec : Pec)
  /-- SESS_CHAL (R678): Bus SESS_CHAL returns the challenge. -/
  | sessChal (ack : Bool)
  /-- SESS_RESP (R678): Bus SESS_RESP carries the host response checked by the Keeper. -/
  | sessResp (count : Nat) (bytes : List Byte) (pec : Pec)
  /-- SESSION_STEP_DONE (R678): The Keeper finishes a session step and opens or fails the session. -/
  | sessionStepDone (nonce : List Byte)
  /-- SESS_CLOSE (R683): Bus SESS_CLOSE closes the session. -/
  | sessClose (data : Byte) (pec : Pec)
  /-- SESSIDLE_EXPIRY (R683): SESSIDLE seconds without a session command close the session. -/
  | sessidleExpiry
  /-- SESSION_LOCKOUT_END (R682): The 10 s SESS_OPEN lockout ends. -/
  | sessionLockoutEnd
  /-- DEVICE_RESET (R627): Bus DEVICE_RESET with guard bytes and PEC restarts the device. -/
  | deviceReset (g0 g1 : Byte) (pec : Pec)
  /-- UNKNOWN_COMMAND (R622): An unlisted command code is NACKed UNKNOWN. -/
  | unknownCommand (code : Byte)
  /-- ALERT_RESPONSE (R640): A read of the Alert Response Address arbitrates and releases ALERT#. -/
  | alertResponse (wins ack : Bool)
  /-- HOST_NOTIFY (R642): The device as controller sends Host Notify with its causes. -/
  | hostNotify (taken : Bool)
  /-- HOST_NOTIFY_RETRY (R645): A failed Host Notify is repeated after the next STOP plus 1 ms. -/
  | hostNotifyRetry (taken : Bool)
  /-- REARM_EXPIRY (R646): REARM passes with causes pending and alerting is repeated. -/
  | rearmExpiry
  /-- BUS_WAKE_MATCH (R632): An address match in SLEEP stretches SCL and wakes the device. -/
  | busWakeMatch (refCount : Nat)
  /-- WAKE_STRETCH_EXPIRY (R637): A stretch lasting 120 µs releases SCL and NACKs WAKE. -/
  | wakeStretchExpiry (code : Byte)
  /-- BUS_TIMEOUT (R647): SCL low 25-35 ms abandons the transaction. -/
  | busTimeout
  /-- BUSSTUCK (R648): SCL or SDA low over 35 ms flags BUSSTUCK. -/
  | busstuck (sda : Bool)
  /-- BUSSTUCK_CLEAR (R648): Both lines high for 1 ms clear BUSSTUCK. -/
  | busstuckClear
  /-- BUS_RECOVERY (R650): With SDA stuck the device clocks nine pulses and sends STOP. -/
  | busRecovery (freed : Bool)
  /-- ALERTSTUCK (R651): ALERT# held low by another beyond ALSTUCKT flags ALERTSTUCK. -/
  | alertstuck
  /-- ALERTSTUCK_CLEAR (R651): ALERT# high for 1 ms clears ALERTSTUCK. -/
  | alertstuckClear
  /-- ALERT_READBACK_FAULT (R652): ALERT# driven low but read high for 1 ms raises 0x9105. -/
  | alertReadbackFault
  /-- MB_TIMEOUT (R666): An inbound message left MBTMO gets the TIMEOUT mark. -/
  | mbTimeout (mb : Fin 16)
  /-- HOSTRESET (R677): Host MB_CTRL HOSTRESET marks messages for a host restart. -/
  | hostreset (v : Word) (pec : Pec)
  /-- EYE_MASK_WRITE (R670): Enabling a rung bench eyelet queues its EYELET event. -/
  | eyeMaskWrite (e : Fin 7) (v : Word) (pec : Pec)
  /-- SHOW_SET (R684): Provisioning SHOW_SET stores a show key. -/
  | showSet
  /-- SHOW_DEL (R684): Provisioning SHOW_DEL deletes a show key. -/
  | showDel
  /-- SITE_SET (R684): Provisioning SITE_SET stores the site key. -/
  | siteSet
  /-- LINK_SET (R684): Provisioning LINK_SET stores a troupe link key. -/
  | linkSet
  /-- LINK_DEL (R684): Provisioning LINK_DEL deletes a troupe link key. -/
  | linkDel
  /-- HAK_SET (R684): Provisioning HAK_SET replaces the HAK for the next session. -/
  | hakSet
  /-- INST_BEGIN (R787): INST_BEGIN starts an install and erases the target bank. -/
  | instBegin
  /-- INST_DATA (R788): INST_DATA appends a contiguous chunk and programs full pages. -/
  | instData
  /-- INST_END (R789): INST_END starts verification or replies SEQUENCE. -/
  | instEnd
  /-- INST_COMMIT (R792): INST_COMMIT journals the verified target as active. -/
  | instCommit
  /-- INST_REVERT (R792): INST_REVERT makes the previous bank active again. -/
  | instRevert
  /-- INST_ABORT (R786): INST_ABORT ends the install and invalidates the target. -/
  | instAbort
  /-- INST_ERASE_DONE (R790): Erase of the target ends and INST_BEGIN replies. -/
  | instEraseDone
  /-- INST_VERIFY_DONE (R791): Verification ends with VERIFIED, SIGNATURE or INVALID. -/
  | instVerifyDone
  /-- ENERGY_RECHECK (R785): A refused install step re-checks hold-up energy every 10 ms. -/
  | energyRecheck
  /-- STORE_BOOT_WRITE (R757): Host write of STORE_BOOT journals a BOOT record. -/
  | storeBootWrite (v : Word) (pec : Pec)
  /-- IVK_PROGRAM (R784): STORE_CMD 0x0000_1A7C programs the IVK into OTP. -/
  | ivkProgram (v : Word) (pec : Pec)
  /-- STORE_OP_DONE (R784): A store or OTP operation completes. -/
  | storeOpDone (ok : Bool)
  /-- AWL (R774): Radio request AWL runs the on-demand Awl. -/
  | awl (blk : List Byte)
  /-- AWL_START (R774): Host AWL_CTRL START runs the on-demand Awl on AWL_MASK. -/
  | awlStart (v : Word) (pec : Pec)
  /-- AWL_RUN_END (R775): An on-demand Awl run ends with its masks and reply. -/
  | awlRunEnd (res : AwlResult)
  /-- AWL_RERUN (R771): MB0 RERUN in AWL_HOLD reruns tests and replies masks. -/
  | awlRerun (res : AwlResult)
  /-- AWL_DETAIL (R771): MB0 DETAIL in AWL_HOLD replies a test's result detail. -/
  | awlDetail
  /-- POWER_UP_AWL_END (R769): The power-up Awl ends and the device holds or enters RUN or IDLE. -/
  | powerUpAwlEnd (res : AwlResult)
  /-- VSYS_GOOD (R750): VSYS good for 1 ms ends the power-on reset. -/
  | vsysGood (pins : Straps)
  /-- POWERFAIL (R751): VSYS failing cuts domains, finishes store work and journals POWERFAIL. -/
  | powerfail
  /-- VHOLD_FLOOR (R750): VHOLD below 2.70 V after VSYS fails forces power-on reset. -/
  | vholdFloor
  /-- VIO_GOOD (R748): VIO good for 1 ms ends the high-impedance hold. -/
  | vioGood
  /-- PIN_RESET (R753): RESET# low for 1 µs resets the device keeping Sole storage. -/
  | pinReset
  /-- WAKE_PIN (R762): A rising WAKE edge in SLEEP moves the device to IDLE. -/
  | wakePin (level : Bool) (refCount : Nat)
  /-- SUPPLY_SAMPLE (R831): SYS_SUPPLY is refreshed every 1 ms. -/
  | supplySample (vsys vhold : Nat)
  /-- VHOLD_LOW (R798): VHOLD below 4.50 V for 1 s raises 0x1204. -/
  | vholdLow
  /-- DOMCTRL_WRITE (R21): Host SYS_DOMCTRL write removes or powers BROADCAST or HEARTH in order. -/
  | domctrlWrite (v : Word) (pec : Pec)
  /-- STRM_CAP_WRITE (R691): Host STRM_CAP write starts or stops an I/Q capture. -/
  | strmCapWrite (v : Word) (pec : Pec)
  /-- STREAM_PACKET_SEND (R694): A queued packet starts on the port when STHOLD# allows. -/
  | streamPacketSend (stHold : Bool)
  /-- AUDIO_ROUTE_SOURCE (R700): AUDIO_ROUTE SOURCE gives an output a new source lane. -/
  | audioRouteSource (blk : List Byte)
  /-- AUDIO_ROUTE_NOSOURCE (R700): AUDIO_ROUTE NOSOURCE silences an output. -/
  | audioRouteNosource (blk : List Byte)
  /-- AUDIO_ROUTE_PORTS (R701): AUDIO_ROUTE PORTS routes an output to audio ports. -/
  | audioRoutePorts (blk : List Byte)
  /-- AUDIO_FRAME (R708): A port sends a frame, producing any AUDIO marker due. -/
  | audioFrame (p : Fin 2)
  /-- AUDIO_TRACK_MEASURE (R705): Each superframe the tracking error is measured, corrected or realigned. -/
  | audioTrackMeasure (p : Fin 2) (sub : Nat) (clk : Int)
  /-- AUDIO_CLOCK_LOSS (R709): No clock edges for 1 ms mute the port. -/
  | audioClockLoss (p : Fin 2)
  /-- AUDIO_CLOCK_RETURN (R709): Edges present 10 ms realign the port and set LOCK. -/
  | audioClockReturn (p : Fin 2) (sub : Nat)
  /-- AUD_CTRL_WRITE (R710): Host AUDp_CTRL write fades, applies and realigns the port. -/
  | audCtrlWrite (p : Fin 2) (sub : Nat) (v : Word) (pec : Pec)
  /-- HEARTBEAT_SEND (R712): Each member sends a HEARTBEAT frame once per slot. -/
  | heartbeatSend
  /-- HEARTBEAT_RX (R716): A valid heartbeat is received, counting toward link up and pairing. -/
  | heartbeatRx (hb : Heartbeat)
  /-- HEARTBEAT_MISSED (R716): A slot without a heartbeat is missed; four make the link down. -/
  | heartbeatMissed
  /-- WLSYNC_EDGE_LOSS (R717): WLSYNC without rising edges for 4 tick edges takes the link down. -/
  | wlsyncEdgeLoss
  /-- SYMBOL_LOCK_LOSS (R717): 4 ms without 8b/10b lock takes the link down. -/
  | symbolLockLoss
  /-- WELT_RESEND (R713): No ACK advance for a slot resends from the first unacknowledged frame. -/
  | weltResend
  /-- WELT_TICK_FRAME (R725): A TICK frame gives the standby PP and epoch and lets positions close. -/
  | weltTickFrame (h : WHead) (pos : Pos)
  /-- WELT_RECORD_FRAME (R726): A mirrored RECORD is queued to standby cue benches and marked seen. -/
  | weltRecordFrame (h : WHead) (ev : Event) (mask : Nat)
  /-- WELT_LASTEV_FRAME (R724): A mirrored Last event is raised to standby benches. -/
  | weltLastevFrame (h : WHead) (ev : Event)
  /-- WELT_HOSTMSG_FRAME (R724): A mirrored host message or eyelet is queued at its landing position. -/
  | weltHostmsgFrame (h : WHead) (m : HostMirror)
  /-- WELT_B4MSG_FRAME (R724): A mirrored bench-4 message is queued to standby cue benches. -/
  | weltB4msgFrame (h : WHead) (dest : Nat) (ev : Event)
  /-- WELT_DECISION_FRAME (R724): A mirrored radio decision is applied at its application position. -/
  | weltDecisionFrame (h : WHead) (code : Nat) (blk : List Byte) (app : Nat)
  /-- WELT_DIGEST_FRAME (R735): The standby compares the active's digest report with its own. -/
  | weltDigestFrame (h : WHead) (rep : DigestRep)
  /-- WELT_CKPT_FRAME (R731): A checkpoint page is stored on the standby. -/
  | weltCkptFrame (h : WHead) (index : Nat) (page : List Byte)
  /-- WELT_ADOPT_FRAME (R732): An ADOPT request makes the active send a full checkpoint. -/
  | weltAdoptFrame (h : WHead)
  /-- ADOPTION_COMPLETE (R733): The standby takes the adopted state and copies PP and epoch. -/
  | adoptionComplete (a : Adopted)
  /-- ADOPTION_TIMEOUT (R733): Adoption not done in 2 superframes restarts from the next checkpoint. -/
  | adoptionTimeout
  /-- WELT_ADOPT (R732): Host WELT_CTRL ADOPT requests adoption. -/
  | weltAdopt (v : Word) (pec : Pec)
  /-- WELT_YIELD (R811): Host WELT_CTRL YIELD requests a role swap. -/
  | weltYield (v : Word) (pec : Pec)
  /-- ROLE_SWAP (R885): At the superframe boundary after YIELD the members swap roles. -/
  | roleSwap
  /-- TAKEOVER (R741): At the superframe after ARBN absences the member becomes ACTIVE and handles the window. -/
  | takeover
  /-- RESET_RELEASE (R755): RESET# rises, ending a PIN reset; straps are sampled, the journal recovered,
  AWL_HOLD entered and the Sole ready within 50 µs. -/
  | resetRelease (pins : Straps)
  /-- DOMAIN_POWER_UP_DONE (R764): A power domain finishes powering up after its time of Table 19-6, ending the
  BUSY refusals of Table 15-6 and loading its state. -/
  | domainPowerUpDone (dom : Domain)
  /-- LINK_UP_DEADLINE (R720): With EN 1, 200 ms after the first superframe without the link up, the member
  leaving reset becomes PARTED. -/
  | linkUpDeadline
  deriving DecidableEq, Repr

end Sys2Proof
end

