-- ==== Sys2Proof/Decode.lean ====
section
/-! DEFINITION. Commands from words: no row of the opcode table gives bits, so that `decodeTableWord` reads
none; and the instruction words of Alnomal (Tables 5-3 to 5-19), read and written. -/

namespace Sys2Proof

open Sys2Proof.Machine

/-- The command that a word spells by the bits of the opcode table: no row of the table gives bits. -/
def decodeTableWord (_nbits _w : Nat) : Option Instr := none

/-! ### The formats of Alnomal (Table 5-3) -/

namespace Word

/-- The major opcode. -/
def op (w : Word) : Nat := w.bits 31 26

/-- A register number in four bits from `lo` on. -/
def regAt (w : Word) (lo : Nat) : Fin 16 := Fin.ofNat 16 (w.bits (lo + 3) lo)

/-- rd of the formats R, I and S; ra of format B. -/
def rd (w : Word) : Fin 16 := w.regAt 22

/-- ra of the formats R, I and S; rb of format B. -/
def ra (w : Word) : Fin 16 := w.regAt 18

/-- rb of the formats R and S. -/
def rb (w : Word) : Fin 16 := w.regAt 14

/-- fn of format R. -/
def fn (w : Word) : Nat := w.bits 13 0

/-- sub of format S. -/
def sub (w : Word) : Nat := w.bits 13 8

/-- imm8 of format S. -/
def imm8 (w : Word) : BitVec 8 := w.setWidth 8

/-- imm18 of format I, off18 of format B. -/
def imm18 (w : Word) : BitVec 18 := w.setWidth 18

end Word

/-! ### Reading an instruction word -/

/-- `i` when the fields that its table marks unused are 0 (R175). -/
def unused (zero : Bool) (i : Instr) : Option Instr := if zero then some i else none

/-- Op 0x01 (Table 5-5). -/
def decodeAlu (b : Fin 5) (w : Word) : Option Instr :=
  match w.fn with
  | 0x00 => some (.add b w.rd w.ra w.rb)
  | 0x01 => some (.sub b w.rd w.ra w.rb)
  | 0x02 => some (.adds b w.rd w.ra w.rb)
  | 0x03 => some (.subs b w.rd w.ra w.rb)
  | 0x04 => some (.addus b w.rd w.ra w.rb)
  | 0x05 => some (.subus b w.rd w.ra w.rb)
  | 0x08 => some (.and b w.rd w.ra w.rb)
  | 0x09 => some (.or b w.rd w.ra w.rb)
  | 0x0A => some (.xor b w.rd w.ra w.rb)
  | 0x10 => some (.shl b w.rd w.ra w.rb)
  | 0x11 => some (.shr b w.rd w.ra w.rb)
  | 0x12 => some (.sar b w.rd w.ra w.rb)
  | 0x13 => some (.rol b w.rd w.ra w.rb)
  | 0x18 => some (.slt b w.rd w.ra w.rb)
  | 0x19 => some (.sltu b w.rd w.ra w.rb)
  | 0x1A => some (.seq b w.rd w.ra w.rb)
  | 0x1B => some (.sne b w.rd w.ra w.rb)
  | 0x20 => some (.min b w.rd w.ra w.rb)
  | 0x21 => some (.max b w.rd w.ra w.rb)
  | 0x22 => some (.minu b w.rd w.ra w.rb)
  | 0x23 => some (.maxu b w.rd w.ra w.rb)
  | 0x28 => unused (w.rb == 0) (.clz b w.rd w.ra)
  | 0x29 => unused (w.rb == 0) (.popc b w.rd w.ra)
  | _ => none

/-- Op 0x02 (Table 5-6). -/
def decodeMul (b : Fin 5) (w : Word) : Option Instr :=
  match w.fn with
  | 0x00 => some (.mul b w.rd w.ra w.rb)
  | 0x01 => some (.mulh b w.rd w.ra w.rb)
  | 0x02 => some (.mulhu b w.rd w.ra w.rb)
  | 0x08 => some (.div b w.rd w.ra w.rb)
  | 0x09 => some (.divu b w.rd w.ra w.rb)
  | 0x0A => some (.rem b w.rd w.ra w.rb)
  | 0x0B => some (.remu b w.rd w.ra w.rb)
  | _ => none

/-- Op 0x18 (Table 5-8). -/
def decodeControl (b : Fin 5) (w : Word) : Option Instr :=
  let no := w.rd == 0 && w.rb == 0
  match w.sub with
  | 0x00 => unused (no && w.imm8 == 0) (.jr b w.ra)
  | 0x01 => unused (no && w.imm8 == 0) (.callr b w.ra)
  | 0x02 => unused (no && w.ra == 0 && w.imm8 == 0) (.ret b)
  | 0x03 => unused (no && w.ra == 0 && w.imm8 == 0) (.endHandler b)
  | 0x04 => unused (no && w.ra == 0 && w.imm8 == 0) (.nop b)
  | 0x05 => unused (no && w.ra == 0) (.trap b w.imm8)
  | 0x06 => unused (w.ra == 0 && w.rb == 0 && w.imm8 == 0) (.srem b w.rd)
  | _ => none

/-- Op 0x30 (Table 5-11). -/
def decodeEvent (b : Fin 5) (w : Word) : Option Instr :=
  match w.sub with
  | 0x00 => unused (w.rb == 0) (.evb b w.rd w.ra w.imm8)
  | 0x01 => unused (w.rb == 0) (.evh b w.rd w.ra w.imm8)
  | 0x02 => unused (w.rb == 0) (.evw b w.rd w.ra w.imm8)
  | 0x03 => unused (w.ra == 0 && w.rb == 0) (.evf b w.rd w.imm8)
  | 0x04 => unused (w.rd == 0 && w.rb == 0 && w.imm8 == 0) (.evcpy b w.ra)
  | _ => none

/-- Op 0x34 (Table 5-13). -/
def decodeTack (b : Fin 5) (w : Word) : Option Instr :=
  let no := w.rb == 0 && w.imm8 == 0
  match w.sub with
  | 0x00 => unused no (.tpost b w.rd w.ra)
  | 0x01 => unused (no && w.rd == 0) (.tcan b w.ra)
  | 0x02 => unused (no && w.rd == 0) (.tcank b w.ra)
  | _ => none

/-- Op 0x38 (Table 5-16). -/
def decodeMessage (b : Fin 5) (w : Word) : Option Instr :=
  match w.sub with
  | 0x00 => some (.msend b w.rd w.ra w.rb w.imm8)
  | 0x01 => some (.mpost b w.rd w.ra w.rb w.imm8)
  | 0x02 => unused (w.rd == 0 && w.ra == 0 && w.rb == 0) (.ring b w.imm8)
  | _ => none

/-- Op 0x3D (Table 5-18). -/
def decodeWake (b : Fin 5) (w : Word) : Option Instr :=
  match w.sub with
  | 0x00 => unused (w.rd == 0) (.wake b w.ra w.rb w.imm8)
  | 0x01 => unused (w.rd == 0 && w.ra == 0 && w.rb == 0) (.wcan b w.imm8)
  | _ => none

/-- Op 0x3E (Table 5-19). -/
def decodeDigest (b : Fin 5) (w : Word) : Option Instr :=
  let no := w.rb == 0 && w.imm8 == 0
  match w.sub with
  | 0x00 => unused no (.crcb b w.rd w.ra)
  | 0x01 => unused no (.crcw b w.rd w.ra)
  | 0x02 => unused no (.crcd b w.rd w.ra)
  | _ => none

/-- The instruction that a word is, by its major opcode (Table 5-4); `none` for an undefined encoding. -/
def decodeDefined (b : Fin 5) (w : Word) : Option Instr :=
  match w.op with
  | 0x01 => decodeAlu b w
  | 0x02 => decodeMul b w
  | 0x04 => some (.addi b w.rd w.ra w.imm18)
  | 0x05 => some (.addis b w.rd w.ra w.imm18)
  | 0x06 => some (.andi b w.rd w.ra w.imm18)
  | 0x07 => some (.ori b w.rd w.ra w.imm18)
  | 0x08 => some (.xori b w.rd w.ra w.imm18)
  | 0x0C => some (.slti b w.rd w.ra w.imm18)
  | 0x0D => some (.sltiu b w.rd w.ra w.imm18)
  | 0x09 => unused (w.bits 17 5 == 0) (.shli b w.rd w.ra (w.setWidth 5))
  | 0x0A => unused (w.bits 17 5 == 0) (.shri b w.rd w.ra (w.setWidth 5))
  | 0x0B => unused (w.bits 17 5 == 0) (.sari b w.rd w.ra (w.setWidth 5))
  | 0x0E => unused (w.ra == 0 && w.bits 17 16 == 0) (.lui b w.rd (w.setWidth 16))
  | 0x10 => some (.beq b w.rd w.ra w.imm18)
  | 0x11 => some (.bne b w.rd w.ra w.imm18)
  | 0x12 => some (.blt b w.rd w.ra w.imm18)
  | 0x13 => some (.bge b w.rd w.ra w.imm18)
  | 0x14 => some (.bltu b w.rd w.ra w.imm18)
  | 0x15 => some (.bgeu b w.rd w.ra w.imm18)
  | 0x16 => unused (w.bits 25 16 == 0) (.jmp b (w.setWidth 16))
  | 0x17 => unused (w.bits 25 16 == 0) (.call b (w.setWidth 16))
  | 0x18 => decodeControl b w
  | 0x20 => some (.ldw b w.rd w.ra w.imm18)
  | 0x21 => some (.ldh b w.rd w.ra w.imm18)
  | 0x22 => some (.ldhu b w.rd w.ra w.imm18)
  | 0x23 => some (.ldb b w.rd w.ra w.imm18)
  | 0x24 => some (.ldbu b w.rd w.ra w.imm18)
  | 0x25 => some (.stw b w.rd w.ra w.imm18)
  | 0x26 => some (.sth b w.rd w.ra w.imm18)
  | 0x27 => some (.stb b w.rd w.ra w.imm18)
  | 0x28 => some (.llw b w.rd w.ra w.imm18)
  | 0x29 => some (.lsw b w.rd w.ra w.imm18)
  | 0x2A => some (.ldc b w.rd w.ra w.imm18)
  | 0x30 => decodeEvent b w
  | 0x34 => decodeTack b w
  | 0x38 => decodeMessage b w
  | 0x3C => if w.sub = 0 then unused (w.rb == 0) (.radio b w.rd w.ra w.imm8) else none
  | 0x3D => decodeWake b w
  | 0x3E => decodeDigest b w
  | _ => none

/-- The instruction that bench `b` executes on a word: an undefined encoding, 0x0000_0000 among them, is the
undefined instruction (R173, R174, R175). -/
def decodeWord (b : Fin 5) (w : Word) : Instr := (decodeDefined b w).getD (.undefinedInstruction b)

/-! ### Writing an instruction word -/

/-- A word of format R (Table 5-3). -/
def wordR (op : Nat) (rd ra rb : Fin 16) (fn : Nat) : Word :=
  BitVec.ofNat 32 (op * 2 ^ 26 + rd * 2 ^ 22 + ra * 2 ^ 18 + rb * 2 ^ 14 + fn)

/-- A word of format I, or, with ra and rb in the first two fields, of format B. -/
def wordI (op : Nat) (rd ra : Fin 16) (imm : Nat) : Word :=
  BitVec.ofNat 32 (op * 2 ^ 26 + rd * 2 ^ 22 + ra * 2 ^ 18 + imm)

/-- A word of format J. -/
def wordJ (op : Nat) (target : BitVec 16) : Word := BitVec.ofNat 32 (op * 2 ^ 26 + target.toNat)

/-- A word of format S. -/
def wordS (op : Nat) (rd ra rb : Fin 16) (sub : Nat) (imm : BitVec 8) : Word :=
  BitVec.ofNat 32 (op * 2 ^ 26 + rd * 2 ^ 22 + ra * 2 ^ 18 + rb * 2 ^ 14 + sub * 2 ^ 8 + imm.toNat)

/-- The bench that executes an instruction, and its word; `none` for a command that is no defined
instruction of Alnomal. -/
def encodeWord (i : Instr) : Option (Fin 5 × Word) :=
  match i with
  | .add b d x y => some (b, wordR 0x01 d x y 0x00)
  | .sub b d x y => some (b, wordR 0x01 d x y 0x01)
  | .adds b d x y => some (b, wordR 0x01 d x y 0x02)
  | .subs b d x y => some (b, wordR 0x01 d x y 0x03)
  | .addus b d x y => some (b, wordR 0x01 d x y 0x04)
  | .subus b d x y => some (b, wordR 0x01 d x y 0x05)
  | .and b d x y => some (b, wordR 0x01 d x y 0x08)
  | .or b d x y => some (b, wordR 0x01 d x y 0x09)
  | .xor b d x y => some (b, wordR 0x01 d x y 0x0A)
  | .shl b d x y => some (b, wordR 0x01 d x y 0x10)
  | .shr b d x y => some (b, wordR 0x01 d x y 0x11)
  | .sar b d x y => some (b, wordR 0x01 d x y 0x12)
  | .rol b d x y => some (b, wordR 0x01 d x y 0x13)
  | .slt b d x y => some (b, wordR 0x01 d x y 0x18)
  | .sltu b d x y => some (b, wordR 0x01 d x y 0x19)
  | .seq b d x y => some (b, wordR 0x01 d x y 0x1A)
  | .sne b d x y => some (b, wordR 0x01 d x y 0x1B)
  | .min b d x y => some (b, wordR 0x01 d x y 0x20)
  | .max b d x y => some (b, wordR 0x01 d x y 0x21)
  | .minu b d x y => some (b, wordR 0x01 d x y 0x22)
  | .maxu b d x y => some (b, wordR 0x01 d x y 0x23)
  | .clz b d x => some (b, wordR 0x01 d x 0 0x28)
  | .popc b d x => some (b, wordR 0x01 d x 0 0x29)
  | .mul b d x y => some (b, wordR 0x02 d x y 0x00)
  | .mulh b d x y => some (b, wordR 0x02 d x y 0x01)
  | .mulhu b d x y => some (b, wordR 0x02 d x y 0x02)
  | .div b d x y => some (b, wordR 0x02 d x y 0x08)
  | .divu b d x y => some (b, wordR 0x02 d x y 0x09)
  | .rem b d x y => some (b, wordR 0x02 d x y 0x0A)
  | .remu b d x y => some (b, wordR 0x02 d x y 0x0B)
  | .addi b d x m => some (b, wordI 0x04 d x m.toNat)
  | .addis b d x m => some (b, wordI 0x05 d x m.toNat)
  | .andi b d x m => some (b, wordI 0x06 d x m.toNat)
  | .ori b d x m => some (b, wordI 0x07 d x m.toNat)
  | .xori b d x m => some (b, wordI 0x08 d x m.toNat)
  | .slti b d x m => some (b, wordI 0x0C d x m.toNat)
  | .sltiu b d x m => some (b, wordI 0x0D d x m.toNat)
  | .ldw b d x m => some (b, wordI 0x20 d x m.toNat)
  | .ldh b d x m => some (b, wordI 0x21 d x m.toNat)
  | .ldhu b d x m => some (b, wordI 0x22 d x m.toNat)
  | .ldb b d x m => some (b, wordI 0x23 d x m.toNat)
  | .ldbu b d x m => some (b, wordI 0x24 d x m.toNat)
  | .stw b d x m => some (b, wordI 0x25 d x m.toNat)
  | .sth b d x m => some (b, wordI 0x26 d x m.toNat)
  | .stb b d x m => some (b, wordI 0x27 d x m.toNat)
  | .llw b d x m => some (b, wordI 0x28 d x m.toNat)
  | .lsw b d x m => some (b, wordI 0x29 d x m.toNat)
  | .ldc b d x m => some (b, wordI 0x2A d x m.toNat)
  | .shli b d x m => some (b, wordI 0x09 d x m.toNat)
  | .shri b d x m => some (b, wordI 0x0A d x m.toNat)
  | .sari b d x m => some (b, wordI 0x0B d x m.toNat)
  | .lui b d m => some (b, wordI 0x0E d 0 m.toNat)
  | .beq b x y m => some (b, wordI 0x10 x y m.toNat)
  | .bne b x y m => some (b, wordI 0x11 x y m.toNat)
  | .blt b x y m => some (b, wordI 0x12 x y m.toNat)
  | .bge b x y m => some (b, wordI 0x13 x y m.toNat)
  | .bltu b x y m => some (b, wordI 0x14 x y m.toNat)
  | .bgeu b x y m => some (b, wordI 0x15 x y m.toNat)
  | .jmp b t => some (b, wordJ 0x16 t)
  | .call b t => some (b, wordJ 0x17 t)
  | .jr b x => some (b, wordS 0x18 0 x 0 0x00 0)
  | .callr b x => some (b, wordS 0x18 0 x 0 0x01 0)
  | .ret b => some (b, wordS 0x18 0 0 0 0x02 0)
  | .endHandler b => some (b, wordS 0x18 0 0 0 0x03 0)
  | .nop b => some (b, wordS 0x18 0 0 0 0x04 0)
  | .trap b c => some (b, wordS 0x18 0 0 0 0x05 c)
  | .srem b d => some (b, wordS 0x18 d 0 0 0x06 0)
  | .evb b d x m => some (b, wordS 0x30 d x 0 0x00 m)
  | .evh b d x m => some (b, wordS 0x30 d x 0 0x01 m)
  | .evw b d x m => some (b, wordS 0x30 d x 0 0x02 m)
  | .evf b d m => some (b, wordS 0x30 d 0 0 0x03 m)
  | .evcpy b x => some (b, wordS 0x30 0 x 0 0x04 0)
  | .tpost b d x => some (b, wordS 0x34 d x 0 0x00 0)
  | .tcan b x => some (b, wordS 0x34 0 x 0 0x01 0)
  | .tcank b x => some (b, wordS 0x34 0 x 0 0x02 0)
  | .msend b d x y m => some (b, wordS 0x38 d x y 0x00 m)
  | .mpost b d x y m => some (b, wordS 0x38 d x y 0x01 m)
  | .ring b m => some (b, wordS 0x38 0 0 0 0x02 m)
  | .radio b d x m => some (b, wordS 0x3C d x 0 0x00 m)
  | .wake b x y m => some (b, wordS 0x3D 0 x y 0x00 m)
  | .wcan b m => some (b, wordS 0x3D 0 0 0 0x01 m)
  | .crcb b d x => some (b, wordS 0x3E d x 0 0x00 0)
  | .crcw b d x => some (b, wordS 0x3E d x 0 0x01 0)
  | .crcd b d x => some (b, wordS 0x3E d x 0 0x02 0)
  | _ => none

end Sys2Proof
end

