-- ==== Sys2Proof/Config.lean ====
section
/-! DEFINITION. The values that the spec leaves open while the device goes on: each is a constant
without a body, applied to the model's own counter of free values or to the operands it depends on, so
nothing in Lean can know it. -/

namespace Sys2Proof.Config

/-- The level of a GPIO ball that nothing in the device drives (log entry 12): a byte of levels. -/
opaque freePins : Nat → BitVec 8

/-- A 16-bit field of a measurement that the spec names and does not compute (log entry 12). -/
opaque freeHalf : Nat → BitVec 16

/-! ### The signal plane (log entry 81) -/

/-- How a value halfway between two results rounds: up when true (R368, R454). -/
opaque tie : Int → Nat → Bool

/-- An exact value `num / den` brought to a 16-bit sample by a stage whose rounding the spec does not state. -/
opaque narrow : Int → Nat → BitVec 16

/-- An exact value `num / den` brought to a 24-bit audio sample. -/
opaque audio : Int → Nat → BitVec 24

/-- The chain's output for an ADC sample: the inverse of the calibrated gain of a chain's gain index (R278). -/
opaque gainInverse : Nat → Nat → Int → Int → Int × Int

/-- The mixer's output for an NCO phase and a sample (R364). -/
opaque mix : BitVec 32 → Int → Int → BitVec 16 × BitVec 16

/-- Tap `i` of ROM set `set` (R370, Table 9-7). -/
opaque romTap : Nat → Nat → BitVec 18

/-- The combiner's weights of the two branches, in 1/32 768, for their powers and their cross term over a block
(R384). -/
opaque weights : Nat → Nat → Int → Int → (BitVec 16 × BitVec 16) × (BitVec 16 × BitVec 16)

/-- Tap `i` of the resampler's filter at phase `p`, 0–64 (R378). -/
opaque resTap : Nat → Nat → BitVec 18

/-- Cosine and sine of `k`/65 536 of a turn, in 1/32 768 (R396). -/
opaque twiddle : Nat → BitVec 16 × BitVec 16

/-- Which way a level between two steps of 0.5 dB reads (R398). -/
opaque levelUp : Nat → Nat → Bool

/-- The phase of a sample in 1/65 536 turn, by its direction (R414). -/
opaque angle : Int → Int → BitVec 16

/-- The pilot PLL after a clean MPX sample: its phase and frequency (R420). -/
opaque pilotLoop : BitVec 32 → BitVec 32 → Int → BitVec 32 × BitVec 32

/-- LEVEL in 0.5 dBµV for the sum of a lane's powers, their count and the gain indexes of BR0 and BR1
(Table 10-2). -/
opaque antennaLevel : Nat → Nat → Nat → Nat → Int

/-- USN of a run of MPX samples and MPATH of a run of lane powers (Table 10-2). -/
opaque usn : List Int → Nat
opaque mpath : List Nat → Nat

/-- L + R from the MPX samples low-passed at 15 kHz, and L − R demodulated at twice the pilot PLL's phase
(R425), newest sample first. -/
opaque stereoSum : List Int → Int
opaque stereoDiff : List (Int × BitVec 32) → Int

/-- De-emphasis with a time constant's code: the output for the one before and an input (R427). -/
opaque deemph : Nat → Int → Int → Int

/-- A sample attenuated by quarter decibels (R428). -/
opaque attenuate : Nat → Int → Int

/-- The peak of the normalised cross-correlation of a reference's and a candidate's MPX samples, each with its
instant: how much the candidate lags in ns, CONF and RATIO (R464, R468). -/
opaque correlate : List (Nat × Int) → List (Nat × Int) → Int × Nat × Nat

/-- The port's sample between two samples of a programme output, at a place in 1/65 536 tick from the first of
an interval of the second length (R704). -/
opaque between : Int → Int → Nat → Nat → Int

/-- The bit of an RDS symbol whose half bits are equal (R434). -/
opaque evenSymbol : Int → Bool

/-- A mean that falls between two codes reads as the upper one, for its sum and its count (R585, R589). -/
opaque meanUp : Nat → Nat → Bool

/-- An infrared channel's floor in 0.5 dB below full scale, after lane outputs of a space; anew, over the first
millisecond of RECOVER, when the flag is set (R586, R592). -/
opaque floorTrack : Bool → Nat → List (Int × Int) → Nat

/-- The text that the pairing digest covers: an image signature, configuration values, and the IDs and streams of the
show keys (R718); and the key of a member that holds no site key. -/
opaque pairingText : List (BitVec 8) → List (Nat × BitVec 32) → List (Nat × Nat) → List (BitVec 8)
opaque keyless : Nat → BitVec 8

/-- The mark kind of a block descriptor: 0 no mark, 1 UNSETTLED, 2 INVALID (Table 17-2). -/
opaque markCode : Nat → BitVec 8

end Sys2Proof.Config
end

