-- ==== Sys2Proof/Machine/Flags.lean ====
section
/-! DEFINITION. The arithmetic that several blocks share: saturation, the check sequences (CRC-32C,
CRC-16, CRC-8) and the completion status codes.  Alnomal has no flags register (chapter 5). -/

namespace Sys2Proof.Machine

open Sys2Proof

/-- Signed saturation at 0x7FFF_FFFF and 0x8000_0000 (R180). -/
def satSigned (x : Int) : Word :=
  if x > 0x7FFFFFFF then 0x7FFFFFFF#32
  else if x < -0x80000000 then 0x80000000#32
  else BitVec.ofInt 32 x

/-- Unsigned saturation at 0 and 0xFFFF_FFFF (Table 5-5). -/
def satUnsigned (x : Int) : Word :=
  if x > 0xFFFFFFFF then 0xFFFFFFFF#32
  else if x < 0 then 0#32
  else BitVec.ofInt 32 x

/-- One step of the reflected CRC-32C: one bit shifted out (R223). -/
def crcBit (c : Word) : Word :=
  if c.getLsbD 0 then (c >>> 1) ^^^ 0x82F63B78#32 else c >>> 1

/-- `n` such steps. -/
def crcBits : Nat → Word → Word
  | 0, c => c
  | n + 1, c => crcBits n (crcBit c)

/-- CRC-32C updated with one byte, least significant bit first (R223). -/
def crcByte (c : Word) (x : Byte) : Word := crcBits 8 (c ^^^ x.setWidth 32)

/-- CRC-32C updated with bytes in order (R222, R223). -/
def crcBytes (c : Word) (xs : List Byte) : Word := xs.foldl crcByte c

/-- CRC-32C as the standard defines it: initial value all ones and final inversion (R223).
PRESUMED, unsafe: log entry 12. -/
def crc32c (xs : List Byte) : Word := crcBytes 0xFFFFFFFF#32 xs ^^^ 0xFFFFFFFF#32

/-- `n` steps of a CRC-16 with polynomial 0x1021, most significant bit first. -/
def crc16Bits : Nat → BitVec 16 → BitVec 16
  | 0, c => c
  | n + 1, c => crc16Bits n (if c.getLsbD 15 then (c <<< 1) ^^^ 0x1021#16 else c <<< 1)

/-- The CRC of a stream packet: polynomial 0x1021, initial value 0xFFFF (R688). -/
def crc16 (xs : List Byte) : BitVec 16 :=
  xs.foldl (fun (c : BitVec 16) (x : Byte) =>
    crc16Bits 8 (c ^^^ BitVec.shiftLeft (x.setWidth 16) 8)) 0xFFFF#16

/-- `n` steps of the CRC-8 of SMBus, polynomial 0x07. -/
def crc8Bits : Nat → Byte → Byte
  | 0, c => c
  | n + 1, c => crc8Bits n (if c.getLsbD 7 then (c <<< 1) ^^^ 0x07#8 else c <<< 1)

/-- PEC: the CRC-8 of SMBus, initial value 0 (R617). -/
def pecOf (xs : List Byte) : Byte := xs.foldl (fun c x => crc8Bits 8 (c ^^^ x)) 0#8

/-- A completion status as an instruction result or event field carries it (Table 5-2). -/
def stOk : Nat := 0
def stLate : Nat := 1
def stDropped : Nat := 2
def stSkipped : Nat := 3
def stSealed : Nat := 4
def stFull : Nat := 5
def stNone : Nat := 6
def stBusy : Nat := 7
def stTimeout : Nat := 8
def stStale : Nat := 9
def stOrphan : Nat := 10
def stAborted : Nat := 11
def stUnverified : Nat := 12
def stUnsettled : Nat := 13
def stSingle : Nat := 14
def stFlood : Nat := 15
def stDeferred : Nat := 16

/-- The classes of a fault (Table 20-2). -/
def clsNote : Nat := 0
def clsCovered : Nat := 1
def clsLost : Nat := 2
def clsVoid : Nat := 3

/-- A signed number in the `n` low bits of a word, saturating. -/
def satField (n : Nat) (x : Int) : Nat :=
  let m : Int := 2 ^ (n - 1)
  let y := if x ≥ m then m - 1 else if x < -m then -m else x
  (y % 2 ^ n).toNat

end Sys2Proof.Machine
end

