-- ==== Sys2Proof/Machine/Init.lean ====
section
/-! DEFINITION. Each block as it stands when its domain has just powered up, which is also how it
stands after a power-on reset: the reset column of chapters 21 and 22, and the starting values the
chapters give. Where the spec states none the value is 0, empty or idle (DESIGN CHOICE, unsafe: log entries 1, 20). -/

namespace Sys2Proof.Machine

/-- Bench at power-up. -/
def Bench.init : Bench :=
  { mode := .off, data := [], wakes := Vector.replicate 16 none, queue := [], held := [],
    inbox := [], handler := none, ledgerBuf := [], lsws := 0, sent := Vector.replicate 5 0,
    seq := 0, log := [], logBytes := 0, replay := [], faultSfs := [], faultEvs := [],
    fresh := false, joining := false, starting := false, leaving := false, stepsSf := 0,
    stepsPrev := 0, events := 0, queueHigh := 0 }

/-- Program at power-up. -/
def Program.init : Program :=
  { bench := Vector.replicate 5 Bench.init, image := none, ledger := [], barrier := none,
    opened := [], ckpt := none, ckptPrev := none, ckpts := 0, restarts := 0, lagHigh := 0,
    lagged := false, lastFault := 0, lastFaultBench := 0, dropped := 0, sfs := 0, runBits := 0,
    runWant := 0, runEdge := 0, restartWant := 0, restartEdge := 0, nextReq := 1, void := none,
    voidTo := none }

/-- Last at power-up. -/
def Last.init : Last :=
  { pp := 0, frac := 0, epoch := 0, src := .localRef, mode := .track, resume := .track, rem := 0,
    total := 0, rate := 0, corr := 0, pendErrs := [], stamped := false, govCarrier := none, govFixed := false,
    govReqs := [], govWrite := none, err := 0, trim := 0, trimValid := false, trimEdges := 0,
    frEdges := 0, frRaised := false, holds := 0, slews := 0, skips := 0, rewinds := 0, evt := 0,
    edge := 0, trail := [], latchHi := 0, latchEpoch := 0 }

/-- Intake at power-up. -/
def Intake.init : Intake :=
  { partials := [], batches := [], streams := [], unknownSf := [], released := [], withheld := 0, refused := 0,
    badtag := 0, malformed := 0, replays := 0, abandoned := 0, dups := 0, lost := 0 }

/-- TackStore at power-up. -/
def TackStore.init : TackStore :=
  { pending := [], entries := [], due := [], lastDisp := none, lastDone := none,
    crc := 0xFFFFFFFF#32, inReport := 0, warned := false, high := 0, full := 0, dropped := 0,
    skipped := 0, late := 0, disp := 0, failHearth := 0, failIr := 0, failMail := 0,
    failMarker := 0, repSf := 0, repInfo := 0, repCrc := 0, repSeq := 0, latch := [] }

/-- FaultLog at power-up. -/
def FaultLog.init : FaultLog :=
  { entries := [], lost := 0, peek1 := 0 }

/-- Chain at power-up. -/
def Chain.init : Chain :=
  { mode := .sleep, trans := none, held := false, failed := false, epoch := 0, lo := 0,
    tuned := false, tunes := [], gains := [], bubbles := [], windows := Vector.replicate 16 none,
    cals := [], gain := 0, quiet := 0, clipRun := 0, clipped := 0, trimI := 0, trimQ := 0,
    loopI := 0, loopQ := 0 }

/-- Radio at power-up. -/
def Radio.init : Radio :=
  { chain := Vector.replicate 3 Chain.init, heard := Vector.replicate 3 [⟨0, true, 0⟩], mode := 0,
    survivor := 0, paflt := false, clamp := false,
    maskref := false, noseal := false, clampSf := none, txCount := 0, pinTrsw := false,
    pinLnaen := false, pinPaen := false, pinParamp := 0, txDriver := 0, pinAntsel := false,
    pinPafault := true }

/-- Clocks at power-up. -/
def Clocks.init : Clocks :=
  { sysLock := true, sckLock := true, sysLost := false, sckLost := false, refOk := true,
    refIn := false, limp := false, synLost := Vector.replicate 3 false, evt := 0, limpKHz := 0,
    temp := Vector.replicate 3 0, tempBad := Vector.replicate 3 false, drift := 10, bgMode := true,
    table := [], sweep := none, cals := 0, calFails := 0, evictions := 0, latch1 := 0 }

/-- Branch at power-up. -/
def Branch.init : Branch :=
  { cicI := ⟨[], []⟩, cicQ := ⟨[], []⟩, dirty := 0, step := false, line := [], raw := 0, blank := true,
    wOld := ⟨0, 0⟩, wNew := ⟨0, 0⟩, power := 0 }

/-- Signal at power-up. -/
def Signal.init : Signal :=
  { last := 0, phase := 0, mask := 0, cic := 0, fir := 0, branch := Vector.replicate 2 Branch.init,
    fadeK := 0, comb := 0, cross := ⟨0, 0⟩, excl := false, mean := [], sumI := 0, sumQ := 0, line := [],
    out := [] }

/-- Lane at power-up. -/
def Lane.init : Lane :=
  { use := .free, preset := .custom, hold := false, reson := false, nco := 0, n := 0, dec := 0,
    f := 0, a := 0, setA := 0, setB := 0, bankB := false, xf := 0, fading := false, sfdFreq := 0,
    sfdK := 0, sfdIn := 0, centre := 0, epoch := 0, settle := 0, gap := 0, level := 0, delta := 0,
    goal := 0, slewing := false, branches := 0, badRun := 0, failed := false, failing := none, under := none,
    returned := false, bare := false, blocks := 0, delayBlocks := 0, sig := Signal.init, wait := [],
    latest := none, sfd := [], sfdRun := false, sfdSlot := none }

/-- CoefSet at power-up. -/
def CoefSet.init : CoefSet :=
  { taps := [], len := 0, ecc := false }

/-- Lanes at power-up. -/
def Lanes.init : Lanes :=
  { lane := [], reqs := [], underFailed := Vector.replicate 4 false,
    wideFailed := Vector.replicate 2 false, sharedUsed := 0, claims := [], poolLow := 632,
    none := 0, noneSf := [], coef := [], coefRef := 0, coefFixed := 0 }

/-- FmLane at power-up. -/
def FmLane.init : FmLane :=
  { prev := none, gapSeen := false, pllPhase := 0, pllFreq := 0x14444444#32, meas := []
    lockRun := 0, noLockRun := 0, locked := false, level := 255, sync := false, badRun := 0,
    next := 0, group := [], groupVerB := none, zeros := [], lastBit := 0, piLast := 0, piRun := 0,
    pi := none, pty := 0, tp := false, ta := false, taSeen := false, ps := [], psRep := none,
    ptyn := [], ptynRep := none, ptyRep := none, ptynAb := none, rt0 := [], rt1 := [],
    rtRep0 := none, rtRep1 := none, rtAb := none, afWant := none, afCodes := [], afLfmf := false,
    afSkip := false, afPairs := false, afRep := none, oda := [], slc := none, hist := [],
    sub := none, quality := none }

/-- Copy at power-up. -/
def Copy.init : Copy :=
  { blend := 0, mute := 0, since := [], run := [], long := false, fade := 0, mpx := [], count := 0, deL := 0,
    deR := 0, coarse := 0, buffer := [], ready := [] }

/-- Po at power-up. -/
def Po.init : Po :=
  { source := none, noSrc := true, main := Copy.init, other := Copy.init, fadeK := 0, out := [] }

/-- Fm at power-up. -/
def Fm.init : Fm :=
  { lanes := [], reqs := [], po := Vector.replicate 2 Po.init, rdsCorr := 0, rdsBad := 0,
    afBad := 0, latch := [] }

/-- Follow at power-up. -/
def Follow.init : Follow :=
  { reqs := [], corrs := [], results := [], splices := [], offsets := [], bleed := false,
    bleedId := 0, bleedEdge := 0, bleeding := false, done := 0, abandoned := 0, latchV := 0 }

/-- Decoder at power-up. -/
def Decoder.init : Decoder :=
  { mode := .idle, ready := false, failed := false, epoch := 0, freq := 0, eid := 0, ecc := 0,
    lto := 0, alarm := false, ensLabel := [], cif := 0, foff := 0, lastNull := none, missed := 0,
    startReq := none, runReq := 0, startEdge := 0, cover := none, reqs := [], mci := [],
    services := [], packets := [], fec := [], haveFig00 := false, nextMci := [], changeAt := none,
    sels := [], selDone := [], history := [], contents := [], sub := none, quality := none,
    fibHist := [], qCor := 0, qBad := 0, qGroups := 0, gap := false, badFib := 0, badPacket := 0,
    badGroup := 0, badRs := 0, repeats := 0, otherFigs := 0 }

/-- Hearth at power-up. -/
def Hearth.init : Hearth :=
  { mode := .stopped, plan := none, reqs := [], queue := [], sched := [], burst := none,
    slotStart := 0, slotEdge := 0, slotCorr := 0, slotEpoch := 0, slotDue := false, deadSlot := false,
    troupeSeq := [], beaconSeq := 0, acks := [], triples := [], heard := [], beaconRep := [],
    bcnRun := 0, bcnMiss := 0, bcnQual := false, startId := 0, stopping := [], lostSf := none,
    lbtBusy := 0, dutyRef := 0, lost := 0, oneBurst := 0, upOk := 0, upCrc := 0, upMac := 0,
    rxOk := 0, rxBad := 0 }

/-- SealState at power-up. -/
def SealState.init : SealState :=
  { sealed := false, busy := false, result := .ok, used := 0, tried := 0, view := [], otp := [],
    writing := none, buckets := [], dutySf := [] }

/-- IrChan at power-up. -/
def IrChan.init : IrChan :=
  { mode := .off, cfg := [], floor := 0, inMark := false, lead := 0, burst := none, firsts := [],
    blindFrom := none, blindEnd := none, settling := false, holdOff := 0, cause := 0,
    critEdge := 0, decided := [], faultSf := none, env := 255, prev := ⟨0, 0⟩, marks := [], spaceFrom := 0,
    recFrom := 0, sat := false, offs := [] }

/-- IrOut at power-up. -/
def IrOut.init : IrOut :=
  { sending := none, waiting := none }

/-- Infra at power-up. -/
def Infra.init : Infra :=
  { chan := Vector.replicate 2 IrChan.init, out := Vector.replicate 4 IrOut.init, reqs := [],
    bias := 0, mean := 0, recentre := false, prof := Vector.replicate 16 0, ok := 0, single := 0,
    floodCodes := 0, floods := 0, sent := 0, busy := 0, noneTx := 0, aborted := 0, evt := 0,
    gpioLevel := 0 }

/-- Bus at power-up. -/
def Bus.init : Bus :=
  { out := [], addr := 0x38, strap0 := 0, strap1 := 0, lastNack := 0, latched := 0x10,
    released := false, sleepAlert := false, notifying := false, notifyTries := 0,
    notifyWait := false, notifyFail := false, sclStuck := false, sdaStuck := false,
    alertStuck := false, recoverTries := 0, stretching := false, busy := 0, refusals := 0,
    pecErrs := 0, timeouts := 0, evt := 0 }

/-- Session at power-up. -/
def Session.init : Session :=
  { mode := .closed, kind := 0, nonce := [], hostNonce := [], number := 0, key := [], rxCount := 0,
    txCount := 0, failures := 0, locked := false, step := none, asked := false }

/-- Keys at power-up. -/
def Keys.init : Keys :=
  { show_ := [], site := none, link := [], hak := none }

/-- Mail at power-up. -/
def Mail.init : Mail :=
  { inb := Vector.replicate 16 none, outb := Vector.replicate 16 none, heldPosts := [],
    rung := Vector.replicate 7 0, mask := Vector.replicate 7 0xFFFFFFFF#32,
    ringQueued := Vector.replicate 5 0, eyeEvt := 0, timeouts := 0, stales := 0, orphans := 0,
    refused := 0, refusedSf := [], session := Session.init, keys := Keys.init, provCmd := none,
    keeperRings := 0, latch := [] }

/-- Audio at power-up. -/
def Audio.init : Audio :=
  { routed := none, lock := false, muted := false, ratio := 0, slave := 0, read := 0, rem := 0, fading := 0,
    shift := 0, sentL := 0, sentR := 0, frames := 0, err := 0, markers := [] }

/-- Port at power-up. -/
def Port.init : Port :=
  { queue := [], sent := none, seq := 0, drop := none, stHold := true, dropped := 0, drops := 0, capLeft := 0,
    capWait := [], aud := Vector.replicate 2 Audio.init, routeReqs := [] }

/-- Welt at power-up. -/
def Welt.init : Welt :=
  { role := .solo, deciding := false, partner := .solo, partnerPri := false, pri := false,
    up := false, hbRun := 0, hbMiss := 0, digestOk := false, mismatch := false, conf := ⟨0, 0⟩,
    diverged := false, adopting := false, adoptFails := 0, adopted := false, inSync := false,
    pages := [], mirrored := [], ticks := [], sendFull := false, arbitrating := false,
    absences := 0, lastBeacon := ⟨0, 0⟩, heard := false, ambiguous := false, yielding := false,
    txSeq := 1, unacked := [], rxSeq := 0, beat := none, sync := 0, troupeSeq := [], beaconSeq := 0, shadow := [],
    silent := [], reports := [], theirs := [], digCmp := 0, take := 0, resends := 0, crcErrs := 0,
    mismatches := 0, matches_ := 0, shadowLost := 0, evt := 0, latchHi := 0 }

/-- Bank at power-up. -/
def Bank.init : Bank :=
  { bytes := [], valid := false, ver := 0, digest := [] }

/-- Store at power-up. -/
def Store.init : Store :=
  { bankA := Bank.init, bankB := Bank.init, active := none, previous := none, inst := .none,
    instAt := .none, target := false, imgLen := 0, got := 0, chunk := [], chunksLost := 0,
    recheck := none, journal := [], journalSeq := 0, calSlots := [], calSlot := 0, calPrev := 0,
    commit := .idle, commitDue := false, sweepLost := false, calEmpty := false, boot := 0, ivk := none, ivkView := [],
    op := none, c := 0, vhold := 0, vsys := 0, need := 0, evt := 0 }

/-- Awl at power-up. -/
def Awl.init : Awl :=
  { running := true, powerUp := true, mask := 0, req := none, pass := 0, fail := 0, warn := 0,
    defer := 0, cause := 0, details := [], degraded := false }

/-- Supply at power-up. -/
def Supply.init : Supply :=
  { power := .hold, dom := #v[.up, .up, .up, .down, .down], vsysGood := true, vioGood := true,
    hiZ := false, testHigh := false, vio33 := true, rstCause := 1, resetPin := true, wakePin := false,
    failing := false, moving := false, starting := false }

end Sys2Proof.Machine
end

