-- ==== Sys2Proof/Machine/State.lean ====
section
/-! DEFINITION. The state of the device: the blocks of chapters 2 to 20, the configuration registers
that hold no block state of their own, and the queue of commands that wait. -/

namespace Sys2Proof.Machine

open Sys2Proof

/-- A configuration register written and waiting for the tick edge at which the write takes effect
(R823, R838): its address, its value and the count of tick edges at the write. -/
structure RegWrite where
  addr : Nat
  value : Word
  edge : Nat
  deriving DecidableEq, Repr

/-- The device. -/
structure State where
  /-- the Last (chapter 2) -/
  last : Last
  /-- record intake (chapter 3) -/
  intake : Intake
  /-- the benches, the ledger, the checkpoints and the image (chapters 4 and 5) -/
  prog : Program
  /-- the tack store (chapter 6) -/
  tack : TackStore
  /-- the RF chains (chapter 7) -/
  radio : Radio
  /-- clocks, synthesizers and the calibration table (chapter 8) -/
  clk : Clocks
  /-- the lane array, the sample pool and the coefficient RAM (chapter 9) -/
  lanes : Lanes
  /-- the FM receivers and programme outputs (chapter 10) -/
  fm : Fm
  /-- following (chapter 11) -/
  follow : Follow
  /-- the ensemble decoders (chapter 12) -/
  dab : Vector Decoder 2
  /-- the hearth link (chapter 13) -/
  hearth : Hearth
  /-- the regulatory seal and the duty buckets (chapter 13) -/
  theSeal : SealState
  /-- infrared and GPIO (chapters 14 and 22) -/
  infra : Infra
  /-- the two-wire bus (chapter 15) -/
  bus : Bus
  /-- mailboxes, eyelets, sessions and keys (chapter 16) -/
  mail : Mail
  /-- the stream port and the audio ports (chapter 17) -/
  port : Port
  /-- the welt link (chapter 18) -/
  welt : Welt
  /-- the store (chapter 19) -/
  store : Store
  /-- the Awl (chapter 19) -/
  awl : Awl
  /-- supplies, resets and power domains (chapters 1 and 19) -/
  supply : Supply
  /-- the fault log (chapter 20) -/
  flt : FaultLog
  /-- read-write registers that hold plain values, by address: those that differ from their reset
  value, in rising order of address (chapters 21 and 22) -/
  regs : List (Nat × Word)
  /-- writes of configuration registers that wait for their tick edge, oldest first -/
  regWrites : List RegWrite
  /-- the model's own counter of free values used (no part of the device) -/
  freeCtr : Nat
  /-- the commands that wait, first in, first out (the model's own) -/
  pending : List Instr
  deriving DecidableEq, Repr

/-- Why a command stops the model with a fault.  There is no such reason: what the spec calls a
fault of the device is an effect on State, and the spec gives every command an effect. -/
inductive Fault
  deriving DecidableEq, Repr

/-- Why a command is refused. -/
inductive Refusal where
  /-- raised by the arms of `exec` for a command that has no meaning yet; safe: the model stops -/
  | notModelled (mnemonic : String)
  deriving DecidableEq, Repr

/-- The device right after a power-on reset, on entry to AWL_HOLD with the power-up Awl running: the
state whose register values the Reset columns of chapters 21 and 22 give.
DESIGN CHOICE, unsafe: log entry 1. DESIGN CHOICE, unsafe: log entry 20. -/
def State.reset : State :=
  { last := Last.init, intake := Intake.init, prog := Program.init, tack := TackStore.init,
    radio := Radio.init, clk := Clocks.init, lanes := Lanes.init, fm := Fm.init,
    follow := Follow.init, dab := Vector.replicate 2 Decoder.init, hearth := Hearth.init,
    theSeal := SealState.init, infra := Infra.init, bus := Bus.init, mail := Mail.init,
    port := Port.init, welt := Welt.init, store := Store.init, awl := Awl.init,
    supply := Supply.init, flt := FaultLog.init, regs := [], regWrites := [], freeCtr := 0,
    pending := [] }

end Sys2Proof.Machine
end

