-- ==== Sys2Proof/Machine/Ops.lean ====
section
/-! DEFINITION. The operations the families share: sparse memories, positions, configuration
registers, the delivery of events, the stream buffer, the fault log, replies, and mailbox slots. -/

namespace Sys2Proof.Machine

open Sys2Proof

/-! ### Sparse memories -/

/-- What a sparse memory holds at `a`: an address not listed reads `d`. -/
def sget {α : Type} (d : α) : List (Nat × α) → Nat → α
  | [], _ => d
  | (k, v) :: m, a => if a = k then v else sget d m a

/-- A sparse memory with `v` at `a`; addresses stay in rising order and no entry holds `d`. -/
def sput {α : Type} [DecidableEq α] (d : α) : List (Nat × α) → Nat → α → List (Nat × α)
  | [], a, v => if v = d then [] else [(a, v)]
  | (k, w) :: m, a, v =>
    if a < k then (if v = d then (k, w) :: m else (a, v) :: (k, w) :: m)
    else if a = k then (if v = d then m else (k, v) :: m)
    else (k, w) :: sput d m a v

/-- The canonical form of a sparse memory: rising addresses, and no entry that holds the default. -/
def swf {α : Type} [DecidableEq α] (d : α) : List (Nat × α) → Bool
  | [] => true
  | [(_, v)] => v != d
  | (k, v) :: (l, w) :: m => v != d && decide (k < l) && swf d ((l, w) :: m)

/-- `n` bytes of a byte memory from address `a`. -/
def readBytes (m : List Host.Cell) (a : Nat) : Nat → List Byte
  | 0 => []
  | n + 1 => sget 0 m a :: readBytes m (a + 1) n

/-- A byte memory with bytes written from address `a` on. -/
def writeBytes (m : List Host.Cell) (a : Nat) : List Byte → List Host.Cell
  | [] => m
  | x :: xs => writeBytes (sput 0 m a x) (a + 1) xs

/-- The byte memory that bytes from address `a` on make, in canonical form. -/
def cellsOf (a : Nat) : List Byte → List Host.Cell
  | [] => []
  | x :: xs => if x = 0 then cellsOf (a + 1) xs else (a, x) :: cellsOf (a + 1) xs

/-- A list of numbered values brought into the canonical form of a sparse memory. -/
def canon {α : Type} [DecidableEq α] (d : α) (m : List (Nat × α)) : List (Nat × α) :=
  m.foldl (fun r e => sput d r e.1 e.2) []

/-! ### Numbered lists -/

/-- The item numbered `k`. -/
def kget {α : Type} (m : List (Nat × α)) (k : Nat) : Option α :=
  (m.find? fun e => e.1 == k).map (·.2)

/-- The list with item `k` added or replaced, in rising order. -/
def kput {α : Type} : List (Nat × α) → Nat → α → List (Nat × α)
  | [], k, v => [(k, v)]
  | (l, w) :: m, k, v =>
    if k < l then (k, v) :: (l, w) :: m
    else if k = l then (k, v) :: m
    else (l, w) :: kput m k v

/-- The list without item `k`. -/
def kdel {α : Type} (m : List (Nat × α)) (k : Nat) : List (Nat × α) := m.filter fun e => e.1 != k

/-! ### Vectors -/

/-- A vector with one element changed; an index beyond its end changes nothing. -/
def vset {α : Type} {n : Nat} (v : Vector α n) (i : Nat) (x : α) : Vector α n :=
  if h : i < n then v.set i x h else v

/-- An element of a vector, `d` beyond its end. -/
def vget {α : Type} {n : Nat} (d : α) (v : Vector α n) (i : Nat) : α :=
  if h : i < n then v[i] else d

/-! ### Positions (R133) -/

/-- Epoch `a` is later than epoch `b`: serial order over the non-zero epochs; epoch 0 precedes every
other (R133).
DEDUCED, unsafe: log entry 30. -/
def epochLater (a b : Nat) : Bool :=
  if a = b then false
  else if b = 0 then true
  else if a = 0 then false
  else decide ((a + 65535 - b) % 65535 ≤ 32767)

/-- The order of positions: by epoch first and PP second (R133).
DEDUCED, unsafe: log entry 30. -/
def posLt (p q : Pos) : Bool :=
  if p.epoch = q.epoch then decide (p.pp < q.pp) else epochLater q.epoch p.epoch

/-- `p` precedes or equals `q`. -/
def posLe (p q : Pos) : Bool := p == q || posLt p q

/-- The superframe number of a PP (R37). -/
def sfOf (pp : Nat) : Nat := pp / 456

/-- Two positions of one (epoch, superframe). -/
def sameSf (p q : Pos) : Bool := p.epoch == q.epoch && sfOf p.pp == sfOf q.pp

/-- The Last epoch after the next step: it wraps from 0xFFFF to 0x0001 (R67). -/
def nextEpoch (e : Nat) : Nat := if e = 0xFFFF then 1 else e + 1

namespace State

/-- The position the Last publishes.
DEDUCED, unsafe: log entry 53. -/
def now (s : State) : Pos := ⟨s.last.epoch, s.last.pp⟩

/-- Whether a power domain is up. -/
def up (s : State) (d : Domain) : Bool := s.supply.dom[d.ctorIdx]? == some .up

/-- Whether the Last is stopped (R77). -/
def stopped (s : State) : Bool := s.last.mode == .stopped

/-- A bench. -/
def bench (s : State) (b : Nat) : Bench := vget Bench.init s.prog.bench b

/-- The state with bench `b` replaced. -/
def setBench (s : State) (b : Nat) (n : Bench) : State :=
  { s with prog := { s.prog with bench := vset s.prog.bench b n } }

/-- A STANDBY or PARTED member, or one of a pair that has taken no role yet: nothing reaches the outside
(R722). -/
def silent (s : State) : Bool :=
  s.welt.role == .standby || s.welt.role == .parted || s.welt.deciding

/-- A fresh 16-bit free value.
PRESUMED, unsafe: log entry 12. -/
def free16 (s : State) : BitVec 16 × State :=
  (Config.freeHalf s.freeCtr, { s with freeCtr := s.freeCtr + 1 })

end State

/-! ### Configuration registers -/

/-- The reset values of the registers that hold plain values (Tables 21-6 to 22-12); every other
such register resets to 0. -/
def resetTable : List (Nat × Word) :=
  [(0x003, 0x00000003), (0x100, 0x02710003), (0x102, 0x0000000F), (0x180, 0x0E000013),
   (0x280, 0x27101007), (0x282, 0x08000000),
   (0x293, 0x88888888), (0x294, 0x88888888), (0x295, 0x88888888), (0x296, 0x88888888),
   (0x297, 0x88888888), (0x298, 0x88888888), (0x299, 0x88888888), (0x29A, 0x88888888),
   (0x29B, 0x88888888), (0x29C, 0x88888888), (0x29D, 0x88888888), (0x29E, 0x88888888),
   (0x29F, 0x00000888), (0x300, 0x001E0A00), (0x301, 0x00444688), (0x380, 0x000A6408),
   (0x383, 0x000007FF), (0x3C8, 0x00181800), (0x3CC, 0x00181800), (0x410, 0x0000010A),
   (0x503, 0x0000E000), (0x505, 0x00000002), (0x507, 0x80000000),
   (0x523, 0x0000E000), (0x525, 0x00000002), (0x527, 0x80000000),
   (0x540, 0x00000200), (0x600, 0x00020810), (0xC00, 0x00054442),
   (0xC10, 0x00000100), (0xC11, 0x00001414), (0xC12, 0x2814321E),
   (0xC18, 0x00000100), (0xC19, 0x00001414), (0xC1A, 0x2814321E), (0xC40, 0x000040A0),
   (0xD00, 0x00000080), (0xD20, 0x00000080), (0xD40, 0x00000015), (0xE00, 0x00000042),
   (0xF11, 0x0007FFFF)]

/-- The reset value of a register that holds a plain value. -/
def regReset (a : Nat) : Word := sget 0 resetTable a

namespace State

/-- The present value of a register that holds a plain value.
DESIGN CHOICE, unsafe: log entry 6. -/
def reg (s : State) (a : Nat) : Word := sget (regReset a) s.regs a

/-- The state with such a register set.
DESIGN CHOICE, unsafe: log entry 6. -/
def setReg (s : State) (a : Nat) (v : Word) : State :=
  { s with regs := sput (regReset a) s.regs a v }

/-- A field of such a register. -/
def fld (s : State) (a hi lo : Nat) : Nat := (s.reg a).bits hi lo

/-- The registers `lo … hi` back at their reset values, and writes to them forgotten (R822). -/
def clearRegs (s : State) (lo hi : Nat) : State :=
  { s with
    regs := s.regs.filter fun e => !(decide (lo ≤ e.1) && decide (e.1 ≤ hi))
    regWrites := s.regWrites.filter fun w => !(decide (lo ≤ w.addr) && decide (w.addr ≤ hi)) }

end State

/-! ### Events (chapter 4) -/

/-- The class codes of Table 4-1. -/
def EvClass.code : EvClass → Nat
  | .record => 1 | .stamp => 2 | .rewind => 3 | .skip => 4 | .lastloss => 5 | .tackdone => 6
  | .mail => 7 | .eyelet => 8 | .radio => 9 | .wakeat => 10 | .fault => 11 | .pair => 12

/-- The ranks of Table 4-1. -/
def EvClass.rank : EvClass → Nat
  | .rewind => 1 | .skip => 1 | .stamp => 2 | .lastloss => 3 | .fault => 4 | .tackdone => 5
  | .record => 6 | .mail => 7 | .eyelet => 8 | .radio => 9 | .pair => 10 | .wakeat => 11

/-- The number under which an event carries the model's own mark that it is ancient; no program reads it.
DEDUCED, unsafe: log entry 30. -/
def ancientMark : Nat := 33

/-- An event still held when its epoch has come to lie 32 768 steps behind the present one: it counts as
earlier than every present position (R133). -/
def Event.ancient (e : Event) : Bool := e.fields.any fun f => f.1 == ancientMark

/-- The epoch `a` lies 32 768 steps behind the present epoch `now` (R133). -/
def agesAt (a now : Nat) : Bool := a != 0 && now != 0 && (now + 65535 - a) % 65535 == 32768

/-- An event at the moment the Last takes epoch `now` (R133). -/
def Event.aged (now : Nat) (e : Event) : Event :=
  if agesAt e.pos.epoch now && !e.ancient then { e with fields := e.fields ++ [(ancientMark, 1)] } else e

/-- An event belongs to position `p` or an earlier one. -/
def Event.dueAt (e : Event) (p : Pos) : Bool := e.ancient || posLe e.pos p

/-- A post or cancel on its way to the store at the moment the Last takes epoch `now` (R133). -/
def TackEntry.aged (now : Nat) (e : TackEntry) : TackEntry :=
  if agesAt e.pos.epoch now then { e with ancient := true } else e

/-- Sequence number `a` precedes `b` in serial order. -/
def seqBefore (a b : Nat) : Bool :=
  let d := (b + 65536 - a) % 65536
  d != 0 && decide (d ≤ 32767)

/-- The addition to the order key of a RECORD released while the Last is stopped: it stands behind everything
else stamped with the frozen PP (R121).
DEDUCED, unsafe: log entry 7. -/
def lateKey : Nat := 2 ^ 40

/-- The rank of an event within its position (Table 4-1, R121). -/
def Event.rank (e : Event) : Nat :=
  if e.cls = .record ∧ lateKey ≤ e.key then 12 else e.cls.rank

/-- The order within a rank (Table 4-2): by key, and RECORDs of one carrier priority and stream by
sequence number, in serial order (R115). -/
def Event.keyBefore (e f : Event) : Bool :=
  decide (e.key < f.key) ||
    (e.key == f.key && e.cls == .record && f.cls == .record &&
      seqBefore (sget 0 e.fields 8).toNat (sget 0 f.fields 8).toNat)

/-- Event `e` is taken before event `f`: by position, then rank, then the order within a rank
(R125, Table 4-2); ancient ones first (R133). -/
def Event.before (e f : Event) : Bool :=
  (e.ancient && !f.ancient) ||
    (e.ancient == f.ancient &&
      (posLt e.pos f.pos ||
        (e.pos == f.pos &&
          (decide (e.rank < f.rank) || (e.rank == f.rank && e.keyBefore f)))))

/-- An event inserted after every event that is not taken later than it.
DEDUCED, safe: log entry 7. -/
def insertEvent (e : Event) : List Event → List Event
  | [] => [e]
  | f :: q => if e.before f then e :: f :: q else f :: insertEvent e q

/-- An event queued at a bench; with the queue of 1024 entries full, or while others are held back,
its source holds it back (R132).
DEDUCED, safe: log entry 7. -/
def Bench.enqueue (n : Bench) (e : Event) : Bench :=
  if n.queue.length < 1024 && n.held.isEmpty then
    { n with queue := insertEvent e n.queue, queueHigh := max n.queueHigh (n.queue.length + 1) }
  else { n with held := n.held ++ [e] }

/-- The bench takes events: it runs, replays, or is about to join the barrier. -/
def Bench.takes (n : Bench) : Bool := n.joining || n.mode == .run || n.mode == .replay

namespace State

/-- What is still held at a position when the Last takes epoch `e` ages by one step (R133). -/
def ageItems (s : State) (e : Nat) : State :=
  { s with
    prog.bench := s.prog.bench.map fun (n : Bench) => { n with
      queue := n.queue.map (Event.aged e), held := n.held.map (Event.aged e)
      inbox := n.inbox.map (Event.aged e) }
    tack.entries := s.tack.entries.map (TackEntry.aged e) }

/-- One more event counted in BENCH_DROPPED (Table 4-10). -/
def dropEvent (s : State) : State :=
  { s with prog := { s.prog with dropped := satAdd 0xFFFFFFFF s.prog.dropped 1 } }

/-- An event delivered to bench `b`: queued when the bench takes events, discarded and counted when
it is HALTED (R141), discarded when it is OFF (R165).
DEDUCED, safe: log entry 17. -/
def deliver (s : State) (b : Nat) (e : Event) : State :=
  if !s.up .bench then s
  else if (s.bench b).takes then s.setBench b ((s.bench b).enqueue e)
  else if (s.bench b).mode == .halted then s.dropEvent
  else s

/-- An event delivered to every bench (R69). -/
def deliverAll (s : State) (e : Event) : State :=
  [0, 1, 2, 3, 4].foldl (fun s b => s.deliver b e) s

/-- A RADIO event to bench 4, stamped with the published position (R260). -/
def radioEvent (s : State) (code : Nat) (win : List Byte) (fields : List (Nat × Word)) : State :=
  s.deliver 4 ⟨.radio, s.now, 0, 0, BitVec.ofNat 32 code, win, fields⟩

/-- The one reply of a radio request: its measurement code, request ID, status and window (R218).
-/
def reply (s : State) (code id status : Nat) (win : List Byte) : State :=
  s.radioEvent code win [(14, BitVec.ofNat 32 status), (15, BitVec.ofNat 32 id)]

/-- A pending request placed among others in ascending ID. -/
def insertId (e : Nat × Nat × List Byte) : List (Nat × Nat × List Byte) → List (Nat × Nat × List Byte)
  | [] => [e]
  | x :: xs => if e.1 ≤ x.1 then e :: x :: xs else x :: insertId e xs

/-- The requests pending in a block that is reset, each as its ID, measurement code and window, completed
ABORTED_BY_RESET in ascending ID (R813). -/
def abortAll (s : State) (rs : List (Nat × Nat × List Byte)) : State :=
  (rs.foldr insertId []).foldl (fun (s : State) e => s.reply e.2.1 e.1 stAborted e.2.2) s

/-- A RADIO event that a standing request causes: it carries the request ID in HANDLE, 0 for none
(R218). -/
def radioFor (s : State) (code id : Nat) (win : List Byte) : State :=
  s.radioEvent code win (if id = 0 then [] else [(15, BitVec.ofNat 32 id)])

/-- The promise is void from the superframe of position `p` on (R10). -/
def voidFrom (s : State) (p : Pos) : State :=
  { s with prog := { s.prog with
      voidTo := none
      void := match s.prog.void with
        | some q => if posLt p q || s.prog.voidTo.isSome then some p else some q
        | none => some p } }

/-! ### Alert causes (chapter 15) -/

/-- Cause bit `i` of Table 15-5 arises: unmasked, it drives ALERT# again at once after a win of the Alert
Response (R640), and with ALERTMODE at 1 or 2 it asks for a Host Notify, unless NOTIFYFAIL stands (R642,
R645).
DEDUCED, safe: log entry 52. -/
def arise (s : State) (i : Nat) : State :=
  if (s.reg 0x383).bit i then
    { s with
      bus.released := false
      bus.notifying := s.bus.notifying || (s.fld 0x380 2 1 != 0 && !s.bus.notifyFail) }
  else s

/-- Latched alert cause `i` of Table 15-5.
DEDUCED, safe: log entry 52. -/
def alert (s : State) (i : Nat) : State :=
  let t := { s with bus.latched := s.bus.latched ||| 2 ^ i }
  if s.bus.latched.testBit i then t else t.arise i

/-- A device-to-host slot of mailboxes 0–11 holds a message. -/
def mboxPending (s : State) : Bool :=
  (List.range 12).any fun m => (vget none s.mail.outb m).isSome

/-- Host eyelets both rung and enabled. -/
def hostEyelets (s : State) : Word := vget 0 s.mail.rung 0 &&& vget 0 s.mail.mask 0

/-- The pending alert causes, masked or not (Table 15-5).
DEDUCED, safe: log entry 52. -/
def causes (s : State) : Nat :=
  bitNat s.mboxPending + 2 * bitNat (s.hostEyelets != 0) + 4 * bitNat (!s.flt.entries.isEmpty) +
    s.bus.latched

/-! ### The fault log (chapter 20) -/

/-- PP [31:0] of the published position, 0 while the BENCH domain is down (R803). -/
def faultPp (s : State) : Nat := if s.up .bench then s.last.pp % 2 ^ 32 else 0

/-- The present superframe, as fault merging and once-a-superframe rules compare it. -/
def sfMark (s : State) : Nat × Nat := (s.last.epoch, sfOf s.last.pp)

end State

/-- The 8 bytes of a fault log entry (Table 20-3). -/
def FaultEntry.bytes (e : FaultEntry) : List Byte :=
  bytesBE 2 e.code ++ bytesBE 1 e.unit ++ bytesBE 1 (e.cls * 64 + e.count) ++ bytesBE 4 e.pp

namespace State

/-- A raise as the fault log takes it: merged into the newest entry (R805), added, or, with the log
full, counted only (R806).  The entry answered is the one a fault stream packet carries (R807). -/
def logFault (s : State) (code unit cls : Nat) : FaultEntry × State :=
  let fresh : FaultEntry := ⟨code, unit, cls, 0, s.faultPp, s.now⟩
  let s := if s.flt.entries.isEmpty then s.arise 2 else s
  let put (l : List FaultEntry) (lost : Nat) : State :=
    { s with flt := { s.flt with entries := l, lost := satAdd 0xFFFFFFFF s.flt.lost lost } }
  let add : FaultEntry × State :=
    if s.flt.entries.length < 63 then (fresh, put (s.flt.entries ++ [fresh]) 0)
    else if s.flt.entries.length = 63 then
      (fresh, put (s.flt.entries ++ [⟨0x1001, 0xFF, clsNote, 0, s.faultPp, s.now⟩]) 1)
    else (fresh, put s.flt.entries 1)
  match s.flt.entries.getLast? with
  | some e =>
    if e.code = code && e.unit = unit && sameSf e.pos s.now then
      let m := { e with count := min 63 (e.count + 1), cls := max e.cls cls }
      (m, put (s.flt.entries.dropLast ++ [m]) 0)
    else add
  | none => add

/-- The FAULT event of a device fault, to bench 4, stamped with the position of the raise; its
window holds the raise's own entry with repeat count 0 (R807). -/
def faultEvent (s : State) (code unit cls : Nat) : State :=
  s.deliver 4 ⟨.fault, s.now, code, 0, BitVec.ofNat 32 code,
    FaultEntry.bytes ⟨code, unit, cls, 0, s.faultPp, s.now⟩, []⟩

/-! ### The stream buffer (chapter 17) -/

/-- Whether the loaded image declares that it relies on stream output. -/
def relyStream (s : State) : Bool := match s.prog.image with
  | some i => i.relyStream
  | none => false

/-- Bytes of the stream buffer in use.
DESIGN CHOICE, unsafe: log entry 27. -/
def bufUsed (s : State) : Nat := (s.port.queue.map fun p => p.bytes.length).sum

/-- The bytes of a packet (Table 17-1). -/
def packetBytes (type sub : Nat) (pos : Pos) (seq : Nat) (payload : List Byte) : List Byte :=
  let body := bytesBE 1 type ++ bytesBE 1 sub ++ bytesBE 2 payload.length ++ bytesBE 6 pos.pp ++
    bytesBE 2 pos.epoch ++ bytesBE 2 seq ++ payload
  body ++ bytesBE 2 (crc16 body).toNat

/-- The payload of the DROP packet of a run (Table 17-2). -/
def dropPayload (d : DropRun) : List Byte :=
  bytesBE 2 (min 0xFFFF d.count) ++ bytesBE 4 (min 0xFFFFFFFF d.bytes) ++ bytesBE 2 d.firstSeq ++
    bytesBE 6 d.lastPp

/-- The packet at the end of the queue, taking the next SEQ (R689).
DESIGN CHOICE, unsafe: log entry 27. -/
def appendPacket (s : State) (type sub : Nat) (pos : Pos) (payload : List Byte) : State :=
  { s with port := { s.port with
      queue := s.port.queue ++ [⟨packetBytes type sub pos s.port.seq payload⟩]
      seq := (s.port.seq + 1) % 65536 } }

/-- A packet of `len` bytes dropped whole: it takes a SEQ and joins the run of drops (R689, R696); it voids
the promise when the image relies on stream output (R698), and a dropped marker is a failed delivery
(R697).  The Boolean tells that this drop begins a run. -/
def losePacket (s : State) (marker : Bool) (pos : Pos) (len : Nat) : Bool × State :=
  let run : DropRun := match s.port.drop with
    | some d => { d with count := d.count + 1, bytes := d.bytes + len, lastPp := pos.pp }
    | none => ⟨1, len, s.port.seq, s.now, pos.pp⟩
  let t : State := { s with
    port := { s.port with
      drop := some run, seq := (s.port.seq + 1) % 65536
      dropped := satAdd 0xFFFF s.port.dropped 1 }
    tack := if marker then
      { s.tack with failMarker := satAdd 255 s.tack.failMarker 1 } else s.tack }
  (s.port.drop.isNone, if s.relyStream then t.voidFrom s.now else t)

/-- A packet queued, or dropped whole when the buffer less its reserve has no room for it or the
port is disabled (R695).  A packet queued after a run of drops follows that run's DROP packet
(R696).
DESIGN CHOICE, unsafe: log entry 27. -/
def tryPacket (s : State) (type sub : Nat) (pos : Pos) (payload : List Byte) : Bool × State :=
  let len := 16 + payload.length
  if (s.reg 0x3C0).bit 0 && decide (s.bufUsed + len ≤ 262080) then
    match s.port.drop with
    | none => (false, s.appendPacket type sub pos payload)
    | some d =>
      let s := s.appendPacket 0x0F 0 d.firstPos (dropPayload d)
      let s := { s with port := { s.port with drop := none, drops := satAdd 0xFFFF s.port.drops 1 } }
      (false, s.appendPacket type sub pos payload)
  else s.losePacket (type == 8 || type == 9) pos len

/-- The fault stream packet of a raise, when FLTSTREAM is 1 (R807). -/
def streamFault (s : State) (e : FaultEntry) : Bool × State :=
  if (s.reg 0x3C0).bit 3 then s.tryPacket 6 0 ⟨s.last.epoch, e.pp⟩ e.bytes else (false, s)

/-- What the first drop of a run brings: fault 0x9301 and STREAM_DROP to bench 4 (R696). -/
def dropBegins (s : State) : State :=
  let cls := if s.relyStream then clsVoid else clsNote
  let r := s.logFault 0x9301 0xFF cls
  let s := r.2.faultEvent 0x9301 0xFF cls
  let s := (s.streamFault r.1).2
  s.radioFor 0x0B21 0 []

/-- A stream packet produced (R690, R695, R696). -/
def packet (s : State) (type sub : Nat) (pos : Pos) (payload : List Byte) : State :=
  let r := s.tryPacket type sub pos payload
  if r.1 then r.2.dropBegins else r.2

/-- A fault of the device raised: logged, delivered to bench 4 as a FAULT event, and streamed
(R805, R806, R807). -/
def raise (s : State) (code unit cls : Nat) : State :=
  let r := s.logFault code unit cls
  let s := r.2.faultEvent code unit cls
  let t := s.streamFault r.1
  if t.1 then t.2.dropBegins else t.2

/-- A fault of class NOTE with no unit. -/
def note (s : State) (code : Nat) : State := s.raise code 0xFF clsNote

/-- A bench fault raised: as `raise`, but its FAULT event goes to the faulted bench alone, by its own
path (R127, R807). -/
def raiseBench (s : State) (code b cls : Nat) : State :=
  let r := s.logFault code b cls
  let t := r.2.streamFault r.1
  if t.1 then t.2.dropBegins else t.2

/-! ### Mailbox slots and host eyelets (chapter 16) -/

/-- A message landed in an EMPTY outbound slot: `none` when the slot holds a message (R658). -/
def postOut (s : State) (mb : Nat) (sender : Sender) (bytes : List Byte) (pos : Pos) :
    Option State :=
  match vget none s.mail.outb mb with
  | some _ => none
  | none =>
    let s := if mb < 12 && !s.mboxPending then s.arise 0 else s
    some { s with mail := { s.mail with
      outb := vset s.mail.outb mb (some ⟨bytes, sender, pos, 0, false, false, false, false⟩) } }

/-- A bench post or MAIL tack refused FULL: counted, and fault 0x9202 once a superframe for each
mailbox (R658). -/
def postRefused (s : State) (mb : Nat) : State :=
  let seen := s.mail.refusedSf.any fun e => e.1 == mb && e.2 == s.sfMark
  let s := { s with mail := { s.mail with
    refused := satAdd 255 s.mail.refused 1
    refusedSf := (mb, s.sfMark) :: s.mail.refusedSf.filter fun e => e.1 != mb } }
  if seen then s else s.raise 0x9202 mb clsNote

/-- An eyelet of the host endpoint rung: its RUNG bit set (R668). -/
def ringHost (s : State) (e : Nat) : State :=
  let s := if s.hostEyelets == 0 && (vget 0 s.mail.mask 0).bit (e % 32) then s.arise 1 else s
  { s with mail := { s.mail with
    rung := vset s.mail.rung 0 (vget 0 s.mail.rung 0 ||| BitVec.ofNat 32 (2 ^ e)) } }

/-! ### Welt frames (chapter 18) -/

/-- Whether this member mirrors what it does to a STANDBY partner. -/
def mirrors (s : State) : Bool := s.welt.role == .active && s.welt.up

/-- A sequenced welt frame sent and held until it is acknowledged (R713). -/
def weltSend (s : State) (p : WPayload) : State :=
  { s with welt := { s.welt with
      unacked := s.welt.unacked ++ [⟨s.welt.txSeq, p⟩], txSeq := (s.welt.txSeq + 1) % 65536 } }

/-- A frame that only an active member with its link up sends (Table 18-2). -/
def mirror (s : State) (p : WPayload) : State := if s.mirrors then s.weltSend p else s

end State

end Sys2Proof.Machine
end

