-- ==== Sys2Proof/Machine/Benches.lean ====
section
/-! DEFINITION. The benches (chapter 4): handlers, bench faults and replay, the barrier, the ledger,
checkpoints, wakes, and the starting and stopping of benches. -/

namespace Sys2Proof.Machine

open Sys2Proof

/-- The place of an event's handler among a bench's 18 entries of the handler table (Table 4-9). -/
def tableIndex (e : Event) : Option Nat :=
  match e.cls with
  | .record =>
    if 1 ≤ e.sub ∧ e.sub ≤ 5 then some (e.sub - 1)
    else if e.sub = 0x7F then some 5
    else if 0x80 ≤ e.sub then some 6 else none
  | .stamp => some 7 | .rewind => some 8 | .skip => some 9 | .lastloss => some 10
  | .tackdone => some 11 | .mail => some 12 | .eyelet => some 13 | .radio => some 14
  | .wakeat => some 15 | .fault => some 16 | .pair => some 17

/-- The handler that the image names for an event on bench `b`. -/
def Image.handler (i : Image) (b : Nat) (e : Event) : Option HEntry :=
  (tableIndex e).bind fun k => (i.table[18 * b + k]?).join

/-- The number under which an event carries the model's own mark of a mirrored host message or ring, which
has no slot and no RUNG bit on this member; no program reads it.
DESIGN CHOICE, safe: log entry 49. -/
def mirrorMark : Nat := 32

/-- An event of a mirrored host message or ring.
DESIGN CHOICE, safe: log entry 49. -/
def Event.mirrored (e : Event) : Bool := e.fields.any fun f => f.1 == mirrorMark

/-- The mailbox of a host MAIL event that has a slot here (w4 is 0x10 + mailbox). -/
def Event.hostBox (e : Event) : Option Nat :=
  if e.cls = .mail ∧ 0x10 ≤ e.w4.toNat ∧ e.mirrored = false then some (e.w4.toNat - 0x10) else none

/-- The present value of event field `i` (Table 5-12); a field that does not apply reads 0 (R198). -/
def Event.field (e : Event) (i : Nat) : Word :=
  match i with
  | 0 => BitVec.ofNat 32 e.cls.code
  | 1 => BitVec.ofNat 32 e.sub
  | 2 => BitVec.ofNat 32 e.pos.epoch
  | 3 => BitVec.ofNat 32 e.pos.pp
  | 4 => BitVec.ofNat 32 (e.pos.pp / 2 ^ 32)
  | 5 => BitVec.ofNat 32 e.win.length
  | _ => sget 0 e.fields i

/-- A byte of the event window; bytes from LEN on read 0 (R195). -/
def Event.window (e : Event) (i : Nat) : Byte := byteAt e.win i

/-- The registers at handler entry (Table 4-3, R168). -/
def entryRegs (e : Event) : Vector Word 16 :=
  let w1 := BitVec.ofNat 32 (e.cls.code + e.sub % 256 * 16 + e.pos.epoch % 65536 * 65536)
  let w2 := BitVec.ofNat 32 e.pos.pp
  let w3 := BitVec.ofNat 32 (e.pos.pp / 2 ^ 32 % 65536)
  #v[0, w1, w2, w3, e.w4, 0, 0, 0, 0, 0, 0, 0, 0, 0, 0, 0]

/-- A length rounded up to a multiple of 4 (Table 4-12). -/
def round4 (n : Nat) : Nat := (n + 3) / 4 * 4

/-- The room an item takes in the replay log (Table 4-12). -/
def LogItem.size : LogItem → Nat
  | .llw _ => 4
  | .lsw _ _ => 8
  | .tpost _ _ => 68
  | .tcan _ => 4
  | .msend _ len _ _ => 4 + round4 len
  | .mpost _ len _ _ => 4 + round4 len
  | .ring _ => 4
  | .radio _ _ _ => 36

/-- The room of a handler's entry record and window (Table 4-12). -/
def entrySize (e : Event) : Nat := 20 + round4 e.win.length

/-- The wake slots after a WAKEAT event has been taken, discarded or skipped: its slot disarmed. -/
def Bench.disarm (n : Bench) (e : Event) : Bench :=
  if e.cls = .wakeat then { n with wakes := vset n.wakes e.sub none } else n

namespace State

/-- What the most recent checkpoint holds of bench `b` (R153). -/
def benchCkpt (s : State) (b : Nat) : Option BenchCkpt :=
  s.prog.ckpt.bind fun c => c.benches[b]?

/-- The initial data memory that the image gives bench `b`. -/
def initialData (s : State) (b : Nat) : List Host.Cell :=
  match s.prog.image with
  | some i => i.data.getD b []
  | none => []

/-- Words in the code section; the PC runs from 0 to one less (R167). -/
def codeWords (s : State) : Nat :=
  match s.prog.image with
  | some i => i.codeLen / 4
  | none => 0

/-- What follows the discarding of an event, or the taking of it, at its source: the slot of a host
message becomes EMPTY (R660) and the RUNG bit of an eyelet clears (R669). -/
def consumed (s : State) (b : Nat) (e : Event) : State :=
  match e.hostBox with
  | some mb => { s with mail := { s.mail with inb := vset s.mail.inb mb none } }
  | none =>
    if e.cls = .eyelet ∧ e.mirrored = false then
      let bit := BitVec.ofNat 32 (2 ^ (e.w4.toNat % 32))
      { s with mail := { s.mail with
        rung := vset s.mail.rung (b + 1) (vget 0 s.mail.rung (b + 1) &&& ~~~bit)
        ringQueued := vset s.mail.ringQueued b (vget 0 s.mail.ringQueued b &&& ~~~bit) } }
    else s

/-- Events of a bench discarded and counted. -/
def discardEvents (s : State) (b : Nat) (es : List Event) : State :=
  es.foldl (fun s e => (s.dropEvent).consumed b e) s

/-! ### The end of a position -/

/-- A wake that is due at position `p`: it fires at the first position whose PP is its own or later
(R129), or at the next position whatever its PP (R220, R141). -/
def wakeDue (p : Pos) (w : Wake) : Bool :=
  w.pos != p && (w.passed || decide (w.pp ≤ p.pp))

end State

/-- A bench has finished position `p`. -/
def Bench.finished (n : Bench) (p : Pos) : Bool :=
  match n.mode with
  | .run =>
    n.handler.isNone && n.queue.all (fun e => !e.dueAt p) && n.held.all (fun e => !e.dueAt p) &&
      n.wakes.toList.all (fun w => match w with | some w => !State.wakeDue p w | none => true)
  | .replay => false
  | _ => true

namespace State

/-- Every bench has finished the barrier position.
DEDUCED, safe: log entry 8. -/
def barrierDone (s : State) : Bool :=
  match s.prog.barrier with
  | some p => s.prog.bench.toList.all fun n => n.finished p
  | none => true

/-- The ledger with the buffered writes of the benches applied in ascending bench number (R146). -/
def applyLedger (s : State) : State :=
  let ledger := s.prog.bench.toList.foldl
    (fun l n => n.ledgerBuf.foldr (fun e l => sput 0 l e.1 e.2) l) s.prog.ledger
  { s with prog := { s.prog with
    ledger := ledger
    bench := s.prog.bench.map fun n =>
      { n with ledgerBuf := [], lsws := 0, sent := Vector.replicate 5 0 } } }

/-- The MPOSTs that cue benches issued at the position that ends, applied in ascending bench number
and, within a bench, in execution order (R663). -/
def applyPosts (s : State) : State :=
  let posts := s.mail.heldPosts
  let s := { s with mail := { s.mail with heldPosts := [] } }
  [0, 1, 2, 3].foldl (fun s b =>
    (posts.filter fun p => p.bench == b).foldl (fun s p =>
      match s.postOut p.mb (.bench b) p.bytes p.pos with
      | some s => s
      | none => s.postRefused p.mb) s) s

/-! ### The barrier -/

/-- The barrier position: the earliest position that some bench has not finished (chapter 4,
Ground). -/
def barrierPos (s : State) : Option Pos :=
  if s.barrierDone then s.prog.opened.head? else s.prog.barrier

/-- BENCH_LAG [15:0]: the positions from the barrier position to the published one, both counted
(Table 4-10). -/
def lag (s : State) : Nat :=
  min 65535 (s.prog.opened.length + if s.barrierDone then 0 else 1)

/-- The high-water of the lag, and fault 0x8120 when the lag reaches 19; the condition clears at 1
(R161). -/
def watchLag (s : State) : State :=
  let l := s.lag
  let s := { s with prog := { s.prog with lagHigh := max s.prog.lagHigh l } }
  if 19 ≤ l then
    if s.prog.lagged then s
    else ({ s with prog := { s.prog with lagged := true } }).note 0x8120
  else if l ≤ 1 then { s with prog := { s.prog with lagged := false } } else s

/-- What ends with a position, once every bench has finished it: the buffered ledger writes are applied
(R146) and the held MPOSTs land (R663), before the tacks of a later position are dispatched, and the lag
falls (R161).  While some bench has not finished it, nothing.
DEDUCED, safe: log entry 8. -/
def settle (s : State) : State := if s.barrierDone then s.applyPosts.applyLedger.watchLag else s

/-! ### Bench faults and replay -/

/-- A bench becomes HALTED: it runs no handler, its events, the FAULT events that waited for the following
position among them, are discarded and counted, and the barrier no longer waits for it (R141). -/
def haltBench (s : State) (b : Nat) : State :=
  let n := s.bench b
  let s := s.setBench b { n with
    mode := .halted, handler := none, replay := [], queue := [], held := [], inbox := [],
    faultEvs := [], joining := false, starting := false, leaving := false }
  (s.discardEvents b (n.queue ++ n.held ++ n.inbox ++ n.faultEvs)).settle

/-- The FAULT event of a bench fault, as it waits for the following position: its window holds the
raise's own entry (R807), FAULTPC and FAULTARG the instruction and the detail (Table 5-12). -/
def benchFaultEvent (s : State) (b code cls pc arg : Nat) : Event :=
  ⟨.fault, s.now, 0, 0, BitVec.ofNat 32 code,
    FaultEntry.bytes ⟨code, b, cls, 0, s.faultPp, s.now⟩,
    [(18, BitVec.ofNat 32 pc), (19, BitVec.ofNat 32 arg)]⟩

/-- A bench fault raised (R137, R166, R807): its FAULT event waits for the following position (R127), at
which a bench that is HALTED by then discards it. -/
def raiseFault (s : State) (b code cls pc arg : Nat) : State :=
  let ev := s.benchFaultEvent b code cls pc arg
  let s := s.raiseBench code b cls
  let s := { s with prog := { s.prog with lastFault := code, lastFaultBench := b } }
  s.setBench b { s.bench b with faultEvs := (s.bench b).faultEvs ++ [ev] }

/-- A replayed handler differed from the log: 0x8108, and the bench becomes HALTED (R139).
DESIGN CHOICE, unsafe: log entry 2. DEDUCED, safe: log entry 19. -/
def replayMismatch (s : State) (b : Nat) : State :=
  (s.raiseFault b 0x8108 clsNote (((s.bench b).handler.map (·.pc)).getD 0) 0).haltBench b

/-- A bench fault of handler `h` on bench `b` (R138): the handler's data-memory and ledger writes are
discarded, the bench takes back its data memory and wake slots from the last checkpoint and begins
the replay of its log, the faulted handler to be skipped.  The fourth fault within 16 superframes
halts the bench (R141); an overrun on a cue bench voids the promise (R142).  A fault within a replay
is a difference from the log.
DESIGN CHOICE, unsafe: log entry 2. DEDUCED, unsafe: log entry 16. DEDUCED, safe: log entry 19.
DEDUCED, safe: log entry 74. -/
def benchFault (s : State) (b : Nat) (h : Handler) (code arg : Nat) : State :=
  if (s.bench b).mode = .replay then s.replayMismatch b
  else
    let cue := decide (b < 4)
    let cls := if code = 0x8101 ∧ cue then clsVoid else clsNote
    let s := if code = 0x8101 ∧ cue then s.voidFrom h.ev.pos else s
    let s := s.raiseFault b code cls h.pc arg
    let n := s.bench b
    let recent := s.prog.sfs :: n.faultSfs.filter fun x => decide (s.prog.sfs < x + 16)
    let n := { n with
      handler := none, faultSfs := recent
      stepsSf := max n.stepsSf h.used
      log := n.log ++ [⟨h.ev, [], false⟩] }
    if 4 ≤ recent.length then
      ((s.setBench b n).raiseFault b 0x810A clsLost h.pc arg).haltBench b
    else
      let back := s.benchCkpt b
      let s := s.setBench b { n with
        mode := .replay
        data := (back.map (·.data)).getD (s.initialData b)
        wakes := (back.map (·.wakes)).getD (Vector.replicate 16 none)
        replay := n.log }
      { s with prog := { s.prog with restarts := satAdd 65535 s.prog.restarts 1 } }

/-! ### Host messages and eyelets -/

/-- A MAIL event of a host message, at position `p` (R659). -/
def mailEvent (mb : Nat) (m : Msg) (p : Pos) : Event :=
  let w := BitVec.ofNat 32 (0x10 + mb)
  ⟨.mail, p, 5, mb, w, m.bytes, [(12, w)]⟩

/-- An EYELET event, at position `p`. -/
def eyeletEvent (i : Nat) (p : Pos) : Event := ⟨.eyelet, p, 0, 0, BitVec.ofNat 32 i, [], []⟩

/-- The MAIL event of the message in inbound slot `mb` queued at `p`.
DEDUCED, safe: log entry 18. -/
def queueMail (s : State) (mb : Nat) (p : Pos) : State :=
  match vget none s.mail.inb mb with
  | some m =>
    let s := s.deliver m.reader (mailEvent mb m p)
    { s with mail := { s.mail with inb := vset s.mail.inb mb (some { m with queued := true }) } }
  | none => s

/-- The EYELET event of eyelet `i` of bench `b` queued at `p`.
DEDUCED, safe: log entry 18. -/
def queueEyelet (s : State) (b i : Nat) (p : Pos) : State :=
  let s := s.deliver b (eyeletEvent i p)
  let bits := vget 0 s.mail.ringQueued b ||| BitVec.ofNat 32 (2 ^ i)
  { s with mail.ringQueued := vset s.mail.ringQueued b bits }

/-- The messages and rung, enabled eyelets that wait for bench `b`, queued at `p`, messages in the
order of landing and eyelets in eyelet order (R661, R670, R676); on a STANDBY member they wait on
(R729).
DEDUCED, safe: log entry 18. -/
def queueWaiting (s : State) (b : Nat) (p : Pos) : State :=
  if s.welt.role = .standby then s
  else
    let boxes := (List.range 8).filter fun mb => match vget none s.mail.inb mb with
      | some m => m.reader == b && !m.queued
      | none => false
    let at_ := fun mb => match vget none s.mail.inb mb with | some m => m.pos | none => ⟨0, 0⟩
    let boxes := boxes.mergeSort fun i j => posLe (at_ i) (at_ j)
    let s := boxes.foldl (fun s mb => s.queueMail mb p) s
    let rung := vget 0 s.mail.rung (b + 1) &&& vget 0 s.mail.mask (b + 1) &&&
      ~~~vget 0 s.mail.ringQueued b
    ((List.range 32).filter fun i => rung.getLsbD i).foldl (fun s i => s.queueEyelet b i p) s

/-- A bench whose RUN bit was cleared goes OFF: its queued events are discarded and counted, its
wakes disarmed, while its host MAIL and EYELET events wait where they lie (R888). -/
def stopBench (s : State) (b : Nat) : State :=
  let n := s.bench b
  let all := n.queue ++ n.held ++ n.inbox ++ n.faultEvs
  let waits := fun e : Event => e.hostBox.isSome || e.cls == .eyelet
  let s := s.setBench b { n with
    mode := .off, leaving := false, handler := none, replay := []
    queue := [], held := [], inbox := [], faultEvs := []
    wakes := Vector.replicate 16 none, log := [], logBytes := 0 }
  let s := (all.filter fun e => !waits e).foldl (fun s _ => s.dropEvent) s
  { s with mail := { s.mail with
    inb := s.mail.inb.map fun m => m.map fun m =>
      if m.reader = b then { m with queued := false } else m
    ringQueued := vset s.mail.ringQueued b 0 } }

/-- A bench joins the barrier at position `p`: started by its RUN bit with the image's initial data
and empty wake slots (R888), or given back by a RESTART (R141). -/
def joinBench (s : State) (b : Nat) (p : Pos) : State :=
  let n := s.bench b
  let n := if n.starting then
      { n with data := s.initialData b, wakes := Vector.replicate 16 none, log := [], logBytes := 0 }
    else n
  let s := s.setBench b { n with
    mode := .run, joining := false, starting := false, fresh := true
    queue := n.queue.filter fun e => !e.ancient && posLe p e.pos }
  s.queueWaiting b p

end State

/-- What a checkpoint at position `p` holds of a bench (R152): its queued events, with the FAULT events due at
that position (R127). -/
def Bench.ckpt (n : Bench) (p : Pos) : BenchCkpt :=
  ⟨n.data, n.wakes, n.queue ++ n.held ++ n.faultEvs.map fun (e : Event) => { e with pos := p }, n.inbox,
    n.faultSfs, n.seq⟩

namespace State

/-- A checkpoint taken at position `p`: of every running bench and the ledger; every replay log
emptied (R152), the one before it kept (R153), and its pages mirrored (R731). -/
def takeCkpt (s : State) (p : Pos) : State :=
  let benches := (List.range 5).map fun b =>
    if (s.bench b).mode == .run then (s.bench b).ckpt p
    else (s.benchCkpt b).getD (Bench.init.ckpt p)
  let s := { s with prog := { s.prog with
    ckpt := some ⟨p, benches, s.prog.ledger⟩
    ckptPrev := s.prog.ckpt
    ckpts := (s.prog.ckpts + 1) % 65536
    bench := s.prog.bench.map fun (n : Bench) =>
      { n with log := [], logBytes := 0, fresh := false } } }
  { s.mirror (.ckpt p s.welt.sendFull) with welt.sendFull := false }

/-- A checkpoint is due before the benches begin `p` (R151). -/
def ckptDue (s : State) (prev : Option Pos) (p : Pos) : Bool :=
  s.prog.ckpt.isNone ||
    (match prev with | some q => !sameSf p q | none => true) ||
    s.prog.bench.toList.any fun n => decide (49152 < n.logBytes) || (n.mode == .run && n.fresh)

/-- The inter-bench messages and FAULT events that are due at `p` queued at bench `b`, the FAULT
events stamped with it (R127, R147).
DEDUCED, unsafe: log entry 16. -/
def arrive (s : State) (b : Nat) (p : Pos) : State :=
  let n := s.bench b
  let s := s.setBench b { n with
    inbox := n.inbox.filter fun e => !e.dueAt p, faultEvs := [] }
  let s := n.faultEvs.foldl (fun s e => s.deliver b { e with pos := p }) s
  (n.inbox.filter fun e => e.dueAt p).foldl (fun s e => s.deliver b e) s

/-- The benches may begin the next position: they have finished the present one, a later position
has been published (R126), and the tack store has dispatched it (R241).
DEDUCED, safe: log entry 8. -/
def nextToBegin (s : State) : Option Pos :=
  match s.prog.opened with
  | x :: _ :: _ =>
    if s.supply.power == .run && !s.stopped && s.barrierDone &&
        s.tack.due.all (fun d => d.pos != x && (d.stepped || d.steps.all fun st => st.pos != x)) then
      some x
    else none
  | _ => none

/-- The benches begin position `p`: what ends with the former position if no bench had anything of it to handle,
the benches that leave and join, the checkpoint, and what arrives (R126, R127, R146, R151, R888).
DEDUCED, safe: log entry 8. -/
def beginPosition (s : State) (p : Pos) : State :=
  let prev := s.prog.barrier
  let s := s.settle
  let s := [0, 1, 2, 3, 4].foldl (fun s b => if (s.bench b).leaving then s.stopBench b else s) s
  let other := match prev with | some q => !sameSf p q | none => true
  let s := { s with prog := { s.prog with
    barrier := some p, opened := s.prog.opened.tail
    sfs := if other then s.prog.sfs + 1 else s.prog.sfs
    bench := if other then
        s.prog.bench.map fun (n : Bench) => { n with stepsPrev := n.stepsSf, stepsSf := 0 }
      else s.prog.bench } }
  let s := [0, 1, 2, 3, 4].foldl (fun s b => if (s.bench b).joining then s.joinBench b p else s) s
  let s := if s.ckptDue prev p then s.takeCkpt p else s
  let s := [0, 1, 2, 3, 4].foldl (fun s b => s.arrive b p) s
  s.watchLag

/-! ### Taking an event -/

end State

/-- The event that bench `b` takes next of the barrier position: the first of its queue and of what
its sources hold back (R125, R132). -/
def Bench.nextEvent (n : Bench) (p : Pos) : Option Event :=
  let all := n.queue ++ n.held
  let first := all.foldl (fun m e => match m with
    | none => some e
    | some f => if e.before f then some e else some f) none
  first.filter fun e => e.dueAt p

/-- A bench without an event. -/
def Bench.without (n : Bench) (e : Event) : Bench :=
  if n.queue.contains e then { n with queue := n.queue.erase e } else { n with held := n.held.erase e }

/-- MSTATE of a host message: ORPHAN when that mark is set, else STALE when that one is, else OK
(R675). -/
def Msg.state (m : Msg) : Nat :=
  if m.orphan then stOrphan else if m.stale then stStale else stOk

namespace State

/-- An event as its handler sees it: a host message with the marks it carries when taken. -/
def withMarks (s : State) (e : Event) : Event :=
  match e.hostBox with
  | some mb => match vget none s.mail.inb mb with
    | some m => { e with fields := e.fields ++ [(13, BitVec.ofNat 32 m.state)] }
    | none => e
  | none => e

/-- A fresh handler of an event (R134). -/
def newHandler (e : Event) (a : HEntry) (script : Option (List LogItem)) : Handler :=
  { ev := e, pc := a.addr, regs := entryRegs e, stack := [], used := 0
    budget := if a.budget = 0 then 4096 else a.budget
    items := [], logBytes := entrySize e, ledger := [], lsws := 0, script := script }

end State

/-- One more handler run, counted (Table 4-10). -/
def Bench.start (n : Bench) (h : Handler) : Bench :=
  { n with handler := some h, events := satAdd 0xFFFFFFFF n.events 1 }

namespace State

/-- Bench `b` takes event `e` of a closed position: it starts the event's handler, or discards the
event when the image names none (R131).  A handler whose entry record or window would overflow the
replay log faults at its entry (R887). -/
def takeEvent (s : State) (b : Nat) (e : Event) : State :=
  let n := (s.bench b).without e
  match s.prog.image.bind fun i => i.handler b e with
  | none =>
    let s := s.setBench b { n with log := n.log ++ [⟨e, [], false⟩] }
    ((s.dropEvent).consumed b e).settle
  | some a =>
    let e := s.withMarks e
    let h := newHandler e a none
    let s := (s.setBench b (n.start h)).consumed b e
    if 65536 < n.logBytes + entrySize e then s.benchFault b h 0x8109 0 else s

/-- The next handler of a replay: replayed with the items it logged as its script, or skipped
(R138, R139).
DESIGN CHOICE, unsafe: log entry 2. -/
def replayNext (s : State) (b : Nat) : State :=
  let n := s.bench b
  match n.replay with
  | [] => s
  | r :: rest =>
    let n := ({ n with replay := rest }).disarm r.ev
    if r.ran then
      match s.prog.image.bind fun i => i.handler b r.ev with
      | some a => s.setBench b { n with handler := some (newHandler r.ev a (some r.items)) }
      | none => s.replayMismatch b
    else s.setBench b n

end State

/-! ### The rows of the table -/

/-- REPLAY_DONE: the replay has run out of handlers, the faulted one skipped; the bench continues
with its next event, and a checkpoint is due at the next barrier (R138, R151). -/
def execReplayDone (b : Fin 5) (s : State) : Host.Outcome State Fault Refusal :=
  let n := s.bench b
  .next (if n.mode = .replay ∧ n.replay = [] ∧ n.handler = none then
    (s.setBench b { n with mode := .run, fresh := true }).settle else s)

/-- HANDLER_ENTRY: a bench with no handler takes its next event of the barrier position, or, while it
replays, begins its next logged handler.  No handler runs outside RUN (R19) or while the Last is
stopped (R132). -/
def execHandlerEntry (b : Fin 5) (s : State) : Host.Outcome State Fault Refusal :=
  let n := s.bench b
  .next (
    if s.supply.power ≠ .run ∨ s.stopped ∨ n.handler.isSome then s
    else match n.mode with
      | .replay => s.replayNext b
      | .run => match s.prog.barrier.bind n.nextEvent with
        | some e => s.takeEvent b e
        | none => s
      | _ => s)

/-- POSITION_CLOSE: the next position closes and the benches begin it.
DEDUCED, safe: log entry 8. -/
def execPositionClose (s : State) : Host.Outcome State Fault Refusal :=
  .next (match s.nextToBegin with
    | some p => s.beginPosition p
    | none => s)

/-- EVENT_HOLD_RELEASE: held-back events of a bench are queued, in order, while its queue has room
(R132).
DEDUCED, safe: log entry 7. -/
def execEventHoldRelease (b : Fin 5) (s : State) : Host.Outcome State Fault Refusal :=
  let n := s.bench b
  let room := 1024 - n.queue.length
  .next (s.setBench b ((n.held.take room).foldl Bench.enqueue { n with held := [] } |> fun m =>
    { m with held := n.held.drop room }))

/-- WAKEAT_FIRE: an armed wake fires at the barrier position, once the benches have reached the first
position at or after its PP (R129); PASSED is set when a step has passed its PP over (R130). -/
def execWakeatFire (b : Fin 5) (slot : Fin 16) (s : State) : Host.Outcome State Fault Refusal :=
  let n := s.bench b
  .next (match s.prog.barrier, n.wakes.get slot with
    | some p, some w =>
      if n.mode = .run ∧ s.stopped = false ∧ State.wakeDue p w then
        let passed := w.passed || decide (w.pp < p.pp)
        let e : Event := ⟨.wakeat, p, slot, slot, BitVec.ofNat 32 (slot + 256 * bitNat passed), [], []⟩
        (s.setBench b { n with wakes := n.wakes.set slot none }).deliver b e
      else s
    | _, _ => s)

/-- BENCH_RUN_EFFECT: at a tick edge after the write, a RUN bit set starts its bench at the next
position the benches begin, and one cleared lets it finish the position it is handling (R888); a bench that
is still finishing it when its bit is set again goes OFF and starts anew at that next position.  A bit
cleared before the bench has begun its first position leaves it OFF, what was queued for it discarded, and
one cleared after a RESTART that has not rejoined the barrier yet turns it OFF too.  An image that marks the
bench absent leaves it OFF (R165).
DEDUCED, safe: log entry 72. -/
def execBenchRunEffect (b : Fin 5) (s : State) : Host.Outcome State Fault Refusal :=
  let want := s.prog.runWant.testBit b
  .next (
    if s.supply.power ≠ .run ∨ s.prog.runBits.testBit b = want ∨ s.last.edge ≤ s.prog.runEdge then s
    else
      let n := s.bench b
      let present : Bool := match s.prog.image with | some i => i.present.contains b.1 | none => false
      let s := { s with prog := { s.prog with runBits := s.prog.runBits ^^^ 2 ^ b.1 } }
      if want then
        if present = true ∧ (n.mode = .off ∨ n.leaving = true) then
          s.setBench b { n with joining := true, starting := true }
        else s
      else if n.mode = .off then
        (s.setBench b { n with joining := false, starting := false }).stopBench b
      else if n.mode = .halted ∧ n.joining = false then s
      else s.setBench b { n with leaving := true, joining := false, starting := false })

end Sys2Proof.Machine
end

