-- ==== Sys2Proof/Machine/TackStore.lean ====
section
/-! DEFINITION. The tack store (chapter 6): entry, admission, the rules of a step, completion, the
cue digest and its reports.  What a target makes of a dispatched tack is in Targets.lean. -/

namespace Sys2Proof.Machine

open Sys2Proof

/-- Dispatch order: due PP, order key, bench, posting order (R239). -/
def Tack.before (t u : Tack) : Bool :=
  decide (t.due < u.due) || (t.due == u.due &&
    (decide (t.order < u.order) || (t.order == u.order &&
      (decide (t.bench < u.bench) || (t.bench == u.bench && decide (t.seq < u.seq))))))

/-- The order key of a tack's TACKDONE among those of its position: its dispatch key (R239, R250, Table 4-2). -/
def Tack.key (t : Tack) : Nat := ((t.due * 65536 + t.order) * 8 + t.bench) * 2 ^ 48 + t.seq

/-- A tack inserted in dispatch order. -/
def insertTack (t : Tack) : List Tack → List Tack
  | [] => [t]
  | u :: us => if t.before u then t :: u :: us else u :: insertTack t us

/-- Tacks in dispatch order. -/
def sortTacks (ts : List Tack) : List Tack := ts.foldl (fun l t => insertTack t l) []

/-- The lateness policy of a tack: 0 DROP, 1 LATE, 2 ANYWAY (Table 5-14). -/
def Tack.policy (t : Tack) : Nat := t.flags % 4

/-- The idempotent flag (R228). -/
def Tack.idempotent (t : Tack) : Bool := t.flags.testBit 2

/-- What becomes of a tack at its entry or at a SKIP. -/
inductive Judged where
  | wait | now | never
  deriving DecidableEq, Repr

/-- Lateness judged at entry: due PP `d`, entry PP `p` (Table 6-2). -/
def judgeEntry (latemax policy d p : Nat) : Judged :=
  if p ≤ d then .wait
  else if policy = 0 then .never
  else if p ≤ d + latemax then .now
  else if policy = 2 then .now else .never

/-- A pending tack passed over by a SKIP to `p1` (Table 6-3). -/
def judgeSkip (latemax policy d p1 : Nat) : Judged :=
  if policy = 0 then .never
  else if p1 ≤ d + latemax then .now
  else if policy = 2 then .now else .never

/-- A SKIP passes the due PP over: it lies between the two PPs, or at the PP that the SKIP leaves when that
position was not dispatched; or an earlier step in the same tick set the tack for dispatch (R246, Edges of
Steps). -/
def StepMade.passes (st : StepMade) (t : Tack) : Bool :=
  decide (st.p0 < st.pos.pp) && decide (t.due < st.pos.pp) &&
    (decide (st.p0 < t.due) || (st.undone && st.p0 == t.due) || t.late)

/-- A post or cancel whose entry position is `p` or an earlier one. -/
def TackEntry.dueAt (e : TackEntry) (p : Pos) : Bool := e.ancient || posLe e.pos p

namespace State

/-- LATEMAX: values above 456 act as 456 (Table 6-7). -/
def lateMax (s : State) : Nat := min 456 (s.fld 0x180 8 0)

/-- WARN: values 0 and above 4096 act as 4096 (Table 6-7). -/
def warnLevel (s : State) : Nat :=
  let w := s.fld 0x180 28 16
  if w = 0 ∨ 4096 < w then 4096 else w

/-- A tack completed: counted, and reported to its bench by TACKDONE when it asked for that, and
always when the status is FULL (R249, Table 6-5). -/
def complete (s : State) (t : Tack) (status reason : Nat) (p : Pos) (lateness : Nat) : State :=
  let k := s.tack
  let s := { s with tack := { k with
    full := if status = stFull then satAdd 255 k.full 1 else k.full
    dropped := if status = stDropped then satAdd 255 k.dropped 1 else k.dropped
    skipped := if status = stSkipped then satAdd 255 k.skipped 1 else k.skipped
    late := if status = stLate then satAdd 255 k.late 1 else k.late } }
  if t.flags.testBit 3 || status == stFull then
    s.deliver t.bench ⟨.tackdone, p, t.key, 0, t.handle,
      bytesBE 1 reason ++ bytesBE 1 t.target ++ bytesBE 2 t.order ++
        bytesBE 2 (min 0xFFFF lateness),
      [(14, BitVec.ofNat 32 status), (15, t.handle), (16, BitVec.ofNat 32 t.due),
       (17, BitVec.ofNat 32 (t.due / 2 ^ 32))]⟩
  else s

/-- The pending count watched: its high-water, and fault 0x8202 when it reaches WARN, again only
after it has fallen below (R238). -/
def watchTacks (s : State) : State :=
  let n := s.tack.pending.length
  let s := { s with tack.high := max s.tack.high n }
  if s.warnLevel ≤ n then
    if s.tack.warned then s else ({ s with tack.warned := true }).note 0x8202
  else { s with tack.warned := false }

/-! ### The rules of a step -/

/-- The rules of one step on a pending tack: `none` when it completes SKIPPED.  Passed over by a SKIP it
follows Table 6-3; at a REWIND it keeps its due PP, one that an earlier step in the same tick set for
dispatch too, unless the new position lies past its due PP (R244, Edges of Steps).
DESIGN CHOICE, unsafe: log entry 9. -/
def stepTack (latemax : Nat) (st : StepMade) (t : Tack) : Option Tack :=
  if st.passes t then
    if judgeSkip latemax t.policy t.due st.pos.pp = .now then some { t with late := true } else none
  else if st.pos.pp ≤ st.p0 ∧ st.pos.pp ≤ t.due then some { t with late := false }
  else some t

/-- The rules of one step applied to every pending tack, the tacks that complete SKIPPED at the step's new
position in dispatch order (R244, R246). -/
def applyStep (s : State) (st : StepMade) : State :=
  let gone := sortTacks (s.tack.pending.filter fun t => (stepTack s.lateMax st t).isNone)
  let s := { s with tack.pending := s.tack.pending.filterMap (stepTack s.lateMax st) }
  (gone.foldl (fun s t => s.complete t stSkipped 3 st.pos 0) s).watchTacks

/-! ### Entry -/

/-- The first pass at an entry position: cancels remove what was pending and strike earlier posts of
their bench; the posts that survive and the tacks cancelled, in order (R232). -/
def cancelPass (es : List TackEntry) (pending : List Tack) : List Tack × List Tack × List Tack :=
  es.foldl (fun (posts, pend, gone) e =>
    match e.op with
    | .post t => (posts ++ [t], pend, gone)
    | .cancel b h =>
      let hit := fun t : Tack => t.bench == b && t.handle == h
      (posts.filter (fun t => !hit t), pend.filter (fun t => !hit t),
        gone ++ pend.filter hit ++ posts.filter hit)
    | .cancelKey b k =>
      let hit := fun t : Tack => t.bench == b && t.order == k
      (posts.filter (fun t => !hit t), pend.filter (fun t => !hit t),
        gone ++ pend.filter hit ++ posts.filter hit)) ([], pending, [])

/-- Lateness of a surviving post: judged against its own entry position (R232, R236); admitted there
and not due at once, it follows the rules of the steps `steps` that led to the position where the
entries are applied. -/
def judgePost (latemax : Nat) (steps : List StepMade) (moved : Bool) (t : Tack) :
    Judged × Bool :=
  match judgeEntry latemax t.policy t.due t.entry.pp with
  | .never => (.never, false)
  | .now => (.now, false)
  | .wait =>
    if moved then
      match steps.foldl (fun (t : Option Tack) st => t.bind (stepTack latemax st)) (some t) with
      | some u => (if u.late then .now else .wait, false)
      | none => (.never, true)
    else (.wait, false)

/-- The posts and cancels whose entry position is that of `d`, or was never published before it,
handled in three passes: cancels, lateness, room (R231, R232, R236). -/
def enterAt (s : State) (d : Due) : State :=
  let mine := s.tack.entries.filter fun e => e.dueAt d.pos
  let mine := mine.mergeSort fun e f => (e.ancient && !f.ancient) ||
    (e.ancient == f.ancient && (posLt e.pos f.pos || (e.pos == f.pos && e.bench ≤ f.bench)))
  let (posts, pend, gone) := cancelPass mine s.tack.pending
  let s := { s with
    tack.pending := pend, tack.entries := s.tack.entries.filter fun e => !e.dueAt d.pos }
  let s := ((sortTacks gone).foldl (fun s t => s.complete t stDropped 2 d.pos 0) s).watchTacks
  let judge := fun t : Tack => judgePost s.lateMax d.steps (t.entry != d.pos) t
  let posts := sortTacks posts
  let s := posts.foldl (fun s t => match judge t with
    | (.never, true) => s.complete t stSkipped 3 d.pos 0
    | (.never, false) => s.complete t stDropped 1 d.pos 0
    | _ => s) s
  let s := posts.foldl (fun s t => match (judge t).1 with
    | .never => s
    | j =>
      if s.tack.pending.length < 4096 then
        { s with tack.pending := s.tack.pending ++ [{ t with late := decide (j = .now) }] }
      else
        ((s.voidFrom t.entry).complete t stFull 4 d.pos 0).raise 0x8201 t.bench clsVoid) s
  s.watchTacks

/-! ### The cue digest -/

/-- Whether the VOID mark stands in the report of the superframe of position `p` (R12). -/
def voidAt (s : State) (p : Pos) : Bool :=
  match s.prog.void with
  | some v => (posLe v p || sameSf v p) && (match s.prog.voidTo with
    | some e => posLe p e || sameSf p e
    | none => true)
  | none => false

/-- The digest report of the pair (epoch, superframe) of position `p`: latched into TACK_DREP, sent
as a stream packet when DREPSTREAM is 1, mirrored to a welt partner, and kept for comparison
(R254, R256, R735). -/
def digestReport (s : State) (p : Pos) : State :=
  let void := s.voidAt p
  let n := s.tack.inReport
  let crc := s.tack.crc ^^^ 0xFFFFFFFF#32
  let rep : DigestRep := ⟨sfOf p.pp, p.epoch, n, crc, void⟩
  let s := { s with
    tack.repSf := sfOf p.pp
    tack.repInfo := BitVec.ofNat 32 (p.epoch + min 0x7FFF n * 65536 + bitNat void * 2 ^ 31)
    tack.repCrc := crc, tack.repSeq := (s.tack.repSeq + 1) % 2 ^ 32, tack.inReport := 0
    welt.reports := if s.welt.role = Role.standby then s.welt.reports ++ [rep]
      else s.welt.reports }
  let s := s.alert 5
  let s := s.mirror (.digest rep)
  if (s.reg 0x180).bit 12 then
    s.packet 7 0 ⟨p.epoch, sfOf p.pp * 456⟩
      (bytesBE 4 (sfOf p.pp) ++ bytesBE 2 p.epoch ++ bytesBE 2 (min 0xFFFF n) ++
        bytesBE 4 crc.toNat ++ bytesBE 1 (bitNat void))
  else s

/-- The bytes a dispatched tack adds to the digest (Table 6-6). -/
def digestBytes (t : Tack) : List Byte :=
  bytesBE 6 t.due ++ bytesBE 1 t.target ++ bytesBE 1 t.tparam ++ bytesBE 1 t.plen ++
    t.payload.take t.plen

/-! ### The order of work at a position -/

/-- Position `n` lies after (e, P − 2) for `q` = (e, P) (R157). -/
def afterHorizon (n q : Pos) : Bool :=
  if n.epoch = q.epoch then decide (q.pp < n.pp + 2) else epochLater n.epoch q.epoch

/-- Every bench that is neither HALTED nor OFF has finished every position up to (e, P − 2), for
`q` = (e, P) (R157). -/
def horizon (s : State) (q : Pos) : Bool :=
  match s.barrierPos with
  | some n => afterHorizon n q ||
      s.prog.bench.toList.all fun b => b.mode == .off || b.mode == .halted
  | none => true

/-- The work the store does for the position at the head of those it has to dispatch, as far as it
may go: the step rules and the digest report of the pair it leaves (R231, R254), and, once the
horizon allows, the entries.
DESIGN CHOICE, unsafe: log entry 9. -/
def storeWork (s : State) : State :=
  match s.tack.due with
  | [] => s
  | d :: ds =>
    let s := if d.stepped then s
      else
        let s := d.steps.foldl (fun s st => s.applyStep st) s
        let s := match s.tack.lastDisp with
          | some p => if sameSf p d.pos then s else s.digestReport p
          | none => s
        { s with tack.due := { d with stepped := true } :: ds, tack.lastDisp := some d.pos }
    if !d.entered && s.horizon d.pos then
      let s := s.enterAt d
      { s with tack.due := { d with stepped := true, entered := true } :: ds }
    else s

/-- A newly published position handed to the store (R240); a position that a step made at this tick
edge and that a further step leaves at once is not dispatched, and its step joins the new one
(Edges of Steps).
DESIGN CHOICE, unsafe: log entry 9. -/
def storePublish (s : State) (step : Option Nat) : State :=
  if s.supply.power ≠ .run then s
  else
    let made := fun (undone : Bool) => (step.map fun p0 => StepMade.mk p0 s.now undone).toList
    let fresh : Due := ⟨s.now, s.last.edge, made false, false, false⟩
    let (due, left) := match s.tack.due.getLast? with
      | some d =>
        if step.isSome ∧ d.steps ≠ [] ∧ d.edge = s.last.edge then
          if d.stepped then (s.tack.due.dropLast ++ [{ fresh with steps := made true }], none)
          else
            (s.tack.due.dropLast ++ [{ fresh with steps := d.steps ++ made true }],
              s.tack.lastDisp)
        else (s.tack.due ++ [fresh], s.tack.lastDisp)
      | none => ([fresh], s.tack.lastDisp)
    ({ s with tack.due := due, tack.lastDisp := left }).storeWork

/-- Pending tacks dropped without completion as the store goes down with the BENCH domain (R248). -/
def storeDown (s : State) : State := { s with tack := TackStore.init }

end State

end Sys2Proof.Machine
end

