-- ==== Sys2Proof/Machine/Operands.lean ====
section
/-! DEFINITION. How a bench executes one instruction: its register operands, its step cost against
the budget, where the PC goes, and how its outputs meet the replay log (chapter 5). -/

namespace Sys2Proof.Machine

open Sys2Proof

/-- What a register reads: w0 reads 0 (Table 5-1). -/
def Handler.get (h : Handler) (r : Fin 16) : Word := if r = 0 then 0 else h.regs.get r

/-- A register written: a write of w0 is discarded (Table 5-1). -/
def Handler.put (h : Handler) (r : Fin 16) (v : Word) : Handler :=
  if r = 0 then h else { h with regs := h.regs.set r v }

/-- imm18 or off18 sign-extended to 32 bits (R176). -/
def sext18 (i : BitVec 18) : Word := i.signExtend 32

/-- imm18 zero-extended, as ANDI, ORI, XORI and SLTIU take it (R176). -/
def zext18 (i : BitVec 18) : Word := i.setWidth 32

/-- What an instruction leaves: it goes on with the next word, transfers control to a word address,
ends the handler, or faults with a code and a detail. -/
inductive Exec where
  | cont (s : State) (h : Handler)
  | goto (s : State) (h : Handler) (target : Nat)
  | finish (s : State) (h : Handler)
  | fault (code arg : Nat)

namespace State

/-- A handler put back on its bench. -/
def putHandler (s : State) (b : Nat) (h : Handler) : State :=
  s.setBench b { s.bench b with handler := some h }

/-- The instruction at which bench `b` stands: what the word of the code section at its PC decodes to (R167,
R173, R174). -/
def fetched (s : State) (b : Fin 5) : Option Instr :=
  match (s.bench b).handler, s.prog.image with
  | some h, some i => some (decodeWord b (BitVec.ofNat 32 (natBE (readBytes i.code (4 * h.pc) 4))))
  | _, _ => none

/-- A handler that has ended (R135): its ledger writes join the bench's buffer, and it enters the
replay log.  A replayed handler changes neither (R139).  The last handler of a position ends it.
DESIGN CHOICE, unsafe: log entry 2. -/
def endHandler (s : State) (b : Nat) (h : Handler) : State :=
  let n := s.bench b
  let t : State := match h.script with
    | some _ => s.setBench b { n with handler := none }
    | none => s.setBench b { n with
        handler := none, ledgerBuf := h.ledger ++ n.ledgerBuf, lsws := n.lsws + h.lsws
        log := n.log ++ [⟨h.ev, h.items, true⟩], logBytes := n.logBytes + h.logBytes
        stepsSf := max n.stepsSf h.used }
  t.settle

/-- One instruction of cost `cost` executed by the handler that bench `b` runs: an instruction whose
cost exceeds the steps left is not executed and the handler faults with overrun (R136); a target
outside the code section is not taken and faults (R183); and one that goes on past the last word of
the code section faults once its effect stands (R187).  A bench that runs no handler executes
nothing, and none does while the Last is stopped (R132). -/
def instruct (s : State) (b : Nat) (cost : Nat) (f : State → Handler → Exec) : State :=
  match (s.bench b).handler.filter fun _ => !s.stopped with
  | none => s
  | some h0 =>
    if h0.budget < h0.used + cost then s.benchFault b h0 0x8101 0
    else
      let h := { h0 with used := h0.used + cost }
      match f s h with
      | .cont t k =>
        if t.codeWords ≤ k.pc + 1 then (t.putHandler b k).benchFault b k 0x8103 t.codeWords
        else t.putHandler b { k with pc := k.pc + 1 }
      | .goto t k a =>
        if t.codeWords ≤ a then s.benchFault b h 0x8103 a
        else t.putHandler b { k with pc := a }
      | .finish t k => t.endHandler b k
      | .fault code arg => s.benchFault b h code arg

end State

/-- An instruction that only writes a register from registers (Tables 5-5, 5-6, 5-7). -/
def State.compute (s : State) (b : Nat) (cost : Nat) (rd : Fin 16) (f : Handler → Word) : State :=
  s.instruct b cost fun t h => .cont t (h.put rd (f h))

/-! ### Outputs and the replay log -/

/-- What an output instruction meets: it may go on, carrying the handler that has logged it; it
replays, and the logged item must answer; or the log has no room. -/
inductive Logged where
  | fresh (h : Handler)
  | replay (item : LogItem) (h : Handler)
  | full
  | mismatch

/-- An item logged by handler `h` of bench `n` (R887), or the next item of the script it replays
(R139).
DESIGN CHOICE, unsafe: log entry 2. -/
def logged (n : Bench) (h : Handler) (item : LogItem) : Logged :=
  match h.script with
  | some (i :: rest) => .replay i { h with script := some rest }
  | some [] => .mismatch
  | none =>
    if 65536 < n.logBytes + h.logBytes + item.size then .full
    else .fresh { h with items := h.items ++ [item], logBytes := h.logBytes + item.size }

/-- The item a handler has logged last, with the outcome that its instruction then had. -/
def Handler.relog (h : Handler) (item : LogItem) : Handler :=
  { h with items := h.items.dropLast ++ [item] }

/-! ### Data memory -/

/-- The data memory of a bench as its present handler sees it. -/
def State.dataOf (s : State) (b : Nat) : List Host.Cell := (s.bench b).data

/-- An access of `n` bytes at address `a` in a space of `size` bytes: 0x8110 for a misaligned
address, which is judged first, 0x8103 for one that lies outside (R192). -/
def accessFault (a n size : Nat) : Option (Nat × Nat) :=
  if a % n ≠ 0 then some (0x8110, a)
  else if size < a + n then some (0x8103, a) else none

end Sys2Proof.Machine
end

