-- ==== Sys2Proof/Machine/Alu.lean ====
section
/-! DEFINITION. Alnomal arithmetic and logic (Tables 5-5, 5-6 and 5-7), one meaning per
instruction. -/

namespace Sys2Proof.Machine

open Sys2Proof

/-- A truth value as SLT and its kind write it. -/
def truth (p : Bool) : Word := if p then 1 else 0

/-- Leading zero bits of a word, 0–32. -/
def clzWord (x : Word) : Nat := if x = 0 then 32 else 31 - Nat.log2 x.toNat

/-- One bits of a word. -/
def popWord (x : Word) : Nat := ((List.range 32).filter fun i => x.getLsbD i).length

/-- ADD: ra + rb, wrapping. -/
def execAdd (b : Fin 5) (rd ra rb : Fin 16) (s : State) : Host.Outcome State Fault Refusal :=
  .next (s.compute b 1 rd fun h => h.get ra + h.get rb)

/-- SUB: ra − rb, wrapping. -/
def execSub (b : Fin 5) (rd ra rb : Fin 16) (s : State) : Host.Outcome State Fault Refusal :=
  .next (s.compute b 1 rd fun h => h.get ra - h.get rb)

/-- ADDS: ra + rb, signed, saturating (R180). -/
def execAdds (b : Fin 5) (rd ra rb : Fin 16) (s : State) : Host.Outcome State Fault Refusal :=
  .next (s.compute b 1 rd fun h => satSigned ((h.get ra).toInt + (h.get rb).toInt))

/-- SUBS: ra − rb, signed, saturating (R180). -/
def execSubs (b : Fin 5) (rd ra rb : Fin 16) (s : State) : Host.Outcome State Fault Refusal :=
  .next (s.compute b 1 rd fun h => satSigned ((h.get ra).toInt - (h.get rb).toInt))

/-- ADDUS: ra + rb, unsigned, saturating at 0xFFFF_FFFF. -/
def execAddus (b : Fin 5) (rd ra rb : Fin 16) (s : State) : Host.Outcome State Fault Refusal :=
  .next (s.compute b 1 rd fun h => satUnsigned ((h.get ra).toNat + (h.get rb).toNat))

/-- SUBUS: ra − rb, unsigned, saturating at 0. -/
def execSubus (b : Fin 5) (rd ra rb : Fin 16) (s : State) : Host.Outcome State Fault Refusal :=
  .next (s.compute b 1 rd fun h => satUnsigned (((h.get ra).toNat : Int) - (h.get rb).toNat))

/-- AND. -/
def execAnd (b : Fin 5) (rd ra rb : Fin 16) (s : State) : Host.Outcome State Fault Refusal :=
  .next (s.compute b 1 rd fun h => h.get ra &&& h.get rb)

/-- OR. -/
def execOr (b : Fin 5) (rd ra rb : Fin 16) (s : State) : Host.Outcome State Fault Refusal :=
  .next (s.compute b 1 rd fun h => h.get ra ||| h.get rb)

/-- XOR. -/
def execXor (b : Fin 5) (rd ra rb : Fin 16) (s : State) : Host.Outcome State Fault Refusal :=
  .next (s.compute b 1 rd fun h => h.get ra ^^^ h.get rb)

/-- A shift amount: the low five bits of a register (R180). -/
def shiftBy (x : Word) : Nat := x.toNat % 32

/-- SHL. -/
def execShl (b : Fin 5) (rd ra rb : Fin 16) (s : State) : Host.Outcome State Fault Refusal :=
  .next (s.compute b 1 rd fun h => h.get ra <<< shiftBy (h.get rb))

/-- SHR, zero fill. -/
def execShr (b : Fin 5) (rd ra rb : Fin 16) (s : State) : Host.Outcome State Fault Refusal :=
  .next (s.compute b 1 rd fun h => h.get ra >>> shiftBy (h.get rb))

/-- SAR, sign fill. -/
def execSar (b : Fin 5) (rd ra rb : Fin 16) (s : State) : Host.Outcome State Fault Refusal :=
  .next (s.compute b 1 rd fun h => (h.get ra).sshiftRight (shiftBy (h.get rb)))

/-- ROL. -/
def execRol (b : Fin 5) (rd ra rb : Fin 16) (s : State) : Host.Outcome State Fault Refusal :=
  .next (s.compute b 1 rd fun h => (h.get ra).rotateLeft (shiftBy (h.get rb)))

/-- SLT, signed. -/
def execSlt (b : Fin 5) (rd ra rb : Fin 16) (s : State) : Host.Outcome State Fault Refusal :=
  .next (s.compute b 1 rd fun h => truth ((h.get ra).slt (h.get rb)))

/-- SLTU, unsigned. -/
def execSltu (b : Fin 5) (rd ra rb : Fin 16) (s : State) : Host.Outcome State Fault Refusal :=
  .next (s.compute b 1 rd fun h => truth ((h.get ra).ult (h.get rb)))

/-- SEQ. -/
def execSeq (b : Fin 5) (rd ra rb : Fin 16) (s : State) : Host.Outcome State Fault Refusal :=
  .next (s.compute b 1 rd fun h => truth (h.get ra == h.get rb))

/-- SNE. -/
def execSne (b : Fin 5) (rd ra rb : Fin 16) (s : State) : Host.Outcome State Fault Refusal :=
  .next (s.compute b 1 rd fun h => truth (h.get ra != h.get rb))

/-- MIN, signed. -/
def execMin (b : Fin 5) (rd ra rb : Fin 16) (s : State) : Host.Outcome State Fault Refusal :=
  .next (s.compute b 1 rd fun h => if (h.get rb).slt (h.get ra) then h.get rb else h.get ra)

/-- MAX, signed. -/
def execMax (b : Fin 5) (rd ra rb : Fin 16) (s : State) : Host.Outcome State Fault Refusal :=
  .next (s.compute b 1 rd fun h => if (h.get ra).slt (h.get rb) then h.get rb else h.get ra)

/-- MINU, unsigned. -/
def execMinu (b : Fin 5) (rd ra rb : Fin 16) (s : State) : Host.Outcome State Fault Refusal :=
  .next (s.compute b 1 rd fun h => if (h.get rb).ult (h.get ra) then h.get rb else h.get ra)

/-- MAXU, unsigned. -/
def execMaxu (b : Fin 5) (rd ra rb : Fin 16) (s : State) : Host.Outcome State Fault Refusal :=
  .next (s.compute b 1 rd fun h => if (h.get ra).ult (h.get rb) then h.get rb else h.get ra)

/-- CLZ. -/
def execClz (b : Fin 5) (rd ra : Fin 16) (s : State) : Host.Outcome State Fault Refusal :=
  .next (s.compute b 1 rd fun h => BitVec.ofNat 32 (clzWord (h.get ra)))

/-- POPC. -/
def execPopc (b : Fin 5) (rd ra : Fin 16) (s : State) : Host.Outcome State Fault Refusal :=
  .next (s.compute b 1 rd fun h => BitVec.ofNat 32 (popWord (h.get ra)))

/-- MUL: the low word of the product. -/
def execMul (b : Fin 5) (rd ra rb : Fin 16) (s : State) : Host.Outcome State Fault Refusal :=
  .next (s.compute b 2 rd fun h => h.get ra * h.get rb)

/-- MULH: the high word of the signed product. -/
def execMulh (b : Fin 5) (rd ra rb : Fin 16) (s : State) : Host.Outcome State Fault Refusal :=
  .next (s.compute b 2 rd fun h =>
    BitVec.ofInt 32 (((h.get ra).toInt * (h.get rb).toInt).fdiv (2 ^ 32)))

/-- MULHU: the high word of the unsigned product. -/
def execMulhu (b : Fin 5) (rd ra rb : Fin 16) (s : State) : Host.Outcome State Fault Refusal :=
  .next (s.compute b 2 rd fun h =>
    BitVec.ofNat 32 ((h.get ra).toNat * (h.get rb).toNat / 2 ^ 32))

/-- Signed division, truncated toward zero; by 0 it gives all ones (R181). -/
def divWord (x y : Word) : Word :=
  if y = 0 then 0xFFFFFFFF#32 else BitVec.ofInt 32 (x.toInt.tdiv y.toInt)

/-- Unsigned division; by 0 it gives all ones (R181). -/
def divuWord (x y : Word) : Word :=
  if y = 0 then 0xFFFFFFFF#32 else BitVec.ofNat 32 (x.toNat / y.toNat)

/-- DIV (Table 5-6, R181). -/
def execDiv (b : Fin 5) (rd ra rb : Fin 16) (s : State) : Host.Outcome State Fault Refusal :=
  .next (s.compute b 34 rd fun h => divWord (h.get ra) (h.get rb))

/-- DIVU (Table 5-6, R181). -/
def execDivu (b : Fin 5) (rd ra rb : Fin 16) (s : State) : Host.Outcome State Fault Refusal :=
  .next (s.compute b 34 rd fun h => divuWord (h.get ra) (h.get rb))

/-- REM: ra − (ra DIV rb) × rb; ra for a divisor of 0 (R181). -/
def execRem (b : Fin 5) (rd ra rb : Fin 16) (s : State) : Host.Outcome State Fault Refusal :=
  .next (s.compute b 34 rd fun h => if h.get rb = 0 then h.get ra
    else h.get ra - divWord (h.get ra) (h.get rb) * h.get rb)

/-- REMU: ra − (ra DIVU rb) × rb; ra for a divisor of 0 (R181). -/
def execRemu (b : Fin 5) (rd ra rb : Fin 16) (s : State) : Host.Outcome State Fault Refusal :=
  .next (s.compute b 34 rd fun h => if h.get rb = 0 then h.get ra
    else h.get ra - divuWord (h.get ra) (h.get rb) * h.get rb)

/-- ADDI, wrapping. -/
def execAddi (b : Fin 5) (rd ra : Fin 16) (imm : BitVec 18) (s : State) :
    Host.Outcome State Fault Refusal :=
  .next (s.compute b 1 rd fun h => h.get ra + sext18 imm)

/-- ADDIS, signed, saturating. -/
def execAddis (b : Fin 5) (rd ra : Fin 16) (imm : BitVec 18) (s : State) :
    Host.Outcome State Fault Refusal :=
  .next (s.compute b 1 rd fun h => satSigned ((h.get ra).toInt + imm.toInt))

/-- ANDI, with imm18 zero-extended. -/
def execAndi (b : Fin 5) (rd ra : Fin 16) (imm : BitVec 18) (s : State) :
    Host.Outcome State Fault Refusal :=
  .next (s.compute b 1 rd fun h => h.get ra &&& zext18 imm)

/-- ORI, with imm18 zero-extended. -/
def execOri (b : Fin 5) (rd ra : Fin 16) (imm : BitVec 18) (s : State) :
    Host.Outcome State Fault Refusal :=
  .next (s.compute b 1 rd fun h => h.get ra ||| zext18 imm)

/-- XORI, with imm18 zero-extended. -/
def execXori (b : Fin 5) (rd ra : Fin 16) (imm : BitVec 18) (s : State) :
    Host.Outcome State Fault Refusal :=
  .next (s.compute b 1 rd fun h => h.get ra ^^^ zext18 imm)

/-- SHLI. -/
def execShli (b : Fin 5) (rd ra : Fin 16) (sh : BitVec 5) (s : State) :
    Host.Outcome State Fault Refusal :=
  .next (s.compute b 1 rd fun h => h.get ra <<< sh.toNat)

/-- SHRI, zero fill. -/
def execShri (b : Fin 5) (rd ra : Fin 16) (sh : BitVec 5) (s : State) :
    Host.Outcome State Fault Refusal :=
  .next (s.compute b 1 rd fun h => h.get ra >>> sh.toNat)

/-- SARI, sign fill. -/
def execSari (b : Fin 5) (rd ra : Fin 16) (sh : BitVec 5) (s : State) :
    Host.Outcome State Fault Refusal :=
  .next (s.compute b 1 rd fun h => (h.get ra).sshiftRight sh.toNat)

/-- SLTI, signed. -/
def execSlti (b : Fin 5) (rd ra : Fin 16) (imm : BitVec 18) (s : State) :
    Host.Outcome State Fault Refusal :=
  .next (s.compute b 1 rd fun h => truth ((h.get ra).slt (sext18 imm)))

/-- SLTIU, unsigned, with imm18 zero-extended. -/
def execSltiu (b : Fin 5) (rd ra : Fin 16) (imm : BitVec 18) (s : State) :
    Host.Outcome State Fault Refusal :=
  .next (s.compute b 1 rd fun h => truth ((h.get ra).ult (zext18 imm)))

/-- LUI: imm18[15:0] shifted left by 16. -/
def execLui (b : Fin 5) (rd : Fin 16) (imm : BitVec 16) (s : State) :
    Host.Outcome State Fault Refusal :=
  .next (s.compute b 1 rd fun _ => BitVec.ofNat 32 (imm.toNat * 2 ^ 16))

end Sys2Proof.Machine
end

