-- ==== Sys2Proof/Machine/Bubbles.lean ====
section
/-! DEFINITION. What the chain chapters share: a chain's epoch and output, the calibration table,
bubbles and their placement, and the CALIBRATE requests they serve (chapters 7 and 8). -/

namespace Sys2Proof.Machine

open Sys2Proof

/-- A bubble of the chain has begun and not ended. -/
def Chain.bubbling (x : Chain) : Bool := x.bubbles.any fun b => b.begun.isSome

/-- The chain gives no valid samples: it is not in RX, a transition or tune runs (R270), or a bubble does
(R303). -/
def Chain.deaf (x : Chain) : Bool := x.mode != .rx || x.trans.isSome || x.bubbling

/-- A chain's marks with what it gives from the instant `t` on; the 64 newest are kept.
DESIGN CHOICE, safe: log entry 80. -/
def markHeard (log : List ChainMark) (t : Nat) (x : Chain) : List ChainMark :=
  match log.head? with
  | some m => if m.deaf = x.deaf ∧ m.gain = x.gain then log else (⟨t, x.deaf, x.gain⟩ :: log).take 64
  | none => [⟨t, x.deaf, x.gain⟩]

/-- What a chain gives at an instant; before its oldest mark, what that says. -/
def heardAt (log : List ChainMark) (t : Nat) : ChainMark :=
  (log.find? fun m => decide (m.at_ ≤ t)).getD (log.getLastD ⟨0, true, 0⟩)

namespace State

/-- A chain: 0 BR0, 1 BR1, 2 HR. -/
def chain (s : State) (c : Nat) : Chain := vget Chain.init s.radio.chain c

/-- The state with chain `c` replaced at the instant `t` (1/65 536 tick counted over tick edges): what the
chain gives its lanes from then on is marked. -/
def setChainAt (s : State) (t c : Nat) (x : Chain) : State :=
  { s with radio := { s.radio with
      chain := vset s.radio.chain c x
      heard := vset s.radio.heard c (markHeard (vget [] s.radio.heard c) t x) } }

/-- The state with chain `c` replaced at the present tick edge. -/
def setChain (s : State) (c : Nat) (x : Chain) : State := s.setChainAt (s.last.edge * 65536) c x

/-- The power domain of a chain (Table 1-2). -/
def chainUp (s : State) (c : Nat) : Bool := s.up (if c = 2 then .hearth else .broadcast)

/-- The reply of a chain request: code 0x0300 plus the request code; the chain epoch, the reason and
the rest of its window (R259). -/
def chainReply (s : State) (code c id status reason : Nat) (rest : List Byte) : State :=
  s.reply (0x0300 + code) id status
    (bytesBE 1 (s.chain c).epoch ++ bytesBE 1 reason ++ rest)

end State

/-! ### The calibration table -/

/-- The frequency of HR channel `n` in Hz (Table 7-1). -/
def channelHz (n : Nat) : Nat := 863125000 + n * 250000

/-- The output divider of a frequency (Table 8-2). -/
def dividerOf (c hz : Nat) : Nat :=
  if c = 2 then 4
  else if hz < 87500000 then 48
  else if hz < 131250000 then 32
  else if hz < 175000000 then 24
  else 16

/-- The distance from a VCO frequency to the nearest multiple of a PFD frequency (R316). -/
def spurDistance (vco pfd : Nat) : Nat := Nat.min (vco % pfd) (pfd - vco % pfd)

/-- The reference mode and SPURNEAR of a VCO frequency: the first of ×2, ×1, ÷2 whose distance is at
least its minimum, else ÷2 with SPURNEAR (R316, R317, Table 8-3). -/
def refModeOf (vco : Nat) : Nat × Bool :=
  if 800000 ≤ spurDistance vco 76800000 then (2, false)
  else if 400000 ≤ spurDistance vco 38400000 then (1, false)
  else if 200000 ≤ spurDistance vco 19200000 then (0, false)
  else (0, true)

/-- The key of a chain tuned to `lo`: the channel on HR, else the LO in units of 100 kHz (R320). -/
def keyOf (c lo : Nat) : Nat := if c = 2 then lo else lo / 100000

namespace State

/-- The entry that matches a chain and key, with its slot (R320). -/
def calFind (s : State) (c key : Nat) : Option (Nat × CalEntry) :=
  s.clk.table.find? fun e => e.2.chain == c && e.2.key == key

/-- The slot in use by a chain (chapter 8, Ground; R324). -/
def calInUse (s : State) (c : Nat) : Option Nat :=
  let x := s.chain c
  if x.tuned ∨ c = 2 then (s.calFind c (keyOf c x.lo)).map (·.1) else none

/-- How far a chain's latest temperature reading lies from an entry's, in 0.125 °C (R321). -/
def calDrift (s : State) (e : CalEntry) : Nat := (vget 0 s.clk.temp e.chain - e.temp).natAbs

/-- An entry is stale (R321). -/
def calStale (s : State) (e : CalEntry) : Bool := decide (s.clk.drift * 8 ≤ s.calDrift e)

/-- A tune or hop to a key is cold: no entry, or one stale by 40 °C or more (R322). -/
def calCold (s : State) (c key : Nat) : Bool :=
  match s.calFind c key with
  | some e => decide (320 ≤ s.calDrift e.2)
  | none => true

/-- The channels that HR's slot plan pins: its hop list and its beacon channel (R324, R538). -/
def hopChannels (s : State) : List Nat :=
  match s.hearth.plan with
  | some p => p.hops ++ [p.bcn]
  | none => []

/-- An entry is pinned (R324). -/
def calPinned (s : State) (slot : Nat) (e : CalEntry) : Bool :=
  s.calInUse e.chain == some slot || (e.chain == 2 && s.hopChannels.contains e.key)

/-- The lowest free slot of the 512. -/
def calFree (s : State) : Option Nat :=
  (List.range 512).find? fun i => (kget s.clk.table i).isNone

/-- The slot a new entry replaces when none is free: unpinned, highest AGE, lower slot on a tie
(R325). -/
def calVictim (s : State) : Option Nat :=
  (s.clk.table.foldl (fun (m : Option (Nat × Nat)) e =>
    if s.calPinned e.1 e.2 then m
    else match m with
      | some (_, a) => if a < e.2.age then some (e.1, e.2.age) else m
      | none => some (e.1, e.2.age)) none).map (·.1)

/-- The window of a CALIBRATE reply after its first two bytes (R333). -/
def calCounts (done failed : Nat) : List Byte := bytesBE 2 done ++ bytesBE 2 failed

/-- A slot that CALIBRATE requests of chain `c` wait for is done with: calibrated, failed, or gone from the
table (`none`).  The requests count it, and those with nothing left complete OK (R333, R335). -/
def calServed (s : State) (c slot : Nat) (ok : Option Bool) : State :=
  let x := s.chain c
  if !x.cals.any fun (q : CalReq) => q.slots.contains slot then s
  else
    let served := x.cals.map fun (q : CalReq) =>
      if q.slots.contains slot then
        { q with
          slots := q.slots.filter (· != slot), done := q.done + bitNat (ok == some true)
          failed := q.failed + bitNat (ok == some false) }
      else q
    let spent := served.filter fun q => q.slots.isEmpty
    let s := s.setChain c { x with cals := served.filter fun q => !q.slots.isEmpty }
    spent.foldl (fun s q => s.chainReply 7 c q.id stOk 0 (calCounts q.done q.failed)) s

/-- A calibration of `key` on chain `c`, tuned to `hz`, has finished: its entry is written in one
step (R323), into the matching slot, a free one or an evicted one (R325), or is used and not stored
(0x2312); a failure raises 0x2310 and leaves the entry as it was. -/
def calWrite (s : State) (c key hz : Nat) (r : CalResult) : State :=
  if !r.ok then
    ({ s with clk.calFails := satAdd 255 s.clk.calFails 1 }).raise 0x2310 c clsNote
  else
    let m := refModeOf (hz * dividerOf c hz)
    let e : CalEntry := ⟨c, key, r.band, r.kvco, m.2, vget 0 s.clk.temp c, m.1, 0⟩
    let s := { s with clk.cals := satAdd 65535 s.clk.cals 1 }
    match s.calFind c key with
    | some (i, old) => { s with clk.table := kput s.clk.table i { e with age := old.age } }
    | none => match s.calFree with
      | some i => { s with clk.table := kput s.clk.table i e }
      | none => match s.calVictim with
        | some i =>
          let owner := ((kget s.clk.table i).map (·.chain)).getD c
          ({ s with
            clk.table := kput s.clk.table i e
            clk.evictions := satAdd 255 s.clk.evictions 1 }).calServed owner i none
        | none => s.raise 0x2312 c clsNote

/-- The frequency an entry is calibrated at: the chain's own for the entry in use, else its key's. -/
def calHz (s : State) (c slot : Nat) (e : CalEntry) : Nat :=
  if c = 2 then channelHz e.key
  else if s.calInUse c == some slot then (s.chain c).lo
  else e.key * 100000

/-! ### What needs recalibration -/

/-- The place of an entry in the order of R329: entries in use, then hop-plan entries with the lower
channel first, then the others with the lower AGE first. -/
def calRank (s : State) (slot : Nat) (e : CalEntry) : Nat :=
  if s.calInUse e.chain == some slot then 0
  else if e.chain = 2 ∧ s.hopChannels.contains e.key then 1 + e.key
  else 10000 + e.age * 512 + slot

/-- The slots of chain `c` for which CALIBRATE requests of one priority call for a bubble: not those that a
placed bubble covers (R335). -/
def calAsked (s : State) (c : Nat) (urgent : Bool) : List Nat :=
  let x := s.chain c
  let idle := !x.bubbles.any fun b => b.kind == .synthcal
  (x.cals.filter fun q => q.urgent == urgent && (!q.covered || idle)).flatMap (·.slots)

/-- The slots of chain `c` whose recalibration is URGENT: stale entries in use or in the hop plan, and
those asked for as urgent (R301, Table 8-6). -/
def calUrgent (s : State) (c : Nat) : List Nat :=
  let own := s.clk.table.filter fun e => e.2.chain == c
  let drifted := own.filter fun e =>
    s.calPinned e.1 e.2 && s.calStale e.2 && !vget false s.clk.tempBad c
  drifted.map (·.1) ++ s.calAsked c true

/-- The other slots of chain `c` that need recalibration: with MODE BACKGROUND the stale entries not in
use, and those asked for (Table 8-6). -/
def calBackground (s : State) (c : Nat) : List Nat :=
  let own := s.clk.table.filter fun e => e.2.chain == c
  let drifted := own.filter fun e =>
    s.clk.bgMode && !s.calPinned e.1 e.2 && s.calStale e.2 && !vget false s.clk.tempBad c
  let urgent := s.calUrgent c
  (drifted.map (·.1) ++ s.calAsked c false).filter fun i => !urgent.contains i

/-- The slot that a SYNTHCAL bubble of chain `c` recalibrates: the first in the order of R329 of all
that need it (R331). -/
def calFirst (s : State) (c : Nat) : Option Nat :=
  let all := s.calUrgent c ++ s.calBackground c ++ (s.chain c).cals.flatMap (·.slots)
  (all.foldl (fun (m : Option (Nat × Nat)) i => match kget s.clk.table i with
    | some e =>
      let r := s.calRank i e
      match m with
      | some (_, q) => if r < q then some (i, r) else m
      | none => some (i, r)
    | none => m) none).map (·.1)

end State

/-! ### Bubbles -/

/-- The length of a bubble in ticks (Table 7-13). -/
def BubbleKind.ticks : BubbleKind → Nat
  | .synthcal => 2 | .dctrim => 1 | .gaincal => 3

/-- The code of a bubble kind (Table 7-13). -/
def BubbleKind.code : BubbleKind → Nat
  | .synthcal => 1 | .dctrim => 2 | .gaincal => 3

/-- A slot of the plan in which HR transmits or listens for a declared burst: DOWN slots, their B
slots, BEACON and LISTEN slots (chapter 13, Table 13-5). -/
def Plan.declared (p : Plan) (k : Nat) : Bool :=
  let r := p.roles.getD k 0
  r == 1 || r == 3 || r == 4 || (decide (12 ≤ k) && p.roles.getD (k - 12) 0 == 1)

namespace State

/-- PP `t` lies in a declared slot of the running hearth link. -/
def declaredAt (s : State) (t : Nat) : Bool :=
  match s.hearth.mode, s.hearth.plan with
  | .running, some p => p.declared (t % 456 / 19)
  | _, _ => false

/-- The PPs that a bubble takes: from its start, or, once begun, what is left of it from the present PP on,
whatever PP has done during it (R299). -/
def bubbleSpan (s : State) (b : Bubble) : Nat × Nat :=
  match b.begun with
  | none => (b.start, b.start + b.kind.ticks)
  | some e => (s.last.pp, s.last.pp + (e + b.kind.ticks - s.last.edge))

/-- A start `t` of a bubble of `len` ticks on chain `c` that breaks a condition of R300, with the
earliest start beyond what it meets. -/
def bubbleClash (s : State) (c len : Nat) (urgent : Bool) (t : Nat) : Option Nat :=
  let win := (s.chain c).windows.toList.findSome? fun w => match w with
    | some w => if t < w.stop ∧ w.start < t + len then some w.stop else none
    | none => none
  let spacing :=
    if s.radio.mode = 0 ∧ c < 2 then
      (s.chain (1 - c)).bubbles.findSome? fun b =>
        let (start, stop) := s.bubbleSpan b
        if t < stop + 1 ∧ start < t + len + 1 then some (stop + 1) else none
    else none
  let slot :=
    if c = 2 then
      if s.declaredAt t then some ((t / 19 + 1) * 19)
      else if s.declaredAt (t + len - 1) then some (((t + len - 1) / 19 + 1) * 19)
      else none
    else none
  let ground :=
    if !urgent && (s.chain c).bubbles.any (fun b => !b.urgent && sfOf (s.bubbleSpan b).1 == sfOf t) then
      some ((sfOf t + 1) * 456)
    else none
  win.orElse fun _ => spacing.orElse fun _ => slot.orElse fun _ => ground

/-- The earliest legal start from `t` on. -/
def bubbleStartFrom (s : State) (c len : Nat) (urgent : Bool) : Nat → Nat → Nat
  | 0, t => t
  | n + 1, t => match s.bubbleClash c len urgent t with
    | some u => bubbleStartFrom s c len urgent n (max u (t + 1))
    | none => t

/-- A bubble placed at the earliest start that R300 allows, and BUBBLE_SET raised (R302).
DEDUCED, safe: log entry 25. -/
def placeBubble (s : State) (c : Nat) (kind : BubbleKind) (urgent : Bool) : State :=
  let len := kind.ticks
  let lead := if urgent then 0 else (sfOf s.last.pp + s.fld 0x540 15 8) * 456
  let t := s.bubbleStartFrom c len urgent 4096 (max (s.last.pp + 1) lead)
  let x := s.chain c
  let s := s.setChain c { x with bubbles := x.bubbles ++ [⟨kind, urgent, t, none, none⟩] }
  s.radioEvent 0x0310
    (bytesBE 1 c ++ bytesBE 1 kind.code ++ bytesBE 6 t ++ bytesBE 1 len) []

/-- At a step every bubble placed and not yet begun is placed again from the new position (R304). -/
def replaceBubbles (s : State) : State :=
  let pend := [0, 1, 2].flatMap fun c =>
    ((s.chain c).bubbles.filter fun b => b.begun.isNone).map fun b => (c, b)
  let s := [0, 1, 2].foldl (fun s c =>
    let x := s.chain c
    s.setChain c { x with bubbles := x.bubbles.filter fun b => b.begun.isSome }) s
  pend.foldl (fun s e => s.placeBubble e.1 e.2.kind e.2.urgent) s

/-- A SYNTHCAL bubble of a priority is placed on a chain and has not ended (R329).
DESIGN CHOICE, safe: log entry 26. -/
def calPlaced (s : State) (c : Nat) (urgent : Bool) : Bool :=
  (s.chain c).bubbles.any fun b => b.kind == .synthcal && b.urgent == urgent

/-- The SYNTHCAL bubbles that a chain's entries now call for, at most one of each priority (R329).
DESIGN CHOICE, safe: log entry 26. -/
def placeCals (s : State) (c : Nat) : State :=
  let s := if !(s.calUrgent c).isEmpty && !s.calPlaced c true then s.placeBubble c .synthcal true else s
  if !(s.calBackground c).isEmpty && !s.calPlaced c false then s.placeBubble c .synthcal false else s

end State

end Sys2Proof.Machine
end

