-- ==== Sys2Proof/Machine/Signal.lean ====
section
/-! DEFINITION. The signal plane of a lane (chapter 9): the CIC, the compensation FIR and its coefficient
sets, the combiner, the moving average, the resampler and the detector, as functions of samples.  The run of
a lane over its input is in LaneRun.lean. -/

namespace Sys2Proof.Machine

open Sys2Proof

namespace State

/-- A lane number. -/
def lane (s : State) (n : Nat) : Lane := sget Lane.init s.lanes.lane n

/-- The state with lane `n` replaced. -/
def setLane (s : State) (n : Nat) (x : Lane) : State :=
  { s with lanes := { s.lanes with lane := sput Lane.init s.lanes.lane n x } }

/-- A RAM coefficient set. -/
def coefSet (s : State) (set : Nat) : CoefSet := sget CoefSet.init s.lanes.coef set

/-- The length L of a coefficient set (R370, Table 9-7, R853). -/
def coefLen (s : State) (set : Nat) : Nat :=
  match set with
  | 16 | 17 => 47
  | 18 => 31
  | 19 => 16
  | 20 => 15
  | _ => (s.coefSet set).len

/-- Coefficient h[i] of a set: 18 bits, signed, 17 of them fractional, with h[L−1−i] = h[i] (R371).
DEDUCED, safe: log entry 84. -/
def coefTap (s : State) (set i : Nat) : Int :=
  let j := Nat.min i (s.coefLen set - 1 - i)
  if 16 ≤ set then (Config.romTap set j).toInt
  else ((sget 0 (s.coefSet set).taps j).setWidth 18).toInt

/-- A set has a double-bit error that the host has not rewritten (R376). -/
def coefBad (s : State) (set : Nat) : Bool := decide (set < 16) && (s.coefSet set).ecc

end State

/-! ### A lane's figures -/

namespace Lane

/-- N of a lane. -/
def order (x : Lane) : Nat := x.n + 3
/-- DEC of a lane. -/
def decim (x : Lane) : Nat := x.dec + 1
/-- F of a lane. -/
def firDec (x : Lane) : Nat := x.f + 1
/-- A of a lane. -/
def mean (x : Lane) : Nat := x.a + 1

/-- The coefficient set of the active bank, and of the other one. -/
def activeSet (x : Lane) : Nat := if x.bankB then x.setB else x.setA
def otherSet (x : Lane) : Nat := if x.bankB then x.setA else x.setB

/-- The input rate of a lane in samples a second: 960 kS/s on an IR lane, else 30.72 MS/s
(Table 9-2). -/
def inRate (x : Lane) : Nat := if x.use = .ir then 960000 else 30720000

/-- Input samples of a lane for one output sample while the resampler ratio is 1 (Table 9-2). -/
def ratio (x : Lane) : Nat := x.decim * x.firDec

/-- Twice the half-width of a lane's passband, in Hz, times DEC·F: exact for a CUSTOM lane, whose half-width
is half its output rate (R891). -/
def widthScaled (x : Lane) : Nat :=
  match x.preset with
  | .fmStd => 200000 * x.ratio
  | .fmNarrow => 150000 * x.ratio
  | .dab => 1536000 * x.ratio
  | .capture => 5600000 * x.ratio
  | _ => x.inRate

end Lane

/-! ### Rounding -/

/-- `n / d` to the nearest whole number; the spec does not say how a half rounds. -/
def roundDiv (n : Int) (d : Nat) : Int :=
  let q := Int.fdiv n d
  let r := (n - q * d) * 2
  if r < d then q else if (d : Int) < r then q + 1 else q + bitNat (Config.tie n d)

/-- A complex value over a denominator as a sample of 16 bits. -/
def Iq.narrow (v : Iq) (den : Nat) : Iq := ⟨(Config.narrow v.i den).toInt, (Config.narrow v.q den).toInt⟩

/-- A complex product, a sum and a real multiple. -/
def Iq.mul (a b : Iq) : Iq := ⟨a.i * b.i - a.q * b.q, a.i * b.q + a.q * b.i⟩
def Iq.add (a b : Iq) : Iq := ⟨a.i + b.i, a.q + b.q⟩
def Iq.scale (a : Iq) (k : Int) : Iq := ⟨a.i * k, a.q * k⟩
def Iq.conj (a : Iq) : Iq := ⟨a.i, -a.q⟩

/-- The power of a sample. -/
def Iq.power (a : Iq) : Nat := (a.i * a.i + a.q * a.q).toNat

/-! ### The CIC (R366–R369) -/

/-- The CIC registers of order N, cleared. -/
def Cic.clear (n : Nat) : Cic := ⟨List.replicate n 0, List.replicate n 0⟩

/-- An input sample through the integrators, each wrapping modulo 2⁵⁶ (R367): the registers and the last
one's value. -/
def integrate : List (BitVec 56) → BitVec 56 → List (BitVec 56) × BitVec 56
  | [], x => ([], x)
  | r :: rs, x =>
    let t := integrate rs (r + x)
    ((r + x) :: t.1, t.2)

/-- A decimated value through the combs of differential delay 1, wrapping modulo 2⁵⁶. -/
def combs : List (BitVec 56) → BitVec 56 → List (BitVec 56) × BitVec 56
  | [], x => ([], x)
  | p :: ps, x =>
    let t := combs ps (x - p)
    (x :: t.1, t.2)

/-- The CIC after an input sample; on a decimated one its output register too. -/
def Cic.push (c : Cic) (x : Int) (out : Bool) : Cic × BitVec 56 :=
  let t := integrate c.integ (BitVec.ofInt 56 x)
  if out then
    let u := combs c.comb t.2
    (⟨t.1, u.1⟩, u.2)
  else (⟨t.1, c.comb⟩, 0)

/-- S = ⌈N·log₂ DEC⌉ (R368). -/
def cicShift (x : Lane) : Nat := ((List.range 41).find? fun s => decide (x.decim ^ x.order ≤ 2 ^ s)).getD 40

/-- The CIC output: the register shifted right by S bits, with rounding (R368). -/
def cicOut (x : Lane) (r : BitVec 56) : Int := roundDiv r.toInt (2 ^ cicShift x)

/-- The gain correction g = 2^S/DEC^N, quantised to 18 bits, 17 of them fractional (R368).
DEDUCED, safe: log entry 84. -/
def gainCorrection (x : Lane) : Int := roundDiv (2 ^ (cicShift x + 17)) (x.decim ^ x.order)

/-- The input samples that one CIC output depends on. -/
def cicSpan (x : Lane) : Nat := x.order * x.dec + 1

/-! ### A branch (R383) -/

namespace Branch

/-- A branch of a lane with nothing in it: its first outputs are UNSETTLED, and its weight is 0 until it is
clean (R385, R390). -/
def start (x : Lane) (raw : Nat) : Branch :=
  { Branch.init with cicI := Cic.clear x.order, cicQ := Cic.clear x.order, raw := raw }

/-- An input sample into a branch: a chain's invalid sample enters as zero and marks what spans it (R388); on
a decimated one the CIC output joins the FIR delay line. -/
def input (b : Branch) (x : Lane) (v : Iq) (invalid step : Bool) (t : Nat) (out : Bool) : Branch :=
  let v := if invalid then ⟨0, 0⟩ else v
  let ci := b.cicI.push v.i out
  let cq := b.cicQ.push v.q out
  let dirty := if invalid then cicSpan x else b.dirty - 1
  let b := { b with cicI := ci.1, cicQ := cq.1, dirty := dirty, step := b.step || step }
  if out then
    let y : Sample := ⟨⟨cicOut x ci.2, cicOut x cq.2⟩, decide (0 < dirty), false, b.step, t⟩
    { b with line := (y :: b.line).take 96, step := false }
  else b

end Branch

namespace State

/-- The FIR's output of a branch with one coefficient set: Σ h[i]·x[n−i], times g (R368, R371). -/
def firOut (s : State) (x : Lane) (b : Branch) (set : Nat) : Iq :=
  let sum := ((List.range (s.coefLen set)).zip b.line).foldl
    (fun (a : Iq) (e : Nat × Sample) => a.add (e.2.v.scale (s.coefTap set e.1))) ⟨0, 0⟩
  (sum.scale (gainCorrection x)).narrow (2 ^ 34)

/-- One output sample of a branch: the active bank's, or within a cross-fade the weighted sum of output `k`
(R373); INVALID when the filter's span holds marked input or a set in use has a double-bit error (R376,
R388). -/
def branchOut (s : State) (x : Lane) (b : Branch) (k : Nat) : Sample :=
  let cur := x.activeSet
  let alt := x.otherSet
  let y := s.firOut x b cur
  let v := if x.fading then ((y.scale ((x.xf : Int) - k)).add ((s.firOut x b alt).scale k)).narrow x.xf else y
  let len := if x.fading then Nat.max (s.coefLen cur) (s.coefLen alt) else s.coefLen cur
  let bad := s.coefBad cur || (x.fading && s.coefBad alt)
  ⟨v, bad || (b.line.take len).any (·.invalid), decide (0 < b.raw), (b.line.take x.firDec).any (·.step),
    ((b.line.head?).map (·.at_)).getD 0⟩

end State

/-! ### The combiner (R383–R387) -/

/-- A branch sample carries a mark. -/
def Sample.marked (y : Sample) : Bool := y.invalid || y.unsettled

/-- A branch's weight at sample `j` of 64 of a block, in 1/(64·32 768): the ramp from the old to the new
weight, 0 from a marked sample on (R384, R385). -/
def Branch.weight (b : Branch) (y : Sample) (j : Nat) : Iq :=
  if b.blank || y.marked then ⟨0, 0⟩
  else (b.wOld.scale 64).add ((b.wNew.add (b.wOld.scale (-1))).scale j)

/-- A weight of the configuration as a complex number in 1/32 768. -/
def weightOf (w : BitVec 16 × BitVec 16) : Iq := ⟨w.1.toInt, w.2.toInt⟩

/-- A branch after a combined sample: its power over the block, and from a marked sample on the weight 0. -/
def Branch.after (b : Branch) (y : Sample) : Branch :=
  { b with power := if y.marked then b.power else b.power + y.v.power, blank := b.blank || y.marked }

/-- A branch at the end of a block: a clean one ramps to the new weight over the next block, from 0 when a
mark had held it there (R384, R385). -/
def Branch.next (b : Branch) (y : Sample) (w : Iq) : Branch :=
  { b with wOld := if b.blank then ⟨0, 0⟩ else b.wNew, wNew := w, blank := y.marked, power := 0 }

namespace Signal

/-- Branch `c`. -/
def get (g : Signal) (c : Nat) : Branch := vget Branch.init g.branch c

/-- Branch `c` replaced. -/
def set (g : Signal) (c : Nat) (b : Branch) : Signal := { g with branch := vset g.branch c b }

/-- A sample of both branches combined (R384–R387): the weighted sum, marked only when both are, INVALID if
either is.  After 64 samples the weights are estimated anew, but for a block that holds a GAINSTEP. -/
def combine (g : Signal) (y0 y1 : Sample) : Sample × Signal :=
  let j := g.comb + 1
  let b0 := g.get 0
  let b1 := g.get 1
  let v := (((b0.weight y0 j).mul y0.v).add ((b1.weight y1 j).mul y1.v)).narrow (64 * 32768)
  let both := y0.marked && y1.marked
  let y : Sample := ⟨v, both && (y0.invalid || y1.invalid), both, y0.step || y1.step, Nat.max y0.at_ y1.at_⟩
  let c0 := b0.after y0
  let c1 := b1.after y1
  let cross := if y0.marked || y1.marked then g.cross else g.cross.add (y0.v.mul y1.v.conj)
  let excl := g.excl || y.step
  if j < 64 then
    (y, { (g.set 0 c0).set 1 c1 with comb := j, cross := cross, excl := excl })
  else
    let w := Config.weights c0.power c1.power cross.i cross.q
    let w0 := if excl then c0.wNew else weightOf w.1
    let w1 := if excl then c1.wNew else weightOf w.2
    (y, { (g.set 0 (c0.next y0 w0)).set 1 (c1.next y1 w1) with comb := 0, cross := ⟨0, 0⟩, excl := false })

/-- A sample through the moving average of length A: the mean of the last A samples by a running sum that
wraps; A = 1 passes samples unchanged (R377, Table 9-2). -/
def average (g : Signal) (a : Nat) (y : Sample) : Sample × Signal :=
  let gone := ((g.mean[a - 1]?).map (·.v)).getD ⟨0, 0⟩
  let line := (y :: g.mean).take a
  let si := g.sumI + BitVec.ofInt 26 (y.v.i - gone.i)
  let sq := g.sumQ + BitVec.ofInt 26 (y.v.q - gone.q)
  let v := if a = 1 then y.v else (Iq.mk si.toInt sq.toInt).narrow a
  ({ y with v := v, invalid := line.any (·.invalid) }, { g with mean := line, sumI := si, sumQ := sq })

/-- Tap `i` of the resampler at a place of 1/1024 sample: linear between two of its 64 phases, with 10 further
phase bits (R378); 27 fractional bits. -/
def resTap (f i : Nat) : Int :=
  let p := f / 16
  let u : Int := f % 16 * 64
  (Config.resTap p i).toInt * (1024 - u) + (Config.resTap (p + 1) i).toInt * u

/-- A sample through the resampler with the extra delay Δ in 1/1024 sample: 16 taps on the samples that lie Δ
back (R378, R380). -/
def resample (g : Signal) (delta : Nat) (y : Sample) : Sample × Signal :=
  let line := (y :: g.line).take 1040
  let taps := (line.drop (delta / 1024)).take 16
  let sum := ((List.range 16).zip taps).foldl
    (fun (a : Iq) (e : Nat × Sample) => a.add (e.2.v.scale (resTap (delta % 1024) e.1))) ⟨0, 0⟩
  ({ y with v := sum.narrow (1024 * 131072), invalid := taps.any (·.invalid) }, { g with line := line })

end Signal

/-! ### The detector (R396, R398) -/

/-- The power of the detector's Fourier term at FREQ over its samples, in units of 2⁻³⁰ of a sample's. -/
def dftPower (freq : Nat) (xs : List Iq) : Nat :=
  (xs.zipIdx.foldl (fun (a : Iq) (e : Iq × Nat) =>
    let w := Config.twiddle (e.2 * freq % 65536)
    a.add (e.1.mul ⟨w.1.toInt, -w.2.toInt⟩)) ⟨0, 0⟩).power

/-- A power as LEVEL, in 0.5 dB steps below a full-scale power; below −127.5 dBFS, 255 (R398). -/
def levelCode (p full : Nat) : Nat :=
  if full ≤ p then 0
  else
    let c := ((List.range 256).filter fun c => decide (p ^ 20 * 10 ^ c ≤ full ^ 20)).length - 1
    let exact := p ^ 20 * 10 ^ c = full ^ 20
    Nat.min 255 (if exact then c else c + bitNat (Config.levelUp p full))

/-- LEVEL of a detector block of samples. -/
def detectorLevel (freq : Nat) (xs : List Iq) : Nat := levelCode (dftPower freq xs) ((xs.length * 2 ^ 30) ^ 2)

/-! ### Block descriptors (R351, R352) -/

/-- The mark run of a block: its kind, 0 none, 1 UNSETTLED, 2 INVALID, from the first marked sample to the last;
INVALID if any of them is (R352). -/
def OutBlock.markRun (b : OutBlock) : Nat × Nat × Nat :=
  let marks := b.samples.zipIdx.filter fun e => e.1.marked
  match marks with
  | [] => (0, 0, 0)
  | e :: _ => (if marks.any (·.1.invalid) then 2 else 1, e.2, (marks.getLastD e).2)

/-- The index of a GAINSTEP sample of a block, or 0xFF. -/
def OutBlock.gainStep (b : OutBlock) : Nat := (b.samples.findIdx? (·.step)).getD 0xFF

/-- The samples of a block as they lie in it: 16 bits of I and Q each, most significant byte first.
DEDUCED, unsafe: log entry 84. -/
def OutBlock.bytes (b : OutBlock) : List Byte :=
  b.samples.flatMap fun y => bytesBE 2 (satField 16 y.v.i) ++ bytesBE 2 (satField 16 y.v.q)

end Sys2Proof.Machine
end

