-- ==== Sys2Proof/Machine/LaneOps.lean ====
section
/-! DEFINITION. Lane operations that several chapters share (chapters 9, 10 and 11): a lane's figures,
its span, its settling, what becoming FREE or being reset does to its receiver, to following and to
its pool blocks, and the pool itself. -/

namespace Sys2Proof.Machine

open Sys2Proof

namespace State

/-- The receiver of an FM lane. -/
def fmLane (s : State) (n : Nat) : Option FmLane := kget s.fm.lanes n

/-- The state with the receiver of lane `n` replaced. -/
def setFm (s : State) (n : Nat) (x : FmLane) : State :=
  { s with fm := { s.fm with lanes := kput s.fm.lanes n x } }

/-- Broadcast reception goes on: the system PLL and the sample clock are not gated (Table 8-8). -/
def reception (s : State) : Bool := s.clk.sysLock && s.clk.sckLock && s.clk.refOk

end State

/-! ### Programme outputs (R431, R433, R479) -/

/-- The samples of a fade to silence over 0.5 ms: 24 samples at 48 kS/s, which follow a sample (R433, R700). -/
def fadeTail (f : Frame) : List Frame :=
  (List.range 24).map fun (k : Nat) =>
    let g : Int := 23 - k
    ⟨Config.audio (f.l.toInt * g) 24, Config.audio (f.r.toInt * g) 24,
      f.stamp + (k + 1) * 311296000 / 48000⟩

/-- The newest samples of a programme output that the ports may send: 0.5 s of them. -/
def Po.emit (p : Po) (fs : List Frame) : Po := { p with out := (fs.reverse ++ p.out).take 24000 }

/-- An output faded to silence from its latest sample. -/
def Po.fadeOut (p : Po) : Po :=
  match p.out.head? with
  | some f => { p.emit (fadeTail f) with main := Copy.init, other := Copy.init, fadeK := 0 }
  | none => { p with main := Copy.init, other := Copy.init, fadeK := 0 }

/-- The target of a splice alone on an output: its lane is the source. -/
def Po.spliced (p : Po) (target : Nat) : Po :=
  { p with source := some target, noSrc := false, main := p.other, other := Copy.init, fadeK := 0 }

/-! ### A lane's figures -/

namespace State

/-- The active bank's length of a lane. -/
def bankLen (s : State) (x : Lane) : Nat := s.coefLen x.activeSet

/-- The FIR outputs that a settling event leaves UNSETTLED: ⌈(N + L − 1)/F⌉ (R390). -/
def firSettle (s : State) (x : Lane) : Nat := (x.order + s.bankLen x - 1 + x.firDec - 1) / x.firDec

/-- SETTLE: ⌈(N + L − 1)/F⌉ + (A − 1), plus 16 with the resampler on (R390). -/
def settleCount (s : State) (x : Lane) : Nat :=
  s.firSettle x + x.a + (if x.reson then 16 else 0)

/-- LANEn_GDLY: the group delay in T/16 (R394, R395). -/
def groupDelay (s : State) (x : Lane) : Nat :=
  if x.use = .free then 0
  else
    let k := if x.use = .ir then 32 else 1
    let p := if x.use = .ir then 64 else 32
    let df := x.ratio
    16 * p + k * (8 * x.order * x.dec + 8 * x.decim * (s.bankLen x - 1) + 8 * df * x.a +
      (if x.reson then df * 120 + df * x.delta / 64 else 0))

/-- A settling event on a lane: its count starts afresh (R390, R393). -/
def settleLane (s : State) (n : Nat) : State :=
  let x := s.lane n
  let raw := s.firSettle x
  s.setLane n { x with
    settle := s.settleCount x
    sig.branch := x.sig.branch.map fun (b : Branch) => { b with raw := raw } }

/-- Broadcast chain `c` can feed a lane: its passband lies within LO ± 12.0 MHz and 64–240 MHz
(R273), and the chain is in service. -/
def feeds (s : State) (c : Nat) (x : Lane) : Bool :=
  let ch := s.chain c
  let k := 2 * x.ratio
  let w := x.widthScaled
  ch.tuned && !ch.failed && decide (ch.lo * k + w ≤ (x.centre + 12000000) * k) &&
    decide (x.centre * k + w ≤ (ch.lo + 12000000) * k) && decide (64000000 * k + w ≤ x.centre * k) &&
    decide (x.centre * k + w ≤ 240000000 * k)

/-- The branches a lane runs: both chains in DIVERSE, the survivor in ALONE, else the one whose span holds it
(R283, R284, R285), as a mask. -/
def branchesOf (s : State) (x : Lane) : Nat :=
  if s.radio.mode = 0 then bitNat (s.feeds 0 x) + 2 * bitNat (s.feeds 1 x)
  else if s.radio.mode = 2 then
    if s.feeds s.radio.survivor x then 2 ^ Nat.min 1 s.radio.survivor else 0
  else if s.feeds 0 x then 1
  else if s.feeds 1 x then 2
  else 0

/-- The NCO word of a lane: round((centre − LO) × 2³² / f_in), signed (R364). -/
def ncoOf (s : State) (x : Lane) : Word :=
  if x.use = .ir then x.nco
  else
    let lo := (s.chain (if s.feeds 0 x then 0 else 1)).lo
    let d : Int := (x.centre : Int) - lo
    BitVec.ofInt 32 (Int.fdiv (2 * d * 4294967296 + 30720000) (2 * 30720000))

/-- A lane's NCO word changed: a change by more than 1/64 of the lane output rate is a settling event
(R365). -/
def retuneLane (s : State) (n : Nat) (x : Lane) (word : Word) : State :=
  let moved := (word.toInt - x.nco.toInt).natAbs
  let s := s.setLane n { x with nco := word }
  if 4294967296 < moved * 64 * x.ratio then s.settleLane n else s

/-! ### The sample pool -/

/-- Free shared blocks (Table 9-11). -/
def sharedFree (s : State) : Nat := 632 - s.lanes.sharedUsed

/-- Blocks returned to the shared part of the pool (R405). -/
def returnShared (s : State) (k : Nat) : State :=
  { s with lanes := { s.lanes with sharedUsed := s.lanes.sharedUsed - k } }

/-- A claim for `k` shared blocks issued for the next grant rounds (R402, R403). -/
def claim (s : State) (who : Nat) (delay : Bool) (k : Nat) : State :=
  { s with lanes := { s.lanes with
      claims := s.lanes.claims ++ List.replicate k ⟨⟨s.last.epoch, s.last.pp⟩, who, delay⟩ } }

/-- The resampler's extra delay set on a lane: the pool blocks behind it, ⌈Δ/64⌉, are claimed or
returned (R382). -/
def setDelta (s : State) (n delta : Nat) (slewing : Bool) : State :=
  let x := s.lane n
  let need := (delta + 65535) / 65536
  let waiting := (s.lanes.claims.filter fun q => q.who == n && q.delay).length
  let held := x.delayBlocks
  let s := s.setLane n { x with
    delta := delta, slewing := slewing, delayBlocks := Nat.min held need }
  let s := s.returnShared (held - need)
  s.claim n true (need - held - waiting)

/-- A lane's Δ set to slew up to a goal, in 1/1024 sample, with ρ at 1 − 1/64 (R380). -/
def startSlewing (s : State) (n goal : Nat) : State :=
  let x := s.lane n
  s.setLane n { x with goal := goal, slewing := decide (x.delta < goal) }

/-- A lane's slew ended where Δ stands: ρ is 1 again (R381). -/
def stopSlewing (s : State) (n : Nat) : State :=
  let x := s.lane n
  s.setLane n { x with goal := x.delta, slewing := false }

/-! ### Subscriptions and programme outputs -/

/-- An event of FM lane `n`: raised when its subscription enables it, with the lane and the lane epoch
first (R457, Table 10-4). -/
def fmEvent (s : State) (n i : Nat) (rest : List Byte) : State :=
  match (s.fmLane n).bind (·.sub) with
  | some q =>
    if q.mask.testBit i then
      s.radioFor (0x0510 + i) q.id (bytesBE 1 n ++ bytesBE 1 (s.lane n).epoch ++ rest)
    else s
  | none => s

/-- The programme outputs whose source lane has become FREE: a fade to silence, and NOSRC set (R433). -/
def poLost (s : State) (n : Nat) : State :=
  { s with fm.po := s.fm.po.map fun (p : Po) =>
      if p.source = some n then { p.fadeOut with source := none, noSrc := true } else p }

/-- Partial batches of a carrier abandoned and counted (R122). -/
def dropPartials (s : State) (carrier : Nat) : State :=
  let gone := (s.intake.partials.filter fun p => p.carrier == carrier).length
  { s with
    intake.partials := s.intake.partials.filter fun p => p.carrier != carrier
    intake.abandoned := satAdd 255 s.intake.abandoned gone }

/-! ### Following -/

/-- The lane epoch that a following reply carries for a carrier: 0 for DAB (Table 11-3). -/
def carrierEpoch (s : State) (carrier : Nat) : Nat := if carrier < 96 then (s.lane carrier).epoch else 0

/-- A reply of SPLICE with its reason; bytes 4–13 hold d in ns and the splice edge PP (R479). -/
def spliceReply (s : State) (id : Nat) (blk : List Byte) (status reason : Nat) (d : Int)
    (edge : Nat) : State :=
  s.reply 0x0A0A id status
    (bytesBE 1 (s.carrierEpoch (fieldBE blk 2 1)) ++ bytesBE 1 reason ++ bytesBE 2 0 ++
      bytesBE 4 (satField 32 d) ++ bytesBE 6 edge)

/-- A splice taken out of following: the slews that it made end where they stand, and its target's copy is
decoded no longer.
DESIGN CHOICE, unsafe: log entry 36. -/
def dropSplice (s : State) (sp : Splice) : State :=
  let po := fieldBE sp.blk 0 1
  let s := { s with follow.splices := s.follow.splices.filter fun x => x.id != sp.id }
  if 2 ≤ po then s
  else
    let s := (s.stopSlewing (fieldBE sp.blk 1 1)).stopSlewing (fieldBE sp.blk 2 1)
    { s with fm.po := vset s.fm.po po { vget Po.init s.fm.po po with other := Copy.init, fadeK := 0 } }

/-- Fault 0x5401, and the splice counted as abandoned (R482, R493). -/
def abandonedSplice (s : State) : State :=
  ({ s with follow.abandoned := satAdd 65535 s.follow.abandoned 1 }).note 0x5401

/-- A splice abandoned after acceptance: fault 0x5401, counted, and completed (R482, R493). -/
def abandonSplice (s : State) (sp : Splice) (status reason : Nat) : State :=
  let s := (s.dropSplice sp).abandonedSplice
  s.spliceReply sp.id sp.blk status reason sp.d sp.edgePp

/-- A splice's fade has ended: the target is the output's source lane, its copy alone is heard, and the
request completes OK (R479, R481). -/
def finishSplice (s : State) (sp : Splice) : State :=
  let po := fieldBE sp.blk 0 1
  let target := fieldBE sp.blk 2 1
  let s := { s with
    follow.splices := s.follow.splices.filter fun x => x.id != sp.id
    follow.done := satAdd 65535 s.follow.done 1
    fm.po := if po < 2 then vset s.fm.po po ((vget Po.init s.fm.po po).spliced target) else s.fm.po }
  let stage := s.radioFor 0x0A10 sp.id
    (bytesBE 2 0 ++ bytesBE 1 6 ++ bytesBE 1 0 ++ bytesBE 6 s.last.pp)
  stage.spliceReply sp.id sp.blk stOk 0 sp.d sp.edgePp

/-- A correlation has a carrier on one of its sides. -/
def corrNames (carrier : Nat) (q : Corr) : Bool :=
  fieldBE q.blk 1 1 == carrier || fieldBE q.blk 2 1 == carrier

/-- The fades from a carrier end at once with the target alone (R481). -/
def endFades (s : State) (carrier : Nat) : State :=
  (s.follow.splices.filter fun sp => fieldBE sp.blk 1 1 == carrier && sp.stage == .fade).foldl
    (fun (s : State) sp => s.finishSplice sp) s

/-- What following makes of a carrier that has become FREE: correlations of it complete, splices to it are
abandoned (R482), and a fade from it ends at once (R481). -/
def carrierGone (s : State) (carrier : Nat) : State :=
  let corrs := s.follow.corrs.filter (corrNames carrier)
  let s := { s with follow.corrs := s.follow.corrs.filter fun q => !corrNames carrier q }
  let s := corrs.foldl (fun s q =>
    s.reply 0x0A09 q.id stNone (bytesBE 1 (s.carrierEpoch (fieldBE q.blk 2 1)) ++ bytesBE 1 2))
    s
  let lost := s.follow.splices.filter fun sp => fieldBE sp.blk 2 1 == carrier
  let s := lost.foldl (fun s sp => s.abandonSplice sp stNone 2) s
  s.endFades carrier

/-- A CORRELATE (9) or SPLICE (10) that waits for its edge and names a carrier as a correlation's side or as
the target. -/
def followNames (carrier : Nat) (e : Nat × Req) : Bool :=
  (e.1 == 9 && fieldBE e.2.blk 1 1 == carrier) || fieldBE e.2.blk 2 1 == carrier

/-- The correlations that name a carrier and the splices to it, those that wait for their edge among them,
which its reset completes (R472, R482, Table 20-6).
DESIGN CHOICE, unsafe: log entry 31. -/
def carrierPending (s : State) (carrier : Nat) : List (Nat × Nat × List Byte) :=
  ((s.follow.reqs.filter (followNames carrier)).map fun (e : Nat × Req) =>
    (e.2.id, 0x0A00 + e.1, bytesBE 1 (s.carrierEpoch (fieldBE e.2.blk 2 1)) ++ bytesBE 1 0)) ++
  ((s.follow.corrs.filter (corrNames carrier)).map fun (q : Corr) =>
    (q.id, 0x0A09, bytesBE 1 (s.carrierEpoch (fieldBE q.blk 2 1)) ++ bytesBE 1 0)) ++
  (s.follow.splices.filter fun sp => fieldBE sp.blk 2 1 == carrier).map fun (sp : Splice) =>
    (sp.id, 0x0A0A, bytesBE 1 (s.carrierEpoch (fieldBE sp.blk 2 1)) ++ bytesBE 1 0 ++ bytesBE 2 0 ++
      bytesBE 4 (satField 32 sp.d) ++ bytesBE 6 sp.edgePp)

/-- The requests of `carrierPending` taken out of following: each splice is abandoned with fault 0x5401 and
counted (R482, R493). -/
def dropCarrier (s : State) (carrier : Nat) : State :=
  let lost := s.follow.splices.filter fun sp => fieldBE sp.blk 2 1 == carrier
  let s := lost.foldl (fun (s : State) sp => (s.dropSplice sp).abandonedSplice) s
  { s with
    follow.reqs := s.follow.reqs.filter fun e => !followNames carrier e
    follow.corrs := s.follow.corrs.filter fun q => !corrNames carrier q
    follow.splices := s.follow.splices.filter fun sp => fieldBE sp.blk 2 1 != carrier }

/-! ### Freeing and resetting a lane -/

/-- The reserved output blocks of a lane: 2, or 96 on a wide lane (Table 9-11). -/
def laneReserve (n : Nat) : Nat := if n < 100 then 2 else 96

/-- A capture of a lane that becomes FREE ends, and EN of STRM_CAP clears (R691).
DESIGN CHOICE, unsafe: log entry 41. -/
def endCapture (s : State) (n : Nat) : State :=
  let v := s.reg 0x3C1
  if v.bit 7 && v.bits 6 0 == n then
    { s.setReg 0x3C1 (v.setBits 7 7 0) with
      port.capWait := s.port.capWait.filter fun (q : Nat × Nat × List Byte) => q.1 != n }
  else s

/-- A lane as it starts or ends: nothing in its stages, no delay and no block on its way. -/
def cleared (x : Lane) : Lane :=
  { x with
    fading := false, settle := 0, gap := 0, level := 0, delta := 0, goal := 0, slewing := false, badRun := 0
    failing := none, sig := Signal.init, wait := [], sfd := [], sfdRun := false, sfdSlot := none }

/-- A lane becomes FREE: it stops writing blocks, the pool blocks behind its delay return, its receiver state is
cleared and its subscription ends (R417, R418), and what follows it learns of it.  Its output blocks return
when their consumers release them (R405). -/
def freeLane (s : State) (n : Nat) : State :=
  let x := s.lane n
  let s := s.returnShared x.delayBlocks
  let s := s.setLane n { cleared x with
    use := .free, preset := .custom, branches := 0, delayBlocks := 0, latest := none }
  let s := { s with
    lanes.claims := s.lanes.claims.filter fun q => q.who != n
    fm.lanes := kdel s.fm.lanes n }
  (((s.carrierGone n).poLost n).dropPartials n).endCapture n

/-- LANE_LOST: cause 0 FAILED, 1 SPAN (Table 9-12). -/
def laneLost (s : State) (n cause : Nat) : State :=
  s.radioEvent 0x0411 (bytesBE 1 n ++ bytesBE 1 cause) []

end State

/-- The lane that a lane request names: byte 0 of its block. -/
def LaneReq.lane (q : LaneReq) : Nat := fieldBE q.req.blk 0 1

namespace State

/-- The reply of a lane request (R353, R360): the lane epoch, the reason, the lane and the rest. -/
def laneReply (s : State) (release : Bool) (n id status reason : Nat) (rest : List Byte) : State :=
  let epoch := if n < 102 then (s.lane n).epoch else 0
  s.reply (if release then 0x0402 else 0x0401) id status
    (bytesBE 1 epoch ++ bytesBE 1 reason ++ bytesBE 1 n ++ rest)

/-- A reset of lane `n`, a substitution among them: its epoch increments, and every request pending in
it completes ABORTED_BY_RESET, in ascending request ID (R813): lane requests, measurements,
correlations and splices, and IR_CONFIG (Table 20-6). -/
def resetLane (s : State) (n : Nat) : State :=
  let x := s.lane n
  let s := s.setLane n { x with epoch := (x.epoch + 1) % 256 }
  let win := bytesBE 1 (s.lane n).epoch ++ bytesBE 1 0 ++ bytesBE 1 n
  let mine := s.lanes.reqs.filter fun q => q.lane == n
  let asked := s.fm.reqs.filter fun (r : Req) => fieldBE r.blk 0 1 == 0 && fieldBE r.blk 1 1 == n
  let configs := s.infra.reqs.filter fun (r : Req) =>
    decide (fieldBE r.blk 0 1 < 2) && 94 + fieldBE r.blk 1 1 == n
  let due := (mine.map fun (q : LaneReq) => (q.req.id, if q.release then 0x0402 else 0x0401, win)) ++
    (asked.map fun (r : Req) => (r.id, 0x0508, win)) ++
    (configs.map fun (r : Req) => (r.id, 0x0710, bytesBE 1 (s.lane n).epoch ++ bytesBE 1 0)) ++
    s.carrierPending n
  let s := { s with
    lanes.reqs := s.lanes.reqs.filter fun q => q.lane != n
    fm.reqs := s.fm.reqs.filter fun (r : Req) => !asked.contains r
    infra.reqs := s.infra.reqs.filter fun (r : Req) => !configs.contains r }
  (s.dropCarrier n).abortAll due

/-- The lowest-numbered understudy that is neither FAILED nor bound (R407). -/
def freeUnderstudy (s : State) : Option Nat :=
  (List.range 4).find? fun i =>
    !vget false s.lanes.underFailed i && !s.lanes.lane.any fun e => e.2.under == some i

end State

end Sys2Proof.Machine
end

