-- ==== Sys2Proof/Machine/Fm.lean ====
section
/-! DEFINITION. The FM receivers (chapter 10) but for demodulation and RDS: pilot lock, MEASURE and what
soft mute and blend are computed from. -/

namespace Sys2Proof.Machine

open Sys2Proof

namespace State

/-- A lane is LOCKED. -/
def laneLocked (s : State) (n : Nat) : Bool :=
  match s.fmLane n with
  | some f => f.locked
  | none => false

/-- A lane is in SYNC. -/
def laneSync (s : State) (n : Nat) : Bool :=
  match s.fmLane n with
  | some f => f.sync
  | none => false

/-- The quality record of a lane over a superframe: the metrics measured, with PILOT, BLER, CORR,
LOCKED and SYNC as the receiver holds them, and whether the superframe held INVALID or GAP samples (Table 10-2). -/
def qualityBytes (f : FmLane) (measured : List Byte) : List Byte :=
  let bad := (f.hist.filter (· == 2)).length
  let fixed := (f.hist.filter (· == 1)).length
  let spoilt := f.gapSeen || f.meas.any (·.invalid)
  measured ++ bytesBE 1 f.level ++ bytesBE 1 bad ++ bytesBE 1 fixed ++
    bytesBE 1 (bitNat f.locked + 2 * bitNat f.sync + 4 * bitNat spoilt)

/-- A quality record raised to a subscription: at each period's end QUALITY is raised (R457). -/
def qualityDue (q : Subscr) : Bool × Subscr :=
  if q.period = 0 then (false, q)
  else if q.left ≤ 1 then (true, { q with left := q.period })
  else (false, { q with left := q.left - 1 })

end State

/-- A lane stops being LOCKED: PILOT LOST, and 0x5101 on the governing lane (R421, Tables 10-4 and 10-5). -/
def State.pilotLost (s : State) (lane : Nat) (f : FmLane) : State :=
  let s := s.setFm lane { f with lockRun := 0, locked := false }
  let s := if s.last.govCarrier = some lane then s.raise 0x5101 lane clsNote else s
  s.fmEvent lane 0 (bytesBE 1 0)

/-- One tick of a lane's pilot PLL: LOCKED after 19 lock ticks in succession, no more after 4 no-lock
ticks (R420, R421); the governing lane's loss raises 0x5101 (Table 10-5). -/
def State.judgePilot (s : State) (lane : Nat) (clean : Bool) (phaseErr : Nat) : State :=
  match s.fmLane lane with
  | some f =>
    let lock := clean && decide (phaseErr < 100) && decide (f.level ≤ s.fld 0xC00 19 12)
    if lock then
      let run := Nat.min 19 (f.lockRun + 1)
      let now := f.locked || run == 19
      let s := s.setFm lane { f with lockRun := run, noLockRun := 0, locked := now }
      if now && !f.locked then s.fmEvent lane 0 (bytesBE 1 1) else s
    else
      let run := Nat.min 4 (f.noLockRun + 1)
      let f := { f with lockRun := 0, noLockRun := run }
      if f.locked && run == 4 then s.pilotLost lane f else s.setFm lane f
  | none => s

/-- A value that moves toward a target by at most `up` when rising and `down` when falling. -/
def stepToward (x target up down : Nat) : Nat :=
  if x < target then Nat.min target (x + up) else Nat.max target (x - down)

/-- One term of the blend target in 1/16 320, clamped to 0–1; 0 when the range is empty (R429, R461). -/
def blendTerm (x lo hi : Int) : Nat :=
  if hi ≤ lo then 0
  else
    let t := Int.fdiv ((x - lo) * 16320) (hi - lo)
    if t < 0 then 0 else if 16320 < t then 16320 else t.toNat

namespace State

/-- The quality record of the last complete superframe of an FM lane; zeros where none has ended. -/
def lastQuality (q : Option Quality) : List Byte :=
  match q with
  | some q => q.bytes
  | none => List.replicate 12 0

/-- The MEASURE request for FM as it takes effect (Table 10-3, R455, R456). -/
def measureFm (s : State) (r : Req) : State :=
  let n := fieldBE r.blk 1 1
  let op := fieldBE r.blk 2 1
  let period := fieldBE r.blk 6 2
  let answer := fun (s : State) (status reason : Nat) (rec : List Byte) =>
    let epoch := if n < 102 then (s.lane n).epoch else 0
    s.reply 0x0508 r.id status (bytesBE 1 epoch ++ bytesBE 1 reason ++ bytesBE 1 n ++ bytesBE 1 0 ++ rec)
  let zeros := List.replicate 12 (0 : Byte)
  if 95 < n ∨ 2 < op ∨ (op = 0 ∧ 1024 < period) then answer s stNone 1 zeros
  else match s.fmLane n with
    | none => answer s stNone 2 zeros
    | some f => match op with
      | 0 =>
        let sub : Subscr := ⟨r.id, fieldBE r.blk 4 2 % 4096, period, period⟩
        answer (s.setFm n { f with sub := some sub }) stOk 0 zeros
      | 1 => answer (s.setFm n { f with sub := none }) stOk 0 zeros
      | _ => answer s stOk 0 (lastQuality f.quality)

end State

end Sys2Proof.Machine
end

