-- ==== Sys2Proof/Machine/Crypto.lean ====
section
/-! DEFINITION. The cryptographic functions the chapters name: AES-128 (FIPS 197) and its CMAC (NIST
SP 800-38B), SHA-256 (FIPS 180-4), and the verification of an ECDSA signature on P-256 (FIPS 186).
The standards' own constants are computed from what the standards define them by. -/

namespace Sys2Proof.Machine.Crypto

open Sys2Proof

/-! ### AES-128 -/

/-- Multiplication by x in GF(2⁸) modulo x⁸ + x⁴ + x³ + x + 1. -/
def xtime (a : Byte) : Byte := if a.getLsbD 7 then (a <<< 1) ^^^ 0x1B#8 else a <<< 1

/-- `n` steps of the multiplication of `a` by the bits of `b` from bit `i` on. -/
def gmulFrom : Nat → Nat → Byte → Byte → Byte
  | 0, _, _, _ => 0
  | n + 1, i, a, b => (if b.getLsbD i then a else 0) ^^^ gmulFrom n (i + 1) (xtime a) b

/-- The product in GF(2⁸). -/
def gmul (a b : Byte) : Byte := gmulFrom 8 0 a b

/-- The inverse in GF(2⁸): the 254th power; 0 for 0. -/
def ginv (a : Byte) : Byte :=
  let sq := fun (x : Byte) => gmul x x
  let a2 := sq a
  let a3 := gmul a2 a
  let a6 := sq a3
  let a7 := gmul a6 a
  let a15 := gmul (sq a7) a
  let a31 := gmul (sq a15) a
  let a63 := gmul (sq a31) a
  sq (gmul (sq a63) a)

/-- The S-box: the inverse, then the affine map. -/
def sbox (x : Byte) : Byte :=
  let b := ginv x
  b ^^^ b.rotateLeft 1 ^^^ b.rotateLeft 2 ^^^ b.rotateLeft 3 ^^^ b.rotateLeft 4 ^^^ 0x63#8

/-- Byte-wise exclusive or. -/
def xorBytes (a b : List Byte) : List Byte := List.zipWith (· ^^^ ·) a b

/-- The next round key. -/
def nextKey (k : List Byte) (rcon : Byte) : List Byte :=
  let t := [sbox (byteAt k 13) ^^^ rcon, sbox (byteAt k 14), sbox (byteAt k 15), sbox (byteAt k 12)]
  let w0 := xorBytes (k.take 4) t
  let w1 := xorBytes ((k.drop 4).take 4) w0
  let w2 := xorBytes ((k.drop 8).take 4) w1
  let w3 := xorBytes ((k.drop 12).take 4) w2
  w0 ++ w1 ++ w2 ++ w3

/-- SubBytes and ShiftRows; byte 4c + r is row r of column c. -/
def subShift (s : List Byte) : List Byte :=
  (List.range 16).map fun i => sbox (byteAt s ((i + 4 * (i % 4)) % 16))

/-- MixColumns on one column. -/
def mixColumn (c : List Byte) : List Byte :=
  (List.range 4).map fun r =>
    gmul 2 (byteAt c r) ^^^ gmul 3 (byteAt c ((r + 1) % 4)) ^^^ byteAt c ((r + 2) % 4) ^^^
      byteAt c ((r + 3) % 4)

/-- MixColumns. -/
def mixColumns (s : List Byte) : List Byte :=
  mixColumn (s.take 4) ++ mixColumn ((s.drop 4).take 4) ++ mixColumn ((s.drop 8).take 4) ++
    mixColumn ((s.drop 12).take 4)

/-- Rounds of AES: `n` of them left, the last without MixColumns. -/
def rounds : Nat → List Byte → List Byte → Byte → List Byte
  | 0, s, _, _ => s
  | n + 1, s, k, rcon =>
    let k := nextKey k rcon
    let t := subShift s
    rounds n (xorBytes (if n = 0 then t else mixColumns t) k) k (xtime rcon)

/-- AES-128 of one block of 16 bytes.
PRESUMED, unsafe: log entry 12. -/
def aes (key block : List Byte) : List Byte := rounds 10 (xorBytes block key) key 1

/-- A 16-byte number doubled in GF(2¹²⁸). -/
def dbl (x : List Byte) : List Byte :=
  let v := natBE x
  bytesBE 16 (if v < 2 ^ 127 then 2 * v else (2 * v - 2 ^ 128) ^^^ 0x87)

/-- The CBC chain of CMAC over whole blocks; `n` bounds their number. -/
def cbc : Nat → List Byte → List Byte → List Byte → List Byte
  | 0, _, c, _ => c
  | n + 1, key, c, m =>
    if m.isEmpty then c else cbc n key (aes key (xorBytes c (m.take 16))) (m.drop 16)

/-- The AES-128 CMAC of a message.
PRESUMED, unsafe: log entry 12. -/
def cmac (key msg : List Byte) : List Byte :=
  let zero := List.replicate 16 (0 : Byte)
  let k1 := dbl (aes key zero)
  let full := (msg.length - 1) / 16 * 16
  let last := msg.drop full
  let tail :=
    if last.length = 16 then xorBytes last k1
    else xorBytes (last ++ (0x80#8 :: List.replicate (15 - last.length) 0)) (dbl k1)
  cbc (msg.length / 16 + 1) key zero (msg.take full ++ tail)

/-! ### SHA-256 -/

/-- The root search: the largest `r` below 2^(bits of `n`) with `f r ≤ v`. -/
def rootFrom (f : Nat → Nat) (v : Nat) : Nat → Nat → Nat
  | 0, r => r
  | n + 1, r => rootFrom f v n (if f (r + 2 ^ n) ≤ v then r + 2 ^ n else r)

/-- The first 64 primes. -/
def primes : List Nat :=
  (List.range 312).filter fun n => 2 ≤ n && (List.range n).all fun d => d < 2 || n % d != 0

/-- The round constants: the first 32 bits of the fractions of the cube roots of the primes. -/
def shaK : List Word :=
  primes.map fun p => BitVec.ofNat 32 (rootFrom (fun r => r * r * r) (p * 2 ^ 96) 36 0)

/-- The initial hash: the first 32 bits of the fractions of the square roots of eight primes. -/
def shaH : List Word :=
  (primes.take 8).map fun p => BitVec.ofNat 32 (rootFrom (fun r => r * r) (p * 2 ^ 64) 36 0)

/-- The message schedule, newest word first; `n` words still to add. -/
def schedule : Nat → List Word → List Word
  | 0, w => w
  | n + 1, w =>
    let x := w.getD 1 0
    let y := w.getD 14 0
    let s1 := x.rotateRight 17 ^^^ x.rotateRight 19 ^^^ (x >>> 10)
    let s0 := y.rotateRight 7 ^^^ y.rotateRight 18 ^^^ (y >>> 3)
    schedule n ((s1 + w.getD 6 0 + s0 + w.getD 15 0) :: w)

/-- One round on the working variables a … h. -/
def shaRound (v : List Word) (kw : Word × Word) : List Word :=
  let a := v.getD 0 0
  let e := v.getD 4 0
  let s1 := e.rotateRight 6 ^^^ e.rotateRight 11 ^^^ e.rotateRight 25
  let ch := (e &&& v.getD 5 0) ^^^ (~~~e &&& v.getD 6 0)
  let t1 := v.getD 7 0 + s1 + ch + kw.1 + kw.2
  let s0 := a.rotateRight 2 ^^^ a.rotateRight 13 ^^^ a.rotateRight 22
  let maj := (a &&& v.getD 1 0) ^^^ (a &&& v.getD 2 0) ^^^ (v.getD 1 0 &&& v.getD 2 0)
  [t1 + s0 + maj, a, v.getD 1 0, v.getD 2 0, v.getD 3 0 + t1, e, v.getD 5 0, v.getD 6 0]

/-- One block compressed into the hash. -/
def compress (h : List Word) (block : List Byte) : List Word :=
  let w := ((List.range 16).map fun i => BitVec.ofNat 32 (fieldBE block (4 * i) 4)).reverse
  let v := (shaK.zip (schedule 48 w).reverse).foldl shaRound h
  List.zipWith (· + ·) h v

/-- The blocks of a padded message; `n` bounds their number. -/
def shaBlocks : Nat → List Word → List Byte → List Word
  | 0, h, _ => h
  | n + 1, h, m => if m.isEmpty then h else shaBlocks n (compress h (m.take 64)) (m.drop 64)

/-- The SHA-256 digest of a message.
PRESUMED, unsafe: log entry 12. -/
def sha256 (m : List Byte) : List Byte :=
  let pad := (119 - m.length % 64) % 64
  let p := m ++ [0x80#8] ++ List.replicate pad 0 ++ bytesBE 8 (8 * m.length)
  (shaBlocks (p.length / 64) shaH p).flatMap fun w => bytesBE 4 w.toNat

/-! ### ECDSA on P-256 -/

/-- The prime of the field. -/
def fieldP : Nat := 2 ^ 256 - 2 ^ 224 + 2 ^ 192 + 2 ^ 96 - 1
/-- The order of the group. -/
def orderN : Nat := 0xFFFFFFFF00000000FFFFFFFFFFFFFFFFBCE6FAADA7179E84F3B9CAC2FC632551
/-- The coefficient b. -/
def curveB : Nat := 0x5AC635D8AA3A93E7B3EBBD55769886BC651D06B0CC53B0F63BCE3C3E27D2604B
/-- The base point. -/
def baseG : Nat × Nat :=
  (0x6B17D1F2E12C4247F8BCE6E563A440F277037D812DEB33A0F4A13945D898C296,
   0x4FE342E2FE1A7F9B8EE7EB4A7C0F9E162BCE33576B315ECECBB6406837BF51F5)

/-- `b` to the power of the `n` low bits of `e`, times `acc`, modulo `m`. -/
def powMod (m : Nat) : Nat → Nat → Nat → Nat → Nat
  | 0, _, _, acc => acc
  | n + 1, b, e, acc => powMod m n (b * b % m) (e / 2) (if e % 2 = 1 then acc * b % m else acc)

/-- The inverse modulo a prime `m` of at most 256 bits. -/
def invMod (m a : Nat) : Nat := powMod m 256 (a % m) (m - 2) 1

/-- The sum of two points; `none` is the point at infinity. -/
def addPoint : Option (Nat × Nat) → Option (Nat × Nat) → Option (Nat × Nat)
  | none, q => q
  | p, none => p
  | some (x, y), some (u, v) =>
    if x = u ∧ (y + v) % fieldP = 0 then none
    else
      let k :=
        if x = u then (3 * x * x + fieldP - 3) * invMod fieldP (2 * y) % fieldP
        else (v + fieldP - y) * invMod fieldP (u + fieldP - x) % fieldP
      let w := (k * k + 2 * fieldP - x - u) % fieldP
      some (w, (k * (x + fieldP - w) + fieldP - y) % fieldP)

/-- The multiple of a point by the `n` low bits of `k`, plus `acc`. -/
def mulPoint : Nat → Nat → Option (Nat × Nat) → Option (Nat × Nat) → Option (Nat × Nat)
  | 0, _, _, acc => acc
  | n + 1, k, p, acc =>
    mulPoint n (k / 2) (addPoint p p) (if k % 2 = 1 then addPoint acc p else acc)

/-- Whether (r, s) is a valid signature of a digest under the public key (x, y).
PRESUMED, unsafe: log entry 12. -/
def ecdsaVerify (x y : Nat) (digest : List Byte) (r s : Nat) : Bool :=
  let onCurve := decide (x < fieldP) && decide (y < fieldP) &&
    y * y % fieldP == (x * x * x + (fieldP - 3) * x + curveB) % fieldP
  if !onCurve || r = 0 || s = 0 || decide (orderN ≤ r) || decide (orderN ≤ s) then false
  else
    let w := invMod orderN s
    let p := addPoint (mulPoint 256 (natBE digest * w % orderN) (some baseG) none)
      (mulPoint 256 (r * w % orderN) (some (x, y)) none)
    match p with
    | some (a, _) => a % orderN == r
    | none => false

end Sys2Proof.Machine.Crypto
end

