-- ==== Sys2Proof/Machine/DabOps.lean ====
section
/-! DEFINITION. What DAB reception (chapter 12) shares with the chains, the lanes and the Last: events and
replies of a decoder, how it starts, stops and resets, and the lanes seen against the chains' spans. -/

namespace Sys2Proof.Machine

open Sys2Proof

/-- The code of a decoder state (Table 12-10). -/
def DabMode.code : DabMode → Nat
  | .idle => 0 | .search => 1 | .sync => 2 | .holdover => 3

/-- Causes of DAB_SUBCH (Table 12-8). -/
def subchRemoved : Nat := 0
def subchChanged : Nat := 1
def subchRestarted : Nat := 2

namespace State

/-- An ensemble decoder. -/
def decoder (s : State) (d : Nat) : Decoder := vget Decoder.init s.dab d

/-- The state with decoder `d` replaced. -/
def setDab (s : State) (d : Nat) (x : Decoder) : State := { s with dab := vset s.dab d x }

/-- The reply of a DAB request: code 0x0520 plus the request code, the decoder epoch, the reason and the
rest (R495). -/
def dabReply (s : State) (code d id status reason : Nat) (rest : List Byte) : State :=
  s.reply (0x0520 + code) id status (bytesBE 1 (s.decoder d).epoch ++ bytesBE 1 reason ++ rest)

/-- An event that no subscription gates, for the request that caused the present run or selection
(R525). -/
def dabRaise (s : State) (code d id : Nat) (rest : List Byte) : State :=
  s.radioFor code id (bytesBE 1 d ++ bytesBE 1 (s.decoder d).epoch ++ rest)

/-- An event of Table 12-8 that the decoder's subscription enables (R525). -/
def dabEvent (s : State) (i d : Nat) (rest : List Byte) : State :=
  match (s.decoder d).sub with
  | some q =>
    if q.mask.testBit i then
      s.radioFor (0x0530 + i) q.id (bytesBE 1 d ++ bytesBE 1 (s.decoder d).epoch ++ rest)
    else s
  | none => s

/-- DAB_SYNC with the decoder's state (R525). -/
def dabSync (s : State) (d : Nat) : State :=
  let x := s.decoder d
  s.dabRaise 0x0530 d x.runReq (bytesBE 1 x.mode.code)

/-- DAB_SUBCH for a selection (R525). -/
def dabSubch (s : State) (d : Nat) (q : Selection) (cause : Nat) : State :=
  s.dabRaise 0x0538 d q.reqId (bytesBE 1 q.id ++ bytesBE 1 cause)

/-- A decoder enters a state; fault 0x5201 when the governing ensemble leaves SYNC (R523). -/
def setDabMode (s : State) (d : Nat) (m : DabMode) : State :=
  let x := s.decoder d
  let left := x.mode == .sync && m != .sync && s.last.govCarrier == some (0x80 + d)
  let s := s.setDab d { x with mode := m }
  if left then s.raise 0x5201 d clsNote else s

end State

/-- The data groups in progress of a decoder. -/
def Decoder.partials (x : Decoder) : Nat :=
  (x.sels.map fun q => (q.groups.filter fun g => g.bytes.isSome).length).sum

/-- A selection with its data groups and superframe abandoned and its de-interleaving to begin anew at the
next CIF. -/
def Selection.restart (q : Selection) : Selection :=
  { q with
    fromCif := none, gathered := [], inSync := false, fails := 0
    groups := q.groups.map fun (g : DGroup) => { g with bytes := none } }

namespace State

/-- The data groups that a decoder is assembling abandoned and counted (R122). -/
def dropGroups (s : State) (d : Nat) : State :=
  let x := s.decoder d
  let s := { s with intake.abandoned := satAdd 255 s.intake.abandoned x.partials }
  s.setDab d { x with sels := x.sels.map fun (q : Selection) => { q with
      groups := q.groups.map fun (g : DGroup) => { g with bytes := none } } }

/-- Every request pending in a decoder, as its request code and ID (Table 20-6). -/
def dabPending (s : State) (d : Nat) : List (Nat × Nat) :=
  let x := s.decoder d
  let mine := s.fm.reqs.filter fun (r : Req) => fieldBE r.blk 0 1 == 1 && fieldBE r.blk 1 1 == d
  (x.startReq.toList.map fun i => (11, i)) ++ (x.reqs.map fun e => (e.1, e.2.id)) ++
    (x.selDone.map fun e => (12, e.1)) ++
    (x.sels.flatMap fun q => (q.owed ++ q.leaving.toList).map fun i => (12, i)) ++ (mine.map fun r => (8, r.id))

/-- The requests of `dabPending`, and the correlations and splices of the decoder's carrier, completed
ABORTED_BY_RESET with the epoch as it now stands, in ascending ID (R472, R482, R526, R813).
DESIGN CHOICE, unsafe: log entry 31. -/
def dabAbort (s : State) (d reason : Nat) : State :=
  let x := s.decoder d
  let due := ((s.dabPending d).map fun (e : Nat × Nat) =>
    (e.2, 0x0520 + e.1, bytesBE 1 x.epoch ++ bytesBE 1 reason)) ++ s.carrierPending (0x80 + d)
  let s := s.setDab d { x with
    startReq := none, reqs := [], selDone := []
    sels := (x.sels.filter fun (q : Selection) => !q.fresh).map fun (q : Selection) => { q with
      owed := [], leaving := none } }
  let s := { s with fm.reqs := s.fm.reqs.filter fun (r : Req) =>
      !(fieldBE r.blk 0 1 == 1 && fieldBE r.blk 1 1 == d) }
  (s.dropCarrier (0x80 + d)).abortAll due

/-- A decoder with nothing of an ensemble left, its counters, subscription and waiting requests kept. -/
def dabClear (x : Decoder) : Decoder :=
  { x with
    ready := false, eid := 0, ecc := 0, lto := 0, alarm := false, ensLabel := [], cif := 0, foff := 0
    lastNull := none, missed := 0, startReq := none, mci := [], services := [], packets := [], fec := []
    haveFig00 := false, nextMci := [], changeAt := none, sels := [], selDone := [], history := []
    contents := [], fibHist := [], gap := false }

/-- What R501 does: every selection ends, the pending requests that have taken effect complete NONE with
reason 2, the wide lane is released, and the decoder returns to IDLE. -/
def stopDecoder (s : State) (d : Nat) : State :=
  let x := s.decoder d
  let ids := (x.startReq.toList.map fun i => (11, i)) ++ (x.selDone.map fun e => (12, e.1)) ++
    (x.sels.flatMap fun q => (q.owed ++ q.leaving.toList).map fun i => (12, i))
  let s := s.dropGroups d
  let s := s.setDab d (dabClear (s.decoder d))
  let s := ids.foldl (fun (s : State) e => s.dabReply e.1 d e.2 stNone 2 []) s
  let s := if (s.lane (100 + d)).use = LaneUse.free then s else s.freeLane (100 + d)
  ((s.setDabMode d .idle)).carrierGone (0x80 + d)

/-- Wide lane 100 + d assigned with the DAB preset of Table 9-4 at a centre in kHz (R497). -/
def assignWide (s : State) (d kHz : Nat) : State :=
  let n := 100 + d
  let old := cleared (s.lane n)
  let x : Lane := { old with
    use := .wide, preset := .dab, centre := kHz * 1000, n := 2, dec := 14, f := 0, a := 0, setA := 18
    setB := 18, bankB := false, reson := true, hold := false, epoch := (old.epoch + 1) % 256 }
  let s := s.setLane n { x with branches := s.branchesOf x }
  let x := s.lane n
  (s.setLane n { x with nco := s.ncoOf x }).settleLane n

/-- A decoder started on a frequency (R497): its epoch increments and it enters SEARCH. -/
def startDecoder (s : State) (d kHz : Nat) (id : Option Nat) (run : Nat) (sels : List Selection) :
    State :=
  let s := s.assignWide d kHz
  let x := dabClear (s.decoder d)
  s.setDab d { x with
    mode := .search, epoch := (x.epoch + 1) % 256, freq := kHz, startReq := id, runReq := run
    startEdge := s.last.edge, sels := sels }

/-- A reset of a decoder (R526).  A reset of an IDLE decoder leaves it IDLE. -/
def dabReset (s : State) (d : Nat) : State :=
  let s := s.dropGroups d
  let x := s.decoder d
  let s := s.setDab d { x with epoch := (x.epoch + 1) % 256, sels := x.sels.map Selection.restart }
  let s := s.dabAbort d 0
  let s := (s.decoder d).sels.foldl (fun (s : State) q => s.dabSubch d q subchRestarted) s
  if (s.decoder d).mode = .idle then s
  else
    let s := s.setDabMode d .search
    let x := s.decoder d
    (s.setDab d { x with lastNull := none, missed := 0, cif := 0 }).dabSync d

/-- A decoder fails (R527): fault 0x5204, its requests complete with the new epoch and reason 2, DAB_COVER,
and the other decoder, when IDLE and in service, starts on its frequency at the next tick edge with its
selections (Tables 20-5 and 20-8). -/
def dabFail (s : State) (d : Nat) : State :=
  let x := s.decoder d
  if x.failed then s
  else
    let o := 1 - d
    let y := s.decoder o
    let covers := y.mode == .idle && !y.failed && y.cover.isNone && x.mode != .idle &&
      !vget false s.lanes.wideFailed o
    let s := s.raise 0x5204 d (if covers then clsCovered else clsLost)
    let s := s.dropGroups d
    let x := s.decoder d
    let s := s.setDab d { x with failed := true, epoch := (x.epoch + 1) % 256 }
    let s := s.dabAbort d 2
    let s := s.dabRaise 0x053A d x.runReq (bytesBE 1 d ++ bytesBE 1 (if covers then o else 0xFF))
    let sels := (s.decoder d).sels
    let s := s.setDab d (dabClear (s.decoder d))
    let s := if (s.lane (100 + d)).use = LaneUse.free then s else s.freeLane (100 + d)
    let s := s.setDabMode d .idle
    if covers then
      s.setDab o { s.decoder o with
        cover := some ⟨x.freq, sels.map Selection.restart, x.runReq, s.last.edge⟩ }
    else s

/-- Every assigned lane seen against the chains as they now stand: one that no chain spans becomes FREE
with LANE_LOST SPAN (R362), and a decoder whose wide lane goes stops with DAB_SYNC IDLE (chapter 12, Edges of
acquisition); the others take their branches and their NCO word (R361). -/
def respanLanes (s : State) : State :=
  (List.range 102).foldl (fun (s : State) n =>
    let x := s.lane n
    if x.use = .run ∨ x.use = .wide then
      let b := s.branchesOf x
      if b = 0 then
        let s := (s.freeLane n).laneLost n 1
        if x.use = LaneUse.wide then (s.stopDecoder (n - 100)).dabSync (n - 100) else s
      else s.retuneLane n { x with branches := b } (s.ncoOf x)
    else s) s

end State

end Sys2Proof.Machine
end

