-- ==== Sys2Proof/Machine/HearthOps.lean ====
section
/-! DEFINITION. What the hearth link, the chains and the welt pair share of chapter 13: frames and
their MACs, delivery outcomes, the pins of HR, and what a stop, a reset and a step do to the link. -/

namespace Sys2Proof.Machine

open Sys2Proof

namespace State

/-- A hearth event: the HR chain epoch, then the rest of the window (Table 13-12). -/
def hlEvent (s : State) (code : Nat) (rest : List Byte) : State :=
  s.radioEvent code (bytesBE 1 (s.chain 2).epoch ++ rest) []

end State

/-- The states of the link as HL_STATUS codes them. -/
def LinkMode.code : LinkMode → Nat
  | .stopped => 0 | .starting => 1 | .running => 2

namespace State

/-- The link moved to a state, reported by HL_STATE with its cause (Table 13-12). -/
def setLink (s : State) (m : LinkMode) (cause : Nat) : State :=
  let was := s.hearth.mode
  let s := { s with hearth.mode := m }
  s.hlEvent 0x0610 (bytesBE 1 was.code ++ bytesBE 1 m.code ++ bytesBE 1 cause)

/-- A HEARTH tack's delivery has failed: counted, HL_LOST with its cause and handle, and fault 0x6201
once a superframe (R546, Table 13-12). -/
def frameLost (s : State) (handle : Word) (cause : Nat) : State :=
  let s := { s with
    tack.failHearth := satAdd 255 s.tack.failHearth 1
    hearth.lost := satAdd 255 s.hearth.lost 1 }
  let first := s.hearth.lostSf != some s.sfMark
  let s := { s with hearth.lostSf := some s.sfMark }
  let s := if cause = 0 then s.note 0x6202 else s
  let s := if first then s.note 0x6201 else s
  s.hlEvent 0x0615 (bytesBE 1 cause ++ bytesBE 2 0 ++ bytesBE 4 handle.toNat)

/-- HR's pins and its driver in a state: TRSW, PAEN, PARAMP and the driver only in TX, at an entry of the PA
gain table, LNAEN only in RX (R288, R291, R293). -/
def setHr (s : State) (m : ChainMode) (entry : Nat) : State :=
  let s := s.setChain 2 { s.chain 2 with mode := m }
  { s with
    radio.pinTrsw := m == .tx, radio.pinPaen := m == .tx
    radio.pinParamp := if m = .tx then entry % 256 else 0
    radio.txDriver := if m = .tx then entry / 256 % 32 else 0, radio.pinLnaen := m == .rx }

end State

/-- The airtime of a frame with a payload of `len` bytes, in µs (R535). -/
def airtime (len : Nat) : Nat := (152 + 8 * len) * 5

/-- The MAC of a frame: the leftmost 32 bits of the CMAC over the superframe, the sync word, header
bytes 0, 1, 2 and 4 and the payload (R533). -/
def hearthMac (key : List Byte) (sf sync h0 seq : Nat) (payload : List Byte) : List Byte :=
  (Crypto.cmac key (bytesBE 4 sf ++ bytesBE 4 sync ++ bytesBE 1 h0 ++ bytesBE 2 seq ++
    bytesBE 1 payload.length ++ payload)).take 4

/-- The bytes of a frame from header to CRC (Table 13-2). -/
def frameBytes (key : List Byte) (sf sync h0 seq : Nat) (isB : Bool) (slot : Nat)
    (payload : List Byte) : List Byte :=
  let body := bytesBE 1 h0 ++ bytesBE 2 seq ++ bytesBE 1 (slot + if isB then 128 else 0) ++
    bytesBE 1 payload.length ++ payload ++ hearthMac key sf sync h0 seq payload
  body ++ bytesBE 2 (crc16 body).toNat

namespace State

/-- The end of a frame that never reached the air: SEALED, or NONE PAFAULT when its first refusal was
by check 3 (Table 13-8). -/
def frameRefused (s : State) (f : HFrame) : State :=
  s.frameLost f.handle (if f.refusedA = some 3 then 4 else 3)

/-- A burst B that will not be sent: the frame stands on burst A, or has had neither burst (R549,
Table 13-8). -/
def burstBGone (s : State) (f : HFrame) : State :=
  if f.onAir = 0 then s.frameRefused f
  else { s with hearth.oneBurst := satAdd 255 s.hearth.oneBurst 1 }

/-- Every scheduled burst B cancelled (R550, R551). -/
def cancelBs (s : State) : State :=
  let bs := s.hearth.sched
  let s := { s with hearth.sched := [] }
  bs.foldl (fun (s : State) b => s.burstBGone b.frame) s

/-- The burst of the present slot that has not begun, given up: burst A goes back to the head of the queue,
burst B is not sent, a beacon is not sent (R542, R550, R551).
DESIGN CHOICE, unsafe: log entry 42. -/
def dropUnbegun (s : State) : State :=
  match s.hearth.burst with
  | some b =>
    if b.onAir then s
    else
      let s := { s with hearth.burst := none }
      match b.frame with
      | some f => if b.isB then s.burstBGone f else { s with hearth.queue := f :: s.hearth.queue }
      | none => s
  | none => s

/-- A step of the Last: bursts B not yet on the air are cancelled (R550), and a PP that is not a slot
start makes the rest of its slot dead (R542).
DESIGN CHOICE, unsafe: log entry 42. -/
def hearthStep (s : State) : State :=
  let s := s.cancelBs.dropUnbegun
  if s.last.pp % 19 = 0 then s else { s with hearth.deadSlot := true }

/-- The burst of the present slot abandoned: a frame whose burst A had begun goes back to the head of
the queue, deferred, and its burst B with it (R818). -/
def abandonBurst (s : State) : State :=
  let s := s.dropUnbegun
  match s.hearth.burst with
  | some ⟨some f, false, slot, _, _, _, _⟩ =>
    { s with
      hearth.burst := none
      hearth.queue := { f with deferred := true, onAir := 0 } :: s.hearth.queue
      hearth.sched := s.hearth.sched.filter fun (b : SchedB) =>
        !(b.at_ == slot + 12 && b.frame.handle == f.handle) }
  | _ => { s with hearth.burst := none }

/-- A reset of HR as the link takes it (R551). -/
def hearthReset (s : State) : State := s.abandonBurst.cancelBs

/-- The link stopped with a cause: every queued frame completes NONE, STOPPED, and a START that waits
completes (R218, R539).
DESIGN CHOICE, unsafe: log entry 76. -/
def stopLink (s : State) (cause : Nat) : State :=
  let s := s.dropUnbegun
  let q := s.hearth.queue
  let start := if s.hearth.mode = .starting then s.hearth.startId else 0
  let s := { s with
    hearth.queue := [], hearth.burst := none, hearth.stopping := [], hearth.startId := 0 }
  let s := s.cancelBs
  let s := q.foldl (fun (s : State) f => s.frameLost f.handle 7) s
  let s := if s.hearth.mode = .stopped then s else s.setLink .stopped cause
  if start = 0 then s
  else
    let (reason, s) := s.free16
    s.reply 0x060F start stNone (bytesBE 1 (s.chain 2).epoch ++ [reason.setWidth 8])

/-- Whether this member's failure of HR is covered by a partner (Table 20-5). -/
def paired (s : State) : Bool := s.welt.up

/-- HR has become FAILED: the link stops with fault 0x6101 (R551). -/
def hearthFailed (s : State) : State :=
  if s.hearth.mode = .stopped then s
  else (s.raise 0x6101 0xFF (if s.paired then clsCovered else clsLost)).stopLink 2

end State

end Sys2Proof.Machine
end

