-- ==== Sys2Proof/Machine/Intake.lean ====
section
/-! DEFINITION. Record intake (chapter 3): assembly of batches, verification, de-duplication, routing
and losses.  The release, which hands governing stamps to the Last, is in IntakeRows.lean. -/

namespace Sys2Proof.Machine

open Sys2Proof

/-- The Last's total of corrections, in 1/65 536 tick: a hold counts negative, a slew positive, each as
far as it has come (R53, R890).
DESIGN CHOICE, unsafe: log entry 33. -/
def Last.corrNow (l : Last) : Int :=
  match if l.mode = .stopped then l.resume else l.mode with
  | .hold => l.corr - (l.total - l.rem : Nat)
  | .slew => l.corr + (l.total - l.rem : Nat)
  | _ => l.corr

/-- What a receiver latched with a timestamp `ago` ticks back: the total of corrections and the epoch as
they stood in that tick (R890).
DESIGN CHOICE, unsafe: log entry 33. -/
def Last.latched (l : Last) (ago : Nat) : Int × Nat :=
  let now := (l.corrNow, l.epoch, 0)
  let e := if ago = 0 then now else (l.trail[ago - 1]?).getD (l.trail.getLastD now)
  (e.1, e.2.1)

/-- A fixed receive delay of Table 3-5, in 1/65 536 tick: a group delay in T/16 and tenths of a µs.
DEDUCED, safe: log entry 43. -/
def rxDelay (gdly tenths : Nat) : Nat := gdly * 19 / 30 + tenths * 65536 * 4750 / 10000000

/-- The record types (Table 3-3) whose payload a length fits: STAMP, CUE, GROUP, KEYROLL, TEXT and
program-defined ones; `none` for a type that intake discards. -/
def recordLenOk (type len : Nat) : Option Bool :=
  match type with
  | 1 => some (len == 8)
  | 2 => some (decide (11 ≤ len) && decide (len ≤ 43))
  | 3 => some (decide (4 ≤ len) && decide (len ≤ 52) && len % 2 == 0)
  | 4 => some (len == 4)
  | 5 => some (decide (2 ≤ len) && decide (len ≤ 60))
  | _ => if 0x80 ≤ type ∧ type ≤ 0xFE then some true else none

/-- The records of a batch, each with the offset of its type byte from `o` on; `none` when a length
byte is above 60, the records overrun, or a byte after the last is not 0 (R85, R87). -/
def splitRecords : Nat → Nat → List Byte → Option (List (Nat × Nat × List Byte))
  | 0, _, bs => if bs.all (· == 0) then some [] else none
  | n + 1, o, bs =>
    let len := fieldBE bs 1 1
    if bs.length < 2 ∨ 60 < len ∨ bs.length < 2 + len then none
    else (splitRecords n (o + 2 + len) (bs.drop (2 + len))).map
      ((o, fieldBE bs 0 1, (bs.drop 2).take len) :: ·)

namespace Batch

/-- GEN of a batch. -/
def gen (b : Batch) : Nat := fieldBE b.bytes 1 1
/-- STREAM of a batch. -/
def stream (b : Batch) : Nat := fieldBE b.bytes 4 2
/-- SEQ0 of a batch. -/
def seq0 (b : Batch) : Nat := fieldBE b.bytes 6 2
/-- KEYID of a batch. -/
def keyId (b : Batch) : Nat := fieldBE b.bytes 8 1
/-- COUNT of a batch. -/
def count (b : Batch) : Nat := fieldBE b.bytes 9 1 % 64
/-- The records of a batch. -/
def records (b : Batch) : Option (List (Nat × Nat × List Byte)) :=
  splitRecords b.count 10 ((b.bytes.drop 10).take (b.bytes.length - 18))

/-- The batch is MALFORMED (R87). -/
def malformed (b : Batch) : Bool :=
  b.bytes.length < 20 || decide (512 < b.bytes.length) || fieldBE b.bytes 0 1 / 16 != 1 ||
    fieldBE b.bytes 2 2 != b.bytes.length || b.stream == 0 || b.stream == 0xFFFF || b.count == 0 ||
    decide (32 < b.count) || b.records.isNone

end Batch

/-- The key that a stream accepts for records from `a` to `b`: any held one while it has no current key,
the current one before FROMSEQ of a pending key roll, NEXTKEY from there on, and none for a batch that
straddles it (R95, R98).  A NEXTKEY of 0x00 is taken as any other, and no batch bears it.
DESIGN CHOICE, unsafe: log entry 78. -/
def keyAccepted (st : Option Stream) (id a b : Nat) : Bool :=
  match st.bind (·.key) with
  | none => true
  | some k => match st.bind (·.nextKey) with
    | none => id == k
    | some nk =>
      let frm := (st.map (·.fromSeq)).getD 0
      if seqBefore b frm then id == k
      else if seqBefore a frm then false
      else id == nk

namespace State

/-- A stream's entry. -/
def streamOf (s : State) (id : Nat) : Option Stream := s.intake.streams.find? fun e => e.id == id

/-- A stream's entry replaced, or added at the end. -/
def putStream (s : State) (e : Stream) : State :=
  let has := s.intake.streams.any fun f => f.id == e.id
  { s with intake.streams :=
      if has then s.intake.streams.map fun f => if f.id = e.id then e else f
      else s.intake.streams ++ [e] }

/-- How a batch verifies, with the cause when it does not (R93); a held key that is not bound to the stream
is WRONGKEY.
DESIGN CHOICE, unsafe: log entry 78. -/
def verdictOf (s : State) (b : Batch) : Verdict :=
  if b.keyId = 0 then .nokey
  else match s.mail.keys.show_.find? fun k => k.id == b.keyId with
    | none => .unknown
    | some k =>
      let last := (b.seq0 + b.count - 1) % 65536
      let bound := k.stream == b.stream || k.stream == 0xFFFF
      if !bound || !keyAccepted (s.streamOf b.stream) b.keyId b.seq0 last then .wrongkey
      else
        let body := b.bytes.take (b.bytes.length - 8)
        if (Crypto.cmac k.key body).take 8 = b.bytes.drop (b.bytes.length - 8) then .verified else .badtag

/-- One more MALFORMED counted (Table 3-6). -/
def countMalformed (s : State) (k : Nat) : State :=
  { s with intake.malformed := satAdd 255 s.intake.malformed k }

/-- Two batches are copies of one another. -/
def copies (a b : Batch) : Bool := a.stream == b.stream && a.gen == b.gen && a.seq0 == b.seq0

/-- The UNVERIFIED copies that wait go when a VERIFIED copy completes (R118). -/
def dropHeld (s : State) (b : Batch) : State :=
  { s with intake.batches := s.intake.batches.filter fun (c : Batch) => !(c.heldTo.isSome && copies b c) }

/-- A batch complete in intake: discarded as MALFORMED with fault 0x5303 (R87), or verified (R93) and
waiting for the next tick edge (R114), the held copies of a VERIFIED one discarded; the first UNKNOWN one
of a stream in a superframe raises 0x5302 (R94).  It is judged against the keys as the releases up to now
have left them.
DESIGN CHOICE, unsafe: log entry 78. -/
def completeBatch (s : State) (carrier : Nat) (bytes : List Byte) (anchors : List Anchor) : State :=
  let b : Batch := ⟨carrier, bytes, anchors, .nokey, s.last.edge, none⟩
  if b.malformed then (s.countMalformed 1).note 0x5303
  else
    let v := s.verdictOf b
    let s := if v = .verified then s.dropHeld b else s
    let s := { s with
      intake.batches := s.intake.batches ++ [{ b with verdict := v }]
      intake.badtag := if v = .badtag then satAdd 255 s.intake.badtag 1 else s.intake.badtag }
    if v = .unknown then
      let mark := (b.stream, s.sfMark)
      let first := !s.intake.unknownSf.contains mark
      let s := { s with intake.unknownSf :=
          mark :: s.intake.unknownSf.filter fun (e : Nat × Nat × Nat) => e.1 != b.stream }
      if first then s.note 0x5302 else s
    else s

/-! ### RDS carriage -/

/-- A partial batch abandoned and counted (R101). -/
def abandonPartial (s : State) (carrier : Nat) : State := s.dropPartials carrier

/-- The group type that carries Ghehafa on a lane: GTCODE with FIXGT, else what the lane's latest 3A
group for the application identifier names; type-B groups never do (R99). -/
def ghehafaType (s : State) (f : FmLane) : Option Nat :=
  let ctrl := s.reg 0x280
  let aid := s.fld 0x281 15 0
  let t := if ctrl.bit 3 then some (ctrl.bits 8 4)
    else (f.oda.find? fun e => e.2.2 == aid).map (·.1)
  t.filter fun t => t % 2 == 0

/-- A partial batch grown by four bytes: complete at LEN, abandoned at once for a LEN outside 20–512
(R101). -/
def growPartial (s : State) (p : Partial) : State :=
  let len := fieldBE p.bytes 2 2
  let rest := s.intake.partials.filter fun q => q.carrier != p.carrier
  if len < 20 ∨ 512 < len then
    { s with
      intake.partials := rest, intake.abandoned := satAdd 255 s.intake.abandoned 1 }
  else if len ≤ p.bytes.length then
    ({ s with intake.partials := rest }).completeBatch p.carrier (p.bytes.take len) p.anchors
  else { s with intake.partials := rest ++ [p] }

/-- An ODA group of the Ghehafa type on lane `n`: block B's low bits, the four bytes of C and D, and the
anchor of block D's last bit (R100, R101). -/
def odaGroup (s : State) (n low : Nat) (bytes : List Byte) (anchor : Anchor) : State :=
  let cc := low % 16
  if low.testBit 4 then
    let s := s.abandonPartial n
    s.growPartial ⟨n, bytes, (cc + 1) % 16, [anchor]⟩
  else match s.intake.partials.find? fun p => p.carrier == n with
    | none => s
    | some p =>
      if p.cc ≠ cc then s.abandonPartial n
      else s.growPartial ⟨n, p.bytes ++ bytes, (cc + 1) % 16, p.anchors ++ [anchor]⟩

/-- A group of an FM lane, as four blocks with their status (0 OK, 1 CORRECTED, 2 BAD) and its version,
handed to record intake (R99–R101, R444).  A group whose block B is uncorrectable shows no type, and is none
of the type.
DESIGN CHOICE, unsafe: log entry 78. -/
def intakeGroup (s : State) (n : Nat) (blocks : List (Nat × Nat)) (verB : Bool) (anchor : Anchor) :
    State :=
  let blk := fun i => blocks.getD i (0, 2)
  if !(s.reg 0x280).bit 0 || s.fld 0x281 15 0 == 0 then s
  else match (s.fmLane n).bind s.ghehafaType with
    | none => s
    | some t =>
      if (blk 1).2 = 2 ∨ verB = true ∨ (blk 1).1 / 4096 ≠ t / 2 then s
      else if blocks.any fun b => b.2 == 2 then s.abandonPartial n
      else s.odaGroup n ((blk 1).1 % 32) (bytesBE 2 (blk 2).1 ++ bytesBE 2 (blk 3).1) anchor

/-! ### Routes and priorities -/

/-- The bench mask and the policy FLAG of a stream: the first valid route that names it, else the
defaults (R117). -/
def routeOf (s : State) (stream : Nat) : Nat × Bool :=
  match (List.range 16).findSome? fun i =>
      let r := s.reg (0x283 + i)
      if r.bit 31 && r.bits 15 0 == stream then some (r.bits 19 16, r.bit 20) else none with
  | some x => x
  | none => (s.fld 0x280 15 12, (s.reg 0x280).bit 16)

/-- The priority value of a carrier (INTAKE_CPRIO). -/
def priority (s : State) (carrier : Nat) : Nat :=
  if carrier < 96 then s.fld (0x293 + carrier / 8) (4 * (carrier % 8) + 3) (4 * (carrier % 8))
  else if carrier = 0x80 then s.fld 0x29F 3 0
  else if carrier = 0x81 then s.fld 0x29F 7 4
  else s.fld 0x29F 11 8

/-! ### De-duplication -/

end State

/-- A record that intake delivers. -/
structure Record where
  stream : Nat
  seq : Nat
  gen : Nat
  type : Nat
  payload : List Byte
  carrier : Nat
  unverified : Bool
  generated : Bool
  anchor : Option Anchor
  deriving DecidableEq, Repr

/-- What de-duplication makes of a sequence number (R108). -/
inductive SeqVerdict where
  | fresh | dup | replay
  deriving DecidableEq, Repr

/-- A sequence number against a stream's window (R108). -/
def Stream.judge (e : Stream) (n : Nat) : SeqVerdict :=
  let ahead := (n + 65536 - e.high) % 65536
  if 1 ≤ ahead ∧ ahead ≤ 32767 then .fresh
  else
    let behind := (e.high + 65536 - n) % 65536
    if 1024 ≤ behind then .replay
    else if e.seen.contains n then .dup else .fresh

/-- A number marked seen: H moves to one ahead of it, the numbers passed stand unseen from edge `t` on,
and those that leave the window unseen are answered for a loss (R107, R113). -/
def Stream.mark (e : Stream) (n t : Nat) : Stream × List Nat :=
  let ahead := (n + 65536 - e.high) % 65536
  if 1 ≤ ahead ∧ ahead ≤ 32767 then
    let gap := (List.range (ahead - 1)).map fun i => ((e.high + 1 + i) % 65536, t)
    let inWin := fun (m : Nat) => decide ((n + 65536 - m) % 65536 < 1024)
    let miss := e.missing ++ gap
    ({ e with
        high := n, seen := n :: e.seen.filter inWin
        missing := miss.filter fun m => inWin m.1 },
      (miss.filter fun m => !inWin m.1).map (·.1))
  else ({ e with
      seen := n :: e.seen, missing := e.missing.filter fun m => m.1 != n }, [])

/-- A stream's keys once a VERIFIED batch is taken: its first one sets the current key, and one under
NEXTKEY from FROMSEQ on completes the roll (R95, R96). -/
def Stream.keyed (e : Stream) (b : Batch) : Stream :=
  if e.key.isNone then { e with key := some b.keyId }
  else if e.nextKey == some b.keyId && !seqBefore b.seq0 e.fromSeq then
    { e with key := some b.keyId, nextKey := none }
  else e

/-- Runs of consecutive sequence numbers: first number and length; a LOSS record names 1024 at most (Table
3-4), so a longer run is several.
DESIGN CHOICE, unsafe: log entry 78. -/
def seqRuns (ns : List Nat) : List (Nat × Nat) :=
  ns.foldl (fun r n => match r.getLast? with
    | some (a, k) => if (a + k) % 65536 = n ∧ k < 1024 then r.dropLast ++ [(a, k + 1)] else r ++ [(n, 1)]
    | none => [(n, 1)]) []

/-- The LOSS record of a run (Table 3-4); its carrier is a free value.
DESIGN CHOICE, safe: log entry 75. -/
def lossRecord (e : Stream) (run : Nat × Nat) (carrier : Nat) : Record :=
  ⟨e.id, run.1, e.gen, 0x7F, bytesBE 1 e.gen ++ bytesBE 2 run.1 ++ bytesBE 2 run.2, carrier, false, true,
    none⟩

namespace State

/-- Runs of a stream's numbers declared lost: counted, and fault 0x5304 for each; the LOSS records are
answered (R113).
DESIGN CHOICE, safe: log entry 75. -/
def declareLost (s : State) (e : Stream) (ns : List Nat) : State × List Record :=
  (seqRuns ns).foldl (fun (sr : State × List Record) run =>
    let s := { sr.1 with intake.lost := satAdd 0xFFFFFFFF sr.1.intake.lost run.2 }
    let (c, s) := s.free16
    (s.note 0x5304, sr.2 ++ [lossRecord e run (c.toNat % 256)])) (s, [])

/-- The anchor of a record whose type byte lies at offset `o` of a batch: of its group on RDS, of the
batch on the other carriers (Table 3-5).
DEDUCED, safe: log entry 43. -/
def anchorAt (b : Batch) (o : Nat) : Option Anchor :=
  if b.carrier < 96 then b.anchors[o / 4]? else b.anchors.head?

/-- A record whose contents intake rejects: a length outside its range, a STAMP qualifier or GROUP count
that does not fit, or a type it discards (R88, R89, R106). -/
def recordBad (carrier type : Nat) (p : List Byte) : Bool :=
  match recordLenOk type p.length with
  | some ok =>
    !ok ||
      (type == 1 && (if carrier = 0x80 ∨ carrier = 0x81 then decide (4999 < fieldBE p 6 2)
        else fieldBE p 6 2 != 0)) ||
      (type == 3 && p.length != 4 + 2 * fieldBE p 3 1)
  | none => true

/-- One record of a released batch: seen, or delivered and marked; a KEYROLL of a VERIFIED batch is
kept (R88, R95, R97, R108, R111).  A received LOSS record of its own length is discarded without a count
(Table 3-3); one of another length counts as MALFORMED (R88), as a reserved type does.
DESIGN CHOICE, unsafe: log entry 78. -/
def takeRecord (s : State) (b : Batch) (r : Nat × Nat × List Byte) (i : Nat) :
    State × List Record :=
  match s.streamOf b.stream with
  | none => (s, [])
  | some e =>
    let n := (b.seq0 + i) % 65536
    match e.judge n with
    | .dup => ({ s with intake.dups := satAdd 0xFFFFFFFF s.intake.dups 1 }, [])
    | .replay => ({ s with intake.replays := satAdd 255 s.intake.replays 1 }, [])
    | .fresh =>
      let (e, gone) := e.mark n s.last.edge
      let verified := b.verdict == .verified
      let bad := recordBad b.carrier r.2.1 r.2.2
      let e :=
        if !bad && verified && r.2.1 == 4 then
          { e with nextKey := some (fieldBE r.2.2 0 1), fromSeq := fieldBE r.2.2 2 2 } else e
      let s := s.putStream { e with lastEdge := if bad then e.lastEdge else s.last.edge }
      let (s, losses) := s.declareLost e gone
      if bad then (if r.2.1 = 0x7F ∧ r.2.2.length = 5 then s else s.countMalformed 1, losses)
      else
        (s, losses ++ [⟨b.stream, n, b.gen, r.2.1, r.2.2, b.carrier, !verified, false,
          if r.2.1 = 1 then anchorAt b r.1 else none⟩])

/-- The stream entry a batch meets: its own, a new one (R110), or one that a new generation restarts
(R109); `false` when the batch is discarded.
Numbers that a new generation leaves behind, and those before an entry's first record, are never declared
lost.
DESIGN CHOICE, unsafe: log entry 48. DESIGN CHOICE, unsafe: log entry 78. -/
def entryFor (s : State) (b : Batch) : State × Bool :=
  let verified := b.verdict == .verified
  let last := (b.seq0 + b.count - 1) % 65536
  match s.streamOf b.stream with
  | none =>
    if 32 ≤ s.intake.streams.length then
      (({ s with intake.refused := satAdd 0xFFFFFFFF s.intake.refused 1 }).note 0x5301, false)
    else
      let key := if verified then some b.keyId else none
      (s.putStream ⟨b.stream, b.gen, (b.seq0 + 65535) % 65536, [], [], key, none, 0, s.last.edge⟩, true)
  | some e =>
    let ahead := (b.gen + 256 - e.gen) % 256
    let e := if verified then e.keyed b else e
    if ahead = 0 then (s.putStream e, true)
    else if ahead ≤ 127 ∧ verified = true then
      (s.putStream { e with gen := b.gen, high := last, seen := [], missing := [] }, true)
    else ({ s with intake.replays := satAdd 255 s.intake.replays 1 }, false)

/-- A batch released: its entry, then its records one by one (R111).  The records to deliver are
answered in sequence order. -/
def acceptBatch (s : State) (b : Batch) : State × List Record :=
  let (s, ok) := s.entryFor b
  if !ok then (s, [])
  else match b.records with
    | none => (s, [])
    | some rs =>
      let (s, out, _) := rs.foldl (fun (a : State × List Record × Nat) r =>
        let (t, more) := a.1.takeRecord b r a.2.2
        (t, a.2.1 ++ more, a.2.2 + 1)) (s, [], 0)
      (s, out)

/-! ### Delivery -/

/-- The order key of a record among those of its position: carrier priority, then stream (R115); behind
everything else while the Last is stopped (R121).
DEDUCED, unsafe: log entry 7. -/
def recordKey (s : State) (r : Record) : Nat :=
  s.priority r.carrier * 65536 + r.stream + if s.stopped then lateKey else 0

/-- The RECORD event of a record at the published position (R114, R119, Table 5-12). -/
def recordEvent (s : State) (r : Record) : Event :=
  let w := BitVec.ofNat 32
  ⟨.record, s.now, s.recordKey r, r.type, w (r.stream + r.seq * 65536), r.payload,
    [(6, w r.type), (7, w r.stream), (8, w r.seq), (9, w r.gen), (10, w r.carrier),
     (11, w (bitNat r.unverified + 2 * bitNat r.generated))]⟩

/-- A RECORD event queued to the cue benches of a mask (R117). -/
def recordTo (s : State) (mask : Nat) (e : Event) : State :=
  [0, 1, 2, 3].foldl (fun (s : State) b => if mask.testBit b then s.deliver b e else s) s

/-- A record delivered by its route: on a STANDBY member it waits in the shadow queue, whose capacity
and release chapter 18 gives; an active member mirrors it (R726). -/
def deliverRecord (s : State) (r : Record) : State :=
  let mask := (s.routeOf r.stream).1
  let e := s.recordEvent r
  if mask = 0 then s
  else if s.welt.role = .standby then { s with welt.shadow := s.welt.shadow ++ [e] }
  else (s.recordTo mask e).mirror (.record e mask)

/-- The order of R115 between two records of one release. -/
def recordLe (s : State) (a b : Record) : Bool :=
  let p := s.priority a.carrier
  let q := s.priority b.carrier
  decide (p < q) || (p == q && (decide (a.stream < b.stream) ||
    (a.stream == b.stream && (a.seq == b.seq || seqBefore a.seq b.seq))))

end State

end Sys2Proof.Machine
end

