-- ==== Sys2Proof/Machine/LastOps.lean ====
section
/-! DEFINITION. The Last (chapter 2): its rate sources, the publication of positions, corrections, steps,
and the judging of stamps. -/

namespace Sys2Proof.Machine

open Sys2Proof

/-- The code of a rate source (Table 2-10). -/
def Source.code : Source → Nat
  | .none => 0 | .pilot => 1 | .rdsclk => 2 | .dabframe => 3 | .hearth => 4 | .welt => 5 | .localRef => 6

/-- The code of a mode (Table 2-10). -/
def LastMode.code : LastMode → Nat
  | .track => 0 | .hold => 1 | .slew => 2 | .stopped => 3

namespace State

/-! ### Rate sources -/

/-- The governing stream (R47).
DEDUCED, unsafe: log entry 34. -/
def governing (s : State) : Nat := s.fld 0x101 15 0

/-- The sources of the governing carrier that qualify and are enabled, highest first (Tables 2-2 and
2-3, R40, R886); none while the system PLL is gated. -/
def carrierSources (s : State) : List Source :=
  let en := fun i => (s.reg 0x102).bit i
  if s.governing = 0 ∨ s.clk.sysLock = false then []
  else match s.last.govCarrier with
    | none => []
    | some c =>
      if c < 96 then
        (if en 0 && s.laneLocked c then [.pilot] else []) ++ (if en 1 && s.laneSync c then [.rdsclk] else [])
      else if c = 0x80 ∨ c = 0x81 then
        if en 2 && (s.decoder (c - 0x80)).mode == .sync then [.dabframe] else []
      else []

/-- The qualified and enabled sources in the precedence of Table 2-3, LOCAL last (R39, R45). -/
def sources (s : State) : List Source :=
  if s.welt.role = .standby then [.welt]
  else
    let h := if (s.reg 0x102).bit 3 && s.hearth.bcnQual then [Source.hearth] else []
    let own := s.carrierSources
    (if (s.reg 0x100).bit 11 then h ++ own else own ++ h) ++ [.localRef]

/-- A Last event raised to every bench, and mirrored to a welt partner; what a STANDBY member raises of
its own source goes to bench 4 only, since its cue benches take the active's Last events
(R69, chapter 18). -/
def raiseLast (s : State) (e : Event) : State :=
  if s.welt.role = .standby then s.deliver 4 e else (s.deliverAll e).mirror (.lastev e)

/-- Bits of LAST_EVT set, with the LAST alert cause (Tables 2-8 and 15-5). -/
def lastEvt (s : State) (bits : Nat) : State := ({ s with last.evt := s.last.evt ||| bits }).alert 6

/-- LASTLOSS (Table 2-6). -/
def lastLoss (s : State) (change : Nat) (a b : Source) : State :=
  s.raiseLast ⟨.lastloss, s.now, 0, 0, BitVec.ofNat 32 (change + 256 * a.code + 65536 * b.code),
    bytesBE 1 change ++ bytesBE 1 a.code ++ bytesBE 1 b.code, []⟩

/-- The Last moved to a rate source: a fall to LOCAL begins a free-run with LASTLOSS FREERUN and 0x2101
(R73), a move from LOCAL to a medium source ends one with RESUMED (R76); the position stays continuous
and the trim count restarts (R41, R72). -/
def moveTo (s : State) (x : Source) : State :=
  let was := s.last.src
  if x = was then s
  else
    let s := { s with last.src := x, last.trimEdges := 0 }
    if x = .localRef then
      let s := { s with last.frEdges := 0, last.frRaised := false }
      ((s.lastEvt 4).note 0x2101).lastLoss 0 was x
    else if was = .localRef then
      ({ s with last.frEdges := 0, last.frRaised := false }).lastLoss 2 was x
    else s

/-- The selected source seen again: when it has lost its qualification the Last moves to the next
qualified one at the same tick edge (R42).
DESIGN CHOICE, unsafe: log entry 38. -/
def watchSource (s : State) : State :=
  if s.stopped ∨ s.up .bench = false ∨ s.sources.contains s.last.src = true then s
  else s.moveTo (s.sources.headD .localRef)

/-- The Last moved to the highest qualified source, at a tick edge (R39, R42).
DESIGN CHOICE, unsafe: log entry 38. -/
def bestSource (s : State) : State :=
  if s.stopped ∨ s.up .bench = false then s else s.moveTo (s.sources.headD .localRef)

/-- The Last resumes after a stop, from the frozen PP, in the mode the stop interrupted (R79). -/
def resumeLast (s : State) : State :=
  if s.stopped ∧ s.clk.refOk = true ∧ s.up .bench = true then
    let x := s.sources.headD .localRef
    let s := { s with
      last.mode := s.last.resume, last.src := x, last.trimEdges := 0, last.frEdges := 0
      last.frRaised := false }
    s.lastLoss 2 .none x
  else s

/-- The Last stops on loss of the reference (R77). -/
def stopLast (s : State) : State :=
  if s.stopped ∨ s.up .bench = false then s
  else
    let was := s.last.src
    let s := { s with
      last.resume := s.last.mode, last.mode := LastMode.stopped, last.src := Source.none }
    ((s.lastEvt 8).note 0x2102).lastLoss 1 was .none

/-- The governing carrier set (R886).  A source of the former governing carrier is selected no longer, so
that a count of its edges ends (R40, R72), and the Last goes on with the best source that is left (R42,
R46). -/
def setGovCarrier (s : State) (c : Option Nat) : State :=
  if c = s.last.govCarrier then s
  else
    let own := s.last.src == .pilot || s.last.src == .rdsclk || s.last.src == .dabframe
    ({ s with
      last.govCarrier := c, last.trimEdges := if own then 0 else s.last.trimEdges }).watchSource

/-! ### Publication -/

/-- A position published: to the tack store, to the benches, to a welt partner and to the hearth link,
whose slots begin at multiples of 19 and whose superframes at multiples of 456 (R35, R37, R240, R542,
R714).  A step comes with the PP that it leaves. -/
def publish (s : State) (p : Pos) (step : Option Nat) : State :=
  let s := if p.epoch = s.last.epoch then s else s.ageItems p.epoch
  let s := { s with last.pp := p.pp, last.epoch := p.epoch }
  let s := s.mirror (.tick p)
  let s := if s.supply.power = .run then
      ({ s with prog.opened := s.prog.opened ++ [p] }).watchLag else s
  let s := s.storePublish step
  let s := if p.pp % 19 = 0 then
      { s with
        hearth.slotStart := p.pp, hearth.slotEdge := s.last.edge, hearth.slotCorr := s.last.corrNow, hearth.slotEpoch := p.epoch
        hearth.slotDue := true, hearth.deadSlot := false }
    else s
  if p.pp % 456 = 0 then
    { s with hearth.queue := s.hearth.queue.map fun (f : HFrame) => { f with starts := f.starts + 1 } }
  else s

/-! ### Corrections -/

/-- The correction in progress ended where it stands; one that was a bleed correction ends with it
(R64, R489). -/
def endCorrection (s : State) : State :=
  let s := { s with
    last.corr := s.last.corrNow, last.mode := LastMode.track, last.rem := 0, last.total := 0
    last.rate := 0 }
  if s.follow.bleeding then
    { s with follow.bleeding := false, follow.bleedEdge := s.last.edge }
  else s

/-- The correction in progress has run its whole length. -/
def completeCorrection (s : State) : State := ({ s with last.rem := 0 }).endCorrection

/-- A hold of `x`, in 1/65 536 tick (Table 2-4).
DEDUCED, unsafe: log entry 10. -/
def startHold (s : State) (x : Nat) : State :=
  let s := s.endCorrection
  { s with
    last.mode := LastMode.hold, last.rem := x, last.total := x
    last.holds := satAdd 255 s.last.holds 1 }

/-- SLEW of LAST_CTRL (Table 2-9). -/
def slewRate (s : State) : Nat := match s.fld 0x100 6 5 with
  | 1 => 128
  | 2 => 256
  | _ => 64

/-- A slew by `x`, in 1/65 536 tick, at the present SLEW (Table 2-4, R65).
DEDUCED, unsafe: log entry 10. -/
def startSlew (s : State) (x : Nat) : State :=
  let s := s.endCorrection
  { s with
    last.mode := LastMode.slew, last.rem := x, last.total := x, last.rate := s.slewRate
    last.slews := satAdd 255 s.last.slews 1 }

/-- The position, PP with its fraction, in 1/65 536 tick (R35). -/
def position (s : State) : Nat := s.last.pp * 65536 + s.last.frac

/-- The position kept within 48 integer bits: the device does not wrap it (R34), and it does not go below 0.
DESIGN CHOICE, unsafe: log entry 77. -/
def bounded (q : Int) : Nat := Nat.min (2 ^ 64 - 1) q.toNat

/-- A stamp in 1/65 536 tick moved by a step. -/
def moveStamp (d : Int) (t : Nat) : Nat := ((t : Int) + d).toNat

/-- The stamps of a copy's samples moved. -/
def moveCopy (d : Int) (c : Copy) : Copy :=
  let move := fun (f : Frame) => { f with stamp := moveStamp d f.stamp }
  { c with buffer := c.buffer.map move, ready := c.ready.map move }

/-- PP after − PP before added to the stamp of every sample that the programme outputs and the ports hold, and of
those that are still to come from before the step (R706). -/
def moveStamps (s : State) (d : Int) : State :=
  { s with
    last.trail := s.last.trail.map fun (e : Int × Nat × Nat) => (e.1, e.2.1, moveStamp d e.2.2)
    fm.po := s.fm.po.map fun (p : Po) => { p with
      main := moveCopy d p.main, other := moveCopy d p.other
      out := p.out.map fun (f : Frame) => { f with stamp := moveStamp d f.stamp } }
    port.aud := s.port.aud.map fun (a : Audio) => { a with read := moveStamp d a.read } }

/-- A step by `e`, in 1/65 536 tick, with its cause: 0 STAMP, 1 ADOPT (R67, R68, R70): the position moves by
e, fraction and all (R35), and the total of corrections by what the position moved.  The order is that
of R70; the bubbles not yet begun are placed again (R304), the hearth link takes the step (R542, R550), and
so do the stamps of the audio samples held (R706).  A target below 0 is published as 0.
DESIGN CHOICE, unsafe: log entry 77. -/
def stepLast (s : State) (e : Int) (cause : Nat) : State :=
  let p0 := s.last.pp
  let q0 := s.position
  let q1 := bounded ((q0 : Int) + e)
  let p1 := q1 / 65536
  let back := decide (e < 0)
  let s := s.endCorrection
  let s := { s with
    last.corr := s.last.corr + ((q1 : Int) - q0), last.frac := q1 % 65536, last.pendErrs := []
    last.rewinds := if back then satAdd 255 s.last.rewinds 1 else s.last.rewinds
    last.skips := if back then s.last.skips else satAdd 255 s.last.skips 1 }
  let s := s.lastEvt (if back then 1 else 2)
  let s := s.publish ⟨nextEpoch s.last.epoch, p1⟩ (some p0)
  let s := ((s.replaceBubbles).hearthStep).moveStamps ((q1 : Int) - q0)
  s.raiseLast ⟨if back then .rewind else .skip, s.now, 0, 0, BitVec.ofNat 32 p0,
    bytesBE 6 p0 ++ bytesBE 6 p1 ++ bytesBE 2 s.last.epoch ++ bytesBE 1 cause, []⟩

/-! ### Stamps -/

/-- The offset of a carrier (chapter 11). -/
def offsetOf (s : State) (c : Nat) : Int × Bool :=
  match s.follow.offsets.find? fun o => o.carrier == c with
  | some o => (o.off, o.valid)
  | none => (0, false)

/-- A carrier's offset set. -/
def setOffset (s : State) (c : Nat) (off : Int) (valid : Bool) : State :=
  { s with follow.offsets :=
      (s.follow.offsets.filter fun (o : Offset) => o.carrier != c) ++ [⟨c, off, valid⟩] }

/-- The STAMP event: S, A, e, the action and the epoch after it (Table 2-6).
DESIGN CHOICE, unsafe: log entry 33. -/
def stampEvent (s : State) (v : Nat) (a e : List Byte) (action : Nat) : State :=
  s.raiseLast ⟨.stamp, s.now, 0, 0, BitVec.ofNat 32 action,
    bytesBE 6 v ++ a ++ e ++ bytesBE 1 action ++ bytesBE 1 0 ++ bytesBE 2 s.last.epoch, []⟩

/-- `n` free bytes.
DESIGN CHOICE, unsafe: log entry 33. -/
def freeBytes : Nat → State → List Byte × State
  | 0, s => ([], s)
  | n + 1, s =>
    let (bs, s) := freeBytes n s
    let (x, s) := s.free16
    (bs ++ [x.setWidth 8], s)

/-- An error in 16 fractional bits as LAST_ERR shows it, in 1/256 tick. -/
def errField (e : Int) : Int := e.fdiv 256

/-- Errors agree within a tolerance in ticks (R61). -/
def agrees (tol : Nat) (a b : Int) : Bool := decide ((a - b).natAbs ≤ tol * 65536)

/-- TOL (Table 2-9). -/
def tol (s : State) : Nat := Nat.min 19 (s.fld 0x100 4 0)

/-- The Last's answer to an applied stamp's error: the action and the state (Table 2-4, R61–R64). -/
def answer (s : State) (e : Int) : Nat × State :=
  let tol := s.tol
  let small := e.natAbs
  if s.last.stamped = false then
    let s := { s with last.stamped := true }
    if e = 0 then (0, s) else (4, s.stepLast e 1)
  else if small < 4096 then (0, ({ s with last.pendErrs := [] }).endCorrection)
  else if small ≤ tol * 65536 then
    let s := { s with last.pendErrs := [] }
    if e < 0 then (1, s.startHold small) else (2, s.startSlew small)
  else
    let run := if s.last.pendErrs.all (agrees tol e) then s.last.pendErrs ++ [e] else [e]
    if s.fld 0x100 9 8 < run.length then (4, s.stepLast e 0)
    else (3, { s with last.pendErrs := run })

/-- A governing stamp handed to the Last (R52–R57, R63, R78, R487, R886): the stamp value `v`, the
carrier, and the anchor, which a DAB stamp may lack (R522); A and e of such a stamp are open, and so
free values. -/
def applyStamp (s : State) (v carrier : Nat) (anchor : Option Anchor) : State :=
  match anchor with
  | none =>
    let (a, s) := s.freeBytes 8
    let (e, s) := s.freeBytes 8
    s.stampEvent v a e 5
  | some x =>
    let a : Int := (x.a : Int) - if s.last.stamped then (s.offsetOf carrier).1 else 0
    let e : Int := (v : Int) * 65536 - a - (s.last.corrNow - x.corr)
    let ab := bytesBE 8 (a % 2 ^ 64).toNat
    let eb := bytesBE 8 (satField 64 e)
    if s.stopped ∨ x.epoch ≠ s.last.epoch then s.stampEvent v ab eb 5
    else if (2 ^ 48 - 1 : Int) * 65536 < (v : Int) * 65536 + ((s.last.pp : Int) * 65536 - a) then
      (s.note 0x2104).stampEvent v ab eb 5
    else
      let first := !s.last.stamped
      let (action, s) := s.answer e
      let s := if action = 3 then s else { s with last.err := errField e }
      let s := if first then
          ({ s with
            last.govFixed := true, follow.offsets := [⟨carrier, 0, true⟩] }).setGovCarrier (some carrier)
        else s
      s.stampEvent v ab eb action

/-! ### The governing stream -/

/-- LAST_GOV written (R50, R51): a change of stream clears a pending confirmation, and, before the first
applied stamp, the carrier governs from which records of the new stream were most recently released, if
any (R886). -/
def setGoverning (s : State) (id : Nat) : State :=
  if id = s.governing then s
  else
    let s := s.setReg 0x101 (BitVec.ofNat 32 id)
    let s := { s with last.pendErrs := [] }
    (if s.last.govFixed then s
      else s.setGovCarrier (if id = 0 then none else kget s.intake.released id)).watchSource

/-- The reply of GOVERN (R50). -/
def governReply (s : State) (id status reason : Nat) : State :=
  s.reply 0x010D id status
    (bytesBE 1 0 ++ bytesBE 1 reason ++ bytesBE 2 s.governing ++ bytesBE 6 s.last.pp)

/-- A GOVERN block with a field out of range (R50). -/
def governBad (blk : List Byte) : Bool :=
  fieldBE blk 0 2 == 0xFFFF || (List.range 32).any fun i =>
    !(decide (i < 2) || (decide (4 ≤ i) && decide (i < 10))) && byteAt blk i != 0

/-- A GOVERN request whose edge has come. -/
def governDue (s : State) (r : Req) : Bool :=
  decide (r.edge < s.last.edge) && (governBad r.blk || decide (r.app ≤ s.last.pp))

end State

/-! ### The rows of the table -/

/-- HOLD_END: a hold whose rate ticks have passed ends (R57); one with a part of a tick left ends within the
next tick edge.
DESIGN CHOICE, safe: log entry 4. -/
def execHoldEnd (s : State) : Host.Outcome State Fault Refusal :=
  .next (if s.last.mode = .hold ∧ s.last.rem = 0 then s.completeCorrection else s)

/-- SLEW_END: a slew that has absorbed its error ends (R59). -/
def execSlewEnd (s : State) : Host.Outcome State Fault Refusal :=
  .next (if s.last.mode = .slew ∧ s.last.rem = 0 then s.completeCorrection else s)

/-- SOURCE_QUALIFY: a higher source has qualified and the Last moves to it (R42, R76), or a source
qualifies after a stop and the Last resumes (R79).
DESIGN CHOICE, unsafe: log entry 38. -/
def execSourceQualify (s : State) : Host.Outcome State Fault Refusal :=
  .next (if s.stopped then s.resumeLast else s.bestSource)

/-- TRIM_MEASURE: 7296 tick edges of one medium source have been counted, and the ratio measured over
them replaces the rate trim, in 1/1024 ppm (R72). -/
def execTrimMeasure (trim : Int) (s : State) : Host.Outcome State Fault Refusal :=
  .next (if 7296 ≤ s.last.trimEdges then
    { s with last.trim := trim, last.trimValid := true, last.trimEdges := s.last.trimEdges - 7296 }
  else s)

/-- FRLIMIT_REACHED: a free-run has lasted FRLIMIT superframes: LASTLOSS FRLIMIT and 0x2103, once
(R75). -/
def execFrlimitReached (s : State) : Host.Outcome State Fault Refusal :=
  let limit := Nat.max 1 (s.fld 0x100 31 16)
  .next (if s.last.src = .localRef ∧ s.last.frRaised = false ∧ limit * 456 ≤ s.last.frEdges then
    let s := ({ s with last.frRaised := true }).lastEvt 16
    (s.note 0x2103).lastLoss 3 .localRef .localRef
  else s)

/-- GOVERN_APPLY: the GOVERN requests whose edge has come: LAST_GOV written, or refused with reason 1
(R50). -/
def execGovernApply (s : State) : Host.Outcome State Fault Refusal :=
  let due := s.last.govReqs.filter s.governDue
  let t := { s with last.govReqs := s.last.govReqs.filter fun (r : Req) => !s.governDue r }
  .next (due.foldl (fun (t : State) r =>
    if State.governBad r.blk then t.governReply r.id stNone 1
    else (t.setGoverning (fieldBE r.blk 0 2)).governReply r.id stOk 0) t)

/-- BLEED_CORRECTION: under BLEED, one tick of the governing carrier's offset is taken out by a 1-tick hold
or slew, every valid offset moving with it (R489); below one tick the bleed ends with BLEED_DONE.  A STANDBY
member's Last makes no hold and no slew (R44). -/
def execBleedCorrection (s : State) : Host.Outcome State Fault Refusal :=
  let off := match s.last.govCarrier with
    | some c => (s.offsetOf c).1
    | none => 0
  let ready := s.follow.bleed && s.welt.role != .standby && s.last.mode == .track && s.last.pendErrs.isEmpty &&
    s.last.src != .localRef && decide (s.follow.bleedEdge + s.fld 0xC40 17 8 ≤ s.last.edge)
  .next (
    if !ready then s
    else if off.natAbs < 65536 then
      ({ s with follow.bleed := false }).radioFor 0x0A11 s.follow.bleedId []
    else
      let d : Int := if 0 < off then 65536 else -65536
      let t := if 0 < off then s.startHold 65536 else s.startSlew 65536
      { t with
        follow.bleeding := true
        follow.offsets := t.follow.offsets.map fun (o : Offset) =>
          if o.valid then { o with off := o.off - d } else o })

end Sys2Proof.Machine
end

