-- ==== Sys2Proof/Machine/Demod.lean ====
section
/-! DEFINITION. FM demodulation and the programme outputs (chapter 10): MPX from a lane's blocks, the metrics of
a superframe, and the stereo decoders with concealment, alignment and the cross-fade of a splice. -/

namespace Sys2Proof.Machine

open Sys2Proof

/-! ### MPX (R414–R416) -/

/-- The phase of a sample: of its direction alone (R415). -/
def phaseOf (v : Iq) : BitVec 16 :=
  let g : Int := Nat.gcd v.i.natAbs v.q.natAbs
  Config.angle (Int.fdiv v.i g) (Int.fdiv v.q g)

/-- The MPX value between two consecutive samples: their phase difference modulo a turn, half a turn being
±120 kHz at 240 kS/s (R414). -/
def mpxOf (a b : Iq) : Int := (phaseOf b - phaseOf a).toInt

/-- A lane sample demodulated, with twice the pilot PLL's phase; the first one after a GAP gives no MPX sample
(R416).  The PLL runs on at its last frequency over a marked sample (R420).
DEDUCED, safe: log entry 82. -/
def demodSample (excl : Bool) (f : FmLane) (y : Sample) : Option (Mpx × BitVec 32) × FmLane :=
  match f.prev with
  | none => (none, { f with prev := some y })
  | some p =>
    let invalid := y.invalid || p.invalid
    let m : Mpx := ⟨mpxOf p.v y.v, invalid, !invalid && (y.unsettled || p.unsettled), excl, y.v.power, y.at_⟩
    let t := if invalid || m.unsettled then (f.pllPhase + f.pllFreq, f.pllFreq)
      else Config.pilotLoop f.pllPhase f.pllFreq m.v
    (some (m, 2 * t.1), { f with prev := some y, pllPhase := t.1, pllFreq := t.2, meas := m :: f.meas })

/-- Lane samples demodulated, oldest first. -/
def demodSamples (excl : Bool) (f : FmLane) (ys : List Sample) : List (Mpx × BitVec 32) × FmLane :=
  ys.foldl (fun (a : List (Mpx × BitVec 32) × FmLane) y =>
    let t := demodSample excl a.2 y
    (a.1 ++ t.1.toList, t.2)) ([], f)

/-- A lane's block demodulated: a GAP before it parts it from the sample before, and a GAINSTEP in it keeps it
out of LEVEL (R415, R416). -/
def demodBlock (f : FmLane) (b : OutBlock) : List (Mpx × BitVec 32) × FmLane :=
  let f := if b.gap = 0 then f else { f with prev := none, gapSeen := true }
  demodSamples (b.samples.any (·.step)) f b.samples

/-! ### Metrics (Table 10-2) -/

/-- The MPX samples that no mark excludes (R454). -/
def cleanMpx (ms : List Mpx) : List Mpx := ms.filter fun m => !m.invalid && !m.unsettled

/-- LEVEL in 0.5 dBµV of a run of MPX samples; `none` when every one is excluded. -/
def State.levelOf (s : State) (ms : List Mpx) : Option Int :=
  let ps := ((cleanMpx ms).filter fun m => !m.step).map (·.power)
  if ps.isEmpty then none
  else some (Config.antennaLevel ps.sum ps.length (s.chain 0).gain (s.chain 1).gain)

/-- USN in dB of a run of MPX samples. -/
def usnOf (ms : List Mpx) : Nat := Nat.min 90 (Config.usn ((cleanMpx ms).map (·.v)))

/-- The measured bytes 0–7 of a quality record over the samples of a superframe: LEVEL, USN, MPATH, FOFF and
DEV (Table 10-2).  Where no sample is left, LEVEL, FOFF and DEV are free values. -/
def State.metrics (s : State) (ms : List Mpx) (aliased : Bool) : List Byte × State :=
  let cs := cleanMpx ms
  let (a, s) := s.free16
  let (b, s) := s.free16
  let (c, s) := s.free16
  let level := match s.levelOf ms with
    | some x => satField 16 x
    | none => a.toNat
  let foff := if cs.isEmpty then b.toNat
    else satField 16 (roundDiv ((cs.map (·.v)).sum * 120000) (32768 * cs.length))
  let peak := (cs.map fun m => m.v.natAbs).foldl Nat.max 0
  let dev := if aliased then 0xFFFF else if cs.isEmpty then c.toNat else (roundDiv (peak * 1200) 32768).toNat
  (bytesBE 2 level ++ bytesBE 1 (usnOf ms) ++ bytesBE 1 (Nat.min 100 (Config.mpath (cs.map (·.power)))) ++
    bytesBE 2 foff ++ bytesBE 2 dev, s)

/-! ### A stereo decoder (R425–R431) -/

namespace Copy

/-- Concealment is in progress (Table 10-6). -/
def concealing (c : Copy) : Bool := c.long || !c.run.isEmpty

/-- One channel's sample after matrixing: de-emphasis, soft mute and the fade of a muting (R427, R428, R431). -/
def finish (c : Copy) (de : Nat) (mem x : Int) : Int × BitVec 24 :=
  let y := if de = 0 then x else Config.deemph de mem x
  let z := Config.attenuate c.mute y
  (y, Config.audio (z * c.fade) 24)

/-- An output sample from the latest MPX samples: L + R, and L − R multiplied by b (R425, R429); the sample
enters the alignment buffer, and one that is B samples old leaves it. -/
def produce (c : Copy) (de stamp : Nat) (release : Bool) : Copy :=
  let c := { c with fade := if c.long then c.fade - 1 else Nat.min 24 (c.fade + 1) }
  let sum := Config.stereoSum (c.mpx.map (·.1)) * 16320
  let diff := Config.stereoDiff c.mpx * c.blend
  let l := c.finish de c.deL (Config.audio (sum + diff) 32640).toInt
  let r := c.finish de c.deR (Config.audio (sum - diff) 32640).toInt
  let buffer := (⟨l.2, r.2, stamp⟩ :: c.buffer).take 20161
  { c with
    deL := l.1, deR := r.1, buffer := buffer
    ready := if release then c.ready ++ (buffer[c.coarse]?).toList else c.ready }

/-- An MPX value into the decoder; every fifth gives an output sample at 48 kS/s. -/
def feed (c : Copy) (de : Nat) (v : Int) (phase : BitVec 32) (stamp : Nat) (release : Bool) : Copy :=
  let c := { c with mpx := ((v, phase) :: c.mpx).take 1024 }
  if c.count = 4 then { c with count := 0 }.produce de stamp release else { c with count := c.count + 1 }

/-- The latest MPX value fed. -/
def lastValue (c : Copy) : Int := ((c.mpx.head?).map (·.1)).getD 0

/-- A run of up to 1 ms concealed: linear between the last valid sample and the next one (R431). -/
def interpolate (c : Copy) (de : Nat) (next : Int) (st : Nat → Nat) (release : Bool) : Copy :=
  let n := c.run.length + 1
  let a := c.lastValue
  (c.run.reverse.zipIdx).foldl (fun (c : Copy) (e : (Mpx × BitVec 32) × Nat) =>
    c.feed de (roundDiv (a * (n - (e.2 + 1)) + next * (e.2 + 1)) n) e.1.2 (st e.1.1.at_) release)
    { c with run := [] }

/-- An MPX sample into the copy, with the stamp of an instant (R426): INVALID samples wait up to 1 ms to be
interpolated; a longer run fades the copy out, held at its last value, and in again (R431).  UNSETTLED
samples are decoded as they stand.  Tells whether a muting begins. -/
def take (c : Copy) (de : Nat) (st : Nat → Nat) (release : Bool) (e : Mpx × BitVec 32) : Copy × Bool :=
  let c := { c with since := e.1 :: c.since }
  if e.1.invalid then
    if c.long then (c.feed de c.lastValue e.2 (st e.1.at_) release, false)
    else if c.run.length < 240 then ({ c with run := e :: c.run }, false)
    else
      let held := e :: c.run
      let v := c.lastValue
      (held.reverse.foldl (fun (c : Copy) (x : Mpx × BitVec 32) => c.feed de v x.2 (st x.1.at_) release)
        { c with run := [], long := true }, true)
  else
    let c := if c.long then { c with long := false } else c.interpolate de e.1.v st release
    (c.feed de e.1.v e.2 (st e.1.at_) release, false)

/-- A run of MPX samples into the copy. -/
def takeAll (c : Copy) (de : Nat) (st : Nat → Nat) (release : Bool) (es : List (Mpx × BitVec 32)) :
    Copy × Bool :=
  es.foldl (fun (a : Copy × Bool) e =>
    let t := a.1.take de st release e
    (t.1, a.2 || t.2)) (c, false)

end Copy

namespace Po

/-- The samples that leave the copies, heard: the source's alone, or in a splice's fade of `n` output samples
the sum of both, weighted (1 − k/n) and k/n (R479). -/
def pump (p : Po) (n : Option Nat) : Po :=
  match n with
  | none => { p.emit p.main.ready with main.ready := [], other.ready := [] }
  | some n =>
    let k := Nat.min p.main.ready.length p.other.ready.length
    let mixed := (p.main.ready.zip p.other.ready).zipIdx.map fun e =>
      let w : Int := Nat.min n (p.fadeK + e.2 + 1)
      let mix := fun (a b : BitVec 24) => Config.audio (a.toInt * (n - w) + b.toInt * w) n
      (⟨mix e.1.1.l e.1.2.l, mix e.1.1.r e.1.2.r, e.1.2.stamp⟩ : Frame)
    { p.emit mixed with
      main.ready := p.main.ready.drop k, other.ready := p.other.ready.drop k, fadeK := p.fadeK + k }

end Po

namespace State

/-- DEEMPH of a programme output; 3 acts as 2 (R427, Table 10-6). -/
def deemphOf (s : State) (po : Nat) : Nat := Nat.min 2 (s.fld (0xC10 + 8 * po) 9 8)

/-- The PP in 1/65 536 tick that the tick edges gave at an instant: the position of its tick and the time since
(R35, R351). -/
def stampAt (s : State) (t : Nat) : Nat :=
  let e := t / 65536
  if s.last.edge ≤ e then s.position + (t - s.last.edge * 65536)
  else
    let back := s.last.edge - 1 - e
    ((s.last.trail[back]?).map (·.2.2)).getD (s.position - (s.last.edge - e) * 65536) + t % 65536

/-- The stamp of an output sample decoded from the MPX sample of an instant: less the decoder's 0.50 ms, the
lane's GDLY, and its carrier's offset where that is valid (R426, R484).
DEDUCED, unsafe: log entry 82. -/
def outStamp (s : State) (n t : Nat) : Nat :=
  let o := s.offsetOf n
  ((s.stampAt t : Int) - 155648 - (s.groupDelay (s.lane n) * 19 / 30 : Nat) - (if o.2 then o.1 else 0)).toNat

/-- The splice in progress whose target copy an output decodes: from ALIGN on (R475, R479). -/
def targetSplice (s : State) (po : Nat) : Option Splice :=
  s.follow.splices.find? fun sp => fieldBE sp.blk 0 1 == po && sp.stage != .slew

/-- The length in output samples of the cross-fade that runs on an output (R479). -/
def fadeLength (s : State) (po : Nat) : Option Nat :=
  match s.targetSplice po with
  | some sp => if sp.stage = .fade then some (fieldBE sp.blk 12 2 * 48) else none
  | none => none

/-- MPX samples of a lane into the copies of an output that take it; a muting that is heard raises 0x5103
(R431). -/
def feedOutput (s : State) (n : Nat) (es : List (Mpx × BitVec 32)) (po : Nat) : State :=
  let p := vget Po.init s.fm.po po
  let de := s.deemphOf po
  let st := s.outStamp n
  let main := if p.source = some n then p.main.takeAll de st true es else (p.main, false)
  let other := if (s.targetSplice po).any (fun sp => fieldBE sp.blk 2 1 == n)
    then p.other.takeAll de st true es else (p.other, false)
  let fade := s.fadeLength po
  let s := { s with fm.po := vset s.fm.po po ({ p with main := main.1, other := other.1 }.pump fade) }
  if main.2 || (other.2 && fade.isSome) then s.note 0x5103 else s

/-- MPX samples of a lane recorded by the correlations that name it: the candidate for W + 10 superframes from b,
the reference for W superframes from b + 5 (R464). -/
def recordMpx (s : State) (n : Nat) (ms : List Mpx) : State :=
  { s with follow.corrs := s.follow.corrs.map fun (q : Corr) =>
      if fieldBE q.blk 0 1 = 0 then
        let w := fieldBE q.blk 3 1
        let within := fun (from_ len : Nat) => (ms.filter fun m =>
          decide (from_ * 65536 ≤ m.at_) && decide (m.at_ < (from_ + len) * 65536)).reverse
        let q := if fieldBE q.blk 1 1 = n then
            { q with refRec := within (q.start + 5 * 456) (w * 456) ++ q.refRec } else q
        if fieldBE q.blk 2 1 = n then
          { q with candRec := within q.start ((w + 10) * 456) ++ q.candRec } else q
      else q }

/-- A block of an FM lane demodulated into its receiver, the correlations and the programme outputs (R414, R425,
R464). -/
def demodulate (s : State) (n : Nat) (b : OutBlock) : List Mpx × State :=
  match s.fmLane n with
  | none => ([], s)
  | some f =>
    let t := demodBlock f b
    let ms := t.1.map (·.1)
    let s := (s.setFm n t.2).recordMpx n ms
    (ms, [0, 1].foldl (fun (s : State) po => s.feedOutput n t.1 po) s)

/-- The whole samples of a source lane's Δ moved into the alignment buffer of an output: 960 lane samples held
behind Δ are decoded into 192 output samples, B grows by 192 and Δ falls by 960 (R476). -/
def moveDelay (s : State) (n po : Nat) : State :=
  let x := s.lane n
  let ys := (List.range 960).filterMap fun k => match x.sig.line with
    | [] => none
    | y :: rest => some ({ x.sig with line := rest }.resample (x.delta - 1024 * (k + 1)) y).1
  let p := vget Po.init s.fm.po po
  let t := match s.fmLane n with
    | some f => let d := demodSamples false f ys; (d.1, s.setFm n d.2)
    | none => ([], s)
  let c := (p.main.takeAll (s.deemphOf po) (s.outStamp n) false t.1).1
  let s := { t.2 with fm.po := vset t.2.fm.po po { p with main := { c with coarse := c.coarse + 192 } } }
  let x := s.lane n
  let s := s.setLane n { x with goal := x.goal - 960 * 1024 }
  s.setDelta n (x.delta - 960 * 1024) x.slewing

/-- FM quality of a superframe: the record of what the lane's MPX samples of the superframe give, kept and
raised to the subscription at each period (R454, R457). -/
def fmQuality (s : State) (n : Nat) (aliased : Bool) : State :=
  match s.fmLane n with
  | some f =>
    let m := s.metrics f.meas aliased
    let s := m.2
    let bytes := qualityBytes f m.1
    let f := { f with quality := some ⟨bytes, sfOf s.last.pp⟩, meas := [], gapSeen := false }
    match f.sub with
    | some q =>
      let (due, q) := qualityDue q
      let s := s.setFm n { f with sub := some q }
      if due then
        s.radioFor 0x051F q.id (bytesBE 1 n ++ bytesBE 1 (s.lane n).epoch ++ bytesBE 2 0 ++ bytes)
      else s
    | none => s.setFm n f
  | none => s

/-- The blend target of a copy, in 1/16 320, from LEVEL in 0.5 dBµV and USN in dB (R429, R461). -/
def blendTarget (s : State) (po : Nat) (level : Int) (usn : Nat) : Nat :=
  let v := s.reg (0xC12 + 8 * po)
  Nat.min (blendTerm level (2 * v.bits 7 0) (2 * v.bits 15 8)) (blendTerm usn (v.bits 23 16) (v.bits 31 24))

/-- The soft-mute target of a copy, in quarter dB: min(SMMAX, max(0, SMSTART − LEVEL)) (R428). -/
def muteTarget (s : State) (po : Nat) (level : Int) : Nat :=
  let v := s.reg (0xC11 + 8 * po)
  Nat.min (4 * Nat.min 40 (v.bits 13 8)) (4 * (v.bits 7 0 : Int) - 2 * level).toNat

/-- A copy after a tick of its output: the tick's LEVEL and USN set soft mute and blend, which move toward their
targets (R428, R429); while the copy's lane is not LOCKED, or with FORCEMONO, the blend target is 0 (R430,
R432).  A tick without a clean sample gives no LEVEL, and leaves the targets as they stand.
DESIGN CHOICE, unsafe: log entry 85. -/
def copyLevels (s : State) (po n : Nat) (c : Copy) : Copy :=
  let mono := !s.laneLocked n || (s.reg (0xC10 + 8 * po)).bit 10
  let level := s.levelOf c.since
  let want := match level with
    | some l => s.muteTarget po l
    | none => c.mute
  let b := if mono then 0 else match level with
    | some l => s.blendTarget po l (usnOf c.since)
    | none => c.blend
  { c with since := [], mute := stepToward c.mute want 16 1, blend := stepToward c.blend b 255 2040 }

end State

/-- PO_TICK: a tick has ended for a programme output: soft mute and blend of the source's copy, and of the
target's copy while a splice has one (R428–R430, R479). -/
def execPoTick (po : Fin 2) (s : State) : Host.Outcome State Fault Refusal :=
  let p := s.fm.po.get po
  .next (match p.source with
    | some n =>
      let other := match s.targetSplice po.val with
        | some sp => s.copyLevels po.val (fieldBE sp.blk 2 1) p.other
        | none => p.other
      if s.reception then
        { s with fm.po := s.fm.po.set po { p with main := s.copyLevels po.val n p.main, other := other } }
      else s
    | none => s)

/-- DETECTOR_BLOCK: K samples of the detector's selected input have come: the block's LEVEL (R396–R398); a block
with any INVALID or UNSETTLED sample leaves the previous level standing (R419). -/
def execDetectorBlock (lane : Nat) (s : State) : Host.Outcome State Fault Refusal :=
  let x := s.lane lane
  let k := Nat.max 15 x.sfdK + 1
  .next (
    if x.use == .free || decide (x.sfd.length < k) || !s.reception then s
    else
      let blk := x.sfd.take k
      let level := if blk.any (·.2) then x.level else detectorLevel x.sfdFreq (blk.map (·.1))
      let s := s.setLane lane { x with level := level, sfd := x.sfd.drop k }
      match s.fmLane lane with
      | some f => s.setFm lane { f with level := level }
      | none => s)

end Sys2Proof.Machine
end

