-- ==== Sys2Proof/Machine/Follow.lean ====
section
/-! DEFINITION. Following a programme across frequencies (chapter 11): correlations, splices and carrier
offsets.  Bleed corrections are in LastOps.lean. -/

namespace Sys2Proof.Machine

open Sys2Proof

/-! ### Units -/

/-- A delay in ns as a delay in 1/65 536 tick, to the nearest. -/
def nsToTicks (d : Int) : Int := Int.fdiv (d * 311296000 + 500000000) 1000000000

/-- A delay in 1/65 536 tick in ns, to the nearest. -/
def ticksToNs (t : Int) : Int := Int.fdiv (t * 1000000000 + 155648000) 311296000

/-- A delay in ns in 1/1024 sample of a 240 kS/s lane, to the nearest. -/
def nsToDelta (d : Int) : Int := Int.fdiv (d * 245760 + 500000) 1000000

/-- A delay in ms in 1/1024 lane sample. -/
def msToDelta (ms : Nat) : Nat := ms * 245760

namespace State

/-! ### Carriers -/

/-- A carrier is an FM lane in RUN, or an ensemble whose services are decoded (Table 11-4). -/
def carrierRuns (s : State) (c : Nat) : Bool :=
  if c < 96 then (s.lane c).use == .run && (s.lane c).settle == 0
  else
    let m := (s.decoder (c - 0x80)).mode
    (c == 0x80 || c == 0x81) && (m == .sync || m == .holdover)

/-- A carrier ID that following names: an FM lane's or a decoder's (Table 3-1). -/
def carrierId (c : Nat) : Bool := decide (c < 96) || c == 0x80 || c == 0x81

/-- A target usable under R463. -/
def targetUsable (s : State) (c : Nat) : Bool := s.carrierRuns c && (decide (96 ≤ c) || (s.fmLane c).isSome)

/-! ### Correlation -/

/-- The reply of CORRELATE (Table 11-3). -/
def correlateReply (s : State) (id : Nat) (blk : List Byte) (status reason : Nat) (d : Int)
    (conf ratio pp : Nat) : State :=
  s.reply 0x0A09 id status
    (bytesBE 1 (s.carrierEpoch (fieldBE blk 2 1)) ++ bytesBE 1 reason ++ bytesBE 1 (fieldBE blk 0 1) ++
      bytesBE 1 0 ++ bytesBE 4 (satField 32 d) ++ bytesBE 1 conf ++ bytesBE 1 ratio ++ bytesBE 6 pp)

/-- A CORRELATE whose kind and fields are out of range or do not fit the carriers (reason 1).
DEDUCED, safe: log entry 28. -/
def correlateBad (s : State) (blk : List Byte) : Bool :=
  let kind := fieldBE blk 0 1
  let a := fieldBE blk 1 1
  let b := fieldBE blk 2 1
  let n := fieldBE blk 3 1
  let stream := fieldBE blk 6 2
  let notFm := fun c => decide (96 ≤ c) || ((s.lane c).use != .free && (s.fmLane c).isNone)
  decide (1 < kind) || !carrierId a || !carrierId b ||
    (kind == 0 && (decide (n < 2) || decide (32 < n) || notFm a || notFm b)) ||
    (kind == 1 && (decide (n < 2) || decide (8 < n) || stream == 0 || stream == 0xFFFF))

/-- A CORRELATE takes effect at a tick edge (R464, R465, R471).
DEDUCED, safe: log entry 28. DESIGN CHOICE, unsafe: log entry 35. -/
def startCorrelate (s : State) (r : Req) : State :=
  let no := fun status reason => s.correlateReply r.id r.blk status reason 0 0 0 0
  if s.correlateBad r.blk then no stNone 1
  else if s.carrierRuns (fieldBE r.blk 1 1) = false ∨ s.carrierRuns (fieldBE r.blk 2 1) = false then
    no stNone 2
  else if 4 ≤ s.follow.corrs.length then no stBusy 4
  else
    let b := (sfOf s.last.pp + 1) * 456
    { s with follow.corrs := s.follow.corrs ++
        [⟨r.id, r.blk, s.last.edge, s.last.edge + (b - s.last.pp), b, [], [], [], [], none⟩] }

/-- The sequence numbers seen on both carriers of a STAMP correlation, in the order in which they
became common, each with A(candidate) − A(reference) (R465). -/
def commonStamps (q : Corr) : List (Nat × Int) :=
  q.candSeen.filterMap fun c => (q.refSeen.find? fun r => r.1 == c.1).map fun r => (c.1, c.2 - r.2)

/-- A copy of a STAMP record reaches intake on a carrier: correlations of its stream note its antenna
instant, before any offset, of the first copy of each record on each carrier (R465).  The instant is
A less the corrections made up to it, so that a correction of the Last changes no difference (Edges of
Correlation). -/
def noteStamp (s : State) (stream seq carrier : Nat) (a : Anchor) : State :=
  let t : Int := (a.a : Int) - a.corr
  { s with follow.corrs := s.follow.corrs.map fun (q : Corr) =>
      if fieldBE q.blk 0 1 = 1 ∧ fieldBE q.blk 6 2 = stream ∧ q.common = none then
        let add := fun (m : List (Nat × Int)) => if m.any fun e => e.1 == seq then m else m ++ [(seq, t)]
        let q := if fieldBE q.blk 1 1 = carrier then { q with refSeen := add q.refSeen } else q
        let q := if fieldBE q.blk 2 1 = carrier then { q with candSeen := add q.candSeen } else q
        if fieldBE q.blk 3 1 ≤ (commonStamps q).length then
          { q with common := some (s.last.edge, s.last.pp) } else q
      else q }

/-- A result is usable now (R469). -/
def resultUsable (s : State) (q : CorrResult) : Bool :=
  q.ok && decide (s.fld 0xC40 7 0 ≤ q.conf) && (!q.mpx || decide (6 ≤ q.ratio)) &&
    decide (q.d.natAbs ≤ 400000000) && decide (s.last.edge ≤ q.edge + 32 * 456)

/-- A correlation ends with a result: kept, replied, and installed when INSTALL is 1 and it is usable
(R467, R470). -/
def endCorrelate (s : State) (q : Corr) (status reason : Nat) (d : Int) (conf ratio pp : Nat) :
    State :=
  let a := fieldBE q.blk 1 1
  let b := fieldBE q.blk 2 1
  let r : CorrResult := ⟨q.id, a, b, fieldBE q.blk 0 1 == 0, status == stOk, d, conf, ratio, s.last.edge⟩
  let s := { s with
    follow.corrs := s.follow.corrs.filter fun (x : Corr) => x.id != q.id
    follow.results := r :: s.follow.results.filter fun (x : CorrResult) =>
      x.id != q.id && decide (s.last.edge ≤ x.edge + 32 * 456) }
  let s := if (byteAt q.blk 4).getLsbD 0 && s.resultUsable r then
      s.setOffset b ((s.offsetOf a).1 + nsToTicks d) (s.offsetOf a).2
    else s
  s.correlateReply q.id q.blk status reason d conf ratio pp

/-- The result of a STAMP correlation: the mean of the first n differences, and CONF from their spread in
ticks (R465, R468). -/
def stampResult (q : Corr) : Int × Nat :=
  let n := fieldBE q.blk 3 1
  let ds := ((commonStamps q).take n).map (·.2)
  let mean := Int.fdiv (2 * ds.sum + n) (2 * n)
  let top := ds.foldl max (ds.headD 0)
  let low := ds.foldl min (ds.headD 0)
  let loss := ((top - low).toNat * 64 + 65535) / 65536
  (ticksToNs mean, 255 - loss)

end State

/-- More than 25 % of the samples that a MPX correlation records were marked or never came: W + 10 superframes of
the candidate and W of the reference, at 240 kS/s (R464, Table 11-4). -/
def State.corrMissing (q : Corr) : Bool :=
  let due := (2 * fieldBE q.blk 3 1 + 10) * 23040
  decide (4 * ((cleanMpx q.refRec).length + (cleanMpx q.candRec).length) < 3 * due)

/-- The peak of a MPX correlation over its recordings: d in ns, CONF and RATIO (R464, R468).
DEDUCED, safe: log entry 28. -/
def State.corrPeak (q : Corr) : Int × Nat × Nat :=
  let clean := fun (ms : List Mpx) => (cleanMpx ms).reverse.map fun m => (m.at_, m.v)
  Config.correlate (clean q.refRec) (clean q.candRec)

/-- CORRELATE_REPLY: a correlation ends.  A MPX correlation ends at the boundary b + W + 11 superframes
with what its recordings give; a STAMP correlation at the first tick edge after the n-th common record,
or fails after 64 superframes (R464–R468, Table 11-4). -/
def execCorrelateReply (id : Nat) (s : State) : Host.Outcome State Fault Refusal :=
  .next (match s.follow.corrs.find? fun q => q.id == id with
    | none => s
    | some q =>
      let w := fieldBE q.blk 3 1
      if fieldBE q.blk 0 1 = 0 then
        if s.last.edge < q.start + (w + 11) * 456 then s
        else
          let pp := q.startPp + 5 * 456 + w * 228
          let m := State.corrPeak q
          if State.corrMissing q then s.endCorrelate q stNone 6 0 0 0 pp
          else if 400000000 < m.1.natAbs then s.endCorrelate q stNone 5 0 0 0 pp
          else s.endCorrelate q stOk 0 m.1 (Nat.min 255 m.2.1) (Nat.min 255 m.2.2) pp
      else match q.common with
        | some (e, pp) =>
          if e < s.last.edge then
            let r := State.stampResult q
            s.endCorrelate q stOk 0 r.1 r.2 0xFF pp
          else s
        | none =>
          if q.edge + 64 * 456 ≤ s.last.edge then s.endCorrelate q stNone 5 0 0 0 0 else s)

namespace State

/-! ### The splice -/

/-- D of a programme output in 1/1024 lane sample: its coarse part and the Δ of its source lane
(chapter 11, Ground). -/
def outputDelay (s : State) (po : Nat) : Nat :=
  let p := vget Po.init s.fm.po po
  p.main.coarse * 5120 + match p.source with
    | some n => (s.lane n).delta
    | none => 0

/-- The splice's output, where it names one. -/
def spliceOut (blk : List Byte) : Option Nat := let p := fieldBE blk 0 1; if p < 2 then some p else none

/-- SPLICE_STAGE (R474).
DESIGN CHOICE, unsafe: log entry 36. -/
def spliceStage (s : State) (sp : Splice) (code : Nat) : State :=
  s.radioFor 0x0A10 sp.id (bytesBE 2 0 ++ bytesBE 1 code ++ bytesBE 1 0 ++ bytesBE 6 s.last.pp)

/-- A splice in progress replaced by its next stage, which begins at the present tick edge. -/
def putSplice (s : State) (sp : Splice) (stage : SpliceStage) : State :=
  { s with follow.splices := s.follow.splices.map fun (x : Splice) =>
      if x.id = sp.id then { sp with stage := stage, stageEdge := s.last.edge } else x }

/-- The delay that the source copy needs: max(D, HEADROOM, d) (R475, R476). -/
def sourceGoal (s : State) (blk : List Byte) (d : Int) (po : Nat) : Int :=
  max (max (s.outputDelay po : Int) (msToDelta (fieldBE blk 22 2))) (nsToDelta d)

/-- The limits of reason 8 hold: no output with a DAB target, no D beyond 420 ms; and no valid offset
beyond ±2 s (R492). -/
def delayOk (s : State) (blk : List Byte) (d : Int) : Bool :=
  match spliceOut blk with
  | none => true
  | some po =>
    let g := s.sourceGoal blk d po
    decide (fieldBE blk 2 1 < 96) && decide (g ≤ msToDelta 420) && decide (g - nsToDelta d ≤ msToDelta 420)

/-- The target's offset after the splice stays within ±2 s, or is not valid (R478, R492). -/
def offsetOk (s : State) (blk : List Byte) (d : Int) : Bool :=
  let o := s.offsetOf (fieldBE blk 1 1)
  !o.2 || decide ((o.1 + nsToTicks d).natAbs ≤ 2 * 4750 * 65536)

/-- Fields of a SPLICE out of range, or GOVERN from a carrier that does not govern (R473 step 1). -/
def spliceBad (s : State) (blk : List Byte) : Bool :=
  let po := fieldBE blk 0 1
  let src := fieldBE blk 1 1
  let govern := (byteAt blk 20).getLsbD 0
  !(decide (po < 2) || po == 0xFF) || !carrierId src || !carrierId (fieldBE blk 2 1) ||
    decide (1 < fieldBE blk 3 1) || decide (200 < fieldBE blk 12 2) || decide (1 < fieldBE blk 14 1) ||
    decide (15 < fieldBE blk 15 1) || decide (400 < fieldBE blk 22 2) ||
    (govern && s.last.govCarrier != some src)

/-- Another splice is in progress on the output, or on the governing carrier (R473 step 3). -/
def spliceClash (s : State) (blk : List Byte) : Bool :=
  let govern := (byteAt blk 20).getLsbD 0
  s.follow.splices.any fun x =>
    (spliceOut blk).isSome && spliceOut x.blk == spliceOut blk || (govern && (byteAt x.blk 20).getLsbD 0)

/-- The usable result that a SPLICE names (R473 step 4). -/
def spliceResult (s : State) (blk : List Byte) : Option CorrResult :=
  s.follow.results.find? fun q =>
    q.id == fieldBE blk 4 2 && q.refCarrier == fieldBE blk 1 1 && q.cand == fieldBE blk 2 1 &&
      s.resultUsable q

/-- The confirmed PI of an FM target agrees with the expected PI under the mask (R473 step 5). -/
def piOk (s : State) (blk : List Byte) : Bool :=
  let mask := fieldBE blk 18 2
  mask == 0 || decide (96 ≤ fieldBE blk 2 1) || match (s.fmLane (fieldBE blk 2 1)).bind (·.pi) with
    | some p => (p &&& mask) == (fieldBE blk 16 2 &&& mask)
    | none => false

/-- The ALIGN stage: the whole samples of D(target) go into the coarse part of the target's copy, the remainder
into the target lane's Δ (R475). -/
def startAlign (s : State) (sp : Splice) : State :=
  match spliceOut sp.blk with
  | none =>
    if fieldBE sp.blk 3 1 = 0 then s.putSplice sp .waiting
    else (s.spliceStage sp 4).putSplice sp .armed
  | some po =>
    let d := (s.sourceGoal sp.blk sp.d po - nsToDelta sp.d).toNat
    let target := fieldBE sp.blk 2 1
    let sp := { sp with coarse := d / 5120 }
    let p := vget Po.init s.fm.po po
    let s := { s with
      fm.po := vset s.fm.po po { p with other := { Copy.init with coarse := d / 5120 }, fadeK := 0 } }
    let s := (s.setDelta target 0 false).startSlewing target (d % 5120)
    s.putSplice sp .align

/-- An accepted SPLICE: ACCEPT, then SLEW when the source copy needs more delay, else ALIGN (R474–R476).
-/
def acceptSplice (s : State) (r : Req) (q : CorrResult) : State :=
  let sp : Splice := ⟨r.id, r.blk, .slew, s.last.edge, q.d, 0, 0⟩
  let s := { s with follow.splices := s.follow.splices ++ [sp] }
  let s := s.spliceStage sp 1
  match spliceOut r.blk with
  | some po =>
    let g := (s.sourceGoal r.blk q.d po).toNat
    if s.outputDelay po < g then
      let src := fieldBE r.blk 1 1
      (s.startSlewing src (g - (vget Po.init s.fm.po po).main.coarse * 5120)).putSplice sp .slew
    else s.startAlign sp
  | none => s.startAlign sp

/-- A SPLICE takes effect at a tick edge: the checks of R473 in their order. -/
def startSplice (s : State) (r : Req) : State :=
  let no := fun (s : State) status reason => s.spliceReply r.id r.blk status reason 0 0
  if s.spliceBad r.blk then no s stNone 1
  else if s.targetUsable (fieldBE r.blk 2 1) = false then no s stNone 2
  else if s.spliceClash r.blk then no s stBusy 4
  else match s.spliceResult r.blk with
    | none => no s stNone 5
    | some q =>
      if s.piOk r.blk = false then no s stNone 7
      else if s.delayOk r.blk q.d = false then no s stNone 8
      else if s.offsetOk r.blk q.d = false then no (s.note 0x5402) stNone 8
      else s.acceptSplice r q

/-- Bench 4 restarts: it replays, or waits to join (R141, R144). -/
def fourRestarts (s : State) : Bool :=
  let b := s.bench 4
  b.mode == .replay || (b.joining && !b.starting)

/-- The following requests that take effect at the present tick edge, in the order issued; while bench 4
restarts, following is paused, and they wait (R144).
DESIGN CHOICE, unsafe: log entry 35. -/
def followEdge (s : State) : State :=
  if s.fourRestarts then s else
  let due := s.follow.reqs.filter fun (e : Nat × Req) => decide (e.2.edge < s.last.edge)
  let s := { s with follow.reqs := s.follow.reqs.filter fun (e : Nat × Req) => !decide (e.2.edge < s.last.edge) }
  due.foldl (fun (s : State) e =>
    if e.1 = 9 then s.startCorrelate e.2 else s.startSplice e.2) s

/-- A slewing lane's Δ after one output sample: it grows by 1 − ρ = 1/64 sample up to its goal, and stays within
1024 samples (R380); at 960 samples of a source lane the device moves them into the output's coarse part as
192 whole samples (R476). -/
def growDelta (s : State) (n : Nat) : State :=
  let x := s.lane n
  if !x.slewing then s
  else
    let d := Nat.min (1024 * 1024) (Nat.min x.goal (x.delta + 16))
    let s := s.setDelta n d (decide (d < x.goal))
    let slewed := s.follow.splices.find? fun sp => sp.stage == .slew && fieldBE sp.blk 1 1 == n
    match slewed.bind fun sp => spliceOut sp.blk with
    | some po => if 960 * 1024 ≤ d then s.moveDelay n po else s
    | none => s

/-- A splice found at a stage. -/
def spliceAt (s : State) (id : Nat) : Option Splice := s.follow.splices.find? fun x => x.id == id

/-- ALIGN has ended: the splice waits as its mode says (R474, R477). -/
def endAlign (s : State) (sp : Splice) : State :=
  let s := s.spliceStage sp 3
  if fieldBE sp.blk 3 1 = 0 then s.putSplice sp .waiting
  else (s.spliceStage sp 4).putSplice sp .armed

end State

/-- SPLICE_ALIGN_END: the slew of a splice's present stage has ended: its lane's Δ has reached the goal, or ρ is
held at 1 for want of a pool block (R382) or because the lane is gone, and the splice goes on with the delay
as it stands.  SLEW is followed by ALIGN, and ALIGN by the wait of the splice's mode (R474–R477).
DESIGN CHOICE, unsafe: log entry 36. -/
def execSpliceAlignEnd (id : Nat) (s : State) : Host.Outcome State Fault Refusal :=
  .next (match s.spliceAt id with
    | none => s
    | some sp =>
      match sp.stage, State.spliceOut sp.blk with
      | .slew, some _ => if (s.lane (fieldBE sp.blk 1 1)).slewing then s else (s.spliceStage sp 2).startAlign sp
      | .align, some _ => if (s.lane (fieldBE sp.blk 2 1)).slewing then s else s.endAlign sp
      | _, _ => s)

namespace State

/-- A trigger of an ARMED splice's mask holds (Table 11-5).
DESIGN CHOICE, unsafe: log entry 36. -/
def triggered (s : State) (blk : List Byte) (invalid : Bool) : Bool :=
  let m := byteAt blk 15
  let c := fieldBE blk 1 1
  let lane := decide (c < 96)
  let gone := if c < 96 then (s.lane c).use == .free || (s.lane c).failing.isSome
    else (s.decoder (c - 0x80)).mode == .idle || (s.decoder (c - 0x80)).failed
  (m.getLsbD 0 && lane && !s.laneLocked c) || (m.getLsbD 1 && lane && !s.laneSync c) ||
    (m.getLsbD 2 && gone) || (m.getLsbD 3 && invalid)

/-- The splice edge (R478): the target's offset, the governing carrier (R46, R491), and the cross-fade,
which ends at once with XF = 0 (R479).
DESIGN CHOICE, unsafe: log entry 36. -/
def spliceEdge (s : State) (sp : Splice) : State :=
  let src := fieldBE sp.blk 1 1
  let t := fieldBE sp.blk 2 1
  let o := s.offsetOf src
  let s := s.setOffset t ((if o.2 then o.1 else 0) + nsToTicks sp.d) o.2
  let govern := (byteAt sp.blk 20).getLsbD 0
  let s := if govern then
      let bleeds := fieldBE sp.blk 14 1 == 1
      (({ s with
        follow.bleed := bleeds
        follow.bleedId := if bleeds then sp.id else s.follow.bleedId }).setGovCarrier (some t)).bestSource
    else s
  let sp := { sp with edgePp := s.last.pp }
  let s := (s.spliceStage sp 5).putSplice sp .fade
  if fieldBE sp.blk 12 2 = 0 then s.finishSplice sp else s

end State

/-- SPLICE_EDGE: the splice edge of a splice that waits: in AT mode at the tick edge of its PP or the first
after ALIGN, in ARMED mode at the first tick edge after a trigger, where step 4 of R473 is checked again
(R477, R478, R483); `invalid` tells that the source's samples have been INVALID for two ticks. -/
def execSpliceEdge (id : Nat) (invalid : Bool) (s : State) : Host.Outcome State Fault Refusal :=
  .next (match s.spliceAt id with
    | none => s
    | some sp =>
      if s.last.edge ≤ sp.stageEdge then s
      else match sp.stage with
        | .waiting => if fieldBE sp.blk 6 6 ≤ s.last.pp then s.spliceEdge sp else s
        | .armed =>
          if s.triggered sp.blk invalid then
            if (s.spliceResult sp.blk).isSome then s.spliceEdge sp
            else s.abandonSplice sp stNone 5
          else s
        | _ => s)

/-- A splice's fade has run its length: on a named output, its XF × 48 output samples (R479). -/
def State.fadeRun (s : State) (sp : Splice) : Bool :=
  sp.stage == .fade && match State.spliceOut sp.blk with
    | some po => decide (fieldBE sp.blk 12 2 * 48 ≤ (vget Po.init s.fm.po po).fadeK)
    | none => true

/-- SPLICE_FADE_END: the cross-fade has run its length (R479). -/
def execSpliceFadeEnd (id : Nat) (s : State) : Host.Outcome State Fault Refusal :=
  .next (match s.spliceAt id with
    | some sp => if s.fadeRun sp then s.finishSplice sp else s
    | none => s)

/-- SPLICE_EXPIRY: an ARMED splice reaches its expiry PP without a trigger (R477). -/
def execSpliceExpiry (id : Nat) (s : State) : Host.Outcome State Fault Refusal :=
  .next (match s.spliceAt id with
    | some sp =>
      if sp.stage = .armed ∧ fieldBE sp.blk 6 6 ≤ s.last.pp then
        (s.dropSplice sp).spliceReply sp.id sp.blk stNone 9 sp.d 0
      else s
    | none => s)

end Sys2Proof.Machine
end

