-- ==== Sys2Proof/Machine/Port.lean ====
section
/-! DEFINITION. The stream port, and of the audio ports what the tack targets use (chapter 17).  The audio ports at
work are in AudioRun.lean. -/

namespace Sys2Proof.Machine

open Sys2Proof

/-- STFRM and STD[3:0] at a cycle of STCLK from the first of a packet: each byte as two nibbles, bits [7:4] first,
while STFRM is high; then STFRM low and STD at 0 (R692, Table 17-3). -/
def Packet.pins (p : Packet) (cycle : Nat) : Bool × Nat :=
  let b := (byteAt p.bytes (cycle / 2)).toNat
  if cycle < 2 * p.bytes.length then (true, if cycle % 2 = 0 then b / 16 else b % 16) else (false, 0)

/-- The STCLK cycles that a packet occupies before the next may start (R693, Table 17-3). -/
def Packet.cycles (p : Packet) : Nat := 2 * p.bytes.length + 2

/-- STCLK in Hz by STRATE (Table 17-7). -/
def streamRate (ctrl : Word) : Nat := 61440000 / 2 ^ ctrl.bits 2 1

/-- ADATp at bit clock `k`, 0–63, of a frame: left while ALRCKp is low, each slot MSB first from the bit clock after
its edge, and 0 after the sample's bits (R702). -/
def Audio.data (a : Audio) (k : Nat) : Bool :=
  let i := (k + 31) % 32
  let v := if 1 ≤ k ∧ k ≤ 32 then a.sentL else a.sentR
  i < 24 && v.getLsbD (23 - i)

namespace State

/-- An audio port. -/
def audio (s : State) (p : Nat) : Audio := vget Audio.init s.port.aud p

/-- An audio port replaced. -/
def setAudio (s : State) (p : Nat) (a : Audio) : State :=
  { s with port.aud := vset s.port.aud p a }

/-- AUDp_CTRL. -/
def audCtrl (s : State) (p : Nat) : Word := s.reg (0x3C8 + 4 * p)

/-- EN of AUDp_CTRL. -/
def audOn (s : State) (p : Nat) : Bool := (s.audCtrl p).bit 6

/-- ALIGNMAX in ticks (Table 17-7). -/
def alignMax (s : State) (p : Nat) : Nat := max 4 (min 95 ((s.audCtrl p).bits 22 16))

/-- The port's clock is an input: AMCLK or WCLK (Table 17-5). -/
def audSlaved (s : State) (p : Nat) : Bool :=
  (s.audCtrl p).bits 4 3 == 1 || (s.audCtrl p).bits 4 3 == 2

/-- Both ports' clocks run: the HOST domain is up, the sample clock is not gated and the Last is not stopped
(R78, Table 8-8). -/
def audClock (s : State) : Bool := s.up .host && s.clk.sckLock && !s.stopped

/-- An AUDIO marker handed to its port (R708): for a port that is disabled or routed from no output it is
not produced, and its delivery fails. -/
def audioMarker (s : State) (p : Nat) (handle : Word) (due : Pos) (payload : List Byte) : State :=
  let a := s.audio p
  if s.audOn p && a.routed.isSome && s.up .host then
    s.setAudio p { a with markers := a.markers ++ [⟨handle, due.pp, due.epoch, payload⟩] }
  else { s with tack.failMarker := satAdd 255 s.tack.failMarker 1 }

/-- The markers of a port dropped: they are not produced. -/
def dropMarkers (s : State) (p : Nat) : State :=
  let a := s.audio p
  { s.setAudio p { a with markers := [] } with
    tack.failMarker := satAdd 255 s.tack.failMarker a.markers.length }

/-! ### Host writes -/

/-- STRM_CAP written: a capture starts with its block count, or ends (R691).
DESIGN CHOICE, unsafe: log entry 41. -/
def writeCapture (s : State) (v : Word) : State :=
  { s.setReg 0x3C1 v with port.capLeft := v.bits 23 8, port.capWait := [] }

end State

/-! ### The rows of the table -/

/-- STREAM_PACKET_SEND: the head of the stream buffer is sent whole when EN is 1, the clock runs and STHOLD#
was high; `stHold` is the level sampled (R692, R694). -/
def execStreamPacketSend (stHold : Bool) (s : State) : Host.Outcome State Fault Refusal :=
  let s := { s with port.stHold := stHold }
  .next (if stHold && (s.reg 0x3C0).bit 0 && s.up .host && s.clk.sckLock then
    match s.port.queue with
    | p :: rest => { s with port.queue := rest, port.sent := some p }
    | [] => s
  else s)

end Sys2Proof.Machine
end

