-- ==== Sys2Proof/Machine/AudioRun.lean ====
section
/-! DEFINITION. The audio ports at work (chapter 17): AUDIO_ROUTE, the frames that a port sends, its placement
against programme position, and its clocks. -/

namespace Sys2Proof.Machine

open Sys2Proof

namespace State

/-! ### AUDIO_ROUTE -/

/-- The reply of AUDIO_ROUTE (R699): the lane epoch of the source and the reason. -/
def routeReply (s : State) (r : Req) (status reason : Nat) : State :=
  let n := fieldBE r.blk 2 1
  let epoch := if fieldBE r.blk 1 1 = 0 ∧ n < 96 then (s.lane n).epoch else 0
  s.reply 0x0B11 r.id status (bytesBE 1 epoch ++ bytesBE 1 reason)

/-- Fields of AUDIO_ROUTE out of range (Table 17-4). -/
def routeBad (blk : List Byte) : Bool :=
  let op := fieldBE blk 1 1
  decide (1 < fieldBE blk 0 1) || decide (2 < op) || (op == 0 && decide (95 < fieldBE blk 2 1)) ||
    (op == 2 && decide (3 < fieldBE blk 3 1))

/-- A programme output's source changed (R700): it fades out the old source, and fades in a new source lane with
D = 0 (R485), or stays silent. -/
def setSource (s : State) (po : Nat) (lane : Option Nat) : State :=
  let p := vget Po.init s.fm.po po
  let other := (vget Po.init s.fm.po (1 - po)).source
  let s := match lane with
    | some n => if other = some n then s else s.setDelta n 0 false
    | none => s
  { s with fm.po := vset s.fm.po po { p.fadeOut with source := lane, noSrc := lane.isNone } }

/-- PORTS: the output routed to each port of the mask (R701). -/
def setPorts (s : State) (po mask : Nat) : State :=
  [0, 1].foldl (fun (s : State) p =>
    if mask.testBit p then s.setAudio p { s.audio p with routed := some po } else s) s

/-- AUDIO_ROUTE as it takes effect (R699–R701). -/
def routeReq (s : State) (r : Req) : State :=
  let po := fieldBE r.blk 0 1
  let lane := fieldBE r.blk 2 1
  let splicing := s.follow.splices.any fun x => fieldBE x.blk 0 1 == po
  if routeBad r.blk then s.routeReply r stNone 1
  else match fieldBE r.blk 1 1 with
    | 0 =>
      if (s.fmLane lane).isNone then s.routeReply r stNone 2
      else if splicing then s.routeReply r stBusy 4
      else (s.setSource po (some lane)).routeReply r stOk 0
    | 1 =>
      if splicing then s.routeReply r stBusy 4
      else (s.setSource po none).routeReply r stOk 0
    | _ => (s.setPorts po (fieldBE r.blk 3 1)).routeReply r stOk 0

/-- The AUDIO_ROUTE requests issued before the present tick edge (R699).
DESIGN CHOICE, unsafe: log entry 35. -/
def routeEdge (s : State) : State :=
  let due := s.port.routeReqs.filter fun (r : Req) => decide (r.edge < s.last.edge)
  let s := { s with port.routeReqs :=
      s.port.routeReqs.filter fun (r : Req) => !decide (r.edge < s.last.edge) }
  due.foldl (fun (s : State) r => s.routeReq r) s

/-! ### Frames (R702, R704, R708) -/

/-- fs of a port in Hz; code 3 acts as 0 (Table 17-7). -/
def audRate (s : State) (p : Nat) : Nat := match (s.audCtrl p).bits 1 0 with
  | 1 => 44100
  | 2 => 32000
  | _ => 48000

/-- Frames of a port in 0.5 ms. -/
def fadeFrames (s : State) (p : Nat) : Nat := s.audRate p / 2000

/-- The programme output routed to a port. -/
def audOut (s : State) (p : Nat) : Option Po := (s.audio p).routed.map fun po => vget Po.init s.fm.po po

/-- A port after one frame's step of its read point: a frame of content, more or less by the ratio offset, which
with what a slave clock needs stays within ±2 % (R704, R705); and in the middle of a realignment the read
point moves (R707). -/
def audStep (s : State) (p : Nat) (a : Audio) : Audio :=
  let r : Int := max (-20000) (min 20000 (a.ratio + a.slave))
  let den := s.audRate p * 1000000
  let num := 311296000 * (1000000 + r).toNat + a.rem
  let moved := if a.fading = s.fadeFrames p + 1 then a.shift else 0
  { a with
    read := moveStamp moved (a.read + num / den), rem := num % den, fading := a.fading - 1
    shift := if a.fading = s.fadeFrames p + 1 then 0 else a.shift }

end State

/-- The samples at a stamp, between two samples of a programme output, newest first; `none` when the output does
not hold it. -/
def sampleAt : List Frame → Nat → Option (Int × Int)
  | f1 :: f0 :: rest, t =>
    if f0.stamp ≤ t ∧ t ≤ f1.stamp then
      let mix := fun (a b : BitVec 24) => Config.between a.toInt b.toInt (t - f0.stamp) (f1.stamp - f0.stamp)
      some (mix f0.l f1.l, mix f0.r f1.r)
    else sampleAt (f0 :: rest) t
  | _, _ => none

/-- A 24-bit sample as a slot sends it: at 16 bits rounded, with saturation, in the top bits (R702). -/
def slotOf (wide : Bool) (v : Int) : BitVec 24 :=
  let x := max (-8388608) (min 8388607 v)
  if wide then BitVec.ofInt 24 x
  else BitVec.ofInt 24 (256 * max (-32768) (min 32767 (roundDiv x 256)))

namespace State

/-- The gain of a frame within a realignment, over the frames of 0.5 ms: out, then in (R707). -/
def fadeGain (s : State) (p : Nat) (a : Audio) : Nat :=
  let k := s.fadeFrames p
  if k < a.fading then a.fading - 1 - k else k - a.fading

/-- The sample that a port's next frame carries; `none` when the port is routed from no output, or the output
does not hold it, and the frame carries zeros (R701, R707). -/
def audSample (s : State) (p : Nat) : Option (Int × Int) :=
  (s.audOut p).bind fun (o : Po) => sampleAt o.out (s.audio p).read

/-- A frame sent: its slots, its count, and the read point after it (R702, R704, R708). -/
def sendFrame (s : State) (p : Nat) : State :=
  let a := s.audio p
  let v := (s.audSample p).getD (0, 0)
  let k := s.fadeFrames p
  let fade := fun (x : Int) =>
    if a.fading = 0 ∨ x = 0 then x else (Config.audio (x * s.fadeGain p a) k).toInt
  let wide := (s.audCtrl p).bit 2
  s.setAudio p (s.audStep p { a with
    frames := (a.frames + 1) % 2 ^ 32, sentL := slotOf wide (fade v.1), sentR := slotOf wide (fade v.2) })

/-- The AUDIO markers that a frame whose sample is stamped `t` produces, with its count (R708). -/
def produceMarkers (s : State) (p t : Nat) : State :=
  let a := s.audio p
  let due := a.markers.filter fun (m : Marker) => decide (m.due * 65536 ≤ t)
  let s := s.setAudio p { a with
    markers := a.markers.filter fun (m : Marker) => !decide (m.due * 65536 ≤ t) }
  due.foldl (fun (s : State) m =>
    s.packet 9 p ⟨m.epoch, m.due⟩ (bytesBE 4 a.frames ++ bytesBE 4 m.handle.toNat ++ m.payload)) s

/-! ### Placement (R705, R707) -/

/-- PDLY of a port in 1/65 536 tick: ALAT, and D of the output that it carries. -/
def presentation (s : State) (p : Nat) : Nat :=
  let d := match (s.audio p).routed with
    | some po => s.outputDelay po * 19 / 15
    | none => 0
  max 8 (min 95 ((s.audCtrl p).bits 14 8)) * 65536 + d

/-- The stamp p − PDLY that a port should send, `sub` in 1/65 536 tick after the tick edge (R705). -/
def wantedStamp (s : State) (p sub : Nat) : Nat := s.position + sub - s.presentation p

/-- The tracking error of a port in 1/65 536 tick: the sample that it sends against the one stamped p − PDLY; a
move of the read point that has begun counts as made. -/
def trackError (s : State) (p sub : Nat) : Int :=
  let a := s.audio p
  (a.read : Int) + a.shift - s.wantedStamp p sub

/-- A realignment (R707): the port fades out, moves its read point to the sample stamped p − PDLY and fades in;
AUDIO_REALIGN, 0x9303 when `loud`, and 0x9304 when that sample is not available yet. -/
def realign (s : State) (p sub : Nat) (loud : Bool) : State :=
  let a := s.audio p
  let want := s.wantedStamp p sub
  let held := match s.audOut p with
    | some o => (sampleAt o.out want).isSome
    | none => true
  let s := s.setAudio p { a with fading := 2 * s.fadeFrames p + 1, shift := (want : Int) - a.read }
  let s := s.radioFor 0x0B20 0 []
  let s := if loud then s.note 0x9303 else s
  if held then s else s.note 0x9304

/-- AUDp_CTRL written: the port fades out, applies the setting and realigns (chapter 17, Edges). -/
def writeAudCtrl (s : State) (p sub : Nat) (v : Word) : State :=
  let was := s.audOn p
  let s := s.setReg (0x3C8 + 4 * p) v
  let a := { s.audio p with rem := 0 }
  if !s.audOn p then (s.setAudio p { a with lock := false, muted := false }).dropMarkers p
  else
    let muted := a.muted && s.audSlaved p && was
    let s := s.setAudio p { a with
      lock := !muted, muted := muted, slave := if s.audSlaved p then a.slave else 0 }
    if muted then s else s.realign p sub true

/-- The port sends frames: its clock runs, and it is enabled and not muted. -/
def audSends (s : State) (p : Nat) : Bool := s.audClock && s.audOn p && !(s.audio p).muted

end State

/-! ### The rows of the table -/

/-- AUDIO_FRAME: a port sends one frame, with the sample at its read point; every marker due by then is produced,
with that frame's count (R701, R702, R704, R708). -/
def execAudioFrame (p : Fin 2) (s : State) : Host.Outcome State Fault Refusal :=
  let t := (s.audio p).read
  .next (if s.audSends p then
    let u := s.sendFrame p
    if (s.audSample p).isSome then u.produceMarkers p t else u
  else s)

/-- AUDIO_TRACK_MEASURE: once a superframe a port's tracking error is measured, `sub` in 1/65 536 tick after the
tick edge, and corrected by a ratio offset of at most 500 ppm (R705), whose value is open; a slave clock
that runs `clk` ppm fast is tracked (R704).  Beyond ALIGNMAX the port realigns (R707).
DESIGN CHOICE, unsafe: log entry 44. -/
def execAudioTrackMeasure (p : Fin 2) (sub : Nat) (clk : Int) (s : State) :
    Host.Outcome State Fault Refusal :=
  .next (if s.audSends p then
    let (x, s) := s.free16
    let err := s.trackError p sub
    let s := s.setAudio p { s.audio p with
      err := roundDiv err 256, ratio := (x.toNat % 1001 : Int) - 500
      slave := if s.audSlaved p then -clk else 0 }
    if s.alignMax p * 65536 < err.natAbs then s.realign p sub true else s
  else s)

/-- AUDIO_CLOCK_LOSS: no edges of a clock input for 1 ms mute the port: LOCK clears, and 0x9302 (R709).
DESIGN CHOICE, unsafe: log entry 44. -/
def execAudioClockLoss (p : Fin 2) (s : State) : Host.Outcome State Fault Refusal :=
  let a := s.audio p
  .next (if s.up .host && s.audOn p && s.audSlaved p && !a.muted then
    (s.setAudio p { a with muted := true, lock := false }).note 0x9302
  else s)

/-- AUDIO_CLOCK_RETURN: edges present for 10 ms: the port realigns without 0x9303 and sets LOCK (R709).
DESIGN CHOICE, unsafe: log entry 44. -/
def execAudioClockReturn (p : Fin 2) (sub : Nat) (s : State) : Host.Outcome State Fault Refusal :=
  let a := s.audio p
  .next (if s.up .host && s.audOn p && a.muted then
    (s.setAudio p { a with muted := false, lock := true }).realign p sub false
  else s)

end Sys2Proof.Machine
end

