-- ==== Sys2Proof/Machine/RegMap.lean ====
section
/-! DEFINITION. The register space (chapters 21 and 22) as a table of addresses: which are implemented, with
which access, in which power domain, which are configuration or owned by bench 4, and which of their
bits a write reaches. -/

namespace Sys2Proof.Machine

open Sys2Proof

/-- The access codes of Table 0-6. -/
inductive Access where
  | ro | rw | w1c | wo | rc | rws | rwh
  deriving DecidableEq, Repr

/-- One line of the maps: its first and last address, its access, whether a host write waits for the tick
edge as configuration (R823), whether bench 4 owns it (R838), the bits that a write reaches and the
write-only bits among the rest. -/
structure RegLine where
  lo : Nat
  hi : Nat
  access : Access
  cfg : Bool
  owned : Bool
  mask : Word
  wo : Word
  deriving DecidableEq, Repr

/-- A line of read-only, read-clear or write-1-to-clear registers. -/
def plainLine (lo hi : Nat) (a : Access) : RegLine := ⟨lo, hi, a, false, false, 0, 0⟩

/-- A line of read-write registers that take effect at once. -/
def rwLine (lo hi : Nat) (mask : Word) : RegLine := ⟨lo, hi, .rw, false, false, mask, 0⟩

/-- A line of configuration registers (Table 0-3). -/
def cfgLine (lo hi : Nat) (mask : Word) : RegLine := ⟨lo, hi, .rw, true, false, mask, 0⟩

/-- A line of read-write registers that bench 4 owns. -/
def ownedLine (lo hi : Nat) (mask : Word) : RegLine := ⟨lo, hi, .rw, false, true, mask, 0⟩

/-- The maps of Tables 21-3 to 21-6 and 21-7: SYS, LAST and TACK. -/
def mapTime : List RegLine :=
  [plainLine 0x000 0x002 .ro, rwLine 0x003 0x003 0x3#32, plainLine 0x004 0x005 .ro,
   rwLine 0x006 0x006 0xFFFFFFFF#32, plainLine 0x010 0x010 .ro, plainLine 0x011 0x011 .rc,
   plainLine 0x012 0x013 .ro,
   cfgLine 0x100 0x100 0xFFFF0F7F#32, cfgLine 0x101 0x101 0xFFFF#32, cfgLine 0x102 0x102 0xF#32,
   plainLine 0x103 0x109 .ro, plainLine 0x10A 0x10A .rc, plainLine 0x10B 0x10B .w1c,
   cfgLine 0x180 0x180 0x1FFF11FF#32, plainLine 0x181 0x181 .ro, plainLine 0x182 0x185 .rc,
   plainLine 0x186 0x18B .ro]

/-- Table 21-8: benches and record intake. -/
def mapBench : List RegLine :=
  [⟨0x200, 0x200, .rw, false, false, 0x1F#32, 0x1F00#32⟩, plainLine 0x201 0x207 .ro] ++
  [0, 1, 2, 3, 4].flatMap (fun (b : Nat) =>
    [plainLine (0x210 + 4 * b) (0x210 + 4 * b) .ro, plainLine (0x211 + 4 * b) (0x211 + 4 * b) .rc,
     plainLine (0x212 + 4 * b) (0x213 + 4 * b) .ro]) ++
  [plainLine 0x224 0x224 .rc, cfgLine 0x280 0x280 0xFFF1F1FF#32, cfgLine 0x281 0x281 0xFFFF#32,
   cfgLine 0x282 0x282 0x0FFF07FF#32, cfgLine 0x283 0x292 0x801FFFFF#32,
   cfgLine 0x293 0x29E 0xFFFFFFFF#32, cfgLine 0x29F 0x29F 0xFFF#32, plainLine 0x2A0 0x2A2 .rc,
   plainLine 0x2A3 0x2A3 .ro]

/-- Tables 21-9 to 21-11: mailboxes, bus, stream and audio. -/
def mapHost : List RegLine :=
  [⟨0x300, 0x300, .rw, false, false, 0x00FFFF00#32, 1#32⟩, cfgLine 0x301 0x301 0x00FFFFFF#32,
   plainLine 0x302 0x302 .ro, rwLine 0x303 0x303 0x1F#32, plainLine 0x304 0x306 .ro,
   plainLine 0x307 0x307 .rc, plainLine 0x320 0x326 .ro, rwLine 0x328 0x328 0xFFFFFFFF#32,
   cfgLine 0x329 0x32D 0xFFFFFFFF#32, rwLine 0x32E 0x32E 0#32, plainLine 0x330 0x330 .w1c,
   plainLine 0x340 0x340 .ro,
   rwLine 0x380 0x380 0x00FFFF1F#32, plainLine 0x381 0x382 .ro, rwLine 0x383 0x383 0xFFFF#32,
   plainLine 0x384 0x384 .ro, plainLine 0x385 0x385 .rc, plainLine 0x386 0x386 .w1c,
   rwLine 0x3C0 0x3C0 0xF#32, rwLine 0x3C1 0x3C1 0x00FFFFFF#32, plainLine 0x3C2 0x3C2 .ro,
   plainLine 0x3C3 0x3C3 .rc, plainLine 0x3C4 0x3C4 .ro, rwLine 0x3C8 0x3C8 0x007F7F7F#32,
   plainLine 0x3C9 0x3CB .ro, rwLine 0x3CC 0x3CC 0x007F7F7F#32, plainLine 0x3CD 0x3CF .ro]

/-- Tables 21-12 and 21-13: welt, store, Awl and Keeper.
DEDUCED, safe: log entry 60. -/
def mapKeeper : List RegLine :=
  [⟨0xE00, 0xE00, .rw, false, false, 0xFF#32, 0x300#32⟩, plainLine 0xE01 0xE05 .ro,
   plainLine 0xE06 0xE06 .rc, plainLine 0xE07 0xE07 .w1c,
   plainLine 0xF00 0xF04 .ro, rwLine 0xF05 0xF05 3#32, plainLine 0xF06 0xF07 .ro,
   plainLine 0xF08 0xF08 .w1c, plainLine 0xF10 0xF10 .wo, rwLine 0xF11 0xF11 0x7FFFF#32,
   plainLine 0xF12 0xF16 .ro, plainLine 0xF20 0xF2F .rwh, plainLine 0xF30 0xF30 .wo,
   plainLine 0xF40 0xF40 .ro]

/-- Tables 22-3 to 22-7: clocks, chains, hearth link, seal view, infrared and GPIO. -/
def mapRadio : List RegLine :=
  [plainLine 0x400 0x400 .wo, plainLine 0x401 0x401 .ro, plainLine 0x402 0x402 .w1c,
   plainLine 0x403 0x403 .ro, ⟨0x410, 0x410, .rw, false, false, 0x001C011F#32, 0x00030000#32⟩,
   plainLine 0x411 0x411 .ro, rwLine 0x412 0x412 0x1FF#32, plainLine 0x413 0x414 .ro,
   plainLine 0x415 0x415 .rc, plainLine 0x418 0x41A .ro] ++
  [0x500, 0x520].flatMap (fun (a : Nat) =>
    [⟨a, a, .rw, false, true, 7#32, 8#32⟩, plainLine (a + 1) (a + 2) .ro,
     rwLine (a + 3) (a + 3) 0xFFF3#32, plainLine (a + 4) (a + 4) .ro, rwLine (a + 5) (a + 5) 7#32,
     plainLine (a + 6) (a + 7) .ro]) ++
  [ownedLine 0x540 0x540 0xFF07#32, ⟨0x600, 0x600, .rw, false, true, 0x000F7F37#32, 8#32⟩,
   plainLine 0x601 0x602 .ro, plainLine 0x603 0x603 .w1c, plainLine 0x604 0x604 .rc,
   ⟨0x608, 0x608, .rw, true, false, 0x1F0#32, 1#32⟩, plainLine 0x609 0x612 .ro,
   plainLine 0x613 0x615 .rc, plainLine 0x620 0x620 .ro, plainLine 0x621 0x621 .wo,
   plainLine 0x622 0x644 .rws,
   ⟨0x700, 0x700, .wo, false, true, 0x1F#32, 0x1F#32⟩, plainLine 0x701 0x702 .ro,
   plainLine 0x703 0x704 .rc, plainLine 0x705 0x705 .w1c, ownedLine 0x710 0x71F 0x7FFFFF#32,
   rwLine 0x720 0x720 0xFFFFFF#32, plainLine 0x721 0x722 .ro]

/-- Tables 22-9 to 22-12 but for the blocks of the lanes: pool, coefficients, receivers, following and
DAB. -/
def mapLanes : List RegLine :=
  [plainLine 0xB80 0xB80 .ro, plainLine 0xB81 0xB82 .rc, plainLine 0xB83 0xB83 .ro,
   plainLine 0xB84 0xB87 .w1c, rwLine 0xB88 0xB88 0x7FF#32, rwLine 0xB89 0xB89 0x3FFFF#32,
   plainLine 0xB8A 0xB8A .rc,
   rwLine 0xC00 0xC00 0x1FFFFF#32, rwLine 0xC01 0xC03 0xFFFFFFFF#32, plainLine 0xC04 0xC09 .ro,
   plainLine 0xC0A 0xC0B .rc,
   rwLine 0xC10 0xC10 0x700#32, rwLine 0xC11 0xC11 0x3FFF#32, rwLine 0xC12 0xC12 0xFFFFFFFF#32,
   plainLine 0xC13 0xC13 .ro, rwLine 0xC18 0xC18 0x700#32, rwLine 0xC19 0xC19 0x3FFF#32,
   rwLine 0xC1A 0xC1A 0xFFFFFFFF#32, plainLine 0xC1B 0xC1B .ro,
   rwLine 0xC20 0xC20 0x7F#32, plainLine 0xC21 0xC26 .ro, rwLine 0xC40 0xC40 0x3FFFF#32,
   plainLine 0xC41 0xC41 .ro, rwLine 0xC42 0xC42 0xFF#32, plainLine 0xC43 0xC44 .ro,
   plainLine 0xC45 0xC45 .rc] ++
  [0xD00, 0xD20].flatMap (fun (a : Nat) =>
    [⟨a, a, .rw, false, true, 0xF2#32, 1#32⟩, plainLine (a + 1) (a + 7) .ro,
     plainLine (a + 8) (a + 9) .rc]) ++
  [ownedLine 0xD40 0xD40 0xFF#32]

/-- The line of a lane's register (Table 22-9). -/
def laneLine (a : Nat) : RegLine :=
  match a % 8 with
  | 0 => ownedLine a a 7#32
  | 1 => ownedLine a a 0xFFFFFFFF#32
  | 2 => ownedLine a a 0x1FFFFF#32
  | 3 => ⟨a, a, .rw, false, true, 0x1FFF03FF#32, 0x800#32⟩
  | 6 => ownedLine a a 0xFFFFFFFF#32
  | _ => plainLine a a .ro

/-- The line of an implemented register; `none` for an address that no map lists (R821, R835). -/
def regLine (a : Nat) : Option RegLine :=
  if 0x800 ≤ a ∧ a ≤ 0xB2F then some (laneLine a)
  else (mapTime ++ mapBench ++ mapHost ++ mapKeeper ++ mapRadio ++ mapLanes).find? fun (l : RegLine) =>
    decide (l.lo ≤ a) && decide (a ≤ l.hi)

/-- The power domain that an address needs (Tables 21-1 and 22-1). -/
def regDomain (a : Nat) : Domain :=
  if a < 0x100 then .host
  else if a < 0x300 then .bench
  else if a < 0x410 then .host
  else if a < 0x500 then .bench
  else if a < 0x600 then .broadcast
  else if a < 0x620 then .hearth
  else if a < 0x700 then .keeper
  else if a < 0x800 then .host
  else if a < 0xE00 then .broadcast
  else if a < 0xF00 then .bench
  else .keeper

/-- The configuration block may name the address with this value: an implemented register of access RW
outside the store range and the seal view, with no WO bit set (R783, R825).
DEDUCED, unsafe: log entry 50. -/
def configOk (a : Nat) (v : Word) : Bool :=
  match regLine a with
  | some l => l.access == .rw && decide (a < 0xF00) && (v &&& l.wo) == 0
  | none => false

end Sys2Proof.Machine
end

