-- ==== Sys2Proof/Machine/Image.lean ====
section
/-! DEFINITION. The program image (chapter 4): its header, handler table and configuration block as the
Keeper checks them and as the device loads them. -/

namespace Sys2Proof.Machine

open Sys2Proof

/-- A section of `len` bytes at `off` lies wholly within bytes 64 to IMGLEN − 65 (R164). -/
def sectionOk (imgLen off len : Nat) : Bool := decide (64 ≤ off) && decide (off + len + 64 ≤ imgLen)

/-- The same for a section whose offset 0 names none (Table 4-7). -/
def optSectionOk (imgLen off len : Nat) : Bool := off == 0 || sectionOk imgLen off len

/-- One header field of four bytes. -/
def head4 (b : List Byte) (i : Nat) : Nat := fieldBE b i 4

/-- Entry `k` of the handler table as stored: code word address, step budget and the reserved bytes
(Table 4-9). -/
def tableEntry (b : List Byte) (k : Nat) : Nat × Nat × Nat :=
  let o := head4 b 40 + 8 * k
  (fieldBE b o 2, fieldBE b (o + 2) 2, fieldBE b (o + 4) 4)

/-- A handler table entry is acceptable: its address within the code section, its budget 0 or 256–32 768,
its reserved bytes 0, and none of class RADIO or PAIR on a cue bench (R136, R164).
DEDUCED, unsafe: log entry 50. -/
def entryOk (b : List Byte) (k : Nat) : Bool :=
  let e := tableEntry b k
  let named := e.1 != 0xFFFF
  (!named || decide (4 * e.1 < head4 b 36)) &&
    (e.2.1 == 0 || (decide (256 ≤ e.2.1) && decide (e.2.1 ≤ 32768))) && e.2.2 == 0 &&
    !(named && decide (k < 72) && (k % 18 == 14 || k % 18 == 17))

/-- Entry `i` of the configuration block: a register address and a value (R783).
DEDUCED, unsafe: log entry 50. -/
def configEntry (b : List Byte) (i : Nat) : Nat × Word :=
  let o := head4 b 56 + 6 * i
  (fieldBE b o 2, BitVec.ofNat 32 (fieldBE b (o + 2) 4))

/-- The configuration block's entries. -/
def configBlock (b : List Byte) : List (Nat × Word) :=
  if head4 b 56 = 0 then [] else (List.range (head4 b 60 / 6)).map (configEntry b)

/-- The header fields lie in their ranges, IMGLEN is the number of bytes installed, and every section lies
within the image (R162, R164).
DEDUCED, unsafe: log entry 50. -/
def headerOk (b : List Byte) : Bool :=
  let n := head4 b 8
  head4 b 0 == 0x414C4E4D && fieldBE b 4 2 == 1 && fieldBE b 6 2 == 64 && n == b.length &&
    decide (128 ≤ n) && decide (n ≤ 1048576) && decide (head4 b 16 < 64) &&
    decide (head4 b 36 ≤ 262144) && head4 b 36 % 4 == 0 && decide (head4 b 60 ≤ 16384) &&
    sectionOk n (head4 b 32) (head4 b 36) && sectionOk n (head4 b 40) 720 &&
    optSectionOk n (head4 b 44) 65536 && optSectionOk n (head4 b 48) 163840 &&
    optSectionOk n (head4 b 56) (head4 b 60)

/-- The image passes the checks of R164, R783 and R825.
DEDUCED, unsafe: log entry 50. -/
def imageOk (b : List Byte) : Bool :=
  headerOk b && (List.range 90).all (entryOk b) && (configBlock b).all fun (e : Nat × Word) => configOk e.1 e.2

/-- Bytes `o … o+n-1` of an image. -/
def slice (b : List Byte) (o n : Nat) : List Byte := (b.drop o).take n

/-- The 32-bit words that bytes spell, at byte addresses from `k` on, in canonical form. -/
def wordsFrom (k : Nat) : List Byte → List (Nat × Word)
  | a :: b :: c :: d :: rest =>
    let w := BitVec.ofNat 32 (natBE [a, b, c, d])
    if w = 0 then wordsFrom (k + 4) rest else (k, w) :: wordsFrom (k + 4) rest
  | _ => []

/-- The image as the device loads it (R162, R163). -/
def imageOf (b : List Byte) : Image :=
  { ver := BitVec.ofNat 32 (head4 b 12)
    relyStream := (head4 b 16).testBit 0
    relyLanes := (List.range 96).filter fun n => (fieldBE b 20 12).testBit n
    present := (List.range 5).filter fun k => (head4 b 16).testBit (k + 1)
    codeLen := head4 b 36
    code := cellsOf 0 (slice b (head4 b 32) (head4 b 36))
    table := (List.range 90).map fun k =>
      let e := tableEntry b k
      if e.1 = 0xFFFF then none else some ⟨e.1, if e.2.1 = 0 then 4096 else e.2.1⟩
    ledger := if head4 b 44 = 0 then [] else wordsFrom 0 (slice b (head4 b 44) 65536)
    data := if head4 b 48 = 0 then List.replicate 5 []
      else (List.range 5).map fun k => cellsOf 0 (slice b (head4 b 48 + 32768 * k) 32768)
    pageMap := BitVec.ofNat 32 (head4 b 52)
    config := configBlock b }

/-- The digest of an image: SHA-256 over bytes 0 to IMGLEN − 65 (R782). -/
def imageDigest (b : List Byte) : List Byte := Crypto.sha256 (b.take (b.length - 64))

/-- The image's signature verifies under the IVK, 16 words, x then y, most significant word first
(Table 4-7, R790). -/
def signatureOk (ivk : List Word) (b : List Byte) : Bool :=
  let num := fun (l : List Word) => l.foldl (fun (a : Nat) w => a * 2 ^ 32 + w.toNat) 0
  let o := b.length - 64
  Crypto.ecdsaVerify (num (ivk.take 8)) (num (ivk.drop 8)) (imageDigest b) (fieldBE b o 32) (fieldBE b (o + 32) 32)

end Sys2Proof.Machine
end

