-- ==== Sys2Proof/Machine/StoreOps.lean ====
section
/-! DEFINITION. The store beneath its rows (chapter 19): the hold-up check, the journal, and the calibration
store. -/

namespace Sys2Proof.Machine

open Sys2Proof

/-- The code of a journal record kind (Table 19-12). -/
def JKind.code : JKind → Nat
  | .install => 1 | .cal => 2 | .key => 3 | .boot => 4 | .powerfail => 5

/-- A journal record's 64 bytes (Table 19-12). -/
def jrecBytes (k : JKind) (seq step : Nat) (body : List Byte) : List Byte :=
  let b := bytesBE 4 0x4A524E4C ++ bytesBE 4 seq ++ bytesBE 1 k.code ++ bytesBE 1 step ++
    (body ++ List.replicate 50 0).take 50
  b ++ bytesBE 4 (crc32c b).toNat

/-- A record's kind by its code. -/
def jkindOf : Nat → Option JKind
  | 1 => some .install | 2 => some .cal | 3 => some .key | 4 => some .boot | 5 => some .powerfail
  | _ => none

/-- A record as recovery reads it: `none` when its MAGIC or its CRC is wrong, or its kind is none of Table 19-12
(R780). -/
def jrecOf (b : List Byte) : Option JRec :=
  if fieldBE b 0 4 = 0x4A524E4C ∧ fieldBE b 60 4 = (crc32c (b.take 60)).toNat then
    (jkindOf (fieldBE b 8 1)).map fun k => ⟨k, fieldBE b 4 4, fieldBE b 9 1, (b.drop 10).take 50⟩
  else none

/-- The STEP of a CAL record: the sweep's, or the commit's RECORD (Table 19-16). -/
def calStepSweep : Nat := 1
def calStepRecord : Nat := 5

/-- The steps of an INSTALL record (Table 19-15). -/
def InstStep.code : InstStep → Nat
  | .none => 0 | .erasing => 1 | .programming => 2 | .verifying => 3 | .verified => 4
  | .committed => 5 | .abandoned => 6 | .failed => 7

/-- The two words of a calibration entry but for PIN, which a load clears (Table 8-5, R796). -/
def CalEntry.words (e : CalEntry) (pin : Bool) : List Nat :=
  let t := (e.temp % 4096).toNat
  [2 ^ 31 + e.chain * 2 ^ 29 + e.key % 4096 * 2 ^ 16 + e.band % 64 * 2 ^ 10 + e.kvco % 256 * 4 +
      bitNat e.spurnear * 2 + bitNat pin,
    t + e.refmode % 4 * 2 ^ 12 + e.age % 65536 * 2 ^ 16]

/-- The 4 KiB of a calibration table as a slot holds them. -/
def tableBytes (t : List (Nat × CalEntry)) : List Byte :=
  (List.range 512).flatMap fun i => match kget t i with
    | some e => (e.words false).flatMap fun w => bytesBE 4 w
    | none => List.replicate 8 0

/-- What the operations need, in µJ (Table 19-13). -/
def StoreOp.need : StoreOp → Nat
  | .instErase => 200
  | .instPage | .instRecord _ | .boot _ => 40
  | .key => 2000
  | .seal | .sealWrite | .ivk => 400

namespace State

/-! ### The hold-up check (R784, R785) -/

/-- The available energy in µJ, with C in µF and VHOLD in mV (R784). -/
def energy (s : State) : Nat := 4 * s.store.c * (s.store.vhold ^ 2 - 2700 ^ 2) / 10000000

/-- The check before an operation: passed, or refused with STORE_EVT ENERGY and 0x1203. -/
def checkEnergy (s : State) (need : Nat) : Bool × State :=
  let s := { s with store.need := need }
  if need + 40 ≤ s.energy then (true, s)
  else (false, ({ s with store.evt := s.store.evt ||| 1 }).note 0x1203)

/-- A store operation started, if the check passes and none runs.
DESIGN CHOICE, unsafe: log entry 56. -/
def startOp (s : State) (op : StoreOp) : Bool × State :=
  let r := s.checkEnergy op.need
  if r.1 then (true, { r.2 with store.op := some op }) else r

/-! ### The journal (R779–R781) -/

/-- The record of a kind with the highest SEQ among the valid ones of the journal (R780). -/
def standing (s : State) (k : JKind) : Option JRec :=
  (s.store.journal.flatten.filterMap jrecOf).foldl (fun (best : Option JRec) r =>
    if r.kind = k ∧ best.all (fun (b : JRec) => b.seq < r.seq) = true then some r else best) none

/-- A record appended: to the current sector, or to a new one where that is full; in the last sector left, nothing
follows its 64 records. -/
def journalAdd (s : State) (r : List Byte) : State :=
  let j := s.store.journal
  let cur := j.getLastD []
  let j := if j.isEmpty ∨ 64 ≤ cur.length then (if j.length < 32 then j ++ [[r]] else j)
    else j.dropLast ++ [cur ++ [r]]
  { s with store.journal := j }

/-- The oldest sector erased once all 32 are in use: the standing records that lie in it are first rewritten, as they
are, into the current sector (R781).
DESIGN CHOICE, unsafe: log entry 83. -/
def journalTidy (s : State) : State := match s.store.journal with
  | oldest :: rest =>
    if rest.length < 31 ∨ s.supply.failing = true then s
    else
      let r := s.checkEnergy 2000
      if !r.1 then r.2
      else
        let keep := oldest.filter fun b => match jrecOf b with
          | some x => s.standing x.kind == some x
          | none => false
        keep.foldl (fun (s : State) b => s.journalAdd b) { r.2 with store.journal := rest }
  | [] => s

/-- A record written: it stands for its kind from now on (R779–R781). -/
def journalPut (s : State) (k : JKind) (step : Nat) (body : List Byte) : State :=
  let n := s.store.journalSeq + 1
  ({ s with store.journalSeq := n }.journalAdd (jrecBytes k n step body)).journalTidy

/-- The body of a CAL record: slot, previous slot and the table's CRC. -/
def calBody (slot prev : Nat) (t : List (Nat × CalEntry)) : List Byte :=
  bytesBE 1 slot ++ bytesBE 1 prev ++ bytesBE 4 (crc32c (tableBytes t)).toNat

/-- The CAL record that a sweep writes at its start (Table 19-16); a hold-up check that refuses it leaves
the sweep without one. -/
def sweepRecord (s : State) : State :=
  let r := s.checkEnergy 40
  if r.1 then
    r.2.journalPut .cal calStepSweep
      (calBody s.store.calSlot s.store.calPrev ((kget s.store.calSlots s.store.calSlot).getD []))
  else r.2

/-! ### Calibration commit and load (R794–R797) -/

/-- A commit abandoned for energy: the table stays in RAM only (R785, R797). -/
def abandonCommit (s : State) : State :=
  { s with store.commit := .idle, store.commitDue := false, store.evt := s.store.evt ||| 8 }

/-- A commit begins with ERASE, if none runs (R326, R794).
DESIGN CHOICE, unsafe: log entry 56. -/
def startCommit (s : State) : State :=
  if s.store.commit ≠ .idle then s
  else
    let r := s.checkEnergy 2000
    if r.1 then { r.2 with store.commit := .erase } else r.2.abandonCommit

/-- The slot that the next commit writes. -/
def nextCalSlot (s : State) : Nat :=
  if (s.standing .cal).isNone then 0 else (s.store.calSlot + 1) % 32

/-- The calibration table loaded at BENCH power-up, from the slot of the standing CAL record or from its
previous one; without either it is empty, with 0xB302 (R796). -/
def loadTable (s : State) : State :=
  let slot := if (s.standing .cal).isNone then none
    else match kget s.store.calSlots s.store.calSlot with
      | some t => some t
      | none => kget s.store.calSlots s.store.calPrev
  match slot with
  | some t => { s with clk.table := t, store.calEmpty := false }
  | none => ({ s with clk.table := [], store.calEmpty := true }).note 0xB302

/-! ### Banks (R778, R787) -/

/-- A bank: B for true. -/
def bank (s : State) (b : Bool) : Bank := if b then s.store.bankB else s.store.bankA

/-- A bank replaced. -/
def setBank (s : State) (b : Bool) (x : Bank) : State :=
  if b then { s with store.bankB := x } else { s with store.bankA := x }

/-- The bank that an install targets: the one that is not active, A while none is (R787). -/
def targetBank (s : State) : Bool := match s.store.active with
  | some b => !b
  | none => false

/-- A committed image is held. -/
def committed (s : State) : Bool := s.store.active.isSome

/-- The active bank, with what a load needs of it (R782): its bytes, if the digest of the COMMITTED record
still matches them. -/
def loadable (s : State) : Option (List Byte) := match s.store.active with
  | some b =>
    let x := s.bank b
    if x.valid ∧ imageDigest x.bytes = x.digest then some x.bytes else none
  | none => none

end State

end Sys2Proof.Machine
end

