-- ==== Sys2Proof/Machine/Chains.lean ====
section
/-! DEFINITION. The RF chains (chapter 7) and their recalibration (chapter 8): tunes, transitions,
gain, protected windows, bubbles, resets and failures.  The rows that requests issue are in
Requests.lean. -/

namespace Sys2Proof.Machine

open Sys2Proof

namespace State

/-! ### Resets and failures -/

/-- Every request pending in a chain, as its ID, measurement code and window with the chain epoch as it now
stands (Table 20-6): its tunes, its transition, GAIN, CALIBRATE and the sweep that names it, and for HR the
requests of the hearth link with a START and the STOPs that wait.
DESIGN CHOICE, unsafe: log entry 31. -/
def chainPending (s : State) (c reason : Nat) : List (Nat × Nat × List Byte) :=
  let x := s.chain c
  let win := bytesBE 1 x.epoch ++ bytesBE 1 reason
  let sweep := match s.clk.sweep with
    | some w => match w.req with
      | some id => if w.mask.testBit c then
          [(id, 0x0307, bytesBE 1 (s.chain w.chain).epoch ++ bytesBE 1 reason)] else []
      | none => []
    | none => []
  let hearth := if c = 2 then
      (s.hearth.reqs.map fun (e : Nat × Req) => (e.2.id, 0x0600 + e.1, win)) ++
        (((if s.hearth.mode = .starting then [s.hearth.startId] else []) ++ s.hearth.stopping).filter
          fun id => id != 0).map fun id => (id, 0x060F, win)
    else []
  (x.tunes.map fun q => (q.id, 0x0303, win)) ++
    (match x.trans with
      | some t => match t.reqId with | some i => [(i, 0x0300 + t.code, win)] | none => []
      | none => []) ++
    (x.gains.map fun q => (q.id, 0x0305, win)) ++ (x.cals.map fun q => (q.id, 0x0307, win)) ++ sweep ++ hearth

/-- Every request pending in a chain completes ABORTED_BY_RESET, in ascending ID (R309, R813).
DESIGN CHOICE, unsafe: log entry 31. -/
def abortChain (s : State) (c reason : Nat) : State :=
  let due := s.chainPending c reason
  let s := s.setChain c { s.chain c with tunes := [], gains := [], cals := [], trans := none }
  let s := match s.clk.sweep with
    | some w => if w.mask.testBit c then { s with clk.sweep := none } else s
    | none => s
  let s := if c = 2 then { s with
      hearth.reqs := [], hearth.startId := 0
      hearth.stopping := s.hearth.stopping.filter fun id => id == 0 }
    else s
  s.abortAll due

/-- A bubble in progress ends with result 1 (Table 20-6, R336), BUBBLE_DONE is raised, and the next bubble of
its priority is placed (R329). -/
def endBubbles (s : State) (c : Nat) : State :=
  let x := s.chain c
  let running := x.bubbles.filter fun b => b.begun.isSome
  let s := s.setChain c { x with bubbles := x.bubbles.filter fun b => b.begun.isNone }
  let s := running.foldl (fun (s : State) b =>
    s.radioEvent 0x0311 (bytesBE 1 c ++ bytesBE 1 b.kind.code ++ bytesBE 1 1) []) s
  if running.isEmpty then s else s.placeCals c

/-- A reset of a chain: it goes to SLEEP, its epoch increments and its pending requests complete (R309); then
CHAIN_LOST, where it has failed with the fault code given, and the rest of what the chain raises (R815). The
burst in progress ends.
DEDUCED, unsafe: log entry 24. -/
def resetChain (s : State) (c : Nat) (failed : Option Nat) : State :=
  let s := if c = 2 then s.setHr .sleep 0 else s.setChain c { s.chain c with mode := .sleep }
  let x := s.chain c
  let s := s.setChain c { x with
    epoch := (x.epoch + 1) % 256, quiet := 0, clipRun := 0, loopI := 0, loopQ := 0
    failed := x.failed || failed.isSome }
  let s := s.abortChain c (if failed.isSome then 3 else 0)
  let s := match failed with
    | some code => s.radioEvent 0x0312 (bytesBE 1 c ++ bytesBE 2 code) []
    | none => s
  let s := s.endBubbles c
  let s := if c = 2 then s.hearthReset else s
  { s with clk.synLost := vset s.clk.synLost c false }

/-- The fault code of a FAILED chain (Table 7-15). -/
def chainFault (c : Nat) : Nat := 0x3101 + c

/-- The class of a chain's failure (Table 20-5). -/
def chainClass (s : State) (c : Nat) : Nat :=
  if c = 2 then (if s.paired then clsCovered else clsLost)
  else if (s.chain (1 - c)).failed then clsLost else clsCovered

/-- A chain becomes FAILED with the faults given: a reset of it (R812), then CHAIN_LOST.  A broadcast
chain leaves ALONE and the lanes seen against the survivor (R285, R362); HR takes the hearth link with
it (R551).
DEDUCED, unsafe: log entry 24. -/
def failChain (s : State) (c : Nat) (codes : List Nat) : State :=
  let cls := s.chainClass c
  let s := codes.foldl (fun (s : State) f => s.raise f c cls) s
  let s := s.resetChain c (some (codes.headD (chainFault c)))
  if c = 2 then s.hearthFailed
  else ({ s with radio.mode := 2, radio.survivor := 1 - c }).respanLanes

/-- A chain held in STANDBY for want of a clock: not FAILED, its bubble in progress ended with result 1
(R336), and its pending requests complete ABORTED_BY_RESET (Table 8-8, R341).  A chain that has FAILED, or
whose domain is down, stays as it is.
DESIGN CHOICE, unsafe: log entry 46. -/
def holdChain (s : State) (c : Nat) : State :=
  let x := s.chain c
  if x.failed ∨ s.chainUp c = false then s.setChain c { x with held := true }
  else
    let s := if c = 2 then (s.abandonBurst).setHr .standby 0 else s.setChain c { x with mode := .standby }
    let s := s.setChain c { s.chain c with held := true }
    (s.abortChain c 0).endBubbles c

/-! ### Who may command a chain -/

/-- A sweep that names the chain runs (R334). -/
def sweeping (s : State) (c : Nat) : Bool :=
  match s.clk.sweep with
  | some w => w.mask.testBit c
  | none => false

/-- A transition, a tune or a bubble is in progress on the chain (R268), a sweep names it (R334), it is
held for want of a clock, or its domain is down. -/
def chainBusy (s : State) (c : Nat) : Bool :=
  let x := s.chain c
  x.trans.isSome || x.bubbling || s.sweeping c || x.held || !s.chainUp c

/-- HR belongs to the frame engine while the hearth link runs (R265, R267).
DEDUCED, safe: log entry 23. -/
def hrOwned (s : State) (c : Nat) : Bool := c == 2 && s.hearth.mode != .stopped

/-- Whether entering a state from the present one calibrates cold (Table 7-4): a broadcast chain never tuned
has no frequency to calibrate (R320).
DESIGN CHOICE, unsafe: log entry 80. -/
def entersCold (s : State) (c : Nat) (target : ChainMode) : Bool :=
  let x := s.chain c
  (target == .synth || target == .rx) && (x.mode == .sleep || x.mode == .standby) &&
    (x.tuned || c == 2) && s.calCold c (keyOf c x.lo)

/-! ### CHAIN_STATE -/

/-- The state that a STATE code names. -/
def modeOfCode : Nat → ChainMode
  | 0 => .sleep | 1 => .standby | 2 => .synth | 3 => .rx | _ => .tx

/-- The code of a chain state (Table 7-3). -/
def codeOfMode : ChainMode → Nat
  | .sleep => 0 | .standby => 1 | .synth => 2 | .rx => 3 | .tx => 4

/-- The bytes of a CHAIN_STATE reply from byte 2 on: the state reached and the time in µs (R266). -/
def stateReached (m : ChainMode) (us : Nat) : List Byte :=
  bytesBE 1 (codeOfMode m) ++ bytesBE 1 0 ++ bytesBE 2 us

/-- A chain ordered to a state; the state it is already in is reached at once. -/
def orderState (s : State) (c : Nat) (m : ChainMode) (id : Option Nat) : State :=
  let x := s.chain c
  if x.mode = m then
    match id with
    | some i => s.chainReply 4 c i stOk 0 (stateReached m 0)
    | none => s
  else s.setChain c { x with trans := some ⟨m, 4, id, s.entersCold c m, false, s.last.edge⟩ }

/-- The request CHAIN_STATE (Table 7-5, R265–R268).
DESIGN CHOICE, unsafe: log entry 22. -/
def chainStateReq (s : State) (r : Req) : State :=
  let c := fieldBE r.blk 0 1
  let t := fieldBE r.blk 1 1
  let no := fun status reason => s.chainReply 4 (Nat.min c 2) r.id status reason []
  if 2 < c ∨ 3 < t then no stNone 1
  else if s.hrOwned c then no stNone 2
  else if (s.chain c).failed then no stNone 3
  else if s.chainBusy c then no stBusy 0
  else
    let s := if (byteAt r.blk 2).getLsbD 0 then { s with radio.paflt := false } else s
    s.orderState c (modeOfCode t) (some r.id)

/-! ### CHAIN_TUNE -/

/-- An LO fits a chain in SPLIT (R284). -/
def splitOk (s : State) (c hz : Nat) : Bool :=
  if c = s.fld 0x540 2 2 then decide (64000000 ≤ hz) && decide (hz ≤ 118000000)
  else decide (170000000 ≤ hz) && decide (hz ≤ 240000000)

/-- The mode in force once a tune applies (Table 7-6). -/
def tuneMode (s : State) (r : Req) : Nat :=
  match fieldBE r.blk 1 1 with
  | 1 => 0 | 2 => 1 | _ => s.radio.mode

/-- Whether the LO lies less than 20 kHz from a point of the raster in the block (R271). -/
def dcNear (blk : List Byte) : Bool :=
  let lo := fieldBE blk 4 4
  let origin := fieldBE blk 8 4
  let step := fieldBE blk 12 2 * 1000
  if step = 0 then false
  else
    let d := ((lo : Int) - origin).emod step
    decide (d < 20000) || decide ((step : Int) - d < 20000)

/-- The chains a tune moves: both broadcast chains in DIVERSE (R283). -/
def tuneChains (s : State) (r : Req) : List Nat :=
  let c := fieldBE r.blk 0 1
  if c < 2 ∧ s.tuneMode r = 0 then [c, 1 - c] else [c]

/-- Why a tune is refused: the status and the reason (R268, R270, R284, R286).
DEDUCED, safe: log entry 23. -/
def tuneRefused (s : State) (r : Req) : Option (Nat × Nat) :=
  let c := fieldBE r.blk 0 1
  let f := fieldBE r.blk 4 4
  let m := fieldBE r.blk 1 1
  let other := s.chain (1 - c)
  if 2 < c ∨ 2 < m then some (stNone, 1)
  else if c = 2 ∧ 259 < f then some (stNone, 1)
  else if c < 2 ∧ (f < 64000000 ∨ 240000000 < f) then some (stNone, 1)
  else if c < 2 ∧ s.tuneMode r = 1 ∧
      (s.splitOk c f = false ∨ (other.tuned = true ∧ s.splitOk (1 - c) other.lo = false)) then
    some (stNone, 1)
  else if s.hrOwned c then some (stNone, 2)
  else if (s.chain c).failed ∨ (c < 2 ∧ s.tuneMode r ≠ 2 ∧ other.failed = true) then some (stNone, 3)
  else if (s.tuneChains r).any s.chainBusy then some (stBusy, 0)
  else none

/-- The request CHAIN_TUNE reaches its chain: refused, or waiting for its application edge (R270).
DESIGN CHOICE, unsafe: log entry 22. -/
def chainTuneReq (s : State) (r : Req) : State :=
  let c := fieldBE r.blk 0 1
  match s.tuneRefused r with
  | some e => s.chainReply 3 (Nat.min c 2) r.id e.1 e.2 []
  | none => s.setChain c { s.chain c with tunes := (s.chain c).tunes ++ [r] }

/-- A request's application edge has come: at once for PP 0 where the spec says so, else the first tick
edge at or after its application PP. -/
def appDue (s : State) (r : Req) (atOnce : Bool) : Bool :=
  (atOnce && r.app == 0) || (decide (r.edge < s.last.edge) && decide (r.app ≤ s.last.pp))

/-- A chain put on a new LO or channel; its transition ends in its former state (R270). -/
def startTune (s : State) (c lo : Nat) (id : Option Nat) (near : Bool) : State :=
  let x := s.chain c
  let live := x.mode == .synth || x.mode == .rx
  s.setChain c { x with
    lo := lo, tuned := true
    trans := some ⟨x.mode, 3, id, live && s.calCold c (keyOf c lo), near, s.last.edge⟩ }

/-- A tune takes effect: the mode, the LO of the chains it moves, and the lanes (R270, R283, R361). -/
def applyTune (s : State) (r : Req) : State :=
  let c := fieldBE r.blk 0 1
  let f := fieldBE r.blk 4 4
  match s.tuneRefused r with
  | some e => s.chainReply 3 c r.id e.1 e.2 []
  | none =>
    let cs := s.tuneChains r
    let s := if c < 2 then { s with radio.mode := s.tuneMode r } else s
    let s := cs.foldl (fun (s : State) d =>
      s.startTune d f (if d = c then some r.id else none) (dcNear r.blk)) s
    if c < 2 then s.respanLanes else s

/-- The bytes of a CHAIN_TUNE reply from byte 2 on: the LO reached in Hz and the flags COLD and DCNEAR
(R270). -/
def tuneReached (s : State) (c : Nat) (t : Transition) : List Byte :=
  let lo := (s.chain c).lo
  bytesBE 2 0 ++ bytesBE 4 (if c = 2 then channelHz lo else lo) ++
    bytesBE 1 (bitNat t.cold + 2 * bitNat t.dcnear)

/-- A transition or tune of a chain ends `us` µs after its edge: a cold one has calibrated its entry (R322),
and its request completes (R266, R270). -/
def endTransition (s : State) (c us : Nat) (cal : CalResult) (t : Transition) : State :=
  let x := s.chain c
  let s := if t.cold then
      s.calWrite c (keyOf c x.lo) (if c = 2 then channelHz x.lo else x.lo) cal else s
  let s := if c = 2 then s.setHr t.target 0 else s
  let y := s.chain c
  let s := s.setChainAt (t.edge * 65536 + us * 65536 * 19 / 4000) c { y with
    mode := t.target, trans := none, clipped := if y.mode = .rx ∧ t.target = .rx then y.clipped else 0 }
  let s := s.placeCals c
  match t.reqId with
  | some id =>
    if t.code = 4 then s.chainReply 4 c id stOk 0 (stateReached t.target us)
    else s.chainReply 3 c id stOk 0 (s.tuneReached c t)
  | none => s

/-! ### GAIN -/

/-- The registers' gain fields of a broadcast chain: mode, MANUAL, MIN, MAX. -/
def gainFields (s : State) (c : Nat) : Nat × Nat × Nat × Nat :=
  let a := 0x503 + 0x20 * c
  (s.fld a 1 0, s.fld a 7 4, s.fld a 11 8, s.fld a 15 12)

/-- The gain index that the fields now call for: MANUAL's own, AUTO's within MIN–MAX, else the present
one (R277, Table 7-8).  No index exceeds 14 (R276). -/
def settleGain (s : State) (c : Nat) : State :=
  let (m, man, lo, hi) := s.gainFields c
  let x := s.chain c
  let g := match m with
    | 0 => Nat.max lo (Nat.min hi x.gain)
    | 2 => man
    | _ => x.gain
  s.setChain c { x with gain := Nat.min 14 g }

/-- The request GAIN (Table 7-8): refused, or waiting for the next tick edge (R280). -/
def gainReq (s : State) (r : Req) : State :=
  let f := fun i => fieldBE r.blk i 1
  let c := f 0
  let no := fun status reason => s.chainReply 5 (Nat.min c 2) r.id status reason []
  if 1 < c ∨ 2 < f 1 ∨ 14 < f 2 ∨ 14 < f 3 ∨ 14 < f 4 ∨ f 4 < f 3 then no stNone 1
  else if (s.chain c).failed then no stNone 3
  else if s.sweeping c ∨ s.chainUp c = false then no stBusy 0
  else s.setChain c { s.chain c with gains := (s.chain c).gains ++ [r] }

/-- The GAIN requests whose tick edge has come: the fields of BRc_GAIN written, and the reply with the
index in force (R280). -/
def applyGains (s : State) (c : Nat) : State :=
  let x := s.chain c
  let due := x.gains.filter fun r => decide (r.edge < s.last.edge)
  let s := s.setChain c { x with gains := x.gains.filter fun r => !decide (r.edge < s.last.edge) }
  due.foldl (fun (s : State) r =>
    let f := fun i => fieldBE r.blk i 1
    let v := f 1 + 16 * f 2 + 256 * f 3 + 4096 * f 4
    let s := (s.setReg (0x503 + 0x20 * c) (BitVec.ofNat 32 v)).settleGain c
    s.chainReply 5 c r.id stOk 0 (bytesBE 1 (s.chain c).gain)) s

/-! ### PROTECT -/

end State

/-- A superframe holds a run of 4 ticks free of the windows (R306). -/
def roomIn (ws : List Window) (sf : Nat) : Bool :=
  let starts := (sf * 456) :: ws.map (·.stop)
  starts.any fun t => decide (sf * 456 ≤ t) && decide (t + 4 ≤ (sf + 1) * 456) &&
    ws.all fun w => decide (w.stop ≤ t) || decide (t + 4 ≤ w.start)

/-- Every superframe that windows reach into holds a run of 4 free ticks; a superframe that fails this
holds an end of a window or lies within one (R306).
DEDUCED, unsafe: log entry 21. -/
def windowsOk (ws : List Window) : Bool :=
  ws.all fun w =>
    roomIn ws (sfOf w.start) && roomIn ws (sfOf (w.stop - 1)) &&
      (decide (w.stop ≤ (sfOf w.start + 1) * 456) || roomIn ws (sfOf w.start + 1))

namespace State

/-- The windows of a chain as a PROTECT leaves them. -/
def protectedBy (s : State) (c i : Nat) (w : Option Window) : Vector (Option Window) 16 :=
  vset (s.chain c).windows i w

/-- The request PROTECT: a window set on the chains of its mask, or cleared; refused when a superframe would
keep no free run, or a sweep names one of them (R305–R307, R334). Its reply carries the epoch of the lowest
chain named.
DEDUCED, unsafe: log entry 21. -/
def protectReq (s : State) (r : Req) : State :=
  let op := fieldBE r.blk 0 1
  let i := fieldBE r.blk 1 1
  let mask := fieldBE r.blk 2 1
  let w : Window := ⟨fieldBE r.blk 4 6, fieldBE r.blk 10 6⟩
  let cs := [0, 1, 2].filter fun c => mask.testBit c
  let c0 := cs.headD 0
  if 1 < op ∨ 15 < i ∨ w.stop ≤ w.start then s.chainReply 6 c0 r.id stNone 1 []
  else
    let new := if op = 0 then some w else none
    if cs.any s.sweeping then s.chainReply 6 c0 r.id stBusy 0 [] else
    if op = 0 ∧ cs.any (fun c => !windowsOk ((s.protectedBy c i new).toList.filterMap id)) then
      s.chainReply 6 c0 r.id stBusy 4 []
    else
      let s := cs.foldl (fun (s : State) c =>
        s.setChain c { s.chain c with windows := s.protectedBy c i new }) s
      s.chainReply 6 c0 r.id stOk 0 []

/-! ### CALIBRATE -/

/-- The slots in the scope of a CALIBRATE (Table 8-7). -/
def calScope (s : State) (c scope key : Nat) : List Nat :=
  match scope with
  | 0 => (s.calInUse c).toList
  | 1 => ((s.calFind c key).map (·.1)).toList
  | 2 => (s.clk.table.filter fun e => e.2.chain == c && s.calStale e.2).map (·.1)
  | _ => (s.clk.table.filter fun e => e.2.chain == c).map (·.1)

/-- A sweep of the chains of a mask started (R334): the VALID entries of those chains, in slot order, with
the CAL record of its start (Table 19-16). -/
def startSweep (s : State) (mask c : Nat) (id : Option Nat) : State :=
  let slots := (s.clk.table.filter fun e => mask.testBit e.2.chain).map (·.1)
  ({ s with clk.sweep := some ⟨mask, id, c, slots, 0, 0⟩ }).sweepRecord

/-- Every chain of a mask is in STANDBY or SYNTH and free to be swept (R334).
DEDUCED, unsafe: log entry 69. -/
def sweepable (s : State) (mask : Nat) : Bool :=
  s.clk.sweep.isNone &&
    [0, 1, 2].all fun c => !mask.testBit c ||
      (((s.chain c).mode == .standby || (s.chain c).mode == .synth) && !s.chainBusy c)

/-- The request CALIBRATE (Table 8-7, R333–R335).
DESIGN CHOICE, safe: log entry 26. -/
def calibrateReq (s : State) (r : Req) : State :=
  let c := fieldBE r.blk 0 1
  let scope := fieldBE r.blk 1 1
  let urgent := (byteAt r.blk 2).getLsbD 0
  let no := fun status reason => s.chainReply 7 (Nat.min c 2) r.id status reason (calCounts 0 0)
  if 2 < c ∨ 4 < scope then no stNone 1
  else if s.hrOwned c ∧ scope = 4 then no stBusy 2
  else if (s.chain c).failed then no stNone 3
  else if s.clk.sweep.isSome ∨ s.chainUp c = false then no stBusy 0
  else if scope = 4 then
    if s.sweepable (2 ^ c) then s.startSweep (2 ^ c) c (some r.id) else no stBusy 0
  else
    let slots := s.calScope c scope (fieldBE r.blk 4 2)
    if scope = 1 ∧ slots = [] then no stNone 1
    else if slots = [] then no stOk 0
    else
      let needed := s.calUrgent c ++ s.calBackground c
      let covered := slots.all needed.contains && (s.calPlaced c true || s.calPlaced c false)
      let x := s.chain c
      let s := s.setChain c { x with cals := x.cals ++ [⟨r.id, slots, urgent, covered, 0, 0⟩] }
      if covered then s else s.placeCals c

/-! ### Bubbles at work -/

/-- A bubble of a chain that may begin: placed, and its start published (R300). -/
def bubbleReady (s : State) (c : Nat) : Option Bubble :=
  (s.chain c).bubbles.find? fun b => b.begun.isNone && decide (b.start ≤ s.last.pp)

/-- A bubble of a chain replaced by another, or removed, at the instant `t`. -/
def swapBubble (s : State) (t c : Nat) (b : Bubble) (new : Option Bubble) : State :=
  let x := s.chain c
  s.setChainAt t c { x with bubbles := x.bubbles.flatMap fun d => if d = b then new.toList else [d] }

/-- BUBBLE_DONE (R302, Table 7-2). -/
def bubbleDone (s : State) (c : Nat) (kind : BubbleKind) (result : Nat) : State :=
  s.radioEvent 0x0311 (bytesBE 1 c ++ bytesBE 1 kind.code ++ bytesBE 1 result) []

/-- A trim DAC stands at a limit of its signed 8 bits (R275). -/
def atLimit (t : Int) : Bool := decide (t ≤ -128) || decide (127 ≤ t)

/-- The end of a bubble that has run its ticks: its calibration's result stored (R323), a DC trim at its
range limit faulted (R275), the CALIBRATE requests served, and the next bubble of its priority placed
(R329).  On a chain held for want of a clock it ends with result 1 and changes nothing (R336). -/
def finishBubble (s : State) (c : Nat) (b : Bubble) (cal : CalResult) : State :=
  let held := (s.chain c).held
  let s := s.swapBubble ((b.begun.getD s.last.edge + b.kind.ticks) * 65536) c b none
  if held then (s.bubbleDone c b.kind 1).placeCals c
  else match b.kind with
  | .synthcal =>
    match b.slot.bind fun i => (kget s.clk.table i).map fun e => (i, e) with
    | some (i, e) =>
      let s := s.calWrite c e.key (s.calHz c i e) cal
      ((s.bubbleDone c b.kind (bitNat !cal.ok)).calServed c i (some cal.ok)).placeCals c
    | none => (s.bubbleDone c b.kind 0).placeCals c
  | .dctrim =>
    let s := s.setChain c { s.chain c with
      trimI := cal.trimI, trimQ := cal.trimQ, loopI := 0, loopQ := 0 }
    let s := if atLimit cal.trimI || atLimit cal.trimQ then s.raise 0x3110 c clsNote else s
    s.bubbleDone c b.kind (bitNat !cal.ok)
  | .gaincal => s.bubbleDone c b.kind (bitNat !cal.ok)

end State

/-! ### The rows of the table -/

/-- CHAIN_TRANSITION_DONE: the chain's transition or tune ends after `us` µs (R262, R266, R270). -/
def execChainTransitionDone (c : Fin 3) (us : Nat) (cal : CalResult) (s : State) :
    Host.Outcome State Fault Refusal :=
  .next (match (s.chain c).trans with
    | some t => s.endTransition c us cal t
    | none => s)

/-- PROTECT_WINDOW_END: a window ends when the Last has published its end PP (R308). -/
def execProtectWindowEnd (c : Fin 3) (w : Fin 16) (s : State) : Host.Outcome State Fault Refusal :=
  .next (match (s.chain c).windows.get w with
    | some x =>
      if x.stop ≤ s.last.pp then
        s.setChain c { s.chain c with windows := (s.chain c).windows.set w none }
      else s
    | none => s)

/-- GAIN_AUTO_TICK: one tick of a broadcast chain in RX, with the samples above −1 dBFS, the clipped
ones, and whether the peak stayed below −14 dBFS: AUTO steps the index (R277), and clipping that goes
on at MIN is reported once per 16 ticks (R281). -/
def execGainAutoTick (c : Fin 3) (above clipped : Nat) (low : Bool) (s : State) :
    Host.Outcome State Fault Refusal :=
  let x := s.chain c
  .next (
    if c.1 = 2 ∨ x.mode ≠ .rx ∨ x.trans.isSome then s
    else
      let (m, _, lo, hi) := s.gainFields c
      let loud := decide (4 < above)
      let quiet := if low && !loud then x.quiet + 1 else 0
      let g :=
        if m ≠ 0 then x.gain
        else if loud then Nat.max lo (x.gain - 1)
        else if quiet = 16 then Nat.min (Nat.min 14 hi) (x.gain + 1)
        else x.gain
      let stuck := loud && decide (x.gain ≤ lo)
      let run := if stuck then x.clipRun + 1 else 0
      let s := s.setChain c { x with
        gain := g, quiet := if quiet = 16 then 0 else quiet, clipRun := run % 16, clipped := clipped }
      if run = 16 then
        (s.raise 0x3111 c clsNote).radioEvent 0x0314 (bytesBE 1 c ++ bytesBE 2 (Nat.min 65535 clipped)) []
      else s)

/-- DC_LOOP_LIMIT: the digital loop's corrections as they stand; beyond ±48 LSB a DCTRIM bubble is
requested (R274), urgent once a trim has reached its range limit (R275, R301).
DEDUCED, safe: log entry 25. -/
def execDcLoopLimit (c : Fin 3) (i q : Int) (s : State) : Host.Outcome State Fault Refusal :=
  let x := s.chain c
  .next (
    if c.1 = 2 ∨ x.mode ≠ .rx then s
    else
      let s := s.setChain c { x with loopI := i, loopQ := q }
      let past := decide (48 < i.natAbs) || decide (48 < q.natAbs)
      let urgent := State.atLimit x.trimI || State.atLimit x.trimQ
      if past && !x.bubbles.any (fun b => b.kind == .dctrim) then s.placeBubble c .dctrim urgent else s)

/-- BUBBLE_START: a placed bubble begins at its start; a SYNTHCAL takes the entry that is first in the
order of R329, and ends at once with result 0 when nothing needs it (R331). -/
def execBubbleStart (c : Fin 3) (s : State) : Host.Outcome State Fault Refusal :=
  .next (match s.bubbleReady c with
    | some b =>
      let slot := if b.kind = .synthcal then s.calFirst c else none
      let now := s.last.edge * 65536
      if b.kind = .synthcal ∧ slot = none then (s.swapBubble now c b none).bubbleDone c b.kind 0
      else s.swapBubble now c b (some { b with begun := some s.last.edge, slot := slot })
    | none => s)

/-- BUBBLE_DONE: a bubble that has lasted its length in ticks ends (R299, R302). -/
def execBubbleDone (c : Fin 3) (cal : CalResult) (s : State) : Host.Outcome State Fault Refusal :=
  .next (match (s.chain c).bubbles.find? fun b => match b.begun with
      | some e => decide (e + b.kind.ticks ≤ s.last.edge)
      | none => false with
    | some b => s.finishBubble c b cal
    | none => s)

/-- PAFAULT_ASSERT: PAFAULT# takes the level given, true for high; low while PAEN is high turns the
transmitter off, abandons the burst, moves HR to SYNTH, latches PAFLT and raises PAFAULT and 0x3201 (R295).
DESIGN CHOICE, unsafe: log entry 42. -/
def execPafaultAssert (level : Bool) (s : State) : Host.Outcome State Fault Refusal :=
  let t := { s with radio.pinPafault := level }
  .next (
    if !level && s.radio.pinPaen then
      let chan := (s.chain 2).lo
      let t := t.setHr .synth 0
      let t := { t with radio.paflt := true, hearth.burst := none }
      (t.raise 0x3201 2 clsLost).radioEvent 0x0313 (bytesBE 2 chan) []
    else t)

/-- ADC_STUCK_FAIL: a chain in RX whose ADC outputs stand still for a tick is FAILED (R310); the test is
suspended while the chain is held (R341). -/
def execAdcStuckFail (c : Fin 3) (s : State) : Host.Outcome State Fault Refusal :=
  let x := s.chain c
  .next (if x.mode = .rx ∧ x.held = false ∧ x.failed = false then
    s.failChain c [State.chainFault c] else s)

/-- A temperature reading as one synthesizer takes it: outside −50 to 150 °C raises 0x2320 and suspends
its triggers (Table 8-9). -/
def readTemp (s : State) (c : Nat) (t : Int) : State :=
  let bad := decide (t < -400) || decide (1200 < t)
  let s := { s with clk.temp := vset s.clk.temp c t, clk.tempBad := vset s.clk.tempBad c bad }
  if bad then s.raise 0x2320 c clsNote else s

/-- TEMP_READING: the readings of a superframe, in 0.125 °C: DRIFT and MODE as they now stand (R332),
the ages of the entries, and the bubbles that drift calls for (R327–R329). -/
def execTempReading (t0 t1 t2 : Int) (s : State) : Host.Outcome State Fault Refusal :=
  let s := readTemp (readTemp (readTemp s 0 t0) 1 t1) 2 t2
  let s := { s with
    clk.drift := Nat.max 4 (Nat.min 20 (s.fld 0x410 4 0)), clk.bgMode := (s.reg 0x410).bit 8
    clk.table := s.clk.table.map fun (e : Nat × CalEntry) =>
      (e.1, if s.calInUse e.2.chain = some e.1 then { e.2 with age := 0 }
        else { e.2 with age := satAdd 65535 e.2.age 1 }) }
  .next (((s.placeCals 0).placeCals 1).placeCals 2)

end Sys2Proof.Machine
end

