-- ==== Sys2Proof/Machine/Infra.lean ====
section
/-! DEFINITION. Infrared (chapter 14): reception with flood, blind intervals and pairing, and
transmission. -/

namespace Sys2Proof.Machine

open Sys2Proof

/-- The closing space that merged glitches have left among a burst's durations, 0 for none. -/
def IrBurst.tail (b : IrBurst) : Nat := if b.durs.length % 2 = 0 then b.durs.getLastD 0 else 0

/-- The burst whose carrier and peak level an IR_CODE reports: the first that it delivers. -/
def IrDecided.lead (d : IrDecided) : Option IrBurst := if d.deliver.head? = some 1 then d.second else d.first

/-- A burst whose end is decided: its closing space omitted (R587). -/
def IrBurst.closed (b : IrBurst) : IrBurst :=
  { b with durs := if b.durs.length % 2 = 0 then b.durs.dropLast else b.durs }

/-- A span of µs in 1/256 tick. -/
def irUnits (us : Nat) : Nat := us * 1216 / 1000

/-- The level of a lane output's magnitude, the envelope, in 0.5 dB below full scale (R584). -/
def envelope (y : Iq) : Nat := levelCode y.power (2 ^ 30)

/-- The carrier offset between two lane outputs, by their phase slope, in 240 000/65 536 Hz (R584). -/
def phaseSlope (y z : Iq) : Int := (Config.angle z.i z.q - Config.angle y.i y.q).toInt

/-- The code of a receive channel's state (Table 14-7). -/
def IrMode.code : IrMode → Nat
  | .off => 0 | .clear => 1 | .flood => 2 | .recover => 3 | .stuck => 4

/-! ### A channel's configuration (Table 14-1) -/

namespace IrChan

/-- GLITCH in µs. -/
def glitch (x : IrChan) : Nat := 4 * fieldBE x.cfg 5 1
/-- ENDGAP in µs. -/
def endGap (x : IrChan) : Nat := 100 * fieldBE x.cfg 6 1
/-- FLOODFL in 0.5 dB below full scale.
DESIGN CHOICE, unsafe: log entry 40. -/
def floodFl (x : IrChan) : Nat := fieldBE x.cfg 9 1
/-- FLOODHOLD in whole ticks. -/
def floodHold (x : IrChan) : Nat := (fieldBE x.cfg 10 1 * 2375 + 999) / 1000
/-- The mark threshold ON: the floor plus MARGIN, never less than −60 dBFS, in 0.5 dB below full scale (R586). -/
def on (x : IrChan) : Nat := Nat.min 120 (x.floor - 2 * fieldBE x.cfg 4 1)
/-- The space threshold OFF: ON − 3 dB (R586). -/
def off (x : IrChan) : Nat := x.on + 6
/-- MAXMARK in µs. -/
def maxMark (x : IrChan) : Nat := 100 * fieldBE x.cfg 7 1
/-- PAIR. -/
def pair (x : IrChan) : Bool := (byteAt x.cfg 11).getLsbD 0
/-- BLANKTX. -/
def blankTx (x : IrChan) : Bool := (byteAt x.cfg 11).getLsbD 1
/-- PAIRMIN in 1/256 tick. -/
def pairMin (x : IrChan) : Nat := fieldBE x.cfg 12 2 * 1216 / 10
/-- PAIRMAX in 1/256 tick. -/
def pairMax (x : IrChan) : Nat := fieldBE x.cfg 14 2 * 1216 / 10

end IrChan

/-- `t` lies in the pair window of a burst that started at `a` (chapter 14, Ground).
DESIGN CHOICE, unsafe: log entry 40. -/
def inWindow (x : IrChan) (a t : Nat) : Bool := decide (a + x.pairMin ≤ t) && decide (t ≤ a + x.pairMax)

namespace State

/-- A receive channel. -/
def ir (s : State) (c : Nat) : IrChan := vget IrChan.init s.infra.chan c

/-- The state with channel `c` replaced. -/
def setIr (s : State) (c : Nat) (x : IrChan) : State := { s with infra.chan := vset s.infra.chan c x }

/-- The published PP in 1/256 tick. -/
def irNow (s : State) : Nat := s.last.pp * 256

/-- An output is sending. -/
def irSending (s : State) : Bool := s.infra.out.toList.any fun o => o.sending.isSome

/-- A channel is blind (R595–R597). -/
def irBlind (s : State) (c : Nat) : Bool :=
  let x := s.ir c
  x.mode == .flood || x.mode == .recover || x.mode == .stuck || x.settling ||
    decide (s.last.edge < x.holdOff) || (x.blankTx && s.irSending)

/-- A code decided (R598, R599): it waits for the next tick edge (R602). -/
def irDecide (s : State) (c : Nat) (f g : Option IrBurst) (status cause flags : Nat)
    (deliver : List Nat) : State :=
  let x := s.ir c
  s.setIr c { x with decided := x.decided ++ [⟨f, g, status, cause, flags, deliver, s.last.edge⟩] }

/-- The oldest first burst whose window holds the start `t`. -/
def irPartner (x : IrChan) (t : Nat) : Option IrFirst := x.firsts.find? fun f => inWindow x f.burst.start t

/-- A burst, whole or cut, whose end is decided, against the pairs that wait (R598–R600, Table 14-3).
DESIGN CHOICE, unsafe: log entry 40. -/
def irBurstOver (s : State) (c : Nat) (b : IrBurst) : State :=
  let x := s.ir c
  if !x.pair then
    if b.cut then s.irDecide c (some b) none stFlood b.cause 4 []
    else s.irDecide c (some b) none stOk 0 0 [0]
  else match irPartner x b.start with
    | some f =>
      let s := s.setIr c { x with firsts := x.firsts.filter fun (g : IrFirst) => g != f }
      match f.burst.cut, b.cut with
      | false, false => s.irDecide c (some f.burst) (some b) stOk 0 0 [0, 1]
      | false, true => s.irDecide c (some f.burst) (some b) stSingle b.cause 0 [0]
      | true, false => s.irDecide c (some f.burst) (some b) stSingle f.burst.cause 5 [1]
      | true, true => s.irDecide c (some f.burst) (some b) stFlood f.burst.cause 4 []
    | none =>
      let unknown := !b.cut && x.blindEnd.any fun e => decide (e ≤ b.start) && decide (b.start ≤ e + x.pairMax)
      s.setIr c { x with firsts := x.firsts ++ [⟨b, unknown, false⟩] }

/-- The burst in progress on a channel cut: its durations discarded, its start kept, and fault 0x7102
(R591).
DESIGN CHOICE, unsafe: log entry 40. -/
def irCut (s : State) (c : Nat) : State :=
  let x := s.ir c
  let cause := if x.mode = .flood ∨ x.mode = .recover ∨ x.mode = .stuck then x.cause else 0
  let s := s.setIr c { x with burst := none, inMark := false, lead := 0 }
  match x.burst with
  | none => s
  | some b => (s.raise 0x7102 c clsNote).irBurstOver c { b with durs := [], cut := true, cause := cause }

/-- The burst in progress abandoned and reported with status NONE and a cause (R582, R588). -/
def irAbandon (s : State) (c cause : Nat) : State :=
  let x := s.ir c
  match x.burst with
  | none => s
  | some b =>
    let s := s.setIr c { x with burst := none }
    s.irDecide c (some { b with durs := [] }) none stNone cause 0 []

/-- The beginnings and ends of a channel's blind intervals as they now stand: a beginning cuts a burst in
progress; an end marks the windows it overlapped. -/
def irWatch (s : State) (c : Nat) : State :=
  let x := s.ir c
  match x.blindFrom, s.irBlind c with
  | none, true => (s.setIr c { x with blindFrom := some s.irNow }).irCut c
  | some a, false =>
    s.setIr c { x with
      blindFrom := none, blindEnd := some s.irNow
      firsts := x.firsts.map fun (f : IrFirst) => { f with
        blindWin := f.blindWin || (decide (a ≤ f.burst.start + x.pairMax) &&
          decide (f.burst.start + x.pairMin ≤ s.irNow)) } }
  | _, _ => s

/-- `irWatch` on both channels. -/
def irWatchAll (s : State) : State := (s.irWatch 0).irWatch 1

/-- A channel changes its state, with IR_FLOOD (R593). -/
def irMove (s : State) (c : Nat) (m : IrMode) (cause : Nat) : State :=
  let s := s.setIr c { s.ir c with mode := m, cause := cause }
  s.radioEvent 0x0722 (bytesBE 1 c ++ bytesBE 1 m.code ++ bytesBE 1 cause) []

/-- The mean carrier of a burst's marks in 10 Hz (R589); a burst with no more than 200 µs of any mark has none, so
it is a free value.
DESIGN CHOICE, safe: log entry 40. -/
def irCarrier (s : State) (b : Option IrBurst) : Nat × State := match b with
  | none => (0, s)
  | some b =>
    if b.cWt = 0 then
      let (f, s) := s.free16
      (f.toNat, s)
    else
      let q := b.cSum / b.cWt
      (if b.cSum % b.cWt = 0 then q else q + bitNat (Config.meanUp b.cSum b.cWt), s)

/-- The window of IR_CODE (Table 14-4). -/
def irCodeBytes (c epoch carrier : Nat) (d : IrDecided) : List Byte :=
  let lead := d.lead
  let n := fun (b : Option IrBurst) => (b.map fun x => x.durs.length).getD 0
  let at_ := fun (b : Option IrBurst) => (b.map fun x => x.start).getD 0
  let some0 := !d.deliver.isEmpty
  bytesBE 1 c ++ bytesBE 1 epoch ++ bytesBE 1 d.status ++ bytesBE 1 d.deliver.length ++ bytesBE 1 d.flags ++
    bytesBE 1 d.cause ++ bytesBE 2 (n d.first) ++ bytesBE 2 (n d.second) ++ bytesBE 6 (at_ d.first / 256) ++
    bytesBE 1 (at_ d.first) ++ bytesBE 6 (at_ d.second / 256) ++ bytesBE 1 (at_ d.second) ++
    bytesBE 2 (if some0 then carrier else 0) ++
    bytesBE 1 (if some0 then (lead.map fun x => x.peak).getD 0 else 0)

end State

/-- Chunks of 30 durations, numbered from 0. -/
def irChunks : Nat → Nat → List Nat → List (Nat × List Nat)
  | 0, _, _ => []
  | n + 1, k, l => if l.isEmpty then [] else (k, l.take 30) :: irChunks n (k + 1) (l.drop 30)

namespace State

/-- The events of a decided code: the IR_EDGES chunks of each delivered burst, then IR_CODE
(R602, Table 14-4). -/
def irReport (s : State) (c : Nat) (d : IrDecided) : State :=
  let s := d.deliver.foldl (fun (s : State) i =>
    let b := if i = 0 then d.first else d.second
    (irChunks 9 0 ((b.map fun (x : IrBurst) => x.durs).getD [])).foldl (fun (s : State) e =>
      s.radioEvent 0x0720 (bytesBE 1 c ++ bytesBE 1 i ++ bytesBE 1 e.1 ++ bytesBE 1 e.2.length ++
        e.2.flatMap fun (u : Nat) => bytesBE 2 u) []) s) s
  let s := { s with
    infra.ok := if d.status = stOk then satAdd 255 s.infra.ok 1 else s.infra.ok
    infra.single := if d.status = stSingle then satAdd 255 s.infra.single 1 else s.infra.single
    infra.floodCodes := if d.status = stFlood then satAdd 255 s.infra.floodCodes 1 else s.infra.floodCodes }
  let (carrier, s) := s.irCarrier d.lead
  s.radioEvent 0x0721 (irCodeBytes c (s.lane (94 + c)).epoch carrier d) []

/-- A reset of a channel's lane, a substitution among them: the burst in progress and any pair pending end
ABORTED_BY_RESET with the new lane epoch, and the channel is blind until its lane has settled
(R595, R603). -/
def irLaneReset (s : State) (c : Nat) : State :=
  let x := s.ir c
  if x.mode = .off then s
  else
    let alone := x.burst.toList.filter fun b => (irPartner x b.start).isNone
    let gone := (x.firsts.map fun f => f.burst) ++ alone
    let s := s.setIr c { x with burst := none, inMark := false, firsts := [], settling := true }
    let s := gone.foldl (fun (s : State) b =>
      s.irReport c ⟨some { b with durs := [] }, none, stAborted, 0, 0, [], s.last.edge⟩) s
    s.irWatch c

/-- The first settled sample of an IR lane ends the blind interval of its reset (R595). -/
def irSettled (s : State) (c : Nat) : State :=
  (s.setIr c { s.ir c with settling := false }).irWatch c

/-! ### IR_CONFIG -/

end State

/-- A field of an RX_SET out of its range (Table 14-1). -/
def rxSetBad (blk : List Byte) : Bool :=
  let f := fun i n => fieldBE blk i n
  let inR := fun (x lo hi : Nat) => decide (lo ≤ x) && decide (x ≤ hi)
  !(decide (f 1 1 ≤ 1) && inR (f 2 2) 200 1200 && inR (f 4 1) 6 30 && inR (f 5 1) 2 50 && inR (f 6 1) 10 255 &&
    inR (f 7 1) 10 255 && inR (f 8 1) 1 8 && decide (f 9 1 ≤ 120) && inR (f 10 1) 1 32 &&
    inR (f 12 2) 1 2549 && inR (f 14 2) (f 12 2 + 1) 2550)

namespace State

/-- A lane assigned as an IR lane (Table 9-4, R581).  What IR_CONFIG sets its detector to is open (R399),
so free values. -/
def assignIr (s : State) (n : Nat) : State :=
  let old := cleared (s.lane n)
  let (f, s) := s.free16
  let (k, s) := s.free16
  let (i, s) := s.free16
  let x : Lane := { old with
    use := .ir, preset := .ir, centre := 0, n := 0, dec := 3, f := 0, a := 23, setA := 19, setB := 19
    bankB := false, reson := false, hold := false, branches := 0
    epoch := (old.epoch + 1) % 256, sfdFreq := f.toNat, sfdK := k.toNat % 16384, sfdIn := i.toNat % 4 }
  (s.setLane n x).settleLane n

/-- The reply of IR_CONFIG (R580). -/
def irReply (s : State) (id c status reason : Nat) : State :=
  let epoch := if c < 2 then (s.lane (94 + c)).epoch else 0
  s.reply 0x0710 id status (bytesBE 1 epoch ++ bytesBE 1 reason)

/-- Neither receive channel is enabled. -/
def irOff (s : State) : Bool := (s.ir 0).mode == .off && (s.ir 1).mode == .off

/-- An RX_SET with fields in range and its lanes assigned (R582).  The floor from which a channel just enabled
tracks is open, so a free value.
DESIGN CHOICE, safe: log entry 40. -/
def rxSet (s : State) (c : Nat) (blk : List Byte) : State :=
  let s := s.irAbandon c 8
  let n := 94 + c
  let word := BitVec.ofNat 32 ((2 * fieldBE blk 2 2 * 100 * 4294967296 + 960000) / (2 * 960000))
  let s := (s.setLane n { s.lane n with nco := word }).settleLane n
  let (f, s) := s.free16
  let x := s.ir c
  let s := s.setIr c { x with
    floor := if x.mode = .off then f.toNat % 256 else x.floor
    mode := if x.mode = .off then .clear else x.mode, cfg := blk.take 16, inMark := false, lead := 0
    settling := true }
  s.irWatch c

/-- RX_OFF (R583). -/
def rxOff (s : State) (c : Nat) : State :=
  let s := s.setIr c { IrChan.init with decided := (s.ir c).decided }
  if s.irOff && (s.lane 94).use == .ir then (s.freeLane 94).freeLane 95 else s

/-- An IR_CONFIG request as it takes effect (Table 14-1, R580–R583, R605). -/
def irReq (s : State) (r : Req) : State :=
  let blk := r.blk
  let op := fieldBE blk 0 1
  let c := fieldBE blk 1 1
  match op with
  | 0 =>
    if rxSetBad blk then s.irReply r.id c stNone 1
    else if s.irOff then
      if (s.lane 94).use != .free || (s.lane 95).use != .free then s.irReply r.id c stNone 2
      else (((s.assignIr 94).assignIr 95).rxSet c blk).irReply r.id c stOk 0
    else (s.rxSet c blk).irReply r.id c stOk 0
  | 1 => if 1 < c then s.irReply r.id c stNone 1 else (s.rxOff c).irReply r.id c stOk 0
  | 2 =>
    let period := fieldBE blk 2 2
    let high := fieldBE blk 4 2
    if 15 < c ∨ period < 384 ∨ 1920 < period ∨ high < 1 ∨ period ≤ high then s.irReply r.id 2 stNone 1
    else
      let w := BitVec.ofNat 32 (period + high * 2048 + 4194304 * (fieldBE blk 6 1 % 2))
      ({ s with infra.prof := vset s.infra.prof c w }).irReply r.id 2 stOk 0
  | _ => s.irReply r.id c stNone 1

/-- What is due of infrared at a tick edge: the IR_CONFIG requests issued before it (R580), and the ends of
timed blind intervals. -/
def irEdge (s : State) : State :=
  let due := s.infra.reqs.filter fun (r : Req) => decide (r.edge < s.last.edge)
  let s := { s with infra.reqs := s.infra.reqs.filter fun (r : Req) => !decide (r.edge < s.last.edge) }
  (due.foldl (fun (s : State) r => s.irReq r) s).irWatchAll

/-! ### Transmission -/

end State

namespace IrTx

/-- The symbol numbers of a code, in order (Table 14-5). -/
def symbols (x : IrTx) : List Nat :=
  (List.range (fieldBE x.code 11 1)).map fun k => fieldBE x.code (12 + k / 4) 1 / 4 ^ (3 - k % 4) % 4

/-- One sending of a code as marks (true) and spaces with their durations in µs (R606, Table 14-5). -/
def once (x : IrTx) : List (Bool × Nat) :=
  let u := fieldBE x.code 0 1
  x.symbols.flatMap fun k => [(true, u * fieldBE x.code (3 + 2 * k) 1), (false, u * fieldBE x.code (4 + 2 * k) 1)]

/-- All sendings, each but the last with the repeat gap after it (R606, Table 14-5). -/
def runs (x : IrTx) : List (Bool × Nat) :=
  (List.range (fieldBE x.code 1 1 % 16)).flatMap (fun _ => x.once ++ [(false, 500 * fieldBE x.code 2 1)]) ++ x.once

/-- For how long a code occupies its output, in µs. -/
def busyFor (x : IrTx) : Nat := (x.runs.map fun e => e.2).sum

/-- The output's level within a run of marks and spaces at `t` reference cycles from its start: each mark starts
the carrier at its high phase and ends it at its exact duration; all else rests at the idle level (R605, R607). -/
def levelIn (prof : Word) : List (Bool × Nat) → Nat → Nat → Bool
  | [], _, _ => prof.bit 22
  | (mark, us) :: rest, from_, t =>
    let till := from_ + us
    if t * 10 < till * 384 then
      (mark && decide ((t - from_ * 384 / 10) % prof.bits 10 0 < prof.bits 21 11)) != prof.bit 22
    else levelIn prof rest till t

/-- The output's level at `t` reference cycles from the start of a code. -/
def level (x : IrTx) (t : Nat) : Bool := levelIn x.prof x.runs 0 t

end IrTx

namespace State

/-- An output. -/
def irOut (s : State) (i : Nat) : IrOut := vget IrOut.init s.infra.out i

/-- A code's encoding and profile are valid (R605, R609, Table 14-5). -/
def irCodeOk (s : State) (prof : Nat) (payload : List Byte) : Bool :=
  let n := fieldBE payload 11 1
  (vget 0 s.infra.prof prof).bits 10 0 != 0 && decide (12 + (n + 3) / 4 ≤ payload.length) &&
    fieldBE payload 0 1 != 0 && n != 0

/-- An IR tack handed to its output (R608, R609): refused, sending or waiting. -/
def irSend (s : State) (out prof : Nat) (payload : List Byte) (handle : Word) : State :=
  let o := s.irOut out
  let tx : IrTx := ⟨handle, vget 0 s.infra.prof prof, payload⟩
  if !s.irCodeOk prof payload then
    ({ s with
      infra.noneTx := satAdd 255 s.infra.noneTx 1
      tack.failIr := satAdd 255 s.tack.failIr 1 }).raise 0x7302 out clsNote
  else if o.sending.isNone then
    ({ s with infra.out := vset s.infra.out out { o with sending := some tx } }).irWatchAll
  else if o.waiting.isNone then
    { s with infra.out := vset s.infra.out out { o with waiting := some tx } }
  else
    ({ s with
      infra.busy := satAdd 255 s.infra.busy 1
      tack.failIr := satAdd 255 s.tack.failIr 1 }).raise 0x7301 out clsNote

/-- An output's last code has ended: under BLANKTX the channels stay blind 1.0 ms more (R597). -/
def irTxQuiet (s : State) : State :=
  if s.irSending then s
  else
    [0, 1].foldl (fun (s : State) c =>
      let x := s.ir c
      if x.blankTx && x.mode != .off then s.setIr c { x with holdOff := max x.holdOff (s.last.edge + 5) }
      else s) s

/-- An output stopped at its idle level: its codes end ABORTED_BY_RESET, with fault 0x7303 (R610). -/
def irTxAbort (s : State) (i : Nat) : State :=
  let o := s.irOut i
  let n := o.sending.toList.length + o.waiting.toList.length
  if n = 0 then s
  else
    let s := { s with
      infra.out := vset s.infra.out i IrOut.init
      infra.aborted := satAdd 255 s.infra.aborted n, tack.failIr := satAdd 255 s.tack.failIr n }
    ((s.raise 0x7303 i clsNote).irTxQuiet).irWatchAll

/-- IR_CTRL takes effect: TXRESET of its outputs, and RXRESET of lanes 94 and 95 (R603, R610,
Table 14-7). -/
def irCtrl (s : State) (v : Word) : State :=
  let s := [0, 1, 2, 3].foldl (fun (s : State) i => if v.bit i then s.irTxAbort i else s) s
  if v.bit 4 && (s.lane 94).use == .ir then
    let s := ((s.resetLane 94).resetLane 95)
    let s := (s.settleLane 94).settleLane 95
    (s.irLaneReset 0).irLaneReset 1
  else s

end State

/-! ### The rows of the table -/

/-- IR_AMBIENT_STEP: IRIN over 1 ms.  A mean more than 10 % of full scale from mid-scale moves IRBIAS one code
toward it, more than 40 % calls for a RECENTRE (R585); IRBIAS holds its value in STUCK (R594).  The IRIN
converter runs on the reference (R313, Table 8-1), and the lanes that see its samples stop with reception
(Table 8-8): this row and those that follow act only while they run. -/
def execIrAmbientStep (irin : List Nat) (s : State) : Host.Outcome State Fault Refusal :=
  let n := Nat.max 1 irin.length
  let sum := irin.sum
  let off := ((sum : Int) - 2048 * n).natAbs
  let mean := sum / n + (if sum % n = 0 then 0 else bitNat (Config.meanUp sum n))
  let stuck := (s.ir 0).mode == .stuck || (s.ir 1).mode == .stuck
  let bias := if stuck || decide (off * 10 ≤ 4096 * n) then s.infra.bias
    else if 2048 * n < sum then Nat.min 1023 (s.infra.bias + 1) else s.infra.bias - 1
  .next (if !s.clk.refOk then s
    else { s with
      infra.mean := Nat.min 4095 mean, infra.bias := bias
      infra.recentre := s.infra.recentre || decide (4096 * n * 4 < off * 10) })

namespace State

/-- A mark begins on a channel after `us` µs of space (R587). -/
def irMarkStart (s : State) (c us at_ : Nat) : State :=
  let x := s.ir c
  match x.burst with
  | none =>
    let start := at_ - s.groupDelay (s.lane (94 + c)) * 19 / 7680
    s.setIr c { x with
      inMark := true, lead := x.lead + us
      burst := if x.endGap ≤ x.lead + us then some ⟨start, [], false, 0, 0, 255, 0⟩ else none }
  | some b =>
    let odd := b.durs.length % 2 == 1
    let durs := if us < x.glitch ∨ odd = false then
        b.durs.dropLast ++ [b.durs.getLastD 0 + us] else b.durs ++ [us]
    s.setIr c { x with inMark := true, burst := some { b with durs := durs } }

/-- A mark of `us` µs ends on a channel: its duration, its carrier and its peak level join the burst in progress,
which 255 durations abandon (R587–R589). -/
def irMarkStop (s : State) (c us carrier peak : Nat) : State :=
  let x := s.ir c
  let glitch := decide (us < x.glitch)
  match x.burst with
  | none => s.setIr c { x with inMark := false, lead := if glitch then x.lead + us else 0 }
  | some b =>
    if b.durs = [] ∧ glitch = true then
      s.setIr c { x with inMark := false, lead := x.lead + us, burst := none }
    else
      let odd := b.durs.length % 2 == 1
      let durs := if glitch ∨ odd = true then
          b.durs.dropLast ++ [b.durs.getLastD 0 + us] else b.durs ++ [us]
      let s := s.setIr c { x with
        inMark := false, lead := 0
        burst := some { b with
          durs := durs, cSum := b.cSum + carrier * (us - 200), cWt := b.cWt + (us - 200)
          peak := Nat.min b.peak peak } }
      if durs.length < 255 then s else (s.raise 0x7103 c clsNote).irAbandon c 7

end State

/-- IR_MARK_EDGE: a lane output whose envelope may cross ON upward or OFF downward, `us` µs after the crossing
before it, at the receiver's PP in 1/256 tick; at the end of a mark, the mean carrier (10 Hz) of all but the first
and last 100 µs of the mark, and its peak level (R586–R589).  Marks and spaces shorter than GLITCH join their
neighbours; a blind channel extracts no edges, and watches the envelope for its end alone (R590, R592).
DESIGN CHOICE, unsafe: log entry 40. -/
def execIrMarkEdge (c : Fin 2) (y : Iq) (us at_ carrier peak : Nat) (s : State) :
    Host.Outcome State Fault Refusal :=
  let x := s.ir c
  let rise := decide (envelope y < x.on) && !x.inMark
  let fall := decide (x.off < envelope y) && x.inMark
  let x' := { x with
    inMark := rise || (x.inMark && !fall)
    marks := if rise then (at_ :: x.marks).take 4 else x.marks
    spaceFrom := if fall then at_ else x.spaceFrom }
  .next (if x.mode = .off ∨ s.reception = false then s
    else if s.irBlind c then s.setIr c x'
    else if rise then (s.setIr c { x' with inMark := false }).irMarkStart c us at_
    else if fall then (s.setIr c { x' with inMark := true }).irMarkStop c us carrier peak
    else s)

/-- IR_BURST_END: a space has reached ENDGAP and the end of the burst in progress is decided (R587, R598,
R599). -/
def execIrBurstEnd (c : Fin 2) (s : State) : Host.Outcome State Fault Refusal :=
  let x := s.ir c
  .next (match x.burst with
    | some b =>
      if x.inMark ∨ s.irBlind c = true ∨ s.reception = false then s
      else (s.setIr c { x with burst := none, lead := b.tail }).irBurstOver c b.closed
    | none => s)

/-- Four marks in succession begin at intervals of 10.0 ms or of 8.33 ms, each within 2 %, and the last is no
older than such an interval (MAINS, Table 14-2).
DESIGN CHOICE, unsafe: log entry 40. -/
def mainsMarks (marks : List Nat) (now : Nat) : Bool :=
  let near := fun (us a b : Nat) => decide (irUnits us * 98 ≤ (a - b) * 100) && decide ((a - b) * 100 ≤ irUnits us * 102)
  match marks with
  | [a, b, c, d] => [10000, 8330].any fun us =>
      near us a b && near us b c && near us c d && decide ((now - a) * 100 ≤ irUnits us * 102)
  | _ => false

/-- How many lane outputs of a block have their envelope above ON and their carrier off by more than CARTOL
(BALLAST, Table 14-2). -/
def offCarrier (x : IrChan) : Iq → List Iq → Nat
  | _, [] => 0
  | y, z :: rest =>
    bitNat (decide (envelope z < x.on) &&
      decide (fieldBE x.cfg 8 1 * 500 * 65536 < (phaseSlope y z).natAbs * 240000)) + offCarrier x z rest

/-- A block of a channel taken in: its floor, held during marks and found anew at the start of RECOVER, its
latest level, and what the criteria look back on (R584, R586, R590, R592). -/
def IrChan.block (x : IrChan) (at_ : Nat) (irin : List Nat) (out : List Iq) : IrChan :=
  let xs := out.map fun y => (y.i, y.q)
  let anew := x.mode == .recover && decide (at_ ≤ x.recFrom + irUnits 1000)
  let sat := decide (irin.length ≤ 4 * irin.countP fun k => k == 0 || k == 4095)
  { x with
    floor := if anew then Nat.min 255 (Config.floorTrack true x.floor xs)
      else if x.inMark then x.floor else Nat.min 255 (Config.floorTrack false x.floor xs)
    env := (out.getLast?.map envelope).getD x.env, prev := out.getLastD x.prev
    sat := sat, offs := (offCarrier x x.prev out :: x.offs).take 20 }

/-- The criterion that holds at the end of a block, or 0; the first of Table 14-2 where several hold.
DESIGN CHOICE, unsafe: log entry 40. -/
def IrChan.criterion (x : IrChan) (before : Bool) (at_ : Nat) : Nat :=
  if x.sat && before then 1
  else if x.floor < x.floodFl then 2
  else if 240 ≤ x.offs.sum then 3
  else if x.inMark && decide (irUnits x.maxMark < at_ - x.marks.headD at_) then 4
  else if mainsMarks x.marks at_ then 5
  else 0

/-- IR_FLOOD_BLOCK: the end of a 100 µs block, at the receiver's PP in 1/256 tick, with the block's IRIN samples
and lane outputs; a criterion that holds sends the channel to FLOOD (R590, R591, R593, Table 14-2). -/
def execIrFloodBlock (c : Fin 2) (at_ : Nat) (irin : List Nat) (out : List Iq) (s : State) :
    Host.Outcome State Fault Refusal :=
  let x := s.ir c
  .next (if x.mode = .off ∨ x.mode = .stuck ∨ s.reception = false then s
    else
      let y := x.block at_ irin out
      let cause := y.criterion x.sat at_
      let s := s.setIr c y
      if cause = 0 then s
      else
        let s := s.setIr c { s.ir c with critEdge := s.last.edge, cause := cause }
        if x.mode = .flood then s
        else
          let s := { s with
            infra.floods := satAdd 255 s.infra.floods 1, infra.evt := s.infra.evt ||| 2 ^ c.val }
          let s := s.irMove c .flood cause
          let s := if x.faultSf = some s.sfMark then s
            else (s.setIr c { s.ir c with faultSf := some s.sfMark }).raise 0x7101 c clsNote
          s.irWatch c)

namespace State

/-- A channel enters RECOVER with the present envelope as its floor (R592). -/
def irRecover (s : State) (c cause : Nat) : State :=
  let x := s.ir c
  (s.setIr c { x with floor := x.env, recFrom := s.irNow }).irMove c .recover cause

end State

/-- FLOODHOLD_EXPIRY: no criterion has held for FLOODHOLD and the channel goes to RECOVER (R592). -/
def execFloodholdExpiry (c : Fin 2) (s : State) : Host.Outcome State Fault Refusal :=
  let x := s.ir c
  .next (if x.mode = .flood ∧ x.critEdge + x.floodHold ≤ s.last.edge then s.irRecover c x.cause else s)

/-- IR_RECOVER_END: the floor has been estimated anew over 1.0 ms and the envelope has then stayed below OFF for
ENDGAP, at the receiver's PP in 1/256 tick: the channel is CLEAR (R592). -/
def execIrRecoverEnd (c : Fin 2) (at_ : Nat) (s : State) : Host.Outcome State Fault Refusal :=
  let x := s.ir c
  let quiet := Nat.max x.spaceFrom (x.recFrom + irUnits 1000)
  .next (if x.mode = .recover ∧ s.reception = true ∧ x.inMark = false ∧ quiet + irUnits x.endGap ≤ at_ then
    (s.irMove c .clear 0).irWatch c
  else s)

/-- IR_STUCK: the least and the greatest code of IRIN over 100 ms lie no more than ±2 codes apart
(R591, R594). -/
def execIrStuck (lo hi : Nat) (s : State) : Host.Outcome State Fault Refusal :=
  let hit := [0, 1].filter fun c => (s.ir c).mode != .off && (s.ir c).mode != .stuck
  .next (if hit.isEmpty || !s.clk.refOk || decide (lo + 4 < hi) then s
    else
      let s := { s with infra.evt := s.infra.evt ||| 4 }
      let s := hit.foldl (fun (s : State) c => (s.irMove c .stuck 6).irWatch c) s
      s.note 0x7201)

/-- IR_STUCK_RELEASE: the least and the greatest code of IRIN within 1 ms lie more than ±8 codes apart
(R594). -/
def execIrStuckRelease (lo hi : Nat) (s : State) : Host.Outcome State Fault Refusal :=
  .next (if s.clk.refOk && decide (lo + 16 < hi) then [0, 1].foldl (fun (s : State) c =>
    if (s.ir c).mode = .stuck then s.irRecover c 6 else s) s
  else s)

/-- RECENTRE: IRBIAS stepped to bring the mean to mid-scale, at a moment that R596 allows; both channels
are blind for 400 µs. -/
def execRecentre (bias : Nat) (s : State) : Host.Outcome State Fault Refusal :=
  let ready := fun (c : Nat) =>
    let x := s.ir c
    x.mode == .off || (x.mode == .clear && !x.inMark && x.burst.isNone && x.firsts.isEmpty && !s.irBlind c &&
      decide (x.spaceFrom + irUnits x.endGap ≤ s.irNow))
  .next (if s.infra.recentre && s.clk.refOk && ready 0 && ready 1 then
    let s := { s with infra.bias := Nat.min 1023 bias, infra.recentre := false }
    let s := [0, 1].foldl (fun (s : State) c =>
      let x := s.ir c
      if x.mode = .off then s else s.setIr c { x with holdOff := max x.holdOff (s.last.edge + 2) }) s
    s.irWatchAll
  else s)

/-- PAIR_WINDOW_EXPIRY: the pair window of the oldest first burst has passed with no second burst begun
within it (R599, R601, Table 14-3). -/
def execPairWindowExpiry (c : Fin 2) (s : State) : Host.Outcome State Fault Refusal :=
  let x := s.ir c
  .next (match x.firsts with
    | [] => s
    | f :: rest =>
      let open_ := x.burst.any fun b => inWindow x f.burst.start b.start
      if s.irNow < f.burst.start + x.pairMax ∨ open_ = true then s
      else
        let blind := f.blindWin || x.blindFrom.any fun a => decide (a ≤ f.burst.start + x.pairMax)
        let s := s.setIr c { x with firsts := rest }
        let b := some f.burst
        if f.burst.cut then s.irDecide c b none stFlood f.burst.cause 4 []
        else if f.unknown then s.irDecide c b none stSingle 0 2 [0]
        else if blind then s.irDecide c b none stSingle 0 0 [0]
        else s.irDecide c b none stNone 9 0 [0])

/-- IR_CODE: the codes decided before the present tick edge raise their events (R602). -/
def execIrCode (c : Fin 2) (s : State) : Host.Outcome State Fault Refusal :=
  let x := s.ir c
  let due := x.decided.filter fun d => decide (d.edge < s.last.edge)
  let s := s.setIr c { x with decided := x.decided.filter fun (d : IrDecided) => !decide (d.edge < s.last.edge) }
  .next (due.foldl (fun (s : State) d => s.irReport c d) s)

/-- IR_TX_CODE_END: the code an output sends has ended, and the waiting one starts (R607, R608). -/
def execIrTxCodeEnd (out : Fin 4) (s : State) : Host.Outcome State Fault Refusal :=
  let o := s.irOut out
  .next (match o.sending with
    | none => s
    | some _ =>
      let s := { s with
        infra.out := vset s.infra.out out ⟨o.waiting, none⟩, infra.sent := satAdd 255 s.infra.sent 1 }
      (s.irTxQuiet).irWatchAll)

end Sys2Proof.Machine
end

