-- ==== Sys2Proof/Machine/LaneRows.lean ====
section
/-! DEFINITION. Lane requests, host writes of the lane registers and the coefficient RAM (chapter 9,
chapter 22).  What a lane does with its input is in LaneRun.lean. -/

namespace Sys2Proof.Machine

open Sys2Proof

/-! ### Assigning lanes -/

/-- The preset a code names (Table 9-3). -/
def presetOf : Nat → Preset
  | 1 => .fmStd | 2 => .fmNarrow | 3 => .capture | _ => .custom

/-- The preset makes an FM lane. -/
def Preset.isFm : Preset → Bool
  | .fmStd => true | .fmNarrow => true | _ => false

namespace State

/-- A coefficient set is named that exists and is loaded (R370, R853). -/
def setOk (s : State) (k : Nat) : Bool := decide (k ≤ 20) && s.coefLen k != 0

/-- The stage fields of a lane are in range and its sets loaded (Tables 9-2 and 9-3, R851, R853). -/
def stagesOk (s : State) (x : Lane) : Bool :=
  decide (x.n ≤ 2) && decide (3 ≤ x.dec) && decide (x.dec ≤ 255) && decide (x.f ≤ 1) && decide (x.a ≤ 1023) &&
    s.setOk x.setA && s.setOk x.setB

end State

/-- The stages of a preset (Table 9-4); CUSTOM leaves them. -/
def Lane.withPreset (x : Lane) (p : Preset) : Lane :=
  let y := { x with preset := p }
  match p with
  | .fmStd => { y with n := 1, dec := 63, f := 1, setA := 16, setB := 16, a := 0, reson := true }
  | .fmNarrow => { y with n := 1, dec := 63, f := 1, setA := 17, setB := 17, a := 0, reson := true }
  | .capture => { y with n := 0, dec := 3, f := 0, setA := 20, setB := 20, a := 0, reson := false }
  | .dab => { y with n := 2, dec := 14, f := 0, setA := 18, setB := 18, a := 0, reson := true }
  | .ir => { y with n := 0, dec := 3, f := 0, setA := 19, setB := 19, a := 23, reson := false }
  | .custom => y

/-- A lane with the CUSTOM fields of a block that the mask names: [1] N, DEC, F; [2] banks; [3] A; [4]
resampler; [5] HOLD (Table 9-3).  Values below a field's base are left to the range check. -/
def Lane.withBlock (x : Lane) (blk : List Byte) (mask : Nat) : Lane :=
  let f := fieldBE blk
  let x := if mask.testBit 1 then { x with n := f 8 1 - 3, f := f 9 1 - 1, dec := f 10 2 - 1 } else x
  let x := if mask.testBit 2 then { x with setA := f 12 1, setB := f 13 1 } else x
  let x := if mask.testBit 3 then { x with a := f 22 2 - 1 } else x
  let x := if mask.testBit 4 then { x with reson := (byteAt blk 3).getLsbD 1 } else x
  if mask.testBit 5 then { x with hold := (byteAt blk 3).getLsbD 0 } else x

/-- A field of a block that the mask names lies below its range. -/
def blockLow (blk : List Byte) (mask : Nat) : Bool :=
  (mask.testBit 1 && (decide (fieldBE blk 8 1 < 3) || fieldBE blk 9 1 == 0 || decide (fieldBE blk 10 2 < 4))) ||
    (mask.testBit 3 && fieldBE blk 22 2 == 0)

namespace State

/-- The window of a lane reply after its first three bytes: GDLY and the settling count (R353). -/
def laneFigures (s : State) (n : Nat) : List Byte :=
  let x := s.lane n
  bytesBE 1 0 ++ bytesBE 4 (s.groupDelay x) ++ bytesBE 2 (s.settleCount x)

/-- The completion of a lane request. -/
def laneDone (s : State) (n id : Nat) : State := s.laneReply false n id stOk 0 (s.laneFigures n)

/-- A FREE lane number takes a lane that can run it: its own, one returned, or an understudy (R408, R409);
`none` when there is none.  A number whose understudy has failed gets no other one (R33, R410). -/
def bindLane (s : State) (x : Lane) : Option Lane :=
  if x.returned then some { x with returned := false, under := none, failed := false, bare := false }
  else if x.failed && x.under.isNone then
    if x.bare then none else s.freeUnderstudy.map fun i => { x with under := some i }
  else some x

/-- The lane as it starts: a new epoch, its branches and NCO word, its stages empty and UNSETTLED, and an FM
receiver for an FM lane (R353, R390, R417, R419). -/
def startLane (s : State) (n : Nat) (x : Lane) (word : Word) : State :=
  let x := { cleared x with
    use := .run, bankB := false, nco := word, epoch := (x.epoch + 1) % 256, branches := s.branchesOf x }
  let x := if x.preset.isFm then { x with sfdFreq := 5188, sfdK := 959, sfdIn := 2 } else x
  let s := (s.setLane n x).settleLane n
  if x.preset.isFm then s.setFm n FmLane.init else s

/-- The lowest FREE lane that is not an IR lane (R354). -/
def lowestFree (s : State) : Option Nat := (List.range 96).find? fun n => (s.lane n).use == .free

/-- ASSIGN at its application edge (R353–R356).
DESIGN CHOICE, unsafe: log entry 37. -/
def assignReq (s : State) (r : Req) : State :=
  let blk := r.blk
  let n0 := fieldBE blk 0 1
  let p := fieldBE blk 2 1
  let no := fun n reason => s.laneReply false n r.id stNone reason []
  let template := fun (x : Lane) =>
    let x := { x with
      centre := fieldBE blk 4 4, hold := (byteAt blk 3).getLsbD 0, xf := fieldBE blk 14 2, preset := .custom }
    (if p = 0 then x.withBlock blk 0x1E else x).withPreset (presetOf p)
  if (95 < n0 ∧ n0 ≠ 0xFF) ∨ 3 < p ∨ 4096 < fieldBE blk 14 2 ∨
      (p = 0 ∧ (blockLow blk 0x1E = true ∨ s.stagesOk (template Lane.init) = false)) then no n0 1
  else match (if n0 = 0xFF then s.lowestFree else some n0) with
    | none => no n0 2
    | some n =>
      if (s.lane n).use != .free then no n 2
      else match s.bindLane (s.lane n) with
        | none => no n 2
        | some x =>
          let x := template x
          if s.branchesOf x = 0 then no n 3 else (s.startLane n x (s.ncoOf x)).laneDone n r.id

end State

/-- The stages that a change clears: N, DEC and F the CIC and the FIR line (R369, Edges of Compensation FIR), A
the moving average, the resampler's on or off state its line. -/
def Lane.clearStages (old x : Lane) : Lane :=
  let g := x.sig
  let g := if x.n != old.n || x.dec != old.dec || x.f != old.f then { g with mask := 0, cic := 0, fir := 0 } else g
  let g := if x.a != old.a then { g with mean := [], sumI := 0, sumQ := 0 } else g
  { x with sig := if x.reson != old.reson then { g with line := [] } else g }

/-- The changes of a MODIFY put in force, with what they bring (R357, R365, R369, R382, R389, R417); the NCO word
is the one given, or else the present one while centre and branches stay. -/
def State.modifyLane (s : State) (n : Nat) (x : Lane) (word : Option Word) : State :=
  let old := s.lane n
  let x := Lane.clearStages old { x with branches := s.branchesOf x }
  let moved := decide (25000 ≤ ((x.centre : Int) - old.centre).natAbs)
  let settles := x.n != old.n || x.dec != old.dec || x.f != old.f || x.a != old.a || x.reson != old.reson ||
    (if x.bankB then x.setB != old.setB else x.setA != old.setA)
  let word := word.getD (if x.centre = old.centre ∧ x.branches = old.branches then old.nco else s.ncoOf x)
  let s := s.setLane n x
  let s := if x.reson then s else (s.setDelta n 0 false).stopSlewing n
  let s := s.retuneLane n (s.lane n) word
  let s := if settles then s.settleLane n else s
  match s.fmLane n with
  | some f => if moved then s.setFm n { FmLane.init with sub := f.sub, quality := f.quality } else s
  | none => s

namespace State

/-- MODIFY at its application edge (R355, R357, R359).
DESIGN CHOICE, unsafe: log entry 37. -/
def modifyReq (s : State) (r : Req) : State :=
  let blk := r.blk
  let n := fieldBE blk 0 1
  let mask := fieldBE blk 24 1
  let no := fun status reason => s.laneReply false n r.id status reason []
  let old := s.lane n
  let x := old.withBlock blk mask
  let x := if mask.testBit 0 then { x with centre := fieldBE blk 4 4 } else x
  if (95 < n ∧ n ≠ 0xFF) ∨ mask = 0 ∨ 63 < mask then no stNone 1
  else if old.use != .run then no stNone 2
  else if blockLow blk mask || !s.stagesOk x || (mask.testBit 4 && old.preset != .custom) then no stNone 1
  else if old.fading && (mask.testBit 1 || mask.testBit 2) then no stBusy 0
  else if s.branchesOf x = 0 then no stNone 3
  else (s.modifyLane n x none).laneDone n r.id

/-- A cross-fade has ended, or begins with XF = 0: the other bank is active, FADE_DONE is raised (R374).
-/
def switchBank (s : State) (n : Nat) : State :=
  let x := s.lane n
  let s := s.setLane n { x with bankB := !x.bankB, fading := false }
  s.radioEvent 0x0413 (bytesBE 1 n ++ bytesBE 1 (bitNat !x.bankB)) []

/-- A cross-fade to the other bank begins (R358, R373, R374). -/
def startFade (s : State) (n xf : Nat) : State :=
  let x := s.lane n
  let s := s.setLane n { x with xf := xf, fading := true, sig := { x.sig with fadeK := 0 } }
  if xf = 0 then s.switchBank n else s

/-- FADE at its application edge (R355, R358, R359).
DESIGN CHOICE, unsafe: log entry 37. -/
def fadeReq (s : State) (r : Req) : State :=
  let n := fieldBE r.blk 0 1
  let xf := fieldBE r.blk 14 2
  let no := fun status reason => s.laneReply false n r.id status reason []
  if (95 < n ∧ n ≠ 0xFF) ∨ 4096 < xf then no stNone 1
  else if (s.lane n).use != .run then no stNone 2
  else if (s.lane n).fading then no stBusy 0
  else (s.startFade n xf).laneDone n r.id

/-- LANE_RELEASE at its application edge (R360).
DESIGN CHOICE, unsafe: log entry 37. -/
def releaseReq (s : State) (r : Req) : State :=
  let n := fieldBE r.blk 0 1
  if 95 < n then s.laneReply true n r.id stNone 1 []
  else if (s.lane n).use != .run then s.laneReply true n r.id stNone 2 []
  else (s.freeLane n).laneReply true n r.id stOk 0 []

/-- One lane request at its application edge; an operation that is none of Table 9-3 is a field out of
range. -/
def laneReq (s : State) (q : LaneReq) : State :=
  if q.release then s.releaseReq q.req
  else match fieldBE q.req.blk 1 1 with
    | 0 => s.assignReq q.req
    | 1 => s.modifyReq q.req
    | 2 => s.fadeReq q.req
    | _ => s.laneReply false q.lane q.req.id stNone 1 []

/-- A lane request's application edge has come (R353).
DESIGN CHOICE, unsafe: log entry 37. -/
def laneDue (s : State) (q : LaneReq) : Bool :=
  decide (q.req.edge < s.last.edge) && decide (q.req.app ≤ s.last.pp)

/-! ### Host writes of the lane registers (chapter 22) -/

/-- The centre that a lane's registers give: the LO of the chain that spans it plus the NCO frequency. -/
def centreOf (s : State) (x : Lane) : Nat :=
  let off := Int.fdiv (x.nco.toInt * 30720000 + 2147483648) 4294967296
  let at_ := fun (c : Nat) => { x with centre := ((s.chain c).lo + off).toNat }
  if s.feeds 0 (at_ 0) then (at_ 0).centre else (at_ 1).centre

/-- A lane's block takes host writes: numbers 0–93, and 94 and 95 while they are not IR lanes (R849). -/
def laneWritable (s : State) (n : Nat) : Bool :=
  decide (n < 94) || (decide (n < 96) && (s.lane n).use != .ir)

/-- LANEn_CTRL (R850): EN assigns as CUSTOM or releases; HOLD and RESON act as a MODIFY would.
DESIGN CHOICE, unsafe: log entry 37. -/
def writeCtrl (s : State) (n : Nat) (v : Word) : State :=
  let x := s.lane n
  let y := { x with hold := v.bit 1, reson := v.bit 2 }
  if x.use = .free then
    let s := s.setLane n y
    if v.bit 0 then match s.bindLane { y with preset := .custom } with
      | none => s
      | some z =>
        let z := { z with centre := s.centreOf z }
        if s.stagesOk z && s.branchesOf z != 0 then s.startLane n z z.nco else s
    else s
  else if v.bit 0 then s.modifyLane n (if x.preset = .custom then y else { y with reson := x.reson }) none
  else s.freeLane n

/-- A host write of one register of a lane block as it takes effect: LANEn_CTRL, NCO, CIC, FIR and SFD
(Table 9-13, R399, R850, R851). -/
def writeLane (s : State) (n off : Nat) (v : Word) : State :=
  let x := s.lane n
  let put := fun (y : Lane) => if x.use = .free then s.setLane n y
    else if s.stagesOk y then s.modifyLane n y none else s
  match off with
  | 0 => s.writeCtrl n v
  | 1 =>
    if x.use = .free then s.setLane n { x with nco := v }
    else
      let y := { x with nco := v }
      let y := { y with centre := s.centreOf y }
      if s.branchesOf y = 0 then s else s.modifyLane n { y with nco := x.nco } (some v)
  | 2 =>
    if x.fading then s
    else put { x with n := v.bits 1 0, dec := v.bits 9 2, f := v.bits 10 10, a := v.bits 20 11 }
  | 3 =>
    let y := { x with xf := Nat.min 4096 (v.bits 28 16) }
    let s := if x.fading then s.setLane n y
      else
        let z := { y with setA := v.bits 4 0, setB := v.bits 9 5 }
        if x.use = .free then s.setLane n z else if s.stagesOk z then s.modifyLane n z none else s.setLane n y
    if v.bit 11 && x.use == .run && !x.fading then s.startFade n (s.lane n).xf else s
  | 6 =>
    if x.use = .run ∧ (x.preset = .fmStd ∨ x.preset = .fmNarrow) then s
    else s.setLane n { x with
      sfdFreq := v.bits 15 0, sfdK := Nat.max 15 (v.bits 29 16), sfdIn := v.bits 31 30, sfd := [] }
  | _ => s

/-! ### The coefficient RAM -/

/-- A RAM set is named by a bank of an assigned lane (R375). -/
def coefNamed (s : State) (set : Nat) : Bool :=
  s.lanes.lane.any fun (e : Nat × Lane) =>
    (e.2.use == .run || e.2.use == .wide || e.2.use == .ir) && (e.2.setA == set || e.2.setB == set)

/-- LANE_COEFIDX after an access of LANE_COEFDAT (R852). -/
def coefNext (i : Nat) : Nat := if i = 48 ∨ i = 63 then 0 else i + 1

/-- What LANE_COEFDAT reads: a tap, L at index 48, else 0 (R852, R853). -/
def coefRead (s : State) : Word :=
  let v := s.reg 0xB88
  let i := v.bits 10 5
  let k := s.coefSet (v.bits 4 0)
  if i < 48 then sget 0 k.taps i else if i = 48 then BitVec.ofNat 32 k.len else 0

/-- The index moved (R852). -/
def coefMove (s : State) : State :=
  let v := s.reg 0xB88
  s.setReg 0xB88 (v.setBits 10 5 (coefNext (v.bits 10 5)))

/-- The lanes whose active bank names a set (R854). -/
def coefUsers (s : State) (set : Nat) : List Nat :=
  (s.lanes.lane.filter fun (e : Nat × Lane) =>
    (e.2.use == .run || e.2.use == .wide || e.2.use == .ir) && e.2.activeSet == set).map Prod.fst

/-- The L that a write at index 48 stores (R852). -/
def coefLenOf (w : Word) : Nat := if w.bits 6 0 = 0 then 0 else Nat.max 8 (Nat.min 96 (w.bits 6 0))

/-- One entry of a RAM set is stored: a tap, or L at index 48, which clears the flag of a double-bit error;
that is a settling event of the lanes that use a flagged set (R852–R854). -/
def coefStore (s : State) (set i : Nat) (w : Word) : State :=
  let k := s.coefSet set
  if i < 48 then
    let k := { k with taps := sput 0 k.taps i (BitVec.ofNat 32 (w.bits 17 0)) }
    { s with lanes.coef := sput CoefSet.init s.lanes.coef set k }
  else
    let k' := { k with len := coefLenOf w, ecc := false }
    let t := { s with lanes.coef := sput CoefSet.init s.lanes.coef set k' }
    if k.ecc then (s.coefUsers set).foldl (fun (t : State) n => t.settleLane n) t else t

/-- A write of LANE_COEFDAT: refused and counted for a set in use (R375) unless a double-bit error flags it
(R854), else stored (R852, R853). -/
def coefWrite (s : State) (w : Word) : State :=
  let v := s.reg 0xB88
  let set := v.bits 4 0
  let i := v.bits 10 5
  let s' := if 48 < i then s
    else if s.coefNamed set && !(s.coefSet set).ecc then
      { s with lanes.coefRef := satAdd 65535 s.lanes.coefRef 1 }
    else s.coefStore set i w
  s'.coefMove

end State

/-! ### The rows of the table -/

/-- LANE_APPLY_EDGE: the lane requests whose application edge has come, in the order issued, and then the
host writes of lane registers that wait for the same edge (R353–R360, R839). -/
def execLaneApplyEdge (s : State) : Host.Outcome State Fault Refusal :=
  let due := s.lanes.reqs.filter s.laneDue
  let t := { s with lanes.reqs := s.lanes.reqs.filter fun (q : LaneReq) => !s.laneDue q }
  let t := due.foldl (fun (t : State) q => t.laneReq q) t
  let mine := fun (w : RegWrite) => decide (0x800 ≤ w.addr) && decide (w.addr < 0xB30) &&
    decide (w.edge < s.last.edge)
  let ws := t.regWrites.filter mine
  let t := { t with regWrites := t.regWrites.filter fun (w : RegWrite) => !mine w }
  let t := ws.foldl (fun (t : State) w =>
    let n := (w.addr - 0x800) / 8
    if t.laneWritable n then t.writeLane n (w.addr % 8) w.value else t) t
  .next t.watchSource

/-- COEF_ECC_ERROR: an error found in a RAM coefficient set: corrected and counted, or a double-bit error
with fault 0x4110 (R376). -/
def execCoefEccError (set : Nat) (double : Bool) (s : State) : Host.Outcome State Fault Refusal :=
  .next (if double then
    let k := s.coefSet set
    ({ s with lanes.coef := sput CoefSet.init s.lanes.coef set { k with ecc := true } }).note 0x4110
  else { s with lanes.coefFixed := satAdd 65535 s.lanes.coefFixed 1 })

end Sys2Proof.Machine
end

