-- ==== Sys2Proof/Machine/LaneRun.lean ====
section
/-! DEFINITION. A lane at work (chapter 9): from its input through its stages to output blocks, what becomes of
a block, the pool's grant rounds, and failure and substitution. -/

namespace Sys2Proof.Machine

open Sys2Proof

namespace State

/-! ### The stages -/

/-- The branches that a lane runs: an IR lane has one. -/
def runMask (x : Lane) : Nat := if x.use = .ir then 1 else x.branches

/-- The signal of a lane whose running branches are those of a mask: a branch that newly runs starts empty. -/
def withMask (s : State) (x : Lane) (mask : Nat) : Signal :=
  let g := x.sig
  if g.mask = mask then g
  else
    let fresh := fun c => mask.testBit c && !g.mask.testBit c
    let b := Branch.start x (s.firSettle x)
    { g with
      mask := mask
      branch := Vector.ofFn fun (c : Fin 2) => if fresh c.val then b else g.get c.val }

/-- An input sample of a branch after the chain and the mixer: its value at an NCO phase, whether the chain marks
it invalid (R270, R303, R388), and whether a gain step takes effect at it (R278).  The chain multiplies by
the inverse of its calibrated gain. -/
def mixed (s : State) (x : Lane) (phase : BitVec 32) (c t : Nat) (v : Iq) : Iq × Bool × Bool :=
  let turn := fun (v : Iq) => let w := Config.mix phase v.i v.q; Iq.mk w.1.toInt w.2.toInt
  if x.use = .ir then (turn v, false, false)
  else
    let log := vget [] s.radio.heard c
    let m := heardAt log t
    let w := Config.gainInverse c m.gain v.i v.q
    (turn ⟨w.1, w.2⟩, m.deaf, (heardAt log x.sig.last).gain != m.gain)

/-- The branches of a lane after an input sample, mixer and CIC (R364, R366–R369, R383): on a decimated one the
FIR lines have moved. -/
def feedBranches (s : State) (x : Lane) (g : Signal) (t : Nat) (v : Iq × Iq) (out : Bool) : Signal :=
  [0, 1].foldl (fun (g : Signal) c =>
    if g.mask.testBit c then
      let m := s.mixed x x.sig.phase c t (if c = 0 then v.1 else v.2)
      g.set c ((g.get c).input x m.1 m.2.1 m.2.2 t out)
    else g) g

/-- One UNSETTLED output of a branch fewer to come (R390). -/
def Signal.settleOne (g : Signal) : Signal :=
  { g with branch := g.branch.map fun (b : Branch) => { b with raw := b.raw - 1 } }

/-- A FIR output of the branches joined: the combiner's with both, else the one that runs (R383). -/
def joinBranches (s : State) (x : Lane) (g : Signal) : Sample × Signal :=
  let k := Nat.min x.xf (g.fadeK + 1)
  let g := { g with fadeK := if x.fading then k else 0 }
  let y := fun c => s.branchOut x (g.get c) k
  let t := if g.mask = 3 then g.combine (y 0) (y 1) else (y (if g.mask.testBit 0 then 0 else 1), g)
  (t.1, Signal.settleOne t.2)

/-- An input sample through a lane's stages (Table 9-2): after every DEC·F of them an output sample, with its
marks but for the settling of the moving average and the resampler. -/
def lanePush (s : State) (x : Lane) (t : Nat) (v : Iq × Iq) : Signal × Option Sample :=
  let g := s.withMask x (runMask x)
  let cicEnd := decide (x.decim ≤ g.cic + 1)
  let g := s.feedBranches x g t v cicEnd
  let g := { g with
    last := t, phase := x.sig.phase + x.nco, cic := if cicEnd then 0 else g.cic + 1
    fir := if cicEnd then (g.fir + 1) % x.firDec else g.fir }
  if cicEnd && g.fir == 0 then
    let y := s.joinBranches x g
    let y := y.2.average x.mean y.1
    let y := if x.reson then y.2.resample x.delta y.1 else y
    (y.2, some y.1)
  else (g, none)

/-! ### The detector's samples -/

/-- A sample of a lane's selected input into its detector, with whether it is marked.  An FM lane's first block
begins at the first MPX sample at or after the slot start that follows its first settled one: `slot` counts
slots of 19 PP at the sample's antenna instant (R419). -/
def detect (s : State) (n : Nat) (v : Iq) (marked : Bool) (slot : Nat) : State :=
  let x := s.lane n
  if (s.fmLane n).isNone || x.sfdRun then s.setLane n { x with sfd := x.sfd ++ [(v, marked)] }
  else match x.sfdSlot with
    | none => if marked then s else s.setLane n { x with sfdSlot := some slot }
    | some k =>
      if slot = k then s
      else s.setLane n { x with sfd := [(v, marked)], sfdRun := true, sfdSlot := none }

/-- The slot of 19 PP that an MPX sample's antenna instant lies in: less the lane's GDLY and the 20.8 µs of the
MPX pipeline (R419, R422). -/
def mpxSlot (s : State) (n t : Nat) : Nat :=
  (s.stampAt t - rxDelay (s.groupDelay (s.lane n)) 208) / 65536 / 19

/-! ### Output blocks -/

/-- A block that a capture takes (R691): its packet waits for its pool block.  The packet carries no sample count
and only whole blocks of 256 bytes: what lies beyond a shorter one, and the run of a block without a mark,
are free values.
DESIGN CHOICE, unsafe: log entry 41. DESIGN CHOICE, unsafe: log entry 81. -/
def captureBlock (s : State) (n : Nat) (b : OutBlock) : State :=
  let v := s.reg 0x3C1
  if v.bit 7 && v.bits 6 0 == n then
    let run := b.markRun
    let (ends, s) := freeBytes 2 s
    let (rest, s) := freeBytes (4 * (64 - b.samples.length)) s
    let ends := if run.1 = 0 then ends else bytesBE 1 run.2.1 ++ bytesBE 1 run.2.2
    let payload := [Config.markCode run.1] ++ ends ++ bytesBE 1 b.gainStep ++ bytesBE 2 (Nat.min 65535 b.gap) ++
      bytesBE 1 b.epoch ++ bytesBE 1 0 ++ b.bytes ++ rest
    ({ s with port.capWait := s.port.capWait ++ [(n, b.first, payload)] }).claim 102 false 1
  else s

/-- A block in its pool block: the capture, and on an FM lane the demodulator and the pilot's detector, take it
(R351, R414, R419, R691). -/
def deliverBlock (s : State) (n : Nat) (b : OutBlock) : State :=
  let s := s.setLane n { s.lane n with latest := some b }
  let s := s.captureBlock n b
  let t := s.demodulate n b
  if (s.lane n).sfdIn = 2 then
    t.1.foldl (fun (s : State) m => s.detect n ⟨m.v, 0⟩ (m.invalid || m.unsettled) (s.mpxSlot n m.at_)) t.2
  else t.2

/-- The block being filled is complete: with its residue checks passed or every sample INVALID (R406), it takes a
block of the lane's reserve, or claims a shared one (R401, R402). -/
def closeBlock (s : State) (n : Nat) (ok : Bool) : State :=
  let x := s.lane n
  let ys := x.sig.out.reverse
  match ys.head? with
  | none => s
  | some y =>
    let ys := if ok then ys else ys.map fun y => { y with invalid := true, unsettled := false }
    let b : OutBlock := ⟨x.epoch, s.stampAt y.at_, x.gap, ys⟩
    let x := { x with gap := 0, badRun := if ok then 0 else x.badRun + 1, sig := { x.sig with out := [] } }
    if x.blocks < laneReserve n ∧ x.wait = [] then
      (s.setLane n { x with blocks := x.blocks + 1 }).deliverBlock n b
    else (s.setLane n { x with wait := x.wait ++ [b] }).claim n false 1

/-- An output sample of a lane (R380, R390–R392): marked UNSETTLED within a settling count; in HOLD a marked one
is withheld, which ends the block being filled; a lane that has FAILED delivers nothing until its
substitution (R407). -/
def laneSample (s : State) (n : Nat) (ok : Bool) (y : Sample) : State :=
  let s := s.growDelta n
  let x := s.lane n
  let y := { y with unsettled := !y.invalid && (y.unsettled || decide (0 < x.settle)) }
  let s := s.setLane n { x with settle := x.settle - 1 }
  let s := if x.sfdIn = 1 then s.detect n y.v y.marked 0 else s
  let lost := fun (s : State) => let x := s.lane n; s.setLane n { x with gap := x.gap + 1 }
  if x.failing.isSome then lost s
  else if x.hold && y.marked then lost (s.closeBlock n ok)
  else
    let x := s.lane n
    let s := s.setLane n { x with sig := { x.sig with out := y :: x.sig.out } }
    if x.sig.out.length + 1 < 64 then s else s.closeBlock n ok

/-- An input sample of a lane, at its instant. -/
def laneInput (s : State) (n : Nat) (ok : Bool) (t : Nat) (v : Iq × Iq) : State :=
  let x := s.lane n
  let s := if x.use = .ir ∧ x.sfdIn = 3 then s.detect n v.1 false 0 else s
  let x := s.lane n
  let r := s.lanePush x t v
  let s := s.setLane n { x with sig := r.1 }
  match r.2 with
  | some y => s.laneSample n ok y
  | none => s

/-- Output blocks of a lane that its last consumers release return to the pool: those above the reserve to the
shared part (R405).  How long a consumer holds a block is not stated: it is the command's.
DESIGN CHOICE, safe: log entry 81. -/
def releaseBlocks (s : State) (n freed : Nat) : State :=
  let x := s.lane n
  let left := x.blocks - freed
  let s := s.setLane n { x with blocks := left }
  s.returnShared ((x.blocks - laneReserve n) - (left - laneReserve n))

/-- The instant of input sample `k` of a run that begins at an instant: 960 kS/s on an IR lane, else 30.72 MS/s,
in 1/65 536 tick (Table 9-2). -/
def inputTime (x : Lane) (t k : Nat) : Nat := t + k * (if x.use = .ir then 4864 else 152) / 15

/-! ### Failures -/

/-- A lane becomes FAILED (R406, R411). -/
def failLane (s : State) (n : Nat) : State :=
  let x := s.lane n
  if n < 100 then
    let s := match x.under with
      | some i => { s.setLane n { x with failing := some s.last.edge, badRun := 0 } with
          lanes.underFailed := vset s.lanes.underFailed i true }
      | none => s.setLane n { x with failed := true, failing := some s.last.edge, badRun := 0 }
    s.endFades n
  else
    let d := n - 100
    let other := s.decoder (1 - d)
    let covers := other.mode == .idle && !other.failed
    let s := { s.setLane n { x with badRun := 0 } with lanes.wideFailed := vset s.lanes.wideFailed d true }
    (s.raise 0x4104 n (if covers then clsCovered else clsLost)).dabFail d

/-- A lane in work that failed can take no more: the number becomes FREE, or LOST (R408, R410, R812, R815). -/
def loseLane (s : State) (n code : Nat) : State :=
  let ir := (s.lane n).use == .ir
  let s := (s.raise code n clsLost).resetLane n
  let s := (s.freeLane n).laneLost n 0
  if ir then s.rxOff (n - 94) else s

/-- The samples that a lane has computed and not delivered. -/
def undelivered (x : Lane) : Nat :=
  x.gap + x.sig.out.length + (x.wait.map fun (b : OutBlock) => b.gap + b.samples.length).sum

/-- A lane with its stages empty under an understudy: what was computed and not delivered is the first block's
GAP (R407). -/
def coveredLane (x : Lane) (i : Nat) : Lane :=
  { x with
    under := some i, failing := none, badRun := 0, sig := Signal.init, wait := [], gap := undelivered x }

/-- The claims of a lane withdrawn. -/
def dropClaims (s : State) (n : Nat) : State :=
  { s with lanes := { s.lanes with claims := s.lanes.claims.filter fun (q : Claim) => q.who != n } }

/-- LANE_SUBST (Table 9-12). -/
def substEvent (s : State) (n i : Nat) : State :=
  s.radioEvent 0x0410
    (bytesBE 1 n ++ bytesBE 1 (96 + i) ++ bytesBE 1 (s.lane n).epoch ++ bytesBE 6 s.last.pp) []

/-- An understudy takes a lane number with its configuration and empty stages: a settling event under a new lane
epoch (R407, R418).  Its delay is rebuilt from 0 (Edges of Understudies); the blocks delivered stay with
their consumers. -/
def substitute (s : State) (n i : Nat) : State :=
  let goal := if (s.lane n).reson then Nat.max (s.lane n).delta (s.lane n).goal else 0
  let s := ((((s.raise 0x4101 n clsCovered).resetLane n).setDelta n 0 false)).dropClaims n
  let s := ((s.setLane n (coveredLane (s.lane n) i)).settleLane n).startSlewing n goal
  let s := s.substEvent n i
  if (s.lane n).use = LaneUse.ir then s.irLaneReset (n - 94) else s

/-! ### The pool -/

/-- The image's RELYLANES names a lane (Table 4-7). -/
def reliesOn (s : State) (n : Nat) : Bool := match s.prog.image with
  | some i => i.relyLanes.contains n
  | none => false

/-- A refused claim: counted, fault 0x4201 once a superframe for each requester, and the promise void from the
position of its issue for a lane that the image relies on (R10, R12, R404). -/
def claimRefused (s : State) (q : Claim) : State :=
  let seen := s.lanes.noneSf.any fun (e : Nat × Nat × Nat) => e.1 == q.who && e.2 == s.sfMark
  let relied := s.reliesOn q.who
  let s := { s with
    lanes.none := satAdd 0xFFFFFFFF s.lanes.none 1
    lanes.noneSf := (q.who, s.sfMark) :: s.lanes.noneSf.filter fun (e : Nat × Nat × Nat) => e.1 != q.who }
  let s := if relied then s.voidFrom q.pos else s
  let s := if seen then s else s.raise 0x4201 q.who (if relied then clsVoid else clsNote)
  if q.delay then
    (s.stopSlewing q.who).radioEvent 0x0412 (bytesBE 1 q.who ++ bytesBE 6 q.pos.pp) []
  else s

/-- The oldest waiting capture block sent as a packet, or dropped with its refused claim (R691).
DESIGN CHOICE, unsafe: log entry 41. -/
def captureDone (s : State) (granted : Bool) : State :=
  match s.port.capWait with
  | [] => s
  | (n, first, payload) :: rest =>
    let s := { s with port.capWait := rest }
    if !granted then
      let r := s.losePacket false ⟨s.last.epoch, first / 65536⟩ (16 + payload.length)
      if r.1 then r.2.dropBegins else r.2
    else
      let fits := (s.reg 0x3C0).bit 0 && decide (s.bufUsed + 16 + payload.length ≤ 262080)
      let s := s.packet 5 n ⟨s.last.epoch, first / 65536⟩ payload
      let v := s.reg 0x3C1
      if fits && v.bit 7 && v.bits 23 8 != 0 then
        let left := s.port.capLeft - 1
        let s := { s with port.capLeft := left }
        if left = 0 then { s.setReg 0x3C1 (v.setBits 7 7 0) with port.capWait := [] } else s
      else s

/-- The oldest waiting output block of a lane has its pool block. -/
def storeBlock (s : State) (n : Nat) : State :=
  let x := s.lane n
  match x.wait with
  | b :: rest => (s.setLane n { x with wait := rest, blocks := x.blocks + 1 }).deliverBlock n b
  | [] => s

/-- The oldest waiting output block of a lane is not stored: the next block carries its samples as GAP
(Table 9-11). -/
def loseBlock (s : State) (n : Nat) : State :=
  let x := s.lane n
  match x.wait with
  | b :: c :: rest =>
    s.setLane n { x with wait := { c with gap := c.gap + b.gap + b.samples.length } :: rest }
  | [b] => s.setLane n { x with wait := [], gap := x.gap + b.gap + b.samples.length }
  | [] => s

/-- One claim of a grant round (R401–R404). -/
def grant (s : State) (q : Claim) : State :=
  let x := s.lane q.who
  let free := s.sharedFree
  if q.delay = false ∧ q.who < 102 ∧ x.blocks < laneReserve q.who then s.storeBlock q.who
  else if free = 0 then
    let s := s.claimRefused q
    if q.delay then s else if q.who = 102 then s.captureDone false else s.loseBlock q.who
  else
    let s := { s with
      lanes.sharedUsed := s.lanes.sharedUsed + 1, lanes.poolLow := Nat.min s.lanes.poolLow (free - 1) }
    if q.delay then s.setLane q.who { x with delayBlocks := x.delayBlocks + 1 }
    else if q.who = 102 then (s.captureDone true).returnShared 1
    else s.storeBlock q.who

end State

/-- Claim `a` comes before claim `b` in a round (R403). -/
def Claim.le (a b : Claim) : Bool :=
  decide (a.pos.pp < b.pos.pp) || (a.pos.pp == b.pos.pp && decide (a.who ≤ b.who))

/-! ### The rows of the table -/

/-- LANE_OUTPUT_BLOCK: a lane takes in the samples of its chains for its next output blocks and runs them through
its stages; two blocks in succession that fail their residue checks make it FAILED (R351, R364–R388, R390–R392,
R400–R406, R411).  A FREE lane, and every lane while reception is stopped (Table 8-8), computes nothing.
DESIGN CHOICE, safe: log entry 4. -/
def execLaneOutputBlock (lane : Nat) (inp : LaneInput) (s : State) : Host.Outcome State Fault Refusal :=
  let s := s.releaseBlocks lane inp.freed
  let x := s.lane lane
  .next (if x.use = .free ∨ s.reception = false then s
    else
      let s := inp.input.zipIdx.foldl (fun (s : State) e =>
        s.laneInput lane inp.residueOk (State.inputTime x inp.at_ e.2) e.1) s
      let x := s.lane lane
      if decide (2 ≤ x.badRun) && x.failing.isNone && x.use != .free then (s.failLane lane).watchSource else s)

/-- FADE_DONE: a cross-fade has run its XF output samples (R374).
DESIGN CHOICE, safe: log entry 4. -/
def execFadeDone (lane : Nat) (s : State) : Host.Outcome State Fault Refusal :=
  let x := s.lane lane
  .next (if x.fading && decide (x.xf ≤ x.sig.fadeK) then s.switchBank lane else s)

/-- LANE_SETTLED: the settling count of a lane has passed (R390, R392): on an IR lane the blind interval of its
reset ends (R595). -/
def execLaneSettled (lane : Nat) (s : State) : Host.Outcome State Fault Refusal :=
  let x := s.lane lane
  .next (if x.use = .ir ∧ x.settle = 0 then s.irSettled (lane - 94) else s)

/-- LANE_SUBSTITUTION: at the tick edge after a lane's failure an understudy takes its number and
configuration, or the lane is lost, which resets it (R406–R410, R418, R812, R815). -/
def execLaneSubstitution (lane : Nat) (s : State) : Host.Outcome State Fault Refusal :=
  let x := s.lane lane
  .next (match x.failing with
    | none => s
    | some e =>
      if s.last.edge ≤ e then s
      else if x.under.isSome then
        ((s.setLane lane { x with failing := none, under := none, bare := true }).loseLane lane 0x4103).watchSource
      else match s.freeUnderstudy with
        | none => ((s.setLane lane { x with failing := none }).loseLane lane 0x4102).watchSource
        | some i => s.substitute lane i)

/-- POOL_GRANT_ROUND: the claims issued are granted or refused in ascending claim key (R401–R404). -/
def execPoolGrantRound (s : State) : Host.Outcome State Fault Refusal :=
  let claims := s.lanes.claims.mergeSort Claim.le
  .next (claims.foldl (fun (s : State) q => s.grant q) { s with lanes.claims := [] })

end Sys2Proof.Machine
end

