-- ==== Sys2Proof/Machine/BusOps.lean ====
section
/-! DEFINITION. The two-wire bus beneath its commands (chapter 15): when the device answers, refusals, the
rules of PEC and the data it returns. -/

namespace Sys2Proof.Machine

open Sys2Proof

/-- The NACK causes of Table 15-4. -/
def nackBusy : Nat := 1
def nackFull : Nat := 2
def nackEmpty : Nat := 3
def nackUnknown : Nat := 4
def nackLength : Nat := 5
def nackPec : Nat := 6
def nackAddress : Nat := 7
def nackDomain : Nat := 8
def nackSession : Nat := 9
def nackGuard : Nat := 10
def nackWake : Nat := 11
def nackState : Nat := 12

/-- The phases of BUS_LASTNACK [17:16]. -/
def phCommand : Nat := 0
def phData : Nat := 1
def phPec : Nat := 2
def phEnd : Nat := 3

/-- What a PEC comes to for the bytes of a write part (R617, R618). -/
def pecCheck (bytes : List Byte) : Pec → Pec
  | .byte b => if b = pecOf bytes then .good else .bad
  | p => p

namespace State

/-- The device can take a transaction: it is awake, its supplies and its HOST domain are up, no line is
stuck and it does not stretch SCL (R614, R615, R632, R648, R748). -/
def answers (s : State) : Bool :=
  (s.supply.power == .idle || s.supply.power == .run || s.supply.power == .hold) && s.up .host &&
    !s.supply.hiZ && !s.bus.sclStuck && !s.bus.sdaStuck && !s.bus.stretching

/-- A refusal recorded and counted (R629, R630, Table 15-8).
DEDUCED, unsafe: log entry 51. -/
def nack (s : State) (code cause phase : Nat) : State :=
  { s with
    bus.lastNack := BitVec.ofNat 32 (cause + 256 * (code % 256) + 65536 * phase)
    bus.busy := if cause = nackBusy then satAdd 255 s.bus.busy 1 else s.bus.busy
    bus.pecErrs := if cause = nackPec then satAdd 255 s.bus.pecErrs 1 else s.bus.pecErrs
    bus.refusals :=
      if cause = nackBusy ∨ cause = nackPec then s.bus.refusals else satAdd 255 s.bus.refusals 1 }

/-- The Keeper is computing a session step, or programming the seal or the store (Table 15-6); an erase
programs nothing.
DESIGN CHOICE, unsafe: log entry 56. -/
def keeperBusy (s : State) : Bool :=
  s.mail.session.step.isSome || s.theSeal.busy || s.store.commit == .program || s.store.commit == .record ||
    (s.store.op.isSome && s.store.op != some .instErase)

/-- The refusal for want of a domain: DOMAIN while it is down, BUSY while it powers up (Tables 15-4 and
15-6). -/
def domainRefusal (s : State) (d : Domain) : Option Nat :=
  match s.supply.dom[d.ctorIdx]? with
  | some .up => none
  | some .powering => some nackBusy
  | _ => some nackDomain

/-- A transaction under the gate: nothing where the device does not answer, and the refusal found.  A
DEVICE_RESET takes effect with its own command, so that none comes while it is pending (Table 15-6).
DEDUCED, unsafe: log entry 51. DESIGN CHOICE, safe: log entry 67. -/
def busGate (s : State) (code : Nat) (refusal : Option (Nat × Nat)) (f : State → State) : State :=
  if !s.answers then s
  else match refusal with
    | some (cause, phase) => s.nack code cause phase
    | none => f s

/-- The bytes of a write part before its PEC: the device address with the write bit, the command and its data
(R617, Table 15-2). -/
def writePart (s : State) (code : Nat) (data : List Byte) : List Byte :=
  bytesBE 1 (2 * s.bus.addr) ++ bytesBE 1 code ++ data

/-- A write: once its bytes are acknowledged, a wrong PEC refuses it, and so does a missing one where
PECREQ is 1 or the command always needs it (R617, R618, R620, R621, R627).
DESIGN CHOICE, safe: log entry 14. DEDUCED, unsafe: log entry 51. -/
def busWrite (s : State) (code : Nat) (data : List Byte) (refusal : Option (Nat × Nat)) (pec : Pec)
    (always : Bool) (f : State → State) : State :=
  s.busGate code refusal fun (s : State) => match pecCheck (s.writePart code data) pec with
    | .bad | .byte _ => s.nack code nackPec phPec
    | .absent => if always || (s.reg 0x380).bit 0 then s.nack code nackPec phEnd else f s
    | .good => f s

/-- Data bytes returned in the read part.
DESIGN CHOICE, safe: log entry 14. -/
def sendBytes (s : State) (bytes : List Byte) : State := { s with bus.out := bytes }

/-- Data bytes returned in the read part of a command whose write part carried `wr`, and after them, when the host
ACKs the last of them, the PEC of the whole transaction (R617, R619).
DESIGN CHOICE, safe: log entry 14. -/
def sendRead (s : State) (code : Nat) (wr : List Byte) (ack : Bool) (data : List Byte) : State :=
  s.sendBytes (data ++ if ack then
    [pecOf (s.writePart code wr ++ bytesBE 1 (2 * s.bus.addr + 1) ++ data)] else [])

/-- A read: the data are fixed before the read part begins (R631).
DESIGN CHOICE, safe: log entry 14. -/
def busRead (s : State) (code : Nat) (refusal : Option (Nat × Nat)) (f : State → State) : State :=
  s.busGate code refusal f

/-- The first refusal of a list in the order of the bytes. -/
def firstRefusal (rs : List (Option (Nat × Nat))) : Option (Nat × Nat) := rs.findSome? id

/-- ALERT# as the device drives it low (R635, R638, R640). -/
def alertDriven (s : State) : Bool :=
  if s.supply.power = .sleep then s.bus.sleepAlert
  else s.up .host && !s.supply.hiZ && s.fld 0x380 2 1 != 1 && !s.bus.released &&
    (s.causes &&& s.fld 0x383 15 0) != 0

end State

end Sys2Proof.Machine
end

