-- ==== Sys2Proof/Machine/Rds.lean ====
section
/-! DEFINITION. RDS (chapter 10): block sync, error correction, groups, and the decoded features. -/

namespace Sys2Proof.Machine

open Sys2Proof

/-! ### The block code -/

/-- `n` steps of the division of a 26-bit word by the code's generator 0x5B9.
PRESUMED, unsafe: log entry 11. -/
def rdsDivide : Nat → BitVec 26 → BitVec 26
  | 0, w => w
  | n + 1, w =>
    rdsDivide n (if w.getLsbD (10 + n) then w ^^^ BitVec.shiftLeft 0x5B9#26 n else w)

/-- The remainder of a 26-bit word by the generator: the offset word of a block without errors
(R436, IEC 62106). -/
def rdsRemainder (w : BitVec 26) : Nat := (rdsDivide 16 w).toNat

/-- The offset words A, B, C, C′, D (R436).
PRESUMED, unsafe: log entry 11. -/
def rdsOffset (i : Nat) : Nat := [0x0FC, 0x198, 0x168, 0x350, 0x1B4].getD i 0

/-- The offset under which a word has a zero syndrome. -/
def zeroOffset (w : BitVec 26) : Option Nat :=
  (List.range 5).find? fun i => rdsRemainder w == rdsOffset i

/-- Every set bit of a word lies within `n` consecutive bits. -/
def withinBurst (n : Nat) (w : BitVec 26) : Bool :=
  w == 0 || (List.range 26).any fun i => BitVec.shiftLeft (BitVec.ushiftRight w i &&& BitVec.ofNat 26 (2 ^ n - 1)) i == w

/-- The bursts of at most `n` bits, shortest patterns first at each place.
DESIGN CHOICE, unsafe: log entry 32. -/
def rdsBursts (n : Nat) : List (BitVec 26) :=
  (List.range 26).flatMap fun i => ((List.range (2 ^ n)).filter fun p => p % 2 == 1 && decide (p * 2 ^ i < 2 ^ 26)).map
    fun p => BitVec.ofNat 26 (p * 2 ^ i)

/-- A block judged against offset `i`: its status, 0 OK, 1 CORRECTED or 2 BAD, and its information
word, corrected where it can be (R437).
DESIGN CHOICE, unsafe: log entry 32. -/
def judgeBlock (corrMax : Nat) (w marks : BitVec 26) (i : Nat) : Nat × Nat :=
  let info := fun (x : BitVec 26) => x.toNat / 1024
  let syn := rdsRemainder w ^^^ rdsOffset i
  if syn = 0 then (if withinBurst corrMax marks then 0 else 2, info w)
  else match (rdsBursts corrMax).find? fun e => rdsRemainder e == syn && withinBurst corrMax (e ||| marks) with
    | some e => (1, info (w ^^^ e))
    | none => (2, info w)

/-- Offset `j` follows offset `i` in the order A, B, C or C′, D, A (R436). -/
def offsetFollows (i j : Nat) : Bool :=
  (i == 0 && j == 1) || (i == 1 && (j == 2 || j == 3)) || ((i == 2 || i == 3) && j == 4) ||
    (i == 4 && j == 0)

/-- The place in a group, 0 … 3, of an offset. -/
def offsetPlace (i : Nat) : Nat := if i < 3 then i else i - 1

namespace State

/-- CORRMAX (Table 10-6). -/
def corrMax (s : State) : Nat := Nat.min 5 (s.fld 0xC00 2 0)
/-- FLYWHEEL (Table 10-6). -/
def flywheel (s : State) : Nat := Nat.max 2 (Nat.min 32 (s.fld 0xC00 8 3))
/-- PICONF (Table 10-6). -/
def piConf (s : State) : Nat := Nat.max 1 (Nat.min 4 (s.fld 0xC00 11 9))

/-! ### Decoded features -/

end State

/-- A PI change clears PS, RT, PTYN, AF and ODA memory (R447). -/
def FmLane.clearFeatures (f : FmLane) : FmLane :=
  { f with
    ps := [], psRep := none, ptyn := [], ptynRep := none, ptynAb := none, rt0 := [], rt1 := []
    rtRep0 := none, rtRep1 := none, rtAb := none, afWant := none, afCodes := [], afSkip := false
    afRep := none, oda := [] }

/-- Sixteen-bit words under their numbers as bytes, in order; `none` until all `n` are there. -/
def assemble (n : Nat) (m : List (Nat × Nat)) : Option (List Byte) :=
  ((List.range n).mapM fun i => kget m i).map fun ws => ws.flatMap fun w => bytesBE 2 w

/-- RadioText with 0x00 from a carriage return on (R448). -/
def untilReturn (t : List Byte) : List Byte :=
  let k := (t.takeWhile fun c => c != 0x0D#8).length
  t.take k ++ List.replicate (t.length - k) 0

/-- The own code of a lane's centre frequency (R450). -/
def ownCode (centre : Nat) : Option Nat :=
  if centre < 87500000 then none
  else
    let k := (centre - 87500000 + 50000) / 100000
    let d := ((centre : Int) - (87500000 + k * 100000 : Nat)).natAbs
    if 1 ≤ k ∧ k ≤ 204 ∧ d ≤ 25000 then some k else none

/-- One AF code (R449): the receiver, whether it completed a list, and whether it discarded one. -/
def FmLane.afCode (f : FmLane) (c : Nat) : FmLane × Bool × Bool :=
  let done := fun (f : FmLane) => decide (f.afWant = some f.afCodes.length)
  if f.afSkip then ({ f with afSkip := false }, false, false)
  else if 224 ≤ c ∧ c ≤ 249 then
    let f := { f with afWant := some (c - 224), afCodes := [], afLfmf := false, afPairs := true }
    (f, done f, false)
  else if f.afWant.isNone ∨ c = 205 then (f, false, false)
  else if c = 250 then ({ f with afLfmf := true, afSkip := true }, false, false)
  else if 1 ≤ c ∧ c ≤ 204 then
    let f := { f with afCodes := f.afCodes ++ [c] }
    (f, done f, false)
  else ({ f with afWant := none, afCodes := [] }, false, true)

namespace State

/-- An event of lane `n` whose content is the report `r`. -/
def fmReport (s : State) (n i : Nat) (f : FmLane) (r : List Byte) : State := (s.setFm n f).fmEvent n i r

/-- A PI value received (R447). -/
def takePi (s : State) (n v : Nat) : State :=
  match s.fmLane n with
  | none => s
  | some f =>
    let run := if f.piLast = v ∧ 0 < f.piRun then Nat.min 4 (f.piRun + 1) else 1
    let f := { f with piLast := v, piRun := run }
    if s.piConf ≤ run ∧ f.pi ≠ some v then
      let g := if f.pi.isSome then f.clearFeatures else f
      s.fmReport n 2 { g with pi := some v } (bytesBE 2 v)
    else s.setFm n f

/-- The PS segment of a 0A or 0B group (R448).
DESIGN CHOICE, unsafe: log entry 32. -/
def takePs (s : State) (n : Nat) (f : FmLane) (b d : Nat) : State :=
  let f := { f with ps := kput f.ps (b % 4) d }
  match assemble 4 f.ps with
  | some t => if f.psRep = some t then s.setFm n f else s.fmReport n 3 { f with psRep := some t } t
  | none => s.setFm n f

/-- A complete AF list: its method and its report, raised when it has changed (R449–R451,
Table 10-4). -/
def afList (s : State) (n : Nat) (f : FmLane) : State :=
  let own := ownCode (s.lane n).centre
  let method := match own with
    | none => 2
    | some _ => if f.afPairs then 1 else 0
  let tuned := if method = 1 then own.getD 0 else 0
  let r := bytesBE 1 method ++ bytesBE 1 f.afCodes.length ++ bytesBE 1 tuned ++
    bytesBE 1 (bitNat f.afLfmf) ++ f.afCodes.flatMap fun c => bytesBE 1 c
  let f := { f with afWant := none, afCodes := [] }
  if f.afRep = some r then s.setFm n f else s.fmReport n 4 { f with afRep := some r } r

/-- The AF pair of a 0A group (R449, R450). -/
def takeAf (s : State) (n : Nat) (f : FmLane) (c : Nat) : State :=
  let hi := c / 256
  let lo := c % 256
  let counts := fun x => decide (224 ≤ x) && decide (x ≤ 249)
  let own := ownCode (s.lane n).centre
  let f :=
    if f.afWant.isSome && !counts hi && !counts lo && !(own == some hi || own == some lo) then
      { f with afPairs := false } else f
  [hi, lo].foldl (fun (s : State) x => match s.fmLane n with
    | some f =>
      let (f, done, bad) := f.afCode x
      if done then s.afList n f
      else if bad then
        { s.setFm n f with fm.afBad := satAdd 0xFFFFFFFF s.fm.afBad 1 }
      else s.setFm n f
    | none => s) (s.setFm n f)

/-- TP and TA of a 0A or 0B group (Table 10-1). -/
def takeTa (s : State) (n : Nat) (f : FmLane) (b : Nat) : State :=
  let tp := b.testBit 10
  let ta := b.testBit 4
  if f.taSeen && f.tp == tp && f.ta == ta then s
  else s.fmReport n 8 { f with taSeen := true, tp := tp, ta := ta } (bytesBE 1 (bitNat tp + 2 * bitNat ta))

/-- RDS_PTY: the programme type with the PTYN (Table 10-4). -/
def ptyReport (s : State) (n : Nat) (f : FmLane) : State :=
  s.fmReport n 9 f (bytesBE 1 f.pty ++ bytesBE 1 (bitNat f.ptynRep.isSome) ++
    f.ptynRep.getD (List.replicate 8 0))

/-- The PTY code of a 0A or 0B group. -/
def takePty (s : State) (n : Nat) (f : FmLane) (b : Nat) : State :=
  let pty := b / 32 % 32
  if f.ptyRep = some pty then s else s.ptyReport n { f with pty := pty, ptyRep := some pty }

/-- The PTYN segment of a 10A group (R448).
DESIGN CHOICE, unsafe: log entry 32. -/
def takePtyn (s : State) (n : Nat) (f : FmLane) (b c d : Nat) : State :=
  let ab := b.testBit 4
  let f := if f.ptynAb = some ab ∨ f.ptynAb.isNone then f else { f with ptyn := [] }
  let f := { f with ptynAb := some ab, ptyn := kput (kput f.ptyn (2 * (b % 2)) c) (2 * (b % 2) + 1) d }
  match assemble 4 f.ptyn with
  | some t => if f.ptynRep = some t then s.setFm n f else s.ptyReport n { f with ptynRep := some t }
  | none => s.setFm n f

/-- A half of RadioText reported when all of it has come and it differs from the last report (R448). -/
def rtReport (s : State) (n half : Nat) : State :=
  match s.fmLane n with
  | none => s
  | some f =>
    let seg := if half = 0 then f.rt0 else f.rt1
    let ended := half == 1 && f.rt0.any fun e => e.2 / 256 == 0x0D || e.2 % 256 == 0x0D
    match assemble 16 seg with
    | none => s
    | some t =>
      let t := if ended then List.replicate 32 0 else untilReturn t
      let was := if half = 0 then f.rtRep0 else f.rtRep1
      if was = some t then s
      else
        let f := if half = 0 then { f with rtRep0 := some t } else { f with rtRep1 := some t }
        s.fmReport n 10 f (bytesBE 1 (bitNat (f.rtAb.getD false)) ++ bytesBE 1 half ++ t)

/-- A RadioText segment of a 2A or 2B group (R448, R453).
DESIGN CHOICE, unsafe: log entry 32. -/
def takeRt (s : State) (n : Nat) (f : FmLane) (verB : Bool) (b c d : Nat) : State :=
  let ab := b.testBit 4
  let f := if f.rtAb = some ab ∨ f.rtAb.isNone then f else { f with rt0 := [], rt1 := [] }
  let f := { f with rtAb := some ab }
  let i := b % 16
  if verB then (s.setFm n { f with rt0 := kput f.rt0 i d }).rtReport n 0
  else
    let put := fun m => kput (kput m (2 * (i % 8)) c) (2 * (i % 8) + 1) d
    if i < 8 then (s.setFm n { f with rt0 := put f.rt0 }).rtReport n 0
    else (s.setFm n { f with rt1 := put f.rt1 }).rtReport n 1

/-- The ODA directory entry of a 3A group. -/
def takeOda (s : State) (n : Nat) (f : FmLane) (b c d : Nat) : State :=
  let e := (b % 32, c, d)
  if f.oda.contains e then s
  else s.fmReport n 6 { f with oda := e :: f.oda.filter fun (x : Nat × Nat × Nat) => x.2.2 != d }
    (bytesBE 1 (b % 32) ++ bytesBE 2 c ++ bytesBE 2 d)

/-- A 3A group whose message did not come: the group type that it assigns to its AID is known all the same
(R99, R445); the message stands as 0x10000, which none is, and the next whole group is reported. -/
def takeAid (s : State) (n : Nat) (f : FmLane) (b d : Nat) : State :=
  if f.oda.any fun (x : Nat × Nat × Nat) => x.1 == b % 32 && x.2.2 == d then s
  else s.setFm n { f with
    oda := (b % 32, 0x10000, d) :: f.oda.filter fun (x : Nat × Nat × Nat) => x.2.2 != d }

/-- Clock time of a 4A group: MJD, UTC hour and minute, local offset in half-hours. -/
def takeCt (s : State) (n b c d : Nat) : State :=
  let off : Int := if d.testBit 5 then -((d % 32 : Nat) : Int) else (d % 32 : Nat)
  s.fmEvent n 7 (bytesBE 3 (b % 4 * 32768 + c / 2) ++ bytesBE 1 (c % 2 * 16 + d / 4096) ++
    bytesBE 1 (d / 64 % 64) ++ bytesBE 1 (satField 8 off))

/-- Slow labelling and PIN of a 1A group. -/
def takeSlc (s : State) (n : Nat) (f : FmLane) (c d : Nat) : State :=
  let r := bytesBE 1 (c / 4096 % 8) ++ bytesBE 2 (c % 4096) ++ bytesBE 2 d
  if f.slc = some r then s else s.fmReport n 11 { f with slc := some r } r

/-- One step of a group's decoding on the receiver as it now stands. -/
def withFm (s : State) (n : Nat) (k : State → FmLane → State) : State :=
  match s.fmLane n with
  | some f => k s f
  | none => s

/-- A whole group interpreted by Table 10-1, its events in code order (R445, R446, R458). -/
def decodeGroup (s : State) (n : Nat) (blocks : List (Nat × Nat)) (verB : Bool) : State :=
  let blk := fun i => blocks.getD i (0, 2)
  let ok := fun i => (blk i).2 != 2
  let b := (blk 1).1
  let c := (blk 2).1
  let d := (blk 3).1
  if !ok 1 then s
  else match b / 4096, verB with
    | 0, v =>
      let s := if ok 3 then s.withFm n fun s f => s.takePs n f b d else s
      let s := if ok 2 && !v then s.withFm n fun s f => s.takeAf n f c else s
      (s.withFm n fun s f => s.takeTa n f b).withFm n fun s f => s.takePty n f b
    | 1, false => if ok 2 && ok 3 then s.withFm n fun s f => s.takeSlc n f c d else s
    | 2, v => if (ok 2 || v) && ok 3 then s.withFm n fun s f => s.takeRt n f v b c d else s
    | 3, false =>
      if ok 2 && ok 3 then s.withFm n fun s f => s.takeOda n f b c d
      else if ok 3 then s.withFm n fun s f => s.takeAid n f b d else s
    | 4, false => if ok 2 && ok 3 then s.takeCt n b c d else s
    | 10, false => if ok 2 && ok 3 then s.withFm n fun s f => s.takePtyn n f b c d else s
    | 14, false =>
      if ok 2 && ok 3 then
        s.fmEvent n 5 (bytesBE 1 (b % 16) ++ bytesBE 1 (b / 16 % 2) ++ bytesBE 2 d ++ bytesBE 2 c)
      else s
    | 14, true =>
      if ok 3 then
        s.fmEvent n 5 (bytesBE 1 16 ++ bytesBE 1 (b / 16 % 2 + 2 * (b / 8 % 2)) ++ bytesBE 2 d)
      else s
    | _, _ => s

/-- The raw RDS group packet of a group (Table 17-2). -/
def rawGroup (s : State) (n : Nat) (blocks : List (Nat × Nat)) (a : Anchor) : State :=
  if (s.reg 0xC00).bit 20 && (s.reg (0xC01 + n / 32)).bit (n % 32) then
    let st := blocks.foldl (fun x b => x * 4 + b.2) 0
    s.packet 4 n ⟨a.epoch, a.a / 65536⟩ (blocks.flatMap (fun b => bytesBE 2 b.1) ++ bytesBE 1 st)
  else s

/-- A group of four blocks: to record intake, to the raw stream and to the decoder (R444). -/
def rdsGroup (s : State) (n : Nat) (blocks : List (Nat × Nat)) (verB : Bool) (a : Anchor) : State :=
  ((s.intakeGroup n blocks verB a).rawGroup n blocks a).decodeGroup n blocks verB

/-! ### Sync -/

/-- A block of a lane that searches: sync is gained when it and the block 26 bits before it have zero
syndromes under consecutive offsets; both then count as received (R436). -/
def rdsSearch (s : State) (n : Nat) (f : FmLane) (w : BitVec 26) (bit : Nat) : State :=
  match zeroOffset w with
  | none => s
  | some j =>
    let info := w.toNat / 1024
    match f.zeros.find? fun z => z.1 + 26 == bit && offsetFollows z.2.1 j with
    | none =>
      s.setFm n { f with zeros := (bit, j, info) :: f.zeros.filter fun (z : Nat × Nat × Nat) => decide (bit ≤ z.1 + 26) }
    | some (_, i, prev) =>
      let place := offsetPlace j
      let group := if j = 0 then [(info, 0)] else if i = 0 then [(prev, 0), (info, 0)] else []
      let ver := if j = 1 then some (info.testBit 11) else none
      let s := s.setFm n { f with
        sync := true, badRun := 0, zeros := [], lastBit := bit, next := (place + 1) % 4
        group := group, groupVerB := ver, hist := (0 :: 0 :: f.hist).take 50 }
      let s := s.fmEvent n 1 (bytesBE 1 1)
      let s := if i = 0 then s.takePi n prev else s
      if j = 0 ∨ (i = 1 ∧ j = 3 ∧ prev.testBit 11 = true) then s.takePi n info else s

/-- A block in sync judged at its place: its status, its information word and, for a third block, the
version it shows when block B does not (R437, R438). -/
def judgePlace (s : State) (f : FmLane) (w marks : BitVec 26) : (Nat × Nat) × Option Bool :=
  let k := s.corrMax
  match f.next with
  | 2 => match f.groupVerB with
    | some v => (judgeBlock k w marks (if v then 3 else 2), some v)
    | none =>
      let a := judgeBlock k w marks 2
      let b := judgeBlock k w marks 3
      if b.1 < a.1 then (b, some true) else (a, some false)
  | 1 =>
    let r := judgeBlock k w marks 1
    (r, if r.1 = 2 then none else some (r.2.testBit 11))
  | 3 => (judgeBlock k w marks 4, f.groupVerB)
  | _ => (judgeBlock k w marks 0, none)

/-- Block sync lost: RDSCLK of the lane is lost with it, partial groups are abandoned and the search
begins afresh (R439); on the governing lane it raises 0x5102 (Table 10-5). -/
def rdsLost (s : State) (n : Nat) : State :=
  let s := s.withFm n fun s f => s.setFm n { f with
    sync := false, badRun := 0, group := [], groupVerB := none, zeros := [] }
  let s := if s.last.govCarrier = some n then s.raise 0x5102 n clsNote else s
  s.fmEvent n 1 (bytesBE 1 0)

/-- A block at its expected place (R437–R439, R444). -/
def rdsInSync (s : State) (n : Nat) (f : FmLane) (w marks : BitVec 26) (bit : Nat) (a : Anchor) :
    State :=
  let ((st, info), ver) := s.judgePlace f w marks
  let place := f.next
  let okB := (f.group.getD 1 (0, 2)).2 != 2
  let blocks :=
    if place = 0 then [(info, st)]
    else if f.group.length = place then f.group ++ [(info, st)] else []
  let bad := if st = 2 then f.badRun + 1 else 0
  let s := { s with
    fm.rdsCorr := if st = 1 then satAdd 65535 s.fm.rdsCorr 1 else s.fm.rdsCorr
    fm.rdsBad := if st = 2 then satAdd 65535 s.fm.rdsBad 1 else s.fm.rdsBad }
  let s := s.setFm n { f with
    lastBit := bit, next := (place + 1) % 4, badRun := bad
    group := if place = 3 then [] else blocks
    groupVerB := if place = 3 then none else ver, hist := (st :: f.hist).take 50 }
  let s := if s.flywheel ≤ bad then s.rdsLost n else s
  let s :=
    if st ≠ 2 ∧ (place = 0 ∨ (place = 2 ∧ ver = some true ∧ okB = true ∧ blocks ≠ [])) then s.takePi n info
    else s
  if place = 3 ∧ blocks.length = 4 then s.rdsGroup n blocks (ver.getD false) a else s

end State

namespace State

/-- A broadcast chain gave samples at some instant from `a` on and before `b`. -/
def heardIn (s : State) (c a b : Nat) : Bool :=
  let log := vget [] s.radio.heard c
  !(heardAt log a).deaf || log.any fun m => decide (a ≤ m.at_) && decide (m.at_ < b) && !m.deaf

/-- A chain that feeds a lane gave samples within the tick that has just ended or the one before, from which
the tick's MPX samples come, a group delay later (R270, R303, R388, R420). -/
def laneHears (s : State) (n : Nat) : Bool :=
  let e := s.last.edge * 65536
  [0, 1].any fun c => (s.lane n).branches.testBit c && s.heardIn c (e - 2 * 65536) e

end State

/-- PILOT_TICK_JUDGE: one tick of a lane's pilot PLL: whether the tick holds a clean sample, and the RMS
phase error over its clean samples in 0.1° (R420, R421); a lane whose chains have given no valid samples has
no clean one.  A rate source lost with it is left at the same tick edge (R42).
DESIGN CHOICE, safe: log entry 5. -/
def execPilotTickJudge (lane : Nat) (clean : Bool) (phaseErr : Nat) (s : State) :
    Host.Outcome State Fault Refusal :=
  .next (s.judgePilot lane (clean && s.reception && s.laneHears lane) phaseErr).watchSource

/-! ### Demodulation (R434, R435) -/

/-- A biphase symbol decided from its two half bits: against the pilot PLL's carrier while the lane is LOCKED,
else against the Costas loop's (R434). -/
def RdsSym.decide (y : RdsSym) (locked : Bool) : Bool :=
  let a := if locked then y.pilot1 else y.costas1
  let b := if locked then y.pilot2 else y.costas2
  if a = b then Config.evenSymbol a else Decidable.decide (b < a)

/-- The bits of symbols after the first, differentially decoded: each with whether it falls wholly within
erasures, when it is decided as 0 and marked (R434, R435). -/
def rdsBits (locked : Bool) : List RdsSym → List (Bool × Bool)
  | p :: y :: rest =>
    (if y.erased then (false, true) else (p.decide locked != y.decide locked, false)) ::
      rdsBits locked (y :: rest)
  | _ => []

/-- Bits as a word, the first received at the top. -/
def rdsWord (bits : List Bool) : BitVec 26 :=
  BitVec.ofNat 26 (bits.foldl (fun (w : Nat) b => 2 * w + bitNat b) 0)

/-- RDS_BLOCK_DELIVERY: 26 bits of an FM lane, as the 27 symbols from the one before them on; the number of their
last bit, counted on the lane; and the receiver's timestamp of that bit, in 1/65 536 tick, with the ticks
ended since (R104, R434, R435, R440).  While the lane searches it is a candidate block (R436); in sync it is
the block due 26 bits after the one before (R439).
DESIGN CHOICE, safe: log entry 5. -/
def execRdsBlockDelivery (lane : Nat) (syms : List RdsSym) (bitPos anchor ago : Nat) (s : State) :
    Host.Outcome State Fault Refusal :=
  .next (match (s.fmLane lane).filter fun _ => s.reception with
    | none => s
    | some f =>
      let bits := rdsBits f.locked syms
      let w := rdsWord (bits.map (·.1))
      let marks := rdsWord (bits.map (·.2))
      let latch := s.last.latched ago
      if !f.sync then s.rdsSearch lane f w bitPos
      else if bitPos = f.lastBit + 26 then
        let a := anchor - rxDelay (s.groupDelay (s.lane lane)) 960
        (s.rdsInSync lane f w marks bitPos ⟨a, latch.1, latch.2⟩).watchSource
      else s)

end Sys2Proof.Machine
end

