-- ==== Sys2Proof/Machine/WeltOps.lean ====
section
/-! DEFINITION. What the welt chapter does beneath its rows (chapter 18): frames and acknowledgement,
roles, the loss of the link, adoption requests, and the comparison of cue digests. -/

namespace Sys2Proof.Machine

open Sys2Proof

/-- The code of a role (Table 18-5). -/
def Role.code : Role → Nat
  | .solo => 0 | .active => 1 | .standby => 2 | .parted => 3

/-- Payload bytes of a frame, as the hold of 512 KiB counts them (R713). -/
def WPayload.size : WPayload → Nat
  | .tick _ => 8
  | .record e _ => 32 + e.win.length
  | .lastev e => 24 + e.win.length
  | .hostmsg (.post _ bs _) => 9 + bs.length
  | .hostmsg _ => 10
  | .b4msg _ e => 9 + e.win.length
  | .decision _ blk _ => 7 + blk.length
  | .digest _ => 13
  | .ckpt _ _ => 258
  | .adopt => 0

/-- SEQ of a frame (Table 18-1). -/
def WHead.seq (h : WHead) : Nat := fieldBE h.bytes 1 2

/-- ACK of a frame (Table 18-1). -/
def WHead.ack (h : WHead) : Nat := fieldBE h.bytes 3 2

/-- A frame's CRC passes (R712, R713). -/
def WHead.crcOk (h : WHead) : Bool := h.crc == crc32c h.bytes

namespace State

/-- Welt pairing is enabled (R711) and the link's domain is up.
DESIGN CHOICE, unsafe: log entry 45. -/
def weltOn (s : State) : Bool := (s.reg 0xE00).bit 0 && s.up .bench

/-- Bytes of unacknowledged frames held (R713, Table 18-1). -/
def weltHeld (s : State) : Nat := (s.welt.unacked.map fun f => 13 + f.payload.size).sum

/-- A role, and the PAIR event of its change (R720, Table 18-5). -/
def setRole (s : State) (r : Role) (cause : Nat) : State :=
  let was := s.welt.role
  let s := { s with welt.role := r, welt.deciding := false }
  s.deliver 4 ⟨.pair, s.now, 0, 0, BitVec.ofNat 32 (was.code + 256 * r.code),
    bytesBE 1 cause ++ bytesBE 1 s.welt.partner.code ++ bytesBE 6 s.welt.conf.pp ++ bytesBE 6 s.last.pp, []⟩

/-- A sticky bit of WELT_EVT set. -/
def weltEvt (s : State) (i : Nat) : State := { s with welt.evt := s.welt.evt ||| 2 ^ i }

/-- Adoption requested of the partner (R732). -/
def askAdopt (s : State) : State :=
  let s := { s with
    welt.adopting := true, welt.inSync := false, welt.pages := [], welt.mirrored := [], welt.ticks := [] }
  if s.welt.up then s.weltSend .adopt else s

/-- The member becomes STANDBY: its own corrections end, the Last copies the active, and it asks for the
partner's checkpoint (R44, R721, R732). -/
def becomeStandby (s : State) (cause : Nat) : State :=
  let s := s.endCorrection
  let s := { s with
    welt.shadow := [], welt.silent := [], welt.reports := [], welt.theirs := [], welt.adoptFails := 0
    welt.arbitrating := false, welt.absences := 0, welt.yielding := false, welt.diverged := false }
  ((s.setRole .standby cause).bestSource).askAdopt

/-- The host messages and rings that waited in their slots on a STANDBY member are queued at the first
position handled after it leaves that role (R729). -/
def queueHeldHost (s : State) : State :=
  let p := s.prog.opened.head?.getD s.now
  [0, 1, 2, 3, 4].foldl (fun (s : State) b => if (s.bench b).mode = .run then s.queueWaiting b p else s) s

/-- The shadow queue released: records stamped at the first position not yet closed or later go to their
benches, earlier ones are discarded and counted (R727). -/
def releaseShadow (s : State) : State :=
  let p := s.prog.opened.head?.getD s.now
  let old := s.welt.shadow.filter fun e => posLt e.pos p
  let new := s.welt.shadow.filter fun e => !posLt e.pos p
  let s := { s with
    welt.shadow := [], welt.shadowLost := satAdd 255 s.welt.shadowLost old.length }
  new.foldl (fun (s : State) e => s.recordTo (s.routeOf (e.field 7).toNat).1 e) s

/-- The member becomes PARTED: its benches take their own inputs, and it listens for its partner's beacons
(R727, R729, R737).
DESIGN CHOICE, unsafe: log entry 45. -/
def becomeParted (s : State) (cause : Nat) : State :=
  let was := s.welt.role
  let s := s.setRole .parted cause
  let s := { s with
    welt.adopting := false, welt.arbitrating := true, welt.absences := 0, welt.heard := false
    welt.ambiguous := was == .standby
    welt.conf := if was = .standby then s.welt.conf else s.now }
  if was = .standby then (s.releaseShadow.queueHeldHost).watchSource else s

/-- The link goes down (R716): 0xA101, and a STANDBY member becomes PARTED (R720).
DESIGN CHOICE, unsafe: log entry 45. -/
def linkDown (s : State) : State :=
  if !s.welt.up then s
  else
    let s := { s with
      welt.up := false, welt.hbRun := 0, welt.hbMiss := 0, welt.unacked := [], welt.txSeq := 1
      welt.rxSeq := 0, welt.yielding := false, welt.sendFull := false }
    let s := (s.weltEvt 0).note 0xA101
    match s.welt.role with
    | .standby => s.becomeParted 1
    | .active => s.setRole .active 1
    | .parted => { s with welt.ambiguous := false, welt.conf := s.now, welt.heard := false }
    | _ => s

/-! ### Digest comparison -/

/-- One pair of digest reports compared (R735, R736). -/
def compareOne (s : State) (a b : DigestRep) : State :=
  if a.void || b.void then (if s.welt.adopting then s else s.askAdopt)
  else
    let same := a.sf == b.sf && a.count == b.count && a.crc == b.crc
    let s := { s with welt.digCmp := BitVec.ofNat 32 (a.sf % 2 ^ 31 + bitNat (!same) * 2 ^ 31) }
    if same then { s with welt.matches_ := s.welt.matches_ + 1 }
    else
      let s := { s with
        welt.mismatches := satAdd 255 s.welt.mismatches 1, welt.diverged := true }
      ((s.note 0xA301).setRole .standby 7).askAdopt

/-- The reports that both members have made are compared, in order; while no adopted state stands there is
nothing to compare (R734, R735).
DESIGN CHOICE, unsafe: log entry 45. -/
def compareDigests (s : State) : State :=
  if s.welt.role ≠ .standby ∨ s.welt.inSync = false then { s with welt.reports := [], welt.theirs := [] }
  else
    let pairs := s.welt.reports.zip s.welt.theirs
    let n := pairs.length
    let s := { s with welt.reports := s.welt.reports.drop n, welt.theirs := s.welt.theirs.drop n }
    pairs.foldl (fun (s : State) e => s.compareOne e.1 e.2) s

/-! ### Frames received -/

/-- The frames that an ACK covers leave the hold (R713). -/
def weltAck (s : State) (ack : Nat) : State :=
  match s.welt.unacked.findIdx? fun f => f.seq == ack with
  | some i => { s with welt.unacked := s.welt.unacked.drop (i + 1) }
  | none => s

/-- A sequenced frame as received: one with a wrong CRC is counted and discarded, one out of order is
discarded, and the next in order is taken (R713). -/
def weltTake (s : State) (h : WHead) (f : State → State) : State :=
  if !s.weltOn then s
  else if !h.crcOk then { s with welt.crcErrs := satAdd 255 s.welt.crcErrs 1 }
  else
    let s := s.weltAck h.ack
    if h.seq = (s.welt.rxSeq + 1) % 65536 then f { s with welt.rxSeq := h.seq } else s

/-- The same for a frame that a STANDBY member uses. -/
def standbyTake (s : State) (h : WHead) (f : State → State) : State :=
  s.weltTake h fun t => if t.welt.role = .standby then f t else t

end State

end Sys2Proof.Machine
end

