-- ==== Sys2Proof/Machine/ClockRows.lean ====
section
/-! DEFINITION. Clocks and gating (chapter 8), the host's writes to the chain registers (chapters 7 and 22),
and the rows in which a chain's tunes and host writes take effect. -/

namespace Sys2Proof.Machine

open Sys2Proof

namespace State

/-! ### Gating (Table 8-8) -/

/-- A sticky bit of CLK_EVT set. -/
def clkEvt (s : State) (i : Nat) : State := { s with clk.evt := s.clk.evt ||| 2 ^ i }

/-- A chain whose clocks are back is no longer held (R340).
DESIGN CHOICE, unsafe: log entry 46. -/
def unholdChain (s : State) (c : Nat) : State :=
  if s.clk.refOk && (c == 2 || s.clk.sckLock) then s.setChain c { s.chain c with held := false } else s

/-- Every chain whose clocks are back. -/
def unholdChains (s : State) : State := [0, 1, 2].foldl (fun (s : State) c => s.unholdChain c) s

/-- Broadcast reception stops (Table 8-8, R31): every receiver loses its pilot lock and its block sync, a
decoder in SYNC its frames, and PILOT, RDSCLK and DABFRAME their qualification (Edges of Rate sources,
chapter 2).
DESIGN CHOICE, unsafe: log entry 79. -/
def receptionStops (s : State) : State :=
  let s := s.fm.lanes.foldl (fun (s : State) e => match s.fmLane e.1 with
    | none => s
    | some f =>
      let s := if f.locked then s.pilotLost e.1 f else s.setFm e.1 { f with lockRun := 0 }
      if f.sync then s.rdsLost e.1 else s) s
  [0, 1].foldl (fun (s : State) d =>
    let x := s.decoder d
    if x.mode = .sync then
      ((s.setDab d { x with missed := 2, gap := true }).setDabMode d .holdover).dabSync d
    else s) s

/-- The system PLL is gated: host clock and benches on the limp clock, broadcast reception stopped, the welt
link down (Table 8-8).
DESIGN CHOICE, unsafe: log entry 46. -/
def sysPllLost (s : State) : State :=
  let s := ({ s with clk.sysLock := false, clk.sysLost := true, clk.limp := true }).clkEvt 0
  (((s.raise 0x2201 0xFF clsCovered).receptionStops).linkDown).watchSource

/-- The sample-clock PLL is gated: the broadcast chains are held (Table 8-8).
DESIGN CHOICE, unsafe: log entry 46. -/
def sckPllLost (s : State) : State :=
  let s := ({ s with clk.sckLock := false, clk.sckLost := true }).clkEvt 1
  (((s.raise 0x2202 0xFF clsLost).holdChain 0).holdChain 1).receptionStops.watchSource

/-- A synthesizer has lost lock: its chain is FAILED (Table 8-8, R310); its detector is disarmed during a
transition and a bubble (R337).
DESIGN CHOICE, unsafe: log entry 46. -/
def synthLost (s : State) (c : Nat) : State :=
  let x := s.chain c
  let armed := (x.mode == .synth || x.mode == .rx || x.mode == .tx) && x.trans.isNone &&
    !x.bubbles.any (fun b => b.begun.isSome) && !x.failed
  if armed then
    let s := (s.clkEvt (4 + c)).failChain c [0x2311, chainFault c]
    { s with clk.synLost := vset s.clk.synLost c true }
  else s

/-- A lost PLL has its command to return: it relocks (Table 8-8, R347); host clock and benches move back to
it at the next tick edge. -/
def sysBack (s : State) : State := ({ s with clk.sysLock := true }).unholdChains

/-- The sample-clock PLL locks again. -/
def sckBack (s : State) : State := ({ s with clk.sckLock := true }).unholdChains

/-- CLK_CTRL written: SYSRESTART and SCKRESTART, each ignored while its PLL is locked (Tables 8-8 and 8-10).
-/
def writeClkCtrl (s : State) (v : Word) : State :=
  let s := if v.bit 0 && !s.clk.sysLock then { s with clk.sysLost := false } else s
  if v.bit 1 && !s.clk.sckLock then { s with clk.sckLost := false } else s

/-! ### Host writes to chain registers -/

/-- Bench 4 is OFF or HALTED, and so the host may write bench-4 owned registers (R838). -/
def hostOwns (s : State) : Bool := (s.bench 4).mode == .off || (s.bench 4).mode == .halted

/-- STATE of BRc_CTRL or HR_CTRL as it takes effect (R269): the chain is ordered to the state; a chain that
could not obey a CHAIN_STATE stays as it is. -/
def hostChainState (s : State) (c : Nat) (code : Nat) : State :=
  if 3 < code ∨ s.hrOwned c = true ∨ (s.chain c).failed = true ∨ s.chainBusy c = true then s
  else s.orderState c (modeOfCode code) none

/-- RESET of BRc_CTRL or HR_CTRL: a chain reset, which returns a FAILED chain to service (R309, R32). -/
def hostChainReset (s : State) (c : Nat) : State :=
  let s := s.resetChain c none
  s.setChain c { s.chain c with failed := false }

/-- BR_MODE written (R840, Table 7-16). -/
def writeBrMode (s : State) (v : Word) : State :=
  let m := v.bits 1 0
  let s := s.setReg 0x540 (v &&& 0x0000FF04#32)
  if m < 2 ∧ s.radio.mode ≠ 2 then ({ s with radio.mode := m }).respanLanes else s

/-- HR_CTRL written: with ANTDIV 0, ANTSEL takes the level of ANTFIX (R298). -/
def writeHrCtrl (s : State) (v : Word) : State :=
  let s := s.setReg 0x600 v
  if v.bit 4 then s else { s with radio.pinAntsel := v.bit 5 }

/-- A host write to a chain register takes effect at its tick edge.
DEDUCED, unsafe: log entry 71. -/
def chainWrite (s : State) (w : RegWrite) : State :=
  if w.addr = 0x540 then s.writeBrMode w.value
  else if w.addr = 0x600 then
    (s.writeHrCtrl (w.value &&& 0x000F7F37#32)).hostChainState 2 (w.value.bits 2 0)
  else
    let c := if w.addr < 0x520 then 0 else 1
    match w.addr % 32 with
    | 0 => (s.setReg w.addr (w.value &&& 7#32)).hostChainState c (w.value.bits 2 0)
    | 3 => (s.setReg w.addr (w.value &&& 0x0000FFF3#32)).settleGain c
    | _ => s.setReg w.addr (w.value &&& 7#32)

/-- The chain that a chain register belongs to; BR_MODE goes with BR0. -/
def chainOfReg (a : Nat) : Option Nat :=
  if a = 0x500 ∨ a = 0x503 ∨ a = 0x505 ∨ a = 0x540 then some 0
  else if a = 0x520 ∨ a = 0x523 ∨ a = 0x525 then some 1
  else if a = 0x600 then some 2
  else none

/-- The host writes of a chain that wait for the present tick edge.
DEDUCED, unsafe: log entry 71. -/
def chainWrites (s : State) (c : Nat) : State :=
  let mine := fun (w : RegWrite) => chainOfReg w.addr == some c && decide (w.edge < s.last.edge)
  let ws := s.regWrites.filter mine
  let s := { s with regWrites := s.regWrites.filter fun (w : RegWrite) => !mine w }
  ws.foldl (fun (s : State) w => s.chainWrite w) s

end State

/-! ### The rows of the table -/

/-- CHAIN_TUNE_APPLY: the tunes of a chain whose application edge has come take effect, then the host's
writes to its registers (R270, R839). -/
def execChainTuneApply (c : Fin 3) (s : State) : Host.Outcome State Fault Refusal :=
  let x := s.chain c
  let due := x.tunes.filter fun r => s.appDue r true
  let t := s.setChain c { x with tunes := x.tunes.filter fun r => !s.appDue r true }
  let t := due.foldl (fun (t : State) r => t.applyTune r) t
  .next (t.chainWrites c).watchSource

/-- PLL_LOCK_LOSS: a PLL declares loss of lock with the reference present (R337, R339, Table 8-8); the system
and sample-clock PLLs run in the BENCH domain (Table 1-2). -/
def execPllLockLoss (pll : Pll) (s : State) : Host.Outcome State Fault Refusal :=
  .next (if !s.clk.refOk then s
    else match pll with
      | .sys => if s.clk.sysLock && s.up .bench then s.sysPllLost else s
      | .sck => if s.clk.sckLock && s.up .bench then s.sckPllLost else s
      | .br0 => s.synthLost 0
      | .br1 => s.synthLost 1
      | .hr => s.synthLost 2)

/-- The limp clock runs: in IDLE, RUN and AWL_HOLD (R342). -/
def limpRuns (s : State) : Bool := s.supply.power != .sleep

/-- REFERENCE_LOSS: every PLL is gated, the host clock and the benches move to the limp clock, the chains are
held, reception and the IR outputs stop, the Last stops and the welt link goes down (R338, R339, R610,
R77).  The monitor counts on the limp clock, which does not run in SLEEP (R342). -/
def execReferenceLoss (s : State) : Host.Outcome State Fault Refusal :=
  .next (if !s.clk.refOk || !limpRuns s then s
    else
      let s := ({ s with
        clk.refOk := false, clk.sysLock := false, clk.sckLock := false, clk.limp := true }).clkEvt 2
      let s := s.raise 0x2203 0xFF clsLost
      let s := (((s.holdChain 0).holdChain 1).holdChain 2).receptionStops
      let s := [0, 1, 2, 3].foldl (fun (s : State) i => s.irTxAbort i) s
      s.stopLast.linkDown)

/-- REFERENCE_BACK: the PLLs that had not lost lock before relock, with 0x2204; host clock and benches move
back at the next tick edge, and the Last resumes once a rate source qualifies (R340, R79). -/
def execReferenceBack (s : State) : Host.Outcome State Fault Refusal :=
  .next (if s.clk.refOk || !limpRuns s then s
    else
      let s := ({ s with
        clk.refOk := true, clk.sysLock := !s.clk.sysLost, clk.sckLock := !s.clk.sckLost }).clkEvt 3
      (s.note 0x2204).unholdChains.resumeLast)

/-- PLL_RELOCK: a PLL whose return has been commanded locks again (R347). -/
def execPllRelock (pll : Pll) (s : State) : Host.Outcome State Fault Refusal :=
  .next (match pll with
    | .sys => if s.clk.refOk && !s.clk.sysLost && !s.clk.sysLock then s.sysBack else s
    | .sck => if s.clk.refOk && !s.clk.sckLost && !s.clk.sckLock then s.sckBack else s
    | .br0 | .br1 | .hr => s)

/-- LIMP_MEASURE: the limp clock measured against the reference; outside 27.0–37.0 MHz raises 0x2205
(R346). -/
def execLimpMeasure (kHz : Nat) (s : State) : Host.Outcome State Fault Refusal :=
  .next (if !s.clk.refOk || !limpRuns s then s
    else
      let s := { s with clk.limpKHz := min 65535 kHz }
      if kHz < 27000 ∨ 37000 < kHz then s.note 0x2205 else s)

end Sys2Proof.Machine
end

