-- ==== Sys2Proof/Machine/DabCode.lean ====
section
/-! DEFINITION. The codes of EN 300 401 and TS 102 563 that DAB reception checks (chapter 12): the CRC of a FIB,
packets, and the firecode and the Reed-Solomon code of a DAB+ superframe. -/

namespace Sys2Proof.Machine

open Sys2Proof

/-- The 16-bit check word of EN 300 401: the inverted CRC of the bytes before it. -/
def checkedBytes (bs : List Byte) : Bool :=
  decide (2 ≤ bs.length) && fieldBE bs (bs.length - 2) 2 == (~~~ crc16 (bs.take (bs.length - 2))).toNat

/-- A FIB whose CRC passes (R503). -/
def Fib.ok (b : Fib) : Bool := checkedBytes b.bytes

/-! ### Packets (R517) -/

/-- The packets of a sub-channel in one CIF: a header of three bytes with length, continuity index, first and
last flags, address, command flag and useful length, the data and a CRC-16.
PRESUMED, unsafe: log entry 11. -/
def splitPackets : Nat → List Byte → List DabPacket
  | 0, _ => []
  | n + 1, bs =>
    let h := fieldBE bs 0 2
    let len := 24 * (h / 16384 + 1)
    if bs.length < len then []
    else
      let p := bs.take len
      let c := fieldBE p 2 1
      ⟨h % 1024, checkedBytes p, c.testBit 7, h.testBit 11, h.testBit 10, h / 4096 % 4,
        (p.drop 3).take (Nat.min (len - 5) (c % 128))⟩ :: splitPackets n (bs.drop len)

/-! ### The firecode (R515) -/

/-- `n` steps of the firecode of TS 102 563, polynomial 0x782F. -/
def fireBits : Nat → BitVec 16 → BitVec 16
  | 0, c => c
  | n + 1, c => fireBits n (if c.getLsbD 15 then (c <<< 1) ^^^ 0x782F#16 else c <<< 1)

/-- The firecode of a superframe passes: its first two bytes check the nine that follow.
PRESUMED, unsafe: log entry 11. -/
def fireOk (sf : List Byte) : Bool :=
  decide (11 ≤ sf.length) &&
    fieldBE sf 0 2 == (((sf.drop 2).take 9).foldl (fun (c : BitVec 16) (x : Byte) =>
      fireBits 8 (c ^^^ BitVec.shiftLeft (x.setWidth 16) 8)) 0#16).toNat

/-! ### RS(120, 110) (R514)

The field is that of x⁸ + x⁴ + x³ + x² + 1, and the generator's roots are α⁰ … α⁹.
PRESUMED, unsafe: log entry 11. -/

/-- A field element times α. -/
def gfDouble (a : Byte) : Byte := if a.getLsbD 7 then (a <<< 1) ^^^ 0x1D#8 else a <<< 1

/-- A product in the field, over the bits of the second factor from `n` − 1 down. -/
def gfMulBits : Nat → Byte → Byte → Byte
  | 0, _, _ => 0
  | n + 1, a, b => gfDouble (gfMulBits n a (b >>> 1)) ^^^ (if b.getLsbD 0 then a else 0)

/-- A product in the field. -/
def gfMul (a b : Byte) : Byte := gfMulBits 8 a b

/-- A power in the field. -/
def gfPow (a : Byte) : Nat → Byte
  | 0 => 1
  | n + 1 => gfMul a (gfPow a n)

/-- The inverse of a field element. -/
def gfInv (a : Byte) : Byte := gfPow a 254

/-- α to a power. -/
def gfAlpha (n : Nat) : Byte := gfPow 2#8 (n % 255)

/-- A polynomial, lowest power first, at a point. -/
def gfEval : List Byte → Byte → Byte
  | [], _ => 0
  | c :: cs, x => c ^^^ gfMul x (gfEval cs x)

/-- The sum of two polynomials. -/
def gfAdd : List Byte → List Byte → List Byte
  | [], q => q
  | p, [] => p
  | a :: p, b :: q => (a ^^^ b) :: gfAdd p q

/-- The ten syndromes of a codeword, its first byte the highest power. -/
def syndromes (w : List Byte) : List Byte := (List.range 10).map fun i => gfEval w.reverse (gfAlpha i)

/-- The search for the shortest error locator (Berlekamp and Massey): the locator, the one before its last change
of length with that discrepancy and the steps since, and its length. -/
structure Locator where
  cur : List Byte
  old : List Byte
  len : Nat
  gap : Nat
  disc : Byte
  deriving DecidableEq, Repr

/-- One step of the search, at syndrome `n`. -/
def Locator.next (l : Locator) (syn : List Byte) (n : Nat) : Locator :=
  let d := ((List.range (l.len + 1)).map fun i =>
    gfMul (l.cur.getD i 0) (if i ≤ n then syn.getD (n - i) 0 else 0)).foldl (fun (a b : Byte) => a ^^^ b) 0
  if d = 0 then { l with gap := l.gap + 1 }
  else
    let k := gfMul d (gfInv l.disc)
    let cur := gfAdd l.cur (List.replicate l.gap 0 ++ l.old.map (gfMul k))
    if 2 * l.len ≤ n then ⟨cur, l.cur, n + 1 - l.len, 1, d⟩ else { l with cur := cur, gap := l.gap + 1 }

/-- The error locator of ten syndromes. -/
def locator (syn : List Byte) : Locator :=
  (List.range 10).foldl (fun l n => l.next syn n) ⟨[1], [1], 0, 1, 1⟩

/-- The value of the error at the root of locator number `j`, by Forney. -/
def errorAt (syn loc : List Byte) (j : Nat) : Byte :=
  let inv := gfInv (gfAlpha j)
  let omega := (List.range 10).map fun n => ((List.range (n + 1)).map fun i =>
    gfMul (loc.getD i 0) (syn.getD (n - i) 0)).foldl (fun (a b : Byte) => a ^^^ b) 0
  let slope := ((List.range loc.length).filter fun i => i % 2 == 1).map fun i =>
    gfMul (loc.getD i 0) (gfPow inv (i - 1))
  let den := slope.foldl (fun (a b : Byte) => a ^^^ b) 0
  gfMul (gfAlpha j) (gfMul (gfEval omega inv) (gfInv den))

/-- A codeword of 120 bytes decoded, with its status: 0 OK, 1 CORRECTED with up to 5 bytes in error, 2 BAD and
left as received (R514, R516). -/
def rsDecode (w : List Byte) : Nat × List Byte :=
  let syn := syndromes w
  if syn.all (· == 0) then (0, w)
  else
    let l := locator syn
    let fixed := w.zipIdx.map fun e =>
      let j := 119 - e.2
      if gfEval l.cur (gfInv (gfAlpha j)) = 0 then e.1 ^^^ errorAt syn l.cur j else e.1
    if l.len ≤ 5 ∧ (syndromes fixed).all (· == 0) = true then (1, fixed) else (2, w)

/-- A candidate superframe of 120·s bytes, whose codeword i has its bytes s apart from byte i on, corrected: the
statuses of its codewords and its bytes (R514).
PRESUMED, unsafe: log entry 11. -/
def rsSuperframe (sf : List Byte) : List Nat × List Byte :=
  let s := sf.length / 120
  let words := (List.range s).map fun i => rsDecode ((List.range 120).map fun p => byteAt sf (p * s + i))
  (words.map (·.1), (List.range (120 * s)).map fun k => byteAt ((words.getD (k % s) (0, [])).2) (k / s))

end Sys2Proof.Machine
end

