-- ==== Sys2Proof/Machine/Dab.lean ====
section
/-! DEFINITION. DAB reception (chapter 12): requests, frames and the FIC, selections and reconfiguration,
DAB+ superframes, packet-mode data groups, and measurement. -/

namespace Sys2Proof.Machine

open Sys2Proof

/-! ### Requests -/

/-- The 41 channel centres 5A–13F of Band III in kHz, 10N, 11N and 12N included (R497; log entry 11). -/
def bandThree : List Nat :=
  [174928, 176640, 178352, 180064, 181936, 183648, 185360, 187072, 188928, 190640, 192352, 194064,
   195936, 197648, 199360, 201072, 202928, 204640, 206352, 208064, 209936, 210096, 211648, 213360] ++
  [215072, 216928, 217088, 218640, 220352, 222064, 223936, 224096, 225648, 227360, 229072, 230784,
   232496, 234208, 235776, 237488, 239200]

namespace State

/-- An ENSEMBLE request as it takes effect (Table 12-3, R497, R501). -/
def ensembleReq (s : State) (r : Req) : State :=
  let d := fieldBE r.blk 0 1
  let op := fieldBE r.blk 1 1
  let kHz := fieldBE r.blk 4 4
  let no := fun reason => s.dabReply 11 d r.id stNone reason []
  if 1 < d ∨ 1 < op then no 1
  else if op = 1 then (s.stopDecoder d).watchSource.dabReply 11 d r.id stOk 0 []
  else if !bandThree.contains kHz then no 1
  else
    let x := s.decoder d
    if x.mode != .idle || x.failed || x.cover.isSome || vget false s.lanes.wideFailed d then no 2
    else if s.branchesOf { Lane.init with use := .wide, preset := .dab, centre := kHz * 1000 } = 0 then
      no 3
    else s.startDecoder d kHz (some r.id) r.id []

end State

/-- The sub-channel of the current MCI. -/
def Decoder.sub? (x : Decoder) (id : Nat) : Option SubCh := x.mci.find? fun c => c.id == id

/-- A packet-mode component lies in the sub-channel. -/
def Decoder.isPacket (x : Decoder) (id : Nat) : Bool := x.packets.any fun c => c.subch == id

/-- A component of the sub-channel is of type DAB+ (ASCTy 63). -/
def Decoder.isPlus (x : Decoder) (id : Nat) : Bool :=
  x.services.any fun v => v.comps.any fun c => c.tmid == 0 && c.kind == 63 && c.id == id

/-- The packet addresses of a SUBCHANNEL block that are not 0. -/
def blkAddrs (blk : List Byte) : List Nat :=
  ([4, 6, 8, 10].map fun i => fieldBE blk i 2).filter (· != 0)

/-- Why a SELECT is refused: status and reason (R508, R509, Edges of reassembly). -/
def selectRefused (x : Decoder) (blk : List Byte) : Option (Nat × Nat) :=
  let id := fieldBE blk 2 1
  let dl := fieldBE blk 3 1
  let addrs := blkAddrs blk
  let others := x.sels.filter fun q => q.id != id
  if 63 < id ∨ dl = 0 ∨ 7 < dl ∨ addrs.any (fun a => decide (1023 < a)) = true then some (stNone, 1)
  else if !x.ready then some (stNone, 2)
  else if (x.sub? id).isNone then some (stNone, 5)
  else if (dl.testBit 1 && !x.isPlus id) || (dl.testBit 2 && (!x.isPacket id || addrs.isEmpty)) then
    some (stNone, 6)
  else if dl.testBit 2 && addrs.any (fun a => others.any fun q => q.packet && q.addrs.contains a) then
    some (stNone, 1)
  else if 8 ≤ others.length then some (stBusy, 4)
  else none

/-- A selection as a SELECT makes it at edge `e`. -/
def newSelection (blk : List Byte) (id e : Nat) : Selection :=
  let dl := fieldBE blk 3 1
  let addrs := blkAddrs blk
  { id := fieldBE blk 2 1, reqId := id, raw := dl.testBit 0, super := dl.testBit 1,
    packet := dl.testBit 2, addrs := addrs, edge := e, fromCif := none, owed := [id], fresh := true,
    leaving := none, groups := addrs.map fun a => ⟨a, 0, none, none⟩, gathered := [], inSync := false,
    fails := 0 }

namespace State

/-- A SUBCHANNEL request as it takes effect (Table 12-6, R508–R510, R512). -/
def subchannelReq (s : State) (r : Req) : State :=
  let d := fieldBE r.blk 0 1
  let id := fieldBE r.blk 2 1
  let x := s.decoder d
  let no := fun status reason => s.dabReply 12 d r.id status reason []
  if 1 < d ∨ 1 < fieldBE r.blk 1 1 then no stNone 1
  else if fieldBE r.blk 1 1 = 1 then
    if 63 < id then no stNone 1
    else if !x.ready then no stNone 2
    else match x.sels.find? fun q => q.id == id && q.leaving.isNone with
      | none => no stNone 5
      | some _ => s.setDab d { x with sels := x.sels.map fun (q : Selection) =>
          if q.id = id then { q with leaving := some r.id } else q }
  else match selectRefused x r.blk with
    | some e => no e.1 e.2
    | none =>
      let new := newSelection r.blk r.id s.last.edge
      match x.sels.find? fun q => q.id == id with
      | none => s.setDab d { x with sels := x.sels ++ [new] }
      | some old =>
        let groups := new.groups.map fun (g : DGroup) =>
          (old.groups.find? fun h => h.addr == g.addr).getD g
        let q := { new with
          fromCif := old.fromCif, owed := old.owed ++ new.owed, fresh := old.fresh, groups := groups
          gathered := if new.super && old.super then old.gathered else []
          inSync := new.super && old.inSync, fails := old.fails }
        let s := s.setDab d { x with sels := x.sels.map fun (p : Selection) => if p.id = id then q else p }
        match old.leaving with
        | some i => s.dabReply 12 d i stOk 0 []
        | none => s

/-- MEASURE of a DAB receiver as it takes effect (R524): code 0x0528, byte 2 the decoder, bytes 4–15 the
quality record of a ONCE. -/
def measureDab (s : State) (r : Req) : State :=
  let d := fieldBE r.blk 1 1
  let op := fieldBE r.blk 2 1
  let period := fieldBE r.blk 6 2
  let answer := fun (s : State) (status reason : Nat) (rec : List Byte) =>
    s.dabReply 8 d r.id status reason (bytesBE 1 d ++ bytesBE 1 0 ++ rec)
  let zeros := List.replicate 12 (0 : Byte)
  let x := s.decoder d
  if 1 < d ∨ 2 < op ∨ (op = 0 ∧ 1024 < period) then answer s stNone 1 zeros
  else if x.failed then answer s stNone 2 zeros
  else match op with
    | 0 =>
      let sub : Subscr := ⟨r.id, fieldBE r.blk 4 2 % 2048, period, period⟩
      answer (s.setDab d { x with sub := some sub }) stOk 0 zeros
    | 1 => answer (s.setDab d { x with sub := none }) stOk 0 zeros
    | _ => answer s stOk 0 (match x.quality with
      | some q => q.bytes
      | none => zeros)

/-- The MEASURE requests whose tick edge has come (R455, R524); a receiver that is neither FM nor DAB is a
field out of range. -/
def measureEdge (s : State) : State :=
  let due := s.fm.reqs.filter fun (r : Req) => decide (r.edge < s.last.edge)
  let s := { s with fm.reqs := s.fm.reqs.filter fun (r : Req) => !decide (r.edge < s.last.edge) }
  due.foldl (fun (s : State) r => match fieldBE r.blk 0 1 with
    | 0 => s.measureFm r
    | 1 => s.measureDab r
    | _ => s.reply 0x0508 r.id stNone (bytesBE 1 0 ++ bytesBE 1 1 ++ List.replicate 14 0)) s

/-- What is due at a decoder at a tick edge: a covering START (Table 20-5), SELECT replies (R510), and the
requests issued before the edge (R497, R501). -/
def dabEdge (s : State) (d : Nat) : State :=
  let s := match (s.decoder d).cover with
    | some c =>
      if c.edge < s.last.edge then
        let s := s.setDab d { s.decoder d with cover := none }
        let s := s.startDecoder d c.freq none c.runReq c.sels
        c.sels.foldl (fun (s : State) q => s.dabSubch d q subchRestarted) s
      else s
    | none => s
  let x := s.decoder d
  let ready := x.selDone.filter fun e => decide (e.2.2 < s.last.edge)
  let due := x.reqs.filter fun (e : Nat × Req) => decide (e.2.edge < s.last.edge)
  let s := s.setDab d { x with
    selDone := x.selDone.filter fun (e : Nat × Nat × Nat) => !decide (e.2.2 < s.last.edge)
    reqs := x.reqs.filter fun (e : Nat × Req) => !decide (e.2.edge < s.last.edge) }
  let s := ready.foldl (fun (s : State) e => s.dabReply 12 d e.1 stOk 0 (bytesBE 2 e.2.1)) s
  due.foldl (fun (s : State) e => if e.1 = 11 then s.ensembleReq e.2 else s.subchannelReq e.2) s

/-! ### The FIC -/

/-- An event of Table 12-8 reported when its content differs from what was last raised for its key
(R525).
DESIGN CHOICE, unsafe: log entry 39. -/
def dabReport (s : State) (i d key : Nat) (bytes : List Byte) : State :=
  let x := s.decoder d
  match x.sub with
  | none => s
  | some q =>
    let k := i * 2 ^ 48 + key
    if !q.mask.testBit i || kget x.contents k == some bytes then s
    else (s.setDab d { x with contents := kput x.contents k bytes }).dabEvent i d bytes

end State

/-- A label field of 16 bytes. -/
def label16 (l : List Byte) : List Byte := (List.range 16).map (byteAt l)

/-- Numbers of `w` bytes in a field of `n`, those beyond them 0. -/
def numField (w n : Nat) (l : List Nat) : List Byte :=
  (List.range n).flatMap fun i => bytesBE w (l.getD i 0)

/-- The bytes of DAB_SERVICE for one component from byte 2 on; `none` while its packet-mode component is
not known. -/
def serviceBytes (x : Decoder) (v : Service) (c : SvcComp) : Option (List Byte) :=
  let fields := fun (kind sub addr : Nat) =>
    bytesBE 4 v.sid ++ bytesBE 1 c.tmid ++ bytesBE 1 kind ++ bytesBE 1 sub ++ bytesBE 2 addr ++
      bytesBE 1 c.ca ++ bytesBE 1 v.pty ++ bytesBE 1 v.apps.length ++ numField 2 4 v.apps ++ label16 v.label
  if c.tmid = 3 then
    (x.packets.find? fun p => p.scid == c.id).map fun p => fields p.dscty p.subch p.addr
  else some (fields c.kind c.id 0)

/-- The bytes of DAB_SUBCHORG from byte 2 on. -/
def orgBytes (x : Decoder) (next : Bool) (c : SubCh) : List Byte :=
  bytesBE 1 c.id ++ bytesBE 2 c.start ++ bytesBE 2 c.size ++ bytesBE 1 c.prot ++ bytesBE 2 c.rate ++
    bytesBE 1 ((kget x.fec c.id).getD 0) ++ bytesBE 1 (bitNat next)

namespace State

/-- DAB_ENSEMBLE, DAB_SERVICE and DAB_SUBCHORG reported where what the FIGs have given has changed. -/
def dabRefresh (s : State) (d : Nat) : State :=
  let x := s.decoder d
  let s := if x.haveFig00 then
      s.dabReport 1 d 0 (bytesBE 2 x.eid ++ bytesBE 1 x.ecc ++ bytesBE 1 x.lto ++
        bytesBE 1 (bitNat x.alarm) ++ bytesBE 1 0 ++ label16 x.ensLabel)
    else s
  let s := x.services.foldl (fun (s : State) v =>
    (v.comps.foldl (fun (a : State × Nat) c =>
      (match serviceBytes x v c with
        | some b => a.1.dabReport 2 d (v.sid * 16 + a.2) b
        | none => a.1, a.2 + 1)) (s, 0)).1) s
  let s := x.mci.foldl (fun (s : State) c => s.dabReport 3 d c.id (orgBytes x false c)) s
  x.nextMci.foldl (fun (s : State) c => s.dabReport 3 d (64 + c.id) (orgBytes x true c)) s

/-- Another EId: every selection ends with cause REMOVED, and READY and the MCI are lost (R502).
DESIGN CHOICE, unsafe: log entry 39. -/
def newEnsemble (s : State) (d : Nat) : State :=
  let s := s.dropGroups d
  let x := s.decoder d
  let s := s.setDab d { x with
    ready := false, ecc := 0, lto := 0, alarm := false, ensLabel := [], mci := [], services := []
    packets := [], fec := [], nextMci := [], changeAt := none, sels := [] }
  x.sels.foldl (fun (s : State) q =>
    let s := s.dabSubch d q subchRemoved
    let s := q.owed.foldl (fun (s : State) i => s.dabReply 12 d i stNone 2 []) s
    match q.leaving with
    | some i => s.dabReply 12 d i stOk 0 []
    | none => s) s

end State

/-- A service with one of its parts changed, or a new one with it. -/
def Decoder.withService (x : Decoder) (sid : Nat) (f : Service → Service) : Decoder :=
  if x.services.any fun v => v.sid == sid then
    { x with services := x.services.map fun (v : Service) => if v.sid = sid then f v else v }
  else { x with services := x.services ++ [f ⟨sid, [], 0, [], []⟩] }

/-- A sub-channel organisation with one sub-channel's entry replaced. -/
def putSub (m : List SubCh) (c : SubCh) : List SubCh := (m.filter fun e => e.id != c.id) ++ [c]

/-- The CIF count of a change: the next count after the present one whose lower part is the occurrence
change of FIG 0/0 (log entry 11). -/
def changeCount (cif occurrence : Nat) : Nat :=
  (cif + (occurrence % 250 + 250 - cif % 250) % 250) % 5000

namespace State

/-- One FIG interpreted (R504, Table 12-5).
PRESUMED, unsafe: log entry 11. -/
def dabFig (s : State) (d : Nat) (f : Fig) : State :=
  let x := s.decoder d
  match f with
  | .ens eid cif change alarm occurrence =>
    let s := if x.haveFig00 && x.eid != eid then s.newEnsemble d else s
    let x := s.decoder d
    let at_ := changeCount cif occurrence
    let s := s.setDab d { x with
      haveFig00 := true, eid := eid, cif := cif % 5000, alarm := alarm
      changeAt := if change = 0 then x.changeAt else some at_ }
    let s := if change = 0 then s else s.dabReport 7 d 0 (bytesBE 2 at_ ++ bytesBE 1 change)
    s.dabRefresh d
  | .subch next c =>
    (s.setDab d (if next then { x with nextMci := putSub x.nextMci c }
      else { x with mci := putSub x.mci c })).dabRefresh d
  | .service sid comps =>
    (s.setDab d (x.withService sid fun (v : Service) => { v with comps := comps })).dabRefresh d
  | .packet c =>
    (s.setDab d { x with
      packets := (x.packets.filter fun (p : PktComp) => p.scid != c.scid) ++ [c] }).dabRefresh d
  | .link lsn flags idlq ids =>
    s.dabReport 4 d (lsn * 256 + flags * 32 + idlq) (bytesBE 2 lsn ++ bytesBE 1 flags ++ bytesBE 1 idlq ++
      bytesBE 1 ids.length ++ bytesBE 1 0 ++ numField 4 12 ids)
  | .compDef _ _ _ => s.dabRefresh d
  | .lto ecc lto => (s.setDab d { x with ecc := ecc, lto := lto }).dabRefresh d
  | .time mjd h m sec ms =>
    s.dabEvent 6 d (bytesBE 3 mjd ++ bytesBE 1 h ++ bytesBE 1 m ++ bytesBE 1 sec ++ bytesBE 2 ms)
  | .userApp sid types =>
    (s.setDab d (x.withService sid fun (v : Service) => { v with apps := types })).dabRefresh d
  | .fec sub scheme => (s.setDab d { x with fec := kput x.fec sub scheme }).dabRefresh d
  | .pty sid pty =>
    (s.setDab d (x.withService sid fun (v : Service) => { v with pty := pty })).dabRefresh d
  | .freqInfo id rm cont freqs =>
    s.dabReport 5 d (id * 256 + rm) (bytesBE 2 id ++ bytesBE 1 rm ++ bytesBE 1 cont ++
      bytesBE 1 freqs.length ++ bytesBE 1 0 ++ numField 4 12 freqs)
  | .otherEns sid eids =>
    s.dabReport 9 d sid (bytesBE 4 sid ++ bytesBE 1 eids.length ++ bytesBE 1 0 ++ numField 2 16 eids)
  | .ensLabel l => (s.setDab d { x with ensLabel := l }).dabRefresh d
  | .srvLabel sid l =>
    (s.setDab d (x.withService sid fun (v : Service) => { v with label := l })).dabRefresh d
  | .other => s.setDab d { x with otherFigs := x.otherFigs + 1 }

/-- One FIB: counted when its CRC fails, else interpreted (R503). -/
def dabFib (s : State) (d : Nat) (b : Fib) : State :=
  let x := s.decoder d
  let s := s.setDab d { x with
    fibHist := ((!b.ok) :: x.fibHist).take 48
    badFib := if b.ok then x.badFib else satAdd 255 x.badFib 1 }
  if b.ok then b.figs.foldl (fun (s : State) f => s.dabFig d f) s else s

/-- The stream packet of a frame's FIC, with FICSTREAM set (R503, Table 17-2). -/
def ficPacket (s : State) (d a : Nat) (fibs : List Fib) : State :=
  if (s.reg (0xD00 + 0x20 * d)).bit 1 then
    let body := ((List.range fibs.length).zip fibs).flatMap fun (e : Nat × Fib) =>
      if e.2.ok then bytesBE 1 e.1 ++ (List.range 32).map (byteAt e.2.bytes) else []
    s.packet 1 (d * 128 + 0x40) ⟨s.last.epoch, a / 65536⟩ (bytesBE 2 (s.decoder d).cif ++ body)
  else s

end State

/-- The sub-channels that FIG 0/2 and FIG 0/3 name. -/
def Decoder.named (x : Decoder) : List Nat :=
  (x.services.flatMap fun v => (v.comps.filter fun c => c.tmid != 3).map (·.id)) ++
    x.packets.map (·.subch)

namespace State

/-- READY: FIG 0/0 and a FIG 0/1 for every sub-channel named are held, and ENSEMBLE completes (R499). -/
def dabReady (s : State) (d : Nat) : State :=
  let x := s.decoder d
  if !x.ready && x.haveFig00 && !x.services.isEmpty && x.named.all fun i => (x.sub? i).isSome then
    let s := s.setDab d { x with ready := true, startReq := none }
    match x.startReq with
    | some id => s.dabReply 11 d id stOk 0 (bytesBE 2 x.eid ++ bytesBE 2 x.cif)
    | none => s
  else s

/-- A frame found in frame sync: its FIC, and the history of R522. -/
def dabFound (s : State) (d : Nat) (a : Anchor) (t foff : Int) (fibs : List Fib) : State :=
  let x := s.decoder d
  let s := s.setDab d { x with
    lastNull := some t, missed := 0, foff := foff
    cif := if x.haveFig00 then (x.cif + 4) % 5000 else 0 }
  let s := fibs.foldl (fun (s : State) b => s.dabFib d b) s
  let x := s.decoder d
  let s := if x.haveFig00 then
      s.setDab d { x with history := (⟨a, x.cif⟩ :: x.history).take 64 } else s
  (s.ficPacket d a.a fibs).dabReady d

/-- The anchor of a STAMP of DAB carriage with qualifier `qual`, from the frame history: the null symbol's
start of the frame that holds that CIF, plus 114 ticks times its place (R105, R522, Table 3-5); each
frame's first CIF holds place 0.  `none` when the history does not hold it.
DEDUCED, safe: log entry 43. -/
def dabAnchor (s : State) (d qual : Nat) : Option Anchor :=
  let now : Int := (s.position : Int) - s.last.corrNow
  let place := fun (h : FrameRec) => 114 * 65536 * ((qual + 5000 - h.cif) % 5000)
  let far := fun (h : FrameRec) => (now - ((h.anchor.a + place h : Nat) : Int) + h.anchor.corr).natAbs
  let fit := (s.decoder d).history.filter fun (h : FrameRec) =>
    decide ((qual + 5000 - h.cif) % 5000 < 4) && decide (far h ≤ 60 * 4750 * 65536)
  (fit.foldl (fun (m : Option FrameRec) h => match m with
    | some k => if far h < far k then some h else m
    | none => some h) none).map fun (h : FrameRec) => { h.anchor with a := h.anchor.a + place h }

end State

/-! ### The rows of the table: frames -/

/-- ±50 µs in 1/65 536 tick (R502). -/
def dabWindow : Nat := 15565

/-- A frame in 1/65 536 tick. -/
def dabPeriod : Nat := 456 * 65536

/-- DAB_FRAME: a null symbol found and confirmed on its PRS, with the decoder's timestamp of its start in
1/65 536 tick, the ticks ended since, the frequency offset in Hz and the FIBs of the frame (R498, R502,
R503, R521, R522).
DESIGN CHOICE, safe: log entry 5. -/
def execDabFrame (d : Fin 2) (anchor ago : Nat) (foff : Int) (fibs : List Fib) (s : State) :
    Host.Outcome State Fault Refusal :=
  let x := s.decoder d
  let a := anchor - rxDelay (s.groupDelay (s.lane (100 + d.val))) 2880
  let l := s.last.latched ago
  let t : Int := (a : Int) - l.1
  let near := match x.lastNull with
    | some u => decide ((t - u - dabPeriod).natAbs ≤ dabWindow)
    | none => false
  .next (match if s.reception then x.mode else DabMode.idle with
    | .idle => s
    | .search =>
      if 25000 < foff.natAbs then s
      else if near then
        (((s.setDabMode d .sync).dabFound d ⟨a, l.1, l.2⟩ t foff fibs).dabSync d)
      else s.setDab d { x with lastNull := some t, foff := foff }
    | m =>
      if !near then s
      else
        let s := s.setDabMode d .sync
        let s := if m = .holdover then s.dabSync d else s
        s.dabFound d ⟨a, l.1, l.2⟩ t foff fibs)

/-- DAB_FRAME_MISSED: the expected null was not found, or its PRS check failed: HOLDOVER after two in
succession, SEARCH with fault 0x5202 after FLY (R502, R523). -/
def execDabFrameMissed (d : Fin 2) (s : State) : Host.Outcome State Fault Refusal :=
  let x := s.decoder d
  let fly := Nat.max 2 (s.fld (0xD00 + 0x20 * d) 7 4)
  let n := x.missed + 1
  .next (if x.mode = .idle ∨ x.mode = .search then s
    else
      let s := s.setDab d { x with
        missed := n, lastNull := x.lastNull.map (· + dabPeriod), gap := true
        cif := if x.haveFig00 then (x.cif + 4) % 5000 else 0 }
      let s := if 2 ≤ n ∧ x.mode = .sync then (s.setDabMode d .holdover).dabSync d else s
      let s := if fly ≤ n then
          let s := s.setDabMode d .search
          let s := s.setDab d { s.decoder d with lastNull := none, missed := 0 }
          (s.raise 0x5202 d clsNote).dabSync d
        else s
      s.watchSource)

/-- ACQTIME_EXPIRY: ACQTIME frames after its START the decoder is not READY: ENSEMBLE completes NONE with
reason 5 and the decoder returns to IDLE (R500). -/
def execAcqtimeExpiry (d : Fin 2) (s : State) : Host.Outcome State Fault Refusal :=
  let x := s.decoder d
  let limit := Nat.max 8 (s.fld 0xD40 7 0)
  .next (match x.startReq with
    | some id =>
      if x.startEdge + limit * 456 ≤ s.last.edge then
        let s := s.setDab d { x with startReq := none }
        let s := s.dabReply 11 d id stNone 5 []
        (s.stopDecoder d).watchSource
      else s
    | none => s)

/-! ### CIF boundaries and reconfiguration -/

namespace State

/-- The DESELECTs that wait take effect (R512): the selection ends with its partial data groups. -/
def cifLeave (s : State) (d : Nat) : State :=
  let x := s.decoder d
  let gone := x.sels.filter fun q => q.leaving.isSome
  let parts := (gone.map fun q => (q.groups.filter fun g => g.bytes.isSome).length).sum
  let s := s.setDab d { x with sels := x.sels.filter fun (q : Selection) => q.leaving.isNone }
  let s := { s with intake.abandoned := satAdd 255 s.intake.abandoned parts }
  gone.foldl (fun (s : State) q =>
    let s := q.owed.foldl (fun (s : State) i => s.dabReply 12 d i stNone 2 []) s
    match q.leaving with
    | some i => s.dabReply 12 d i stOk 0 []
    | none => s) s

/-- One selection at a reconfiguration: unchanged, restarted with CHANGED (R506), or ended with REMOVED and
0x5205 (R507).  Without a next configuration every selection counts as CHANGED (Edges of the FIC).
DESIGN CHOICE, unsafe: log entry 39. -/
def cifChange (s : State) (d : Nat) (x : Decoder) (q : Selection) : State :=
  let known := !x.nextMci.isEmpty
  let old := x.sub? q.id
  match x.nextMci.find? fun c => c.id == q.id with
  | some c =>
    if old.any fun o => o.size == c.size && o.prot == c.prot then s
    else
      let y := s.decoder d
      (s.setDab d { y with gap := true, sels := y.sels.map fun (p : Selection) =>
        if p.id = q.id then p.restart else p }).dabSubch d q subchChanged
  | none =>
    let y := s.decoder d
    if known then
      let parts := (q.groups.filter fun g => g.bytes.isSome).length
      let s := { s with intake.abandoned := satAdd 255 s.intake.abandoned parts }
      let s := s.setDab d { y with sels := y.sels.filter fun (p : Selection) => p.id != q.id }
      let s := (s.dabSubch d q subchRemoved).raise 0x5205 d clsNote
      q.owed.foldl (fun (s : State) i => s.dabReply 12 d i stNone 5 []) s
    else
      (s.setDab d { y with gap := true, sels := y.sels.map fun (p : Selection) =>
        if p.id = q.id then p.restart else p }).dabSubch d q subchChanged

/-- The new MCI applied at the announced CIF (R505); without a next configuration none is known until the
first current FIG 0/1 that follows.
DESIGN CHOICE, unsafe: log entry 39. -/
def cifReconfigure (s : State) (d cif : Nat) : State :=
  let x := s.decoder d
  if x.changeAt = some cif then
    let s := x.sels.foldl (fun (s : State) q => s.cifChange d x q) s
    s.setDab d { s.decoder d with mci := x.nextMci, nextMci := [], changeAt := none }
  else s

/-- The selections that take in their sub-channel from this CIF (R510). -/
def cifTakeIn (s : State) (d cif : Nat) : State :=
  let x := s.decoder d
  let starts := fun (q : Selection) => q.fromCif.isNone && decide (q.edge < s.last.edge + 1) &&
    (x.sub? q.id).isSome
  let runs := fun (q : Selection) => starts q || q.fromCif.isSome
  let done := (x.sels.filter runs).flatMap fun q => q.owed.map fun i => (i, cif, s.last.edge)
  s.setDab d { x with
    selDone := x.selDone ++ done
    sels := x.sels.map fun (q : Selection) =>
      if starts q then { q with fromCif := some cif, owed := [], fresh := false }
      else if runs q then { q with owed := [] } else q }

end State

/-- CIF_BOUNDARY: the CIF counted `cif` begins: DESELECTs, an announced reconfiguration, and the
selections that begin with it (R505–R507, R510, R512). -/
def execCifBoundary (d : Fin 2) (cif : Nat) (s : State) : Host.Outcome State Fault Refusal :=
  .next (if (s.decoder d).mode = .idle || !s.reception then s
    else ((s.cifLeave d).cifReconfigure d cif).cifTakeIn d cif)

/-! ### Delivery -/

/-- A complete data group as R519 asks for it, by the group header and CRC of EN 300 401 (log entry 11):
whether its CRC passes and whether intake takes it, its continuity index and its data field. -/
def dataGroup (bytes : List Byte) : Bool × Bool × Nat × List Byte :=
  let n := bytes.length
  let crc := decide (4 ≤ n) && checkedBytes bytes
  (crc, crc && byteAt bytes 0 == 0x40#8, fieldBE bytes 1 1 / 16, (bytes.drop 2).take (n - 4))

namespace State

/-- A complete data group of an address: handed to record intake, a repetition counted, or discarded and
counted (R519, R520). -/
def dabGroup (s : State) (d : Nat) (g : DGroup) (bytes : List Byte) : State × DGroup :=
  let (crc, good, index, field) := dataGroup bytes
  let g := { g with bytes := none }
  let x := s.decoder d
  if !good then
    (s.setDab d { x with
      badGroup := satAdd 255 x.badGroup 1
      qGroups := if crc then x.qGroups else satAdd 65535 x.qGroups 1 }, g)
  else if g.lastDone = some index then
    (s.setDab d { x with repeats := satAdd 0xFFFFFFFF x.repeats 1 }, g)
  else
    let s := if (s.reg 0x280).bit 1 then s.completeBatch (0x80 + d) field [] else s
    (s, { g with lastDone := some index })

/-- One packet of a sub-channel delivered as PACKET (R517, R518): its address's data group begins, grows,
completes or is abandoned. -/
def dabPacket (s : State) (d : Nat) (q : Selection) (p : DabPacket) : State × Selection :=
  let put := fun (g : DGroup) => { q with
    groups := q.groups.map fun (h : DGroup) => if h.addr = g.addr then g else h }
  let x := s.decoder d
  match q.groups.find? fun g => g.addr == p.addr with
  | none => (if p.crcOk then s else s.setDab d { x with badPacket := satAdd 255 x.badPacket 1 }, q)
  | some g =>
    if !p.crcOk then
      (s.setDab d { x with badPacket := satAdd 255 x.badPacket 1 }, put { g with bytes := none })
    else if p.command || p.addr = 0 then (s, q)
    else
      let cur := if p.first then some []
        else if g.bytes.isSome && g.cont != p.cont then none else g.bytes
      let g := { g with cont := (p.cont + 1) % 4, bytes := cur.map fun b => b ++ p.data }
      match g.bytes with
      | some b =>
        if p.last then
          let r := s.dabGroup d g b
          (r.1, put r.2)
        else (s, put g)
      | none => (s, put g)

/-- One CIF of a sub-channel delivered as SUPERFRAME (R514–R516): in sync every five CIFs make a superframe,
sent with its codeword statuses; out of sync the firecode is tested at every CIF. -/
def dabSuper (s : State) (d cif a : Nat) (q : Selection) (c : CifSub) : State × Selection :=
  let got := (cif, a / 65536, c.data) :: q.gathered
  let first := got.getD 4 (cif, a / 65536, c.data)
  let sf := rsSuperframe (got.reverse.flatMap (·.2.2))
  let fire := fireOk sf.2
  let send := fun (s : State) =>
    s.packet 2 (d * 128 + q.id) ⟨s.last.epoch, first.2.1⟩
      (bytesBE 2 first.1 ++ bytesBE 1 sf.1.length ++ sf.1.map (fun x => BitVec.ofNat 8 x) ++ sf.2)
  let count := fun (s : State) =>
    let x := s.decoder d
    let fixed := (sf.1.filter (· == 1)).length
    let bad := (sf.1.filter (· == 2)).length
    s.setDab d { x with
      qCor := satAdd 255 x.qCor fixed, qBad := satAdd 255 x.qBad bad, badRs := satAdd 255 x.badRs bad }
  if got.length < 5 then (s, { q with gathered := got })
  else if !q.inSync then
    if fire then (send (count s), { q with inSync := true, fails := 0, gathered := [] })
    else (s, { q with gathered := got.take 4 })
  else if fire then (send (count s), { q with fails := 0, gathered := [] })
  else if q.fails + 1 < 3 then (send (count s), { q with fails := q.fails + 1, gathered := [] })
  else (s.raise 0x5203 d clsNote, { q with inSync := false, fails := 0, gathered := got.take 4 })

/-- The data of one sub-channel of a de-interleaved CIF, whose count is `cif` and whose anchor, in
1/65 536 tick, `a` (R513–R520). -/
def dabDeliver (s : State) (d cif a : Nat) (c : CifSub) : State :=
  match (s.decoder d).sels.find? fun q => q.id == c.id with
  | none => s
  | some q =>
    let inRun := q.fromCif.any fun f => decide ((cif + 5000 - f) % 5000 < 2500)
    if !inRun then
      let x := s.decoder d
      s.setDab d { x with gap := x.gap || !q.fresh }
    else
      let s := if q.raw then
          s.packet 1 (d * 128 + q.id) ⟨s.last.epoch, a / 65536⟩ (bytesBE 2 cif ++ c.data) else s
      let r := if q.super then s.dabSuper d cif a q c else (s, q)
      let r := if q.packet then
          (splitPackets (c.data.length / 24) c.data).foldl (fun (r : State × Selection) p => r.1.dabPacket d r.2 p) r else r
      let x := r.1.decoder d
      r.1.setDab d { x with sels := x.sels.map fun (p : Selection) => if p.id = q.id then r.2 else p }

end State

/-- CIF_DECODED: the data of a CIF leave the decoder, with its count and its anchor in 1/65 536 tick
(R513–R520). -/
def execCifDecoded (d : Fin 2) (cif anchor : Nat) (subs : List CifSub) (s : State) :
    Host.Outcome State Fault Refusal :=
  .next (if (s.decoder d).mode = .idle || !s.reception then s
    else subs.foldl (fun (s : State) c => s.dabDeliver d cif anchor c) s)

/-- DAB_DECODER_FAILED: the decoder's self-check has failed on two consecutive frames, or its
de-interleaving memory holds a double-bit error (R527). -/
def execDabDecoderFailed (d : Fin 2) (s : State) : Host.Outcome State Fault Refusal :=
  .next (if s.up .broadcast then (s.dabFail d).watchSource else s)

/-! ### Quality -/

namespace State

/-- DAB quality of a superframe: the record kept (Table 12-7), its counts begun afresh, and QUALITY raised
at each period (R457, R524).
DESIGN CHOICE, unsafe: log entry 39. -/
def dabQuality (s : State) (d : Nat) (record : List Byte) : State :=
  let x := s.decoder d
  let flags := bitNat (x.mode == .sync) + 2 * bitNat (x.mode == .holdover) + 4 * bitNat x.ready +
    8 * bitNat (x.gap || (byteAt record 11).getLsbD 3)
  let bytes := (List.range 3).map (byteAt record) ++ bytesBE 2 (satField 16 x.foff) ++
    bytesBE 1 (x.fibHist.filter id).length ++ [byteAt record 6] ++ bytesBE 1 x.qCor ++ bytesBE 1 x.qBad ++
    bytesBE 2 x.qGroups ++ bytesBE 1 flags
  let x := { x with
    quality := some ⟨bytes, sfOf s.last.pp⟩, qCor := 0, qBad := 0, qGroups := 0, gap := false }
  match x.sub with
  | some q =>
    let r := qualityDue q
    let s := s.setDab d { x with sub := some r.2 }
    if r.1 then
      s.radioFor 0x053F q.id (bytesBE 1 d ++ bytesBE 1 x.epoch ++ bytesBE 2 0 ++ bytes)
    else s
  | none => s.setDab d x

end State

/-- FM_QUALITY: a superframe has ended, and with it the quality record of the receiver of a carrier: an FM lane,
whose deviation may have gone beyond ±120 kHz (`aliased`, R414), or a DAB decoder, of which `record` gives
the metrics measured (R454, R457, R524). -/
def execFmQuality (carrier : Nat) (aliased : Bool) (record : List Byte) (s : State) :
    Host.Outcome State Fault Refusal :=
  .next (if carrier < 96 then s.fmQuality carrier aliased
    else if carrier = 0x80 ∨ carrier = 0x81 then s.dabQuality (carrier - 0x80) record
    else s)

end Sys2Proof.Machine
end

