-- ==== Sys2Proof/Machine/MailOps.lean ====
section
/-! DEFINITION. Mailboxes, eyelets and sessions beneath their rows (chapter 16): landing, the marks that
resets set, the closing of a session, and secure messages. -/

namespace Sys2Proof.Machine

open Sys2Proof

/-- The messages of one direction with a mark set where `p` holds, and how many of them it is new to:
STALE, or ORPHAN.
DEDUCED, unsafe: log entry 54. -/
def markSlots (v : Vector (Option Msg) 16) (stale : Bool) (p : Nat → Msg → Bool) :
    Nat × Vector (Option Msg) 16 :=
  let hit : Nat → Option Msg → Bool := fun i m => match m with | some m => p i m | none => false
  let fresh : Nat → Option Msg → Bool := fun i m => match m with
    | some m => p i m && !(if stale then m.stale else m.orphan)
    | none => false
  let n := ((List.range 16).filter fun i => fresh i (vget none v i)).length
  (n, Vector.ofFn fun (i : Fin 16) =>
    let m := v.get i
    if hit i.val m then
      m.map fun (m : Msg) => if stale then { m with stale := true } else { m with orphan := true }
    else m)

namespace State

/-! ### Landing -/

/-- The bench that MB_BIND binds a mailbox to; 5–7 act as 4 (Table 16-7). -/
def bindOf (s : State) (mb : Nat) : Nat := min 4 (s.fld 0x301 (3 * mb + 2) (3 * mb))

/-- Host traffic for bench `b` waits in its slot or RUNG bit: the bench does not run (R661, R670), or the
member is STANDBY (R729). -/
def hostWaits (s : State) (b : Nat) : Bool :=
  s.welt.role == .standby || !((s.bench b).mode == .run || (s.bench b).mode == .replay)

/-- A host message lands on MB0–MB7: at the present position, for the bench now bound (R625, R659, R662);
an active member mirrors it (R724).
DEDUCED, unsafe: log entry 53. -/
def landHost (s : State) (mb : Nat) (bytes : List Byte) : State :=
  let b := s.bindOf mb
  let m : Msg := ⟨bytes, .host, s.now, b, false, false, false, false⟩
  let s := { s with mail.inb := vset s.mail.inb mb (some m) }
  let s := if s.hostWaits b then s else s.queueMail mb s.now
  s.mirror (.hostmsg (.post mb bytes s.now))

/-- The host rings an eyelet of bench `b`: the bit set, and, newly set and enabled, its EYELET event
queued (R668, R669). -/
def ringBench (s : State) (b i : Nat) : State :=
  let rung := vget 0 s.mail.rung (b + 1)
  if rung.bit i then s
  else
    let s := { s with mail.rung := vset s.mail.rung (b + 1) (rung ||| BitVec.ofNat 32 (2 ^ i)) }
    if (vget 0 s.mail.mask (b + 1)).bit i then
      let s := if s.hostWaits b then s else s.queueEyelet b i s.now
      s.mirror (.hostmsg (.ring b i s.now))
    else s

/-! ### Marks set by resets (Table 16-3) -/

/-- Inbound messages marked STALE or ORPHAN.
DEDUCED, unsafe: log entry 54. -/
def markIn (s : State) (stale : Bool) (p : Nat → Msg → Bool) : State :=
  let r := markSlots s.mail.inb stale p
  { s with
    mail.inb := r.2
    mail.stales := if stale then satAdd 255 s.mail.stales r.1 else s.mail.stales
    mail.orphans := if stale then s.mail.orphans else satAdd 255 s.mail.orphans r.1 }

/-- Outbound messages marked STALE or ORPHAN.
DEDUCED, unsafe: log entry 54. -/
def markOut (s : State) (stale : Bool) (p : Nat → Msg → Bool) : State :=
  let r := markSlots s.mail.outb stale p
  { s with
    mail.outb := r.2
    mail.stales := if stale then satAdd 255 s.mail.stales r.1 else s.mail.stales
    mail.orphans := if stale then s.mail.orphans else satAdd 255 s.mail.orphans r.1 }

/-- The EYE_EVT bit of endpoint `e`, set when it is reset with eyelets rung. -/
def flagEyelets (s : State) (e : Nat) : State :=
  if vget 0 s.mail.rung e = 0 then s else { s with mail.eyeEvt := s.mail.eyeEvt ||| 2 ^ e }

/-- Bench `b` leaves HALTED by RESTART. -/
def marksBench (s : State) (b : Nat) : State :=
  let s := s.markIn true fun i m => decide (i < 8) && m.reader == b
  (s.markOut false fun _ m => m.sender == .bench b).flagEyelets (b + 1)

/-- The BENCH domain is powered down: the messages wait for the next run of their benches. -/
def marksBenches (s : State) : State :=
  let s := s.markIn true fun i _ => decide (i < 8)
  let s := s.markOut false fun _ m => match m.sender with | .bench _ => true | .tack => true | _ => false
  let s := [1, 2, 3, 4, 5].foldl (fun (s : State) e => s.flagEyelets e) s
  { s with
    mail.inb := s.mail.inb.map fun (m : Option Msg) => m.map fun (m : Msg) => { m with queued := false }
    mail.ringQueued := Vector.replicate 5 0
    mail.heldPosts := [] }

/-! ### Sessions -/

/-- The session closes, with the SESSION alert cause (R683). -/
def closeSession (s : State) : State :=
  if s.mail.session.mode = .closed ∧ s.mail.session.step.isNone then s
  else
    ({ s with mail.session := { s.mail.session with
        mode := .closed, kind := 0, nonce := [], hostNonce := [], key := [], rxCount := 0
        txCount := 0, step := none } }).alert 10

/-- The KEEPER domain is powered down: its messages marked, its eyelets cleared, the session closed, the
lockout and the failures forgotten, and a staged seal lost (Table 16-3, R843). -/
def marksKeeper (s : State) : State :=
  let keeper : Nat → Bool := fun i => decide (8 ≤ i) && decide (i < 12)
  let s := (s.markIn true fun i _ => keeper i).markOut false fun i _ => keeper i
  let s := { s with mail.rung := vset s.mail.rung 6 0 }
  s.closeSession

/-- A session of a kind that carries secure messages is open (R626, R680). -/
def secureOpen (s : State) : Bool :=
  s.mail.session.mode == .open_ && (s.mail.session.kind == 1 || s.mail.session.kind == 2)

/-- The tag of a secure message: the leftmost 64 bits of the CMAC under the session key (R680). -/
def secureTag (s : State) (dir mb counter : Nat) (payload : List Byte) : List Byte :=
  (Crypto.cmac s.mail.session.key
    (bytesBE 1 dir ++ bytesBE 1 mb ++ bytesBE 4 counter ++ payload)).take 8

/-- The Keeper posts a payload to the host as a secure message; a slot that holds a message refuses it
(R658, R680). -/
def keeperPost (s : State) (mb : Nat) (payload : List Byte) : State :=
  let n := s.mail.session.txCount + 1
  let bytes := bytesBE 4 n ++ payload ++ s.secureTag 1 mb n payload
  match s.postOut mb .keeper bytes s.now with
  | some s => { s with mail.session.txCount := n }
  | none => s

/-- The payload of a secure message as the host sent it, if its counter and its tag are right (R680). -/
def secureBody (s : State) (mb : Nat) (bytes : List Byte) : Option (List Byte) :=
  let n := fieldBE bytes 0 4
  let payload := (bytes.drop 4).take (bytes.length - 12)
  if 13 ≤ bytes.length ∧ n = s.mail.session.rxCount + 1 ∧
      bytes.drop (bytes.length - 8) = s.secureTag 0 mb n payload then some payload
  else none

/-- The Keeper's status reply, to eyelet 0 (Table 16-5, R672). -/
def keeperStatus (s : State) : State :=
  let links := (List.range 16).foldl
    (fun (a : Nat) t => a + bitNat (kget s.mail.keys.link t).isSome * 2 ^ t) 0
  s.keeperPost 8 (bytesBE 1 0x80 ++ bytesBE 1 s.mail.keys.show_.length ++ bytesBE 2 links ++
    bytesBE 1 (bitNat s.mail.keys.site.isSome + 2 * bitNat s.mail.keys.hak.isSome +
      4 * bitNat s.theSeal.sealed))

end State

end Sys2Proof.Machine
end

