-- ==== Sys2Proof/Machine/Hearth.lean ====
section
/-! DEFINITION. The hearth link (chapter 13): plans, slots, bursts and their seal checks, received frames,
beacons and duty. -/

namespace Sys2Proof.Machine

open Sys2Proof

/-! ### Plans -/

/-- The longest run of equal bits in a word, given the bits left, the last bit and its run. -/
def longestRun : List Bool → Bool → Nat → Nat → Nat
  | [], _, run, best => max run best
  | b :: bs, l, run, best => if b = l then longestRun bs l (run + 1) best else longestRun bs b 1 (max run best)

/-- The bits of a 32-bit number, most significant first. -/
def bits32 (w : Nat) : List Bool := (List.range 32).map fun i => w.testBit (31 - i)

/-- A sync word that R537 allows. -/
def syncOk (w : Nat) : Bool :=
  decide (longestRun (bits32 w) (w.testBit 31) 0 0 ≤ 6) &&
    decide (8 ≤ ((bits32 w).zip (bits32 0xAAAAAAAA)).countP fun e => e.1 != e.2)

/-- The 24 role codes of a HEARTH_PLAN block (Table 13-4). -/
def planRoles (blk : List Byte) : List Nat :=
  let w := fieldBE blk 8 9
  (List.range 24).map fun k => w / 8 ^ (23 - k) % 8

namespace State

/-- The hop list that a HEARTH_PLAN block names in the code section; `none` when it does not lie wholly
within it (R537). -/
def planHops (s : State) (blk : List Byte) : Option (List Nat) := match s.prog.image with
  | none => none
  | some i =>
    let n := fieldBE blk 17 1
    let a := 4 * fieldBE blk 20 2
    if a + 2 * n ≤ i.codeLen then
      some ((List.range n).map fun k => natBE (readBytes i.code (a + 2 * k) 2)) else none

/-- The plan of a HEARTH_PLAN block; `none` when R537 refuses it. -/
def planOf (s : State) (blk : List Byte) : Option Plan :=
  let f := fieldBE blk
  let roles := planRoles blk
  let role := fun k => roles.getD k 0
  let n := f 17 1
  let downs := (List.range 24).filter fun k => role k == 1
  let bcns := (List.range 24).filter fun k => role k == 3
  let lvl : Int := (byteAt blk 27).toInt
  match s.planHops blk with
  | none => none
  | some hops =>
    if decide (1 ≤ f 0 1) && decide (f 1 1 ≤ 15) && decide (1 ≤ f 2 2) && decide (f 2 2 ≤ 0xFFFE) &&
        decide (f 22 2 ≤ 259) && decide (1 ≤ f 26 1) && decide (f 26 1 ≤ 8) && decide (1 ≤ f 30 1) &&
        decide (f 30 1 ≤ 64) && downs.all (fun k => decide (k < 12) && role (k + 12) == 0) &&
        bcns.length == 1 && bcns.all (fun k => decide (k < 12) || role (k - 12) != 1) &&
        roles.all (fun r => decide (r < 5)) && f 24 2 != 0 && decide (5 ≤ n) && decide (n ≤ 64) && n != 6 &&
        n != 12 && decide (1 ≤ f 18 1) && decide (f 18 1 < n) && Nat.gcd (f 18 1) n == 1 &&
        hops.all (fun h => decide (h ≤ 259)) && decide (hops.eraseDups.length = n) && syncOk (f 4 4) then
      some ⟨f 0 1, f 1 1, f 2 2, f 4 4, roles, f 18 1, f 19 1, hops, f 22 2, f 24 2, f 26 1, lvl, f 28 2,
        f 30 1, (byteAt blk 31).getLsbD 0⟩
    else none

/-- The reply of a hearth request, 14 HEARTH_PLAN or 15 HEARTH_STATE (R530). -/
def hearthReply (s : State) (code id status reason : Nat) : State :=
  s.reply (0x0600 + code) id status (bytesBE 1 (s.chain 2).epoch ++ bytesBE 1 reason)

/-- A calibration of an HR channel outside any bubble: whether it succeeds (R323) and what it measures are
free values. -/
def calNow (s : State) (ch : Nat) : State :=
  let (b, s) := s.free16
  let (k, s) := s.free16
  let (g, s) := s.free16
  s.calWrite 2 ch (channelHz ch) ⟨g.toNat % 2 = 0, b.toNat % 64, k.toNat % 256, 0, 0⟩

/-- A channel calibrated for the plan when it lacks a fresh entry (R538). -/
def calChannel (s : State) (ch : Nat) : State :=
  let fresh := match s.calFind 2 ch with
    | some e => !s.calStale e.2
    | none => false
  if fresh then s else s.calNow ch

/-- HEARTH_PLAN as it takes effect (R537, R538); a sweep of HR makes it BUSY (R334). -/
def planReq (s : State) (r : Req) : State := match s.planOf r.blk with
  | none => s.hearthReply 14 r.id stNone 1
  | some p =>
    if s.hearth.mode != .stopped then s.hearthReply 14 r.id stNone 2
    else if (s.chain 2).failed then s.hearthReply 14 r.id stNone 3
    else if s.sweeping 2 then s.hearthReply 14 r.id stBusy 0
    else
      let s := { s with hearth.plan := some p }
      let s := (p.hops ++ [p.bcn]).foldl (fun (s : State) c => s.calChannel c) s
      s.hearthReply 14 r.id stOk 0

/-- HEARTH_STATE as it takes effect: START, or STOP at the next slot start (R539). -/
def linkReq (s : State) (r : Req) : State := match fieldBE r.blk 0 1 with
  | 0 =>
    if s.hearth.plan.isNone then s.hearthReply 15 r.id stNone 1
    else if s.hearth.mode != .stopped then s.hearthReply 15 r.id stNone 2
    else if (s.chain 2).failed then s.hearthReply 15 r.id stNone 3
    else if s.sweeping 2 then s.hearthReply 15 r.id stBusy 0
    else
      let s := { s with
        hearth.startId := r.id, hearth.troupeSeq := [], hearth.beaconSeq := 0, hearth.queue := []
        hearth.sched := [], hearth.burst := none, hearth.acks := [] }
      s.setLink .starting 0
  | 1 => { s with hearth.stopping := s.hearth.stopping ++ [r.id] }
  | _ => s.hearthReply 15 r.id stNone 1

/-- The hearth requests issued before the present tick edge. -/
def hearthEdge (s : State) : State :=
  let due := s.hearth.reqs.filter fun (e : Nat × Req) => decide (e.2.edge < s.last.edge)
  let s := { s with hearth.reqs := s.hearth.reqs.filter fun (e : Nat × Req) => !decide (e.2.edge < s.last.edge) }
  due.foldl (fun (s : State) e => if e.1 = 14 then s.planReq e.2 else s.linkReq e.2) s

/-! ### The seal and duty -/

/-- A seal-view register's effective value (Table 13-14). -/
def sealReg (s : State) (a : Nat) : Word := sget (if a = 0x623 then 0x00002855#32 else 0) s.theSeal.view a

/-- The sub-band of a channel: the first valid one whose range holds it (R566). -/
def subBand (s : State) (ch : Nat) : Option Nat :=
  (List.range 8).find? fun a =>
    let w := s.sealReg (0x62D + a)
    w.bit 18 && decide (w.bits 8 0 ≤ ch) && decide (ch ≤ w.bits 17 9)

/-- A channel is in the sealed mask; one in no valid sub-band is not (R566). -/
def maskHolds (s : State) (ch : Nat) : Bool :=
  (s.sealReg (0x624 + ch / 32)).bit (ch % 32) && (s.subBand ch).isSome

/-- The buckets of a sub-band in µs, oldest first. -/
def bucketsOf (s : State) (a : Nat) : List Nat := (kget s.theSeal.buckets a).getD (List.replicate 60 0)

/-- The used airtime of a sub-band in µs (R567). -/
def usedAirtime (s : State) (a : Nat) : Nat := (s.bucketsOf a).sum

/-- The duty limit of a sub-band in µs. -/
def dutyLimit (s : State) (a : Nat) : Nat := (s.sealReg (0x635 + a)).bits 15 0 * 100000

/-- Airtime of a burst added to the present bucket of its sub-band (R567). -/
def addAirtime (s : State) (a us : Nat) : State :=
  let b := s.bucketsOf a
  { s with theSeal.buckets := kput s.theSeal.buckets a (b.dropLast ++ [b.getLastD 0 + us]) }

/-- LBTTIME of the seal is not 0 (R565). -/
def lbtNeeded (s : State) : Bool := (s.sealReg 0x623).bits 15 8 != 0

/-! ### Slots -/

/-- A slot's channel by the hop list (R543). -/
def hopChannel (p : Plan) (slot : Nat) : Nat := p.hops.getD ((slot * p.stride + p.seed) % p.hops.length) 0

/-- A link key. -/
def linkKey (s : State) (t : Nat) : Option (List Byte) := kget s.mail.keys.link t

/-- HR can work a slot: in SYNTH or RX, nobody else's, and in no bubble (R303). -/
def hrReady (s : State) : Bool :=
  let x := s.chain 2
  (x.mode == .synth || x.mode == .rx) && x.trans.isNone && !x.bubbling && !x.held && !x.failed

/-- The next SEQ of a troupe (R544). -/
def nextSeq (s : State) (t : Nat) : Nat := (kget s.hearth.troupeSeq t).getD 0

/-- A dispatched HEARTH tack becomes a frame at the tail of the queue, or its delivery ends at once
(R544, R546, Table 13-8). -/
def hearthDispatch (s : State) (handle : Word) (tparam : Nat) (payload : List Byte) : State :=
  let t := tparam % 16
  if s.hearth.mode != .running then s.frameLost handle 7
  else match s.hearth.plan with
    | none => s.frameLost handle 7
    | some p =>
      if !p.troupes.testBit t then s.frameLost handle 6
      else if (s.linkKey t).isNone then s.frameLost handle 5
      else if 64 ≤ s.hearth.queue.length then s.frameLost handle 0
      else
        let seq := s.nextSeq t
        { s with
          hearth.queue := s.hearth.queue ++
            [⟨handle, t, 8 + tparam / 16 % 8, seq, payload, 0, false, none, 0⟩]
          hearth.troupeSeq := kput s.hearth.troupeSeq t ((seq + 1) % 65536) }

/-- The payload of a beacon (Table 13-9).
DESIGN CHOICE, unsafe: log entry 42. -/
def beaconPayload (s : State) (p : Plan) (acks : List UpTriple) : List Byte :=
  let act := s.welt.role == .solo || s.welt.role == .active
  bytesBE 2 p.site ++ bytesBE 1 (p.hub + 16 * bitNat act + 32 * bitNat s.welt.pri) ++ bytesBE 1 p.id ++
    bytesBE 6 s.hearth.slotStart ++ bytesBE 2 s.last.epoch ++ bytesBE 2 p.troupes ++ bytesBE 1 p.bper ++
    bytesBE 1 acks.length ++
    acks.flatMap fun (u : UpTriple) => bytesBE 3 (u.troupe * 2 ^ 20 + u.target * 256 + u.seq % 256)

/-- The burst of a frame in a slot; `none` without its link key. -/
def frameBurst (s : State) (p : Plan) (f : HFrame) (isB : Bool) (slot : Nat) : Option Burst :=
  (s.linkKey f.troupe).map fun key =>
    ⟨some f, isB, slot, hopChannel p slot,
      frameBytes key (slot / 24 % 2 ^ 32) p.sync (f.troupe * 16 + f.type) f.seq isB (slot % 24) f.payload,
      none, false⟩

/-- The burst that a live slot begins, by its role (R545, R553, Table 13-5).
DESIGN CHOICE, unsafe: log entry 42. -/
def beginSlot (s : State) (p : Plan) (slot : Nat) : State :=
  let k := slot % 24
  let role := p.roles.getD k 0
  let put := fun (s : State) (b : Burst) => { s with hearth.burst := some b }
  if s.silent then s
  else if role = 1 then match s.hearth.queue with
    | [] => s
    | f :: rest => match s.frameBurst p f false slot with
      | some b => put { s with hearth.queue := rest } b
      | none => { s with hearth.queue := rest }.frameLost f.handle 5
  else if role = 3 then
    if slot / 24 % p.bper = 0 then
      let acks := if p.ackUp then s.hearth.acks.take 8 else []
      let s := { s with hearth.acks := [] }
      match s.mail.keys.site with
      | none => s
      | some key =>
        let bytes := frameBytes key (slot / 24 % 2 ^ 32) p.sync (p.hub * 16) s.hearth.beaconSeq false k
          (s.beaconPayload p acks)
        put s ⟨none, false, slot, p.bcn, bytes, none, false⟩
    else s
  else match s.hearth.sched.find? fun b => b.at_ == slot with
    | none => s
    | some b =>
      let s := { s with hearth.sched := s.hearth.sched.filter fun (e : SchedB) => e != b }
      match s.frameBurst p b.frame true slot with
      | some x => put s x
      | none => s.burstBGone b.frame

/-- Bursts B whose slot has passed without them. -/
def dropLateBs (s : State) (slot : Nat) : State :=
  let gone := s.hearth.sched.filter fun b => decide (b.at_ < slot)
  let s := { s with hearth.sched := s.hearth.sched.filter fun (b : SchedB) => !decide (b.at_ < slot) }
  gone.foldl (fun (s : State) b => s.burstBGone b.frame) s

/-! ### The checks of Table 7-11 -/

/-- The first of checks 1–4 that a burst fails (Table 7-11, R566–R568).
DEDUCED, unsafe: log entry 29. -/
def burstRefused (s : State) (b : Burst) : Option Nat :=
  let air := (b.bytes.length + 8) * 40
  if !s.theSeal.sealed then some 1
  else if !s.maskHolds b.chan then some 2
  else if s.radio.paflt || !s.radio.pinPafault then some 3
  else match s.subBand b.chan with
    | none => some 2
    | some a =>
      let sum := s.usedAirtime a + air
      let limit := s.dutyLimit a
      let res := match b.frame, s.hearth.plan with
        | some _, some p => p.bcnRes * 100000
        | _, _ => 0
      if limit < sum ∨ limit - sum < res then some 4 else none

/-- What a refusal by a check raises (Table 7-11, R569).
DEDUCED, unsafe: log entry 29. -/
def refusalNoted (s : State) (b : Burst) (k : Nat) : State :=
  match k with
  | 1 => ({ s with radio.noseal := true }).note 0x3204
  | 2 => ({ s with radio.maskref := true }).note 0x3203
  | 4 =>
    let s := { s with hearth.dutyRef := satAdd 255 s.hearth.dutyRef 1 }
    match s.subBand b.chan with
    | some a =>
      if s.theSeal.dutySf.contains a then s
      else
        let s := { s with theSeal.dutySf := s.theSeal.dutySf ++ [a] }
        (s.raise 0x6301 a clsNote).hlEvent 0x0614
          (bytesBE 1 a ++ bytesBE 2 0 ++ bytesBE 4 (s.usedAirtime a / 1000))
    | none => s
  | _ => s

/-- A burst refused by a check: burst A leaves its burst B scheduled (R548), burst B stands on burst A
(R549), a beacon is not sent (R554). -/
def refuseBurst (s : State) (b : Burst) (k : Nat) : State :=
  let s := { s.refusalNoted b k with hearth.burst := none }
  match b.frame with
  | none => s
  | some f =>
    if b.isB then s.burstBGone { f with refusedA := f.refusedA.orElse fun _ => some k }
    else { s with hearth.sched := s.hearth.sched ++ [⟨{ f with refusedA := some k }, b.slot + 12⟩] }

/-- A burst whose channel LBT finds busy: burst A is deferred to the next live DOWN slot (R547), burst B and
a beacon are refused (R549, R554).
DESIGN CHOICE, unsafe: log entry 42. -/
def busyBurst (s : State) (b : Burst) : State :=
  let s := { s with hearth.burst := none }
  match b.frame with
  | none => s
  | some f =>
    if b.isB then s.burstBGone f
    else { s with hearth.queue := { f with deferred := true } :: s.hearth.queue }

/-- The level in force and its entry of the PA gain table (R571). -/
def txEntry (s : State) (want : Int) : Nat :=
  let most : Int := ((s.sealReg 0x622).setWidth 8).toInt
  Nat.min 15 (Int.fdiv (min want most + 3) 2).toNat

/-- A burst on the air (R288, R567, R571; check 6 of Table 7-11 clamps the level).
DESIGN CHOICE, unsafe: log entry 42. -/
def sendBurst (s : State) (b : Burst) : State :=
  let want := (s.hearth.plan.map fun p => p.level).getD 0
  let most : Int := ((s.sealReg 0x622).setWidth 8).toInt
  let s := if most < want then
      let first := s.radio.clampSf != some s.sfMark
      let s := { s with radio.clamp := true, radio.clampSf := some s.sfMark }
      if first then s.note 0x3202 else s
    else s
  let i := s.txEntry want
  let w := s.sealReg (0x63D + i / 2)
  let s := s.setHr .tx (if i % 2 = 0 then w.bits 12 0 else w.bits 28 16)
  let s := { s with radio.txCount := satAdd 0xFFFFFFFF s.radio.txCount 1 }
  let s := match s.subBand b.chan with
    | some a => s.addAirtime a ((b.bytes.length + 8) * 40 + 16)
    | none => s
  match b.frame with
  | none => { s with
      hearth.burst := some { b with onAir := true }
      hearth.beaconSeq := (s.hearth.beaconSeq + 1) % 65536 }
  | some f =>
    let g := { f with onAir := f.onAir + 1, deferred := false }
    let s := { s with hearth.burst := some { b with onAir := true, frame := some g } }
    if b.isB then
      if f.onAir = 0 then { s with hearth.oneBurst := satAdd 255 s.hearth.oneBurst 1 } else s
    else { s with hearth.sched := s.hearth.sched ++ [⟨g, b.slot + 12⟩] }

end State

/-! ### The rows of the table: slots and bursts -/

/-- HEARTH_RUNNING: at a superframe start a STARTING link is RUNNING and its START completes (R539). -/
def execHearthRunning (s : State) : Host.Outcome State Fault Refusal :=
  .next (if s.hearth.mode = .starting ∧ s.hearth.slotDue = true ∧ s.last.pp % 456 = 0 then
    let t := s.setLink .running 0
    if s.hearth.startId = 0 then t else t.hearthReply 15 s.hearth.startId stOk 0
  else s)

/-- SLOT_START: a slot start has been published: a waiting STOP takes effect (R539); in a live slot HR hops,
cold where R322 says so, and the slot's burst begins (R322, R540, R542, R543, R545, R553, R730). -/
def execSlotStart (s : State) : Host.Outcome State Fault Refusal :=
  .next (if !s.hearth.slotDue then s
    else
      let s := { s with hearth.slotDue := false }
      match s.hearth.stopping with
      | id :: rest =>
        let s := s.stopLink (if (id :: rest).contains 0 then 1 else 0)
        let s := if (s.chain 2).mode = .rx ∨ (s.chain 2).mode = .tx then s.setHr .synth 0 else s
        (id :: rest).foldl (fun (s : State) i => if i = 0 then s else s.hearthReply 15 i stOk 0) s
      | [] => match s.hearth.plan with
        | none => s
        | some p =>
          let slot := s.hearth.slotStart / 19
          let s := s.dropLateBs slot
          if s.hearth.mode != .running || s.hearth.deadSlot || s.stopped || !s.hrReady then s
          else if s.hearth.burst.isSome then { s with hearth.deadSlot := true }
          else
            let chan := if p.roles.getD (slot % 24) 0 = 3 ∧ slot / 24 % p.bper = 0 then p.bcn
              else State.hopChannel p slot
            let s := s.setChain 2 { s.chain 2 with lo := chan, tuned := true }
            let s := if s.calCold 2 chan then s.calNow chan else s
            (s.setHr .rx 0).beginSlot p slot)

/-- LBT_RESULT: the LBT window of the slot's burst ends with the average RSSI in dBm (R565): busy defers or
refuses the burst unless an earlier check refuses it (R547, R549, R554). -/
def execLbtResult (rssi : Int) (s : State) : Host.Outcome State Fault Refusal :=
  .next (match s.hearth.burst with
    | none => s
    | some b =>
      if b.onAir ∨ b.lbt.isSome = true ∨ s.lbtNeeded = false then s
      else
        let thr : Int := -((s.sealReg 0x623).bits 7 0 : Int)
        if thr < rssi then
          match s.burstRefused b with
          | some k => s.refuseBurst b k
          | none => { s with hearth.lbtBusy := satAdd 255 s.hearth.lbtBusy 1 }.busyBurst b
        else { s with hearth.burst := some { b with lbt := some true } })

/-- BURST_TRANSMIT: the slot's burst is checked and transmitted, or refused (R292, R548, R549, R566–R571). -/
def execBurstTransmit (s : State) : Host.Outcome State Fault Refusal :=
  .next (match s.hearth.burst with
    | none => s
    | some b =>
      if b.onAir ∨ s.hrReady = false ∨ (s.lbtNeeded = true ∧ b.lbt.isNone = true) then s
      else match s.burstRefused b with
        | some k => s.refuseBurst b k
        | none => s.sendBurst b)

/-- BURST_END: the last bit is sent and HR returns to RX (R289, R290, Table 13-7). -/
def execBurstEnd (s : State) : Host.Outcome State Fault Refusal :=
  .next (match s.hearth.burst with
    | some b => if b.onAir then { s.setHr .rx 0 with hearth.burst := none } else s
    | none => s)

/-- MAXWAIT_TIMEOUT: a queued frame has seen MAXWAIT + 1 superframe starts since its dispatch: TIMEOUT, or
BUSY after a deferral (R546, Table 13-8). -/
def execMaxwaitTimeout (handle : Word) (s : State) : Host.Outcome State Fault Refusal :=
  let wait := (s.hearth.plan.map fun p => p.maxWait).getD 1
  .next (match s.hearth.queue.find? fun f => f.handle == handle && decide (wait < f.starts) with
    | some f =>
      { s with hearth.queue := s.hearth.queue.filter fun (g : HFrame) => g.handle != handle }.frameLost handle
        (if f.deferred then 2 else 1)
    | none => s)

/-- DUTY_BUCKET_ROLL: 60 s of the reference clock have passed: every sub-band takes a new bucket
(R567, R569). -/
def execDutyBucketRoll (s : State) : Host.Outcome State Fault Refusal :=
  .next (if s.clk.refOk ∧ s.supply.power ≠ .sleep ∧ s.supply.power ≠ .off then
    { s with theSeal.dutySf := [], theSeal.buckets :=
        s.theSeal.buckets.map fun (e : Nat × List Nat) => (e.1, e.2.drop 1 ++ [0]) }
  else s)

/-! ### Reception -/

/-- What a slot receives: 0 nothing, 1 uplinks, 2 other hubs' frames (R541, R556, R559, R730). -/
def slotHears (s : State) (p : Plan) : Nat :=
  let k := s.hearth.slotStart / 19 % 24
  let role := p.roles.getD k 0
  if role = 2 then 1
  else if role = 4 then 2
  else if s.silent && (role == 1 || role == 3 || (decide (12 ≤ k) && p.roles.getD (k - 12) 0 == 1)) then 2
  else 0

namespace State

/-- A frame that fails its check, counted for its slot (Table 13-14). -/
def rxFail (s : State) (hears : Nat) (mac : Bool) : State :=
  if hears = 1 then
    if mac then { s with hearth.upMac := satAdd 255 s.hearth.upMac 1 }
    else { s with hearth.upCrc := satAdd 255 s.hearth.upCrc 1 }
  else { s with hearth.rxBad := satAdd 65535 s.hearth.rxBad 1 }

/-- HL_BEACON (Table 13-12). -/
def beaconEvent (s : State) (hub flags plan source : Nat) : State :=
  s.hlEvent 0x0613 (bytesBE 1 hub ++ bytesBE 1 flags ++ bytesBE 1 plan ++ bytesBE 1 source)

/-- A beacon accepted: the HEARTH source (R555, Table 2-2), the arbiter of a pair (R737, R739, R740), and
HL_BEACON when its flags or plan ID, or the source's standing, have changed (R556). -/
def rxBeacon (s : State) (p : Plan) (payload : List Byte) : State :=
  let hub := fieldBE payload 2 1 % 16
  let flags := fieldBE payload 2 1
  let plan := fieldBE payload 3 1
  if fieldBE payload 0 2 ≠ p.site then s
  else
    let ctrl := s.reg 0x608
    let mine := ctrl.bit 8 && ctrl.bits 7 4 == hub
    let was := s.hearth.bcnQual
    let run := Nat.min 2 (s.hearth.bcnRun + 1)
    let s := if mine then
        { s with hearth.bcnRun := run, hearth.bcnMiss := 0, hearth.bcnQual := was || run == 2 } else s
    let gained := s.hearth.bcnQual && !was
    let s := if hub = p.hub ∧ flags.testBit 4 = true then
        let told := s.welt.role != .parted || s.welt.heard
        let s := { s with
          welt.lastBeacon := ⟨s.last.epoch, s.hearth.slotStart⟩, welt.absences := 0
          welt.heard := s.welt.heard || s.welt.role == .parted }
        if told then s else s.note 0xA202
      else s
    let told := s.hearth.beaconRep.any fun e => e == (hub, flags, plan)
    let s := { s with hearth.beaconRep :=
        (s.hearth.beaconRep.filter fun (e : Nat × Nat × Nat) => e.1 != hub) ++ [(hub, flags, plan)] }
    if told && !gained then s else s.beaconEvent hub flags plan (if gained then 1 else 2)

/-- An uplink frame accepted (R559, R560). -/
def rxUplink (s : State) (troupe seq : Nat) (rssi : Int) (payload : List Byte) : State :=
  let target := fieldBE payload 0 2 % 4096
  let u : UpTriple := ⟨troupe, target, seq⟩
  let again := s.hearth.triples.contains u
  let s := { s with
    hearth.triples := (u :: s.hearth.triples.filter fun (v : UpTriple) => v != u).take 64
    hearth.upOk := satAdd 65535 s.hearth.upOk 1
    hearth.acks := s.hearth.acks ++ [u] }
  if again then s
  else
    s.hlEvent 0x0611 (bytesBE 1 troupe ++ bytesBE 2 target ++ bytesBE 2 seq ++ bytesBE 1 (-rssi).toNat ++
      bytesBE 1 payload.length ++ payload)

/-- The anchor of a GHEHAFA burst: the start at the antenna of the slot of burst A (R103, Table 3-5).  For burst
B it lies 228 ticks before the slot that was received, and a step made since bars it (R54, R890).
DEDUCED, safe: log entry 43. -/
def hearthAnchor (s : State) (offset : Int) (isB : Bool) : Anchor :=
  let t : Int := (s.hearth.slotStart : Int) * 65536 + Int.fdiv ((offset - 512) * 311296) 1000 -
    (if isB then 228 * 65536 else 0)
  let epoch := if isB then (s.last.latched (s.last.edge - s.hearth.slotEdge + 228)).2 else s.hearth.slotEpoch
  ⟨t.toNat, s.hearth.slotCorr, epoch⟩

/-- A downlink frame of another hub (R556, R557). -/
def rxDownlink (s : State) (type troupe seq sf : Nat) (isB : Bool) (offset : Int) (payload : List Byte) :
    State :=
  let dup := s.hearth.heard.any fun h =>
    h.troupe == troupe && h.type == type && h.seq == seq && (h.sf == sf || h.sf + 1 == sf)
  if dup then { s with hearth.rxBad := satAdd 65535 s.hearth.rxBad 1 }
  else
    let s := { s with
      hearth.heard := ⟨troupe, type, seq, sf⟩ :: s.hearth.heard.filter fun (h : HeardFrame) =>
        h.sf == sf || h.sf + 1 == sf
      hearth.rxOk := satAdd 65535 s.hearth.rxOk 1 }
    if type = 9 then
      if (s.reg 0x280).bit 2 then s.completeBatch 0x90 payload [s.hearthAnchor offset isB] else s
    else
      let ctrl := s.reg 0x608
      s.hlEvent 0x0612 (bytesBE 1 troupe ++ bytesBE 1 type ++ bytesBE 2 seq ++
        bytesBE 1 (if ctrl.bit 8 then ctrl.bits 7 4 else 0xFF) ++ bytesBE 1 0 ++
        bytesBE 1 payload.length ++ payload)

/-- HR's antenna and gain pick (R282, R297, R298, Table 7-12): with ANTDIV the second antenna is kept when its
quality exceeds the first's by the hysteresis; without it ANTSEL holds ANTFIX. -/
def pickAntenna (s : State) (rx : HearthRx) : State :=
  let ctrl := s.reg 0x600
  let second := ctrl.bit 4 && decide (rx.quality < rx.quality2) &&
    decide (rx.quality + ctrl.bits 19 16 ≤ rx.quality2)
  let s := { s with radio.pinAntsel := if ctrl.bit 4 then s.radio.pinAntsel != second else ctrl.bit 5 }
  s.setChain 2 { s.chain 2 with gain := Nat.min 14 (if second then rx.gain2 else rx.gain) }

end State

/-- HEARTH_FRAME_RX: a burst received in the present slot: HR's antenna and gain pick (R282, R297, R298),
acceptance (R536, R541), and its routing (R555–R560).
DESIGN CHOICE, safe: log entry 5. -/
def execHearthFrameRx (rx : HearthRx) (s : State) : Host.Outcome State Fault Refusal :=
  .next (match s.hearth.plan with
    | none => s
    | some p =>
      let hears := slotHears s p
      if s.hearth.mode != .running || hears == 0 || s.hearth.deadSlot || (s.chain 2).deaf then s
      else
        let s := s.pickAntenna rx
        let b := rx.bytes
        let h0 := fieldBE b 0 1
        let type := h0 % 16
        let troupe := h0 / 16
        let seq := fieldBE b 1 2
        let len := fieldBE b 4 1
        let payload := (b.drop 5).take len
        let sf := s.hearth.slotStart / 456
        if 1 < rx.syncErrs ∨ 40 < (rx.offset - 500).natAbs then s
        else if 48 < len ∨ b.length ≠ len + 11 ∨
            fieldBE b (len + 9) 2 ≠ (crc16 (b.take (len + 9))).toNat then s.rxFail hears false
        else if 2 ≤ type ∧ type ≤ 7 then if hears = 1 then s else s.rxFail hears false
        else
          let key := if type = 0 then s.mail.keys.site else s.linkKey troupe
          let good := key.any fun k =>
            decide (hearthMac k (sf % 2 ^ 32) p.sync h0 seq payload = (b.drop (len + 5)).take 4)
          if !good then s.rxFail hears true
          else if hears = 1 then
            if type = 1 ∧ p.troupes.testBit troupe = true ∧ 2 ≤ len then s.rxUplink troupe seq rx.rssi payload
            else s
          else if type = 0 then { s with hearth.rxOk := satAdd 65535 s.hearth.rxOk 1 }.rxBeacon p payload
          else if type = 1 then { s with hearth.rxBad := satAdd 65535 s.hearth.rxBad 1 }
          else s.rxDownlink type troupe seq sf ((fieldBE b 3 1).testBit 7) rx.offset payload)

/-- BEACON_MISSED: a beacon that was due has not arrived: the partner's, which a PARTED member counts as
absent (R737), or that of BCNHUB, whose third miss in succession ends the HEARTH source (R555,
Table 2-2). -/
def execBeaconMissed (own : Bool) (s : State) : Host.Outcome State Fault Refusal :=
  .next (if own then
    if s.welt.role = .parted then { s with welt.arbitrating := true, welt.absences := s.welt.absences + 1 }
    else s
  else if !(s.reg 0x608).bit 8 then s
  else
    let n := Nat.min 3 (s.hearth.bcnMiss + 1)
    let lost := s.hearth.bcnQual && n == 3
    let s := { s with hearth.bcnMiss := n, hearth.bcnRun := 0, hearth.bcnQual := s.hearth.bcnQual && n != 3 }
    if lost then
      let hub := s.fld 0x608 7 4
      let rep := (s.hearth.beaconRep.find? fun e => e.1 == hub).getD (hub, 0, 0)
      ((s.note 0x6401).beaconEvent hub rep.2.1 rep.2.2 0).watchSource
    else s)

end Sys2Proof.Machine
end

