-- ==== Sys2Proof/Machine/Targets.lean ====
section
/-! DEFINITION. The dispatch of tacks (chapter 6): the digest, and what each target makes of a tack. -/

namespace Sys2Proof.Machine

open Sys2Proof

namespace State

/-- The seal view reports the seal not programmed, or its channel mask empty (R243). -/
def sealShut (s : State) : Bool :=
  !s.theSeal.sealed || (List.range 9).all fun i => s.sealReg (0x624 + i) == 0

/-- GPIO_OUT LEVEL with the pins of a mask set to given levels (R230, R847). -/
def gpioTack (s : State) (mask levels : Nat) : State :=
  let keep := s.infra.gpioLevel &&& (mask ^^^ 0xFF)
  { s with infra.gpioLevel := keep ||| (levels &&& mask) }

/-- A MAIL tack: the message posted, and the eyelet rung when it lands; with PLEN 0 the ring alone
(R658, R663, R664). -/
def mailTack (s : State) (t : Tack) (p : Pos) : State :=
  let mb := t.tparam % 8
  let e := t.tparam / 8 % 32
  if t.plen = 0 then s.ringHost e
  else match s.postOut mb .tack (t.payload.take t.plen) p with
    | some s => s.ringHost e
    | none => { s.postRefused mb with tack.failMail := satAdd 255 (s.postRefused mb).tack.failMail 1 }

/-- A tack handed to its target (Table 6-1). -/
def handTack (s : State) (t : Tack) (p : Pos) : State :=
  let payload := t.payload.take t.plen
  if t.target = 1 then s.hearthDispatch t.handle t.tparam payload
  else if 2 ≤ t.target ∧ t.target ≤ 5 then s.irSend (t.target - 2) t.tparam payload t.handle
  else if t.target = 6 then s.gpioTack t.tparam (fieldBE payload 0 1)
  else if t.target = 7 then s.mailTack t p
  else if t.target = 8 then s.audioMarker t.tparam t.handle ⟨p.epoch, t.due⟩ payload
  else s.packet 8 0 ⟨p.epoch, t.due⟩ (bytesBE 4 t.handle.toNat ++ payload)

/-- A tack dispatched silently (R722, R848): only GPIO_OUT LEVEL follows it; it is kept for a takeover. -/
def silentTack (s : State) (t : Tack) (p : Pos) : State :=
  let s := if t.target = 6 then s.gpioTack t.tparam (fieldBE (t.payload.take t.plen) 0 1) else s
  { s with welt.silent := s.welt.silent ++ [(t, p)] }

/-- One tack dispatched at position `p`: its status, its bytes in the digest, its completion and its
target (R240, R243, R249, R252, R253). -/
def dispatchTack (s : State) (t : Tack) (p : Pos) : State :=
  let shut := t.target == 1 && s.sealShut
  let status := if shut then stSealed else if t.late then stLate else stOk
  let s := { s with
    tack.crc := crcBytes s.tack.crc (digestBytes t)
    tack.inReport := s.tack.inReport + 1
    tack.disp := satAdd 0xFFFFFFFF s.tack.disp 1 }
  let s := s.complete t status (if shut then 5 else 0) p (p.pp - t.due)
  if shut then s else if s.silent then s.silentTack t p else s.handTack t p

/-- The tacks that position `p` dispatches: those due at its PP and those set for dispatch at once. -/
def dueTacks (s : State) (p : Pos) : List Tack :=
  sortTacks (s.tack.pending.filter fun t => t.late || t.due == p.pp)

end State

/-! ### The rows of the table -/

/-- TACK_DISPATCH: the store dispatches the oldest published position that it has not dispatched, once its
entries have been applied (R157, R240, R241, R242); not while the Last is stopped (R78), and not outside
RUN (R19).
DESIGN CHOICE, unsafe: log entry 9. -/
def execTackDispatch (s : State) : Host.Outcome State Fault Refusal :=
  .next (if s.supply.power ≠ .run then s
  else
    let s := s.storeWork
    match s.tack.due with
    | [] => s
    | d :: ds =>
      if s.stopped || !d.entered then s
      else
        let ts := s.dueTacks d.pos
        let s := { s with
          tack.pending := s.tack.pending.filter fun t => !(t.late || t.due == d.pos.pp)
          tack.due := ds }
        let s := ts.foldl (fun (s : State) t => s.dispatchTack t d.pos) s
        ({ s with tack.lastDone := some d.pos }).watchTacks.storeWork.compareDigests)

end Sys2Proof.Machine
end

