-- ==== Sys2Proof/Machine/PowerOps.lean ====
section
/-! DEFINITION. Power beneath its rows (chapters 1 and 19): the removal and the powering of domains, the moves
between power states, and the resets of the device. -/

namespace Sys2Proof.Machine

open Sys2Proof

namespace State

/-- The state of a domain set. -/
def setDom (s : State) (d : Domain) (m : DomMode) : State :=
  { s with supply.dom := vset s.supply.dom d.ctorIdx m }

/-- The domains that a domain depends on are up (R18, Table 1-2). -/
def depsUp (s : State) : Domain → Bool
  | .host => true
  | .keeper => s.up .host
  | .bench => s.up .host && s.up .keeper
  | .broadcast | .hearth => s.up .bench

/-- A removed domain begins to power up once what it depends on is up (R18). -/
def powerOn (s : State) (d : Domain) : State :=
  if s.depsUp d = true ∧ s.supply.dom[d.ctorIdx]? = some .down then s.setDom d .powering else s

/-- The device power state changed, with the POWER alert cause (Table 15-5). -/
def setPower (s : State) (p : Power) : State := ({ s with supply.power := p }).alert 4

/-! ### Removing domains (R18, R21, R812) -/

/-- HEARTH removed: HR and the hearth link reset as blocks, a FAILED HR staying so (R32); the frames still
queued have delivery outcome ABORTED_BY_RESET (R813, R818).
DESIGN CHOICE, unsafe: log entry 47. DEDUCED, unsafe: log entry 59. -/
def lowerHearth (s : State) : State :=
  let s := if s.up .hearth then
      let s := s.resetChain 2 none
      { s with tack.failHearth := satAdd 255 s.tack.failHearth s.hearth.queue.length }
    else s
  let s := (s.setChain 2 { Chain.init with failed := (s.chain 2).failed }).clearRegs 0x600 0x61F
  { s with
    hearth := Hearth.init, radio.paflt := false, radio.clamp := false, radio.maskref := false
    radio.noseal := false, radio.clampSf := none, radio.txCount := 0 }
    |>.setDom .hearth .down |>.watchSource

/-- Requests that wait in the lanes, the receivers and FOLLOW when their domain goes down (R813).
DESIGN CHOICE, safe: log entry 31. -/
def abortReception (s : State) : State :=
  let s := (List.range 102).foldl (fun (s : State) n => if (s.lane n).use = .free then s else s.resetLane n) s
  let lanes := s.lanes.reqs
  let fms := s.fm.reqs
  let follows := s.follow.reqs
  let s := { s with lanes.reqs := [], fm.reqs := [], follow.reqs := [] }
  s.abortAll ((lanes.map fun (q : LaneReq) =>
      (q.req.id, if q.release then 0x0402 else 0x0401,
        bytesBE 1 (if q.lane < 102 then (s.lane q.lane).epoch else 0) ++ bytesBE 1 0 ++ bytesBE 1 q.lane)) ++
    (fms.map fun (q : Req) => (q.id, 0x0508, bytesBE 2 0 ++ bytesBE 1 (fieldBE q.blk 1 1))) ++
    follows.map fun (q : Nat × Req) =>
      (q.2.id, 0x0A00 + q.1, bytesBE 1 (s.carrierEpoch (fieldBE q.2.blk 2 1)) ++ bytesBE 1 0))

/-- The lane array as after a reset, but for what has FAILED and not been returned (R32, R409). -/
def lanesDown (s : State) : Lanes :=
  { Lanes.init with
    underFailed := s.lanes.underFailed, wideFailed := s.lanes.wideFailed
    lane := s.lanes.lane.filterMap fun (e : Nat × Lane) =>
      let x := e.2
      if x.failed || x.under.isSome || x.returned || x.bare then
        some (e.1, { Lane.init with failed := x.failed, under := x.under, returned := x.returned, bare := x.bare })
      else none }

/-- BROADCAST removed: the broadcast chains, the lanes, the receivers and the decoders reset as blocks, the
infrared channels go OFF with their lanes, and the outputs lose their sources.  What has FAILED stays out of
service (R32), and a failed chain keeps the other in ALONE (R286).
DESIGN CHOICE, unsafe: log entry 47. -/
def lowerBroadcast (s : State) : State :=
  let s := if s.up .broadcast then
      let s := ((s.resetChain 0 none).resetChain 1 none).abortReception
      let s := ((s.dabReset 0).dabReset 1).rxOff 0
      let s := s.rxOff 1
      (List.range 102).foldl (fun (s : State) n => if (s.lane n).use = .free then s else s.freeLane n) s
    else s
  let bad := fun c => (s.chain c).failed
  let down := fun c => { Chain.init with failed := bad c }
  let s := ((s.setChain 0 (down 0)).setChain 1 (down 1)).clearRegs 0x500 0x5FF
  let s := s.clearRegs 0x800 0xDFF
  { s with
    radio.mode := if bad 0 || bad 1 then 2 else 0, radio.survivor := if bad 0 then 1 else 0
    lanes := s.lanesDown, fm := Fm.init, follow := Follow.init
    dab := s.dab.map fun (x : Decoder) => { Decoder.init with failed := x.failed } }
    |>.setDom .broadcast .down |>.watchSource

/-- BENCH removed (R761): the mailboxes marked, the Last, intake, benches, tack store and welt link as after a
reset, pending tacks without completion (R248), bench 4's requests without a reply (R817), and a
calibration commit abandoned with its table.
DESIGN CHOICE, unsafe: log entry 47. DESIGN CHOICE, unsafe: log entry 58. -/
def lowerBench (s : State) : State :=
  let s := s.marksBenches
  let s := if s.store.commit = .idle then s else s.abandonCommit
  let s := ((s.clearRegs 0x100 0x2FF).clearRegs 0x410 0x4FF).clearRegs 0xE00 0xEFF
  { s with
    last := Last.init, intake := Intake.init, prog := Program.init, tack := TackStore.init
    welt := { Welt.init with pri := s.welt.pri }
    clk.table := [], clk.sweep := none, clk.cals := 0, clk.calFails := 0, clk.evictions := 0
    clk.latch1 := 0, clk.drift := 10, clk.bgMode := true
    infra.reqs := [], port.routeReqs := []
    port.aud := s.port.aud.map fun (a : Audio) => { a with markers := [] }
    regWrites := s.regWrites.map fun (w : RegWrite) => { w with edge := 0 } }
    |>.setDom .bench .down

/-- KEEPER removed: its marks, the session closed, a staged seal lost (Table 16-3, R843).
DESIGN CHOICE, unsafe: log entry 47. -/
def lowerKeeper (s : State) : State :=
  let s := s.marksKeeper
  let s := { s with
    mail.session := { Session.init with number := s.mail.session.number }
    theSeal.view := if s.theSeal.sealed then s.theSeal.otp else []
    theSeal.result := .ok
    store.ivkView := [], store.chunk := [], store.recheck := none, mail.provCmd := none }
  (s.clearRegs 0xF00 0xFFF).setDom .keeper .down

/-- HOST removed: bus, ports, infrared, GPIO and fault log as after a reset, but for what the Sole holds and
the strap address (R804, Table 1-2).
DESIGN CHOICE, unsafe: log entry 47. DESIGN CHOICE, unsafe: log entry 58. -/
def lowerHost (s : State) : State :=
  let s := (((s.clearRegs 0x000 0x0FF).clearRegs 0x300 0x3FF).clearRegs 0x400 0x40F).clearRegs 0x700 0x7FF
  { s with
    flt := FaultLog.init, port := Port.init, infra := Infra.init
    bus := { Bus.init with
      addr := s.bus.addr, strap0 := s.bus.strap0, strap1 := s.bus.strap1, latched := 0
      sleepAlert := s.bus.sleepAlert }
    clk.evt := 0, clk.limpKHz := 0
    mail := { s.mail with
      timeouts := 0, stales := 0, orphans := 0, refused := 0, refusedSf := [], latch := [] } }
    |>.setDom .host .down

/-! ### Moves between power states (R759–R763) -/

/-- RUN to IDLE: HEARTH, BROADCAST and BENCH removed in the order of R18 (R761); an on-demand Awl run is
lost. -/
def toIdle (s : State) : State :=
  let s := s.lowerHearth.lowerBroadcast.lowerBench
  let s := { s with awl.running := false, supply.moving := false, supply.starting := false }
  s.setPower .idle

/-- IDLE to RUN: BENCH powers up first, once KEEPER is up, and the device is in IDLE until the move has
ended (R18, R760).
DEDUCED, unsafe: log entry 73. -/
def toRun (s : State) : State := ({ s with supply.moving := true }).powerOn .bench

/-- A mailbox wake (R665, R763): in IDLE with a committed image held, the device moves to RUN.
DEDUCED, unsafe: log entry 73. -/
def mailWake (s : State) : State :=
  if s.supply.power = .idle ∧ s.committed = true ∧ s.supply.moving = false then s.toRun else s

/-- IDLE to SLEEP: only the Sole stays powered, holding ALERT# at its level (R635, R758).
DESIGN CHOICE, unsafe: log entry 58. -/
def toSleep (s : State) : State :=
  let s := { s with bus.sleepAlert := s.alertDriven }
  ({ (s.lowerKeeper.lowerHost) with supply.power := .sleep })

/-- The device takes its reference from REFIN when the edges that it counts there in 100 µs lie within
3400–4300 (R312). -/
def refChosen (count : Nat) : Bool := decide (3400 ≤ count) && decide (count ≤ 4300)

/-- SLEEP to IDLE: HOST powers up, KEEPER after it (R18, R762), and the reference is chosen anew (R312); it
counts as present until the monitor declares its loss.
DESIGN CHOICE, unsafe: log entry 79. -/
def wake (s : State) (refCount : Nat) : State :=
  (({ s with
    supply.power := .idle, clk.refIn := refChosen refCount, clk.refOk := true }).setDom .host .powering).alert 4

/-! ### Resets (R753–R757) -/

/-- The operation in progress as a POWERFAIL record names it: the kind and step of its journal record
(Table 19-12); 0 for an OTP operation and for none.
DEDUCED, unsafe: log entry 57. -/
def opNamed (s : State) : Nat × Nat := match s.store.op with
  | some .instErase => (1, 1)
  | some .instPage => (1, 2)
  | some (.instRecord k) => (1, k)
  | some .key => (3, 0)
  | some (.boot _) => (4, 0)
  | some _ => (5, 0)
  | none => match s.store.commit with
    | .idle => (0, 0)
    | .erase => (2, 2)
    | .program => (2, 3)
    | .check => (2, 4)
    | .record => (2, 5)

/-- The store as it stands after a reset has cut whatever ran in it: the flash, the journal and the IVK; the
key store, and the seal OTP, lie beside it. -/
def cutStore (x : Store) : Store :=
  { x with
    op := none, recheck := none, chunk := [], commit := CommitStep.idle, got := 0, chunksLost := 0
    ivkView := [], evt := 0, need := 0, inst := .none, instAt := .none, boot := 0, sweepLost := false }

/-- Everything reset but what the reset keeps (Table 19-3): the flash store, keys and seal OTP always, Sole
storage where `sole`; the pins stand as they are.  The device waits in reset with every domain down. -/
def wipe (s : State) (sole : Bool) : State :=
  let m := if sole then s.marksBenches.marksKeeper.mail else { Mail.init with keys := s.mail.keys }
  { State.reset with
    mail := { Mail.init with
      keys := s.mail.keys, inb := m.inb, outb := m.outb, rung := m.rung, mask := m.mask
      eyeEvt := m.eyeEvt }
    theSeal := { SealState.init with
      sealed := s.theSeal.sealed, used := s.theSeal.used, tried := s.theSeal.tried, otp := s.theSeal.otp
      view := if s.theSeal.sealed then s.theSeal.otp else []
      buckets := if sole then s.theSeal.buckets else []
      dutySf := if sole then s.theSeal.dutySf else [] }
    store := s.store
    bus := { Bus.init with addr := s.bus.addr, strap0 := s.bus.strap0, strap1 := s.bus.strap1 }
    welt := { Welt.init with pri := s.welt.pri }
    clk := { Clocks.init with refIn := s.clk.refIn }
    infra := Infra.init
    awl := { Awl.init with running := false, powerUp := false }
    supply := { s.supply with
      power := .reset, dom := #v[.down, .down, .down, .down, .down], moving := false, starting := false }
    freeCtr := s.freeCtr, pending := s.pending }

/-- A fresh POWERFAIL record: its SEQ is higher than that of the standing BOOT record (R757). -/
def freshFail (s : State) : Option JRec := match s.standing .powerfail, s.standing .boot with
  | some p, some b => if b.seq < p.seq then some p else none
  | some p, none => some p
  | none, _ => none

/-- The operation that a POWERFAIL record names. -/
def failNames (r : JRec) : Bool := fieldBE r.body 0 1 != 0

/-- A bank of flash found invalid. -/
def spoilBank (s : State) (b : Bool) : State :=
  s.setBank b { s.bank b with valid := false, ver := 0, digest := [] }

/-- The journal recovered (R754, R780, R790, R794): STORE_BOOT from the BOOT record, an install cut by the
reset ABANDONED with its target INVALID, a VERIFIED or COMMITTED one kept, a sweep or commit found cut.
A record whose write the reset cut is torn, and stays in the journal as one.
DEDUCED, unsafe: log entry 57. DEDUCED, safe: log entry 66. -/
def recoverJournal (s : State) : State :=
  let torn : Bool := match s.store.op with
    | some (.instRecord _) => true
    | some (.boot _) => true
    | some .key => true
    | _ => s.store.commit == .record
  let commit := s.store.commit != .idle
  let s := { s with store := cutStore s.store }
  let s := if torn then s.journalAdd (List.replicate 64 0) else s
  let torn := s.store.journal.flatten.any fun r => (jrecOf r).isNone
  let boot := match s.standing .boot with
    | some r => fieldBE r.body 0 1 % 2 + 2 * (fieldBE r.body 1 1 % 2)
    | none => 0
  let s := { s with
    store.boot := boot
    store.sweepLost := match s.standing .cal with | some r => r.step == calStepSweep | none => false
    store.evt := 2 * bitNat torn + 8 * bitNat commit +
      16 * bitNat (match s.freshFail with | some r => failNames r | none => false) }
  let s := match s.standing .install with
    | none => s
    | some r =>
      let b := fieldBE r.body 0 1 == 1
      let s := { s with store.target := b, store.imgLen := fieldBE r.body 2 4 }
      if r.step ≤ 3 then
        let at_ : InstStep := if r.step = 1 then .erasing else if r.step = 2 then .programming else .verifying
        ({ s with
          store.inst := .abandoned, store.instAt := at_, store.evt := s.store.evt ||| 4
          store.got := (s.bank b).bytes.length }).spoilBank b
      else if r.step = 4 then { s with store.inst := if (s.bank b).valid then .verified else .none }
      else { s with store.inst := .committed }
  if torn then s.note 0xB301 else s

/-- AWL_HOLD entered after a reset: straps sampled, the journal recovered, HOST, KEEPER and BENCH powered, the
power-up Awl running, POWER pending (R613, R754, R768; STORE_BOOT HOLD clears as the Awl starts, Table 19-8).
DESIGN CHOICE, unsafe: log entry 20. -/
def enterHold (s : State) : State :=
  let s := { s with
    supply.power := .hold, supply.hiZ := false, supply.dom := #v[.up, .up, .up, .down, .down]
    bus.addr := 0x38 + 3 * s.bus.strap1 + s.bus.strap0
    awl := Awl.init
    supply.rstCause := s.supply.rstCause +
      256 * bitNat (match s.freshFail with | some r => failNames r | none => false) }
  let s := s.recoverJournal
  let hold := s.store.boot / 2 % 2
  ({ s with store.boot := s.store.boot % 2, awl.cause := 4 * hold }).loadTable

/-- The device leaves reset once both supplies are good, RESET# is high and no POWERFAIL sequence runs
(R748, R750, R755); with a TEST ball high it stays in reset, as if RESET# were low (R861). -/
def leaveReset (s : State) : State :=
  if s.supply.power = .reset ∧ s.supply.vsysGood ∧ s.supply.vioGood ∧ s.supply.resetPin ∧
      s.supply.failing = false ∧ s.supply.testHigh = false then s.enterHold
  else s

/-- Straps as the pins stand at a sampling.
DESIGN CHOICE, safe: log entry 68. -/
def sampleStraps (s : State) (p : Straps) : State :=
  { s with
    bus.strap0 := min 2 p.addr0, bus.strap1 := min 2 p.addr1, welt.pri := p.weltPri
    clk.refIn := refChosen p.refCount, supply.testHigh := p.testHigh }

end State

end Sys2Proof.Machine
end

