-- ==== Sys2Proof/Machine/Awl.lean ====
section
/-! DEFINITION. The Awl (chapter 19): the tests that may run, the on-demand run, what a failed unit becomes,
the degraded start, and the Awl's service of MB0 in AWL_HOLD. -/

namespace Sys2Proof.Machine

open Sys2Proof

/-- Every test of Table 19-7.
DEDUCED, safe: log entry 60. -/
def awlAll : Nat := 0x7FFFF

/-- A mask of test bits. -/
def bitsOf (l : List Nat) : Nat := l.foldl (fun (a : Nat) i => a ||| 2 ^ i) 0

/-- The bits of a mask, lowest first. -/
def testsOf (mask : Nat) : List Nat := (List.range 19).filter fun i => mask.testBit i

/-- The code of a test (Table 19-7). -/
def awlCode (i : Nat) : Nat := 0x1101 + i

/-- The lanes that a run's detail of the lane test or of the wide-lane test names.
DESIGN CHOICE, unsafe: log entry 61. -/
def awlLanes (details : List (Nat × List Byte)) (i : Nat) : List Nat :=
  (((kget details i).getD []).map fun (b : Byte) => b.toNat).eraseDups

/-- A loopback passes: the level within ±3 dB of −60 dBFS and the image rejection at least 30 dB (R766). -/
def BrLoop.ok (x : BrLoop) : Bool := decide ((x.level + 600).natAbs ≤ 30) && decide (300 ≤ x.image)

/-- HR's loopback passes: its frame's CRC is correct (R534, R766). -/
def loopFrameOk (b : List Byte) : Bool :=
  let n := b.length - 2
  decide (2 ≤ b.length) && fieldBE b n 2 == (crc16 (b.take n)).toNat

/-- A lane passes its test: its level within 0.5 dB of the tone's, and every residue check (R767). -/
def LaneTest.ok (x : LaneTest) : Bool := decide (x.level.natAbs ≤ 50) && x.residueOk

namespace AwlResult

/-- The lanes of a test that fail it: 14 the lanes 0–99, 15 the wide lanes. -/
def badLanes (r : AwlResult) (i : Nat) : List Nat :=
  ((r.lanes.filter fun x => !x.ok && if i = 14 then decide (x.lane < 100) else decide (100 ≤ x.lane)).map
    fun x => x.lane).eraseDups

/-- The tests that fail: the digital ones as found, the loopbacks and the lane tests as their measurements say
(R766, R767). -/
def fails (r : AwlResult) : Nat :=
  (r.fail &&& 0x307FF) ||| (if r.br0.ok then 0 else 2 ^ 11) ||| (if r.br1.ok then 0 else 2 ^ 12) |||
    (if loopFrameOk r.frame then 0 else 2 ^ 13) ||| (if (r.badLanes 14).isEmpty then 0 else 2 ^ 14) |||
    (if (r.badLanes 15).isEmpty then 0 else 2 ^ 15)

/-- The hold-up capacitance in µF: 10 mA for 5 ms over the fall of VHOLD (R768). -/
def farads (r : AwlResult) : Nat := if r.drop = 0 then 65535 else 50000 / r.drop

/-- The details of a run: those of the digital tests as found, and of the lane tests the lanes that failed. -/
def found (r : AwlResult) : List (Nat × List Byte) :=
  (r.details.filter fun (e : Nat × List Byte) => e.1 != 14 && e.1 != 15) ++
    [14, 15].map fun i => (i, (r.badLanes i).map fun n => BitVec.ofNat 8 n)

end AwlResult

namespace State

/-- The tests that an on-demand run performs now (Table 19-7, and in IDLE and AWL_HOLD bits 0–3 and 17–18
only).
DESIGN CHOICE, unsafe: log entry 61. -/
def awlRuns (s : State) : Nat :=
  let store := if s.store.op.isNone && s.store.commit == .idle then [18] else []
  if s.supply.power = .run then
    let loops := [11, 12, 13].filter fun i => s.chainUp (i - 11) && !(s.chain (i - 11)).failed
    let lanes := if s.up .broadcast then [14] else []
    let wide := if s.up .broadcast && (s.decoder 0).mode == .idle && (s.decoder 1).mode == .idle then [15]
      else []
    bitsOf ([0, 1, 2, 3, 9, 10, 17] ++ loops ++ lanes ++ wide ++ store)
  else bitsOf ([0, 1, 2, 3, 17] ++ store)

/-- The tests whose on-demand entry permits only a part of them now: the lane test while lanes are in use.
DESIGN CHOICE, unsafe: log entry 61. -/
def awlPart (s : State) : Nat :=
  if (List.range 100).any (fun n => (s.lane n).use != .free) then bitsOf [14] else 0

/-- The reply of an AWL request (R775). -/
def awlReply (s : State) (id status reason : Nat) : State :=
  let m := bytesBE 4 s.awl.pass ++ bytesBE 4 s.awl.fail ++ bytesBE 4 s.awl.warn ++ bytesBE 4 s.awl.defer
  s.reply 0x0112 id status (bytesBE 1 0 ++ bytesBE 1 reason ++ bytesBE 2 0 ++ m)

/-- An on-demand run begins: the loopbacks place GAINCAL bubbles, and what may not run is DEFERRED (R774); a
second request completes BUSY with reason 4, and a second START is ignored (R776). -/
def startAwl (s : State) (mask : Nat) (req : Option Nat) : State :=
  if s.awl.running then
    match req with
    | some id => s.awlReply id stBusy 4
    | none => s
  else
    let run := mask &&& s.awlRuns
    let left := (mask &&& awlAll) &&& (awlAll ^^^ run)
    let s := { s with
      awl.running := true, awl.powerUp := false, awl.mask := run, awl.req := req
      awl.defer := left ||| (run &&& s.awlPart) }
    ([11, 12, 13].filter fun i => run.testBit i).foldl
      (fun (s : State) i => s.placeBubble (i - 11) .gaincal false) s

/-- A loopback still waits for its bubble's end: only the Awl places GAINCAL bubbles (R774). -/
def loopbackWaits (s : State) : Bool :=
  [0, 1, 2].any fun c => (s.chain c).bubbles.any fun b => b.kind == .gaincal

/-- The masks of a run, with the hold-up measurement taken as R768 says: under 330 µF is WARN, and under
47 µF counts as 0. -/
def awlTake (s : State) (run : Nat) (res : AwlResult) : State :=
  let hold := run.testBit 18
  let fail := res.fails &&& run
  let warn := (res.warn &&& run &&& bitsOf [2] &&& (awlAll ^^^ fail)) |||
    (if hold && decide (res.farads < 330) then bitsOf [18] else 0)
  let s := { s with
    awl.pass := run &&& (awlAll ^^^ (fail ||| warn)), awl.fail := fail, awl.warn := warn
    awl.details := res.found.filter fun (e : Nat × List Byte) => run.testBit e.1 }
  if hold then
    { s with store.c := if res.farads < 47 then 0 else min 65535 res.farads, store.vhold := min 65535 res.vhold }
  else s

/-- The lanes that an on-demand run may test: the FREE ones and the free understudies; of a run in AWL_HOLD, all
(Table 19-7). -/
def awlTestable (s : State) (n : Nat) : Bool :=
  if s.supply.power = .hold then true
  else if n < 96 then (s.lane n).use == .free
  else if n < 100 then (List.range 102).all fun k => (s.lane k).under != some (n - 96)
  else true

/-- What a run found of the lanes that it may test. -/
def awlSeen (s : State) (res : AwlResult) : AwlResult :=
  { res with lanes := res.lanes.filter fun x => s.awlTestable x.lane }

/-- Each FAIL and WARN raises its test's code, in bit order (R765, R777). -/
def awlRaise (s : State) : State :=
  (testsOf (s.awl.fail ||| s.awl.warn)).foldl (fun (s : State) i => s.note (awlCode i)) s

/-- What an on-demand FAIL makes of its unit, by the unit's own chapter (R777, R310, R406, Table 8-8).
DESIGN CHOICE, unsafe: log entry 61. -/
def awlFailUnit (s : State) (i : Nat) : State :=
  match i with
  | 9 => if s.clk.sysLock then s.sysPllLost else s
  | 10 => if s.clk.sckLock then s.sckPllLost else s
  | 11 => if (s.chain 0).failed then s else s.failChain 0 [chainFault 0]
  | 12 => if (s.chain 1).failed then s else s.failChain 1 [chainFault 1]
  | 13 => if (s.chain 2).failed then s else s.failChain 2 [chainFault 2]
  | 14 => ((awlLanes s.awl.details 14).filter fun n => decide (n < 96)).foldl
      (fun (s : State) n => if (s.lane n).failed then s else s.failLane n)
      { s with lanes.underFailed := Vector.ofFn fun (k : Fin 4) =>
          s.lanes.underFailed.get k || (awlLanes s.awl.details 14).contains (96 + k.val) }
  | 15 => ((awlLanes s.awl.details 15).filter fun n => n == 100 || n == 101).foldl
      (fun (s : State) n => if vget false s.lanes.wideFailed (n - 100) then s else s.failLane n) s
  | _ => s

/-! ### The degraded start (R772, R773) -/

/-- The configuration block of the committed image sets WELT_CTRL EN. -/
def configPairs (s : State) : Bool := match s.store.active with
  | some b => (((configBlock (s.bank b).bytes).filter fun (e : Nat × Word) => e.1 == 0xE00).getLast?.map
      fun (e : Nat × Word) => e.2.bit 0).getD false
  | none => false

/-- A failed test has its partner of Table 19-7, and that partner passed. -/
def awlPartner (s : State) (i : Nat) : Bool :=
  let ok := fun k => s.awl.pass.testBit k
  match i with
  | 7 => ok 8
  | 8 => ok 7
  | 9 => true
  | 11 => ok 12
  | 12 => ok 11
  | 13 => s.configPairs
  | 14 =>
    let l := awlLanes s.awl.details 14
    decide ((l.filter fun n => decide (n < 96)).length +
      (l.filter fun n => decide (96 ≤ n) && decide (n < 100)).length ≤ 4)
  | 15 => match awlLanes s.awl.details 15 with
    | [100] => ok 8
    | [101] => ok 7
    | _ => false
  | _ => false

/-- A degraded start is allowed: every FAIL has a partner, and that partner passed (Table 19-10).
DESIGN CHOICE, unsafe: log entry 61. -/
def degradeOk (s : State) : Bool := !s.awl.running && (testsOf s.awl.fail).all s.awlPartner

/-- The broadcast units that a degraded start left FAILED, marked as their domain powers up (R772, R773):
chains, lanes, understudies, wide lanes and decoders.
DESIGN CHOICE, unsafe: log entry 61. -/
def markBroadcast (s : State) : State :=
  if !s.awl.degraded then s
  else
    let bad := fun i => s.awl.fail.testBit i
    let lanes := if bad 14 then awlLanes s.awl.details 14 else []
    let wide := if bad 15 then awlLanes s.awl.details 15 else []
    let s := (lanes.filter fun n => decide (n < 96)).foldl
      (fun (s : State) n => s.setLane n { s.lane n with failed := true }) s
    let s := { s with
      lanes.underFailed := Vector.ofFn fun (k : Fin 4) => lanes.contains (96 + k.val)
      lanes.wideFailed := Vector.ofFn fun (k : Fin 2) => wide.contains (100 + k.val) }
    let s := [0, 1].foldl (fun (s : State) d =>
      if bad (7 + d) || wide.contains (100 + d) then s.setDab d { s.decoder d with failed := true } else s) s
    [0, 1].foldl (fun (s : State) c =>
      if bad (11 + c) then { s.setChain c { s.chain c with failed := true } with radio.mode := 2 } else s) s

/-- HR left FAILED, as HEARTH powers up. -/
def markHearth (s : State) : State :=
  if s.awl.degraded && s.awl.fail.testBit 13 then s.setChain 2 { s.chain 2 with failed := true } else s

/-- The system PLL left FAILED, as BENCH powers up: the limp clock covers it. -/
def markBench (s : State) : State :=
  if s.awl.degraded && s.awl.fail.testBit 9 then
    { s with clk.sysLock := false, clk.sysLost := true, clk.limp := true }
  else s

/-- AWL_HOLD left for IDLE (R772, Table 19-10). -/
def leaveHold (s : State) : State := { s.toIdle with awl.cause := 0 }

/-- The hold cause of Table 19-8 at the end of the power-up Awl; the lowest code where several apply.
DEDUCED, unsafe: log entry 57. -/
def holdCause (s : State) : Nat :=
  if s.awl.fail ≠ 0 then 1
  else if s.committed = false then 2
  else if s.store.ivk.isNone then 3
  else s.awl.cause

/-- The power-up Awl no longer runs. -/
def awlEnded (s : State) : State :=
  { s with awl.running := false, awl.mask := awlAll, awl.defer := 0 }

/-- The faults raised after the power-up Awl: a power failure in a store operation (R756), and an install
abandoned by the reset (R790).
DEDUCED, unsafe: log entry 57. -/
def awlFaults (s : State) : State :=
  let s := if s.supply.rstCause.testBit 8 then s.note 0x1202 else s
  if s.store.inst = .abandoned then s.note 0xB303 else s

/-- The BOOT record with the present STORE_BOOT values (R757). -/
def bootRecord (s : State) : State :=
  if s.store.op.isNone then (s.startOp (.boot s.store.boot)).2 else s

/-- AWL_HOLD kept with its cause, or left for IDLE, and for RUN with AUTORUN (R769). -/
def awlLeave (s : State) : State :=
  match s.holdCause with
  | 0 =>
    let t := s.leaveHold
    if t.store.boot % 2 = 1 then t.toRun else t
  | cause => { s with awl.cause := cause }

/-- The message that waits in inbound MB0 in AWL_HOLD, when it is the command `code` (R771).
DESIGN CHOICE, safe: log entry 13. -/
def awlMessage (s : State) (code : Nat) : Option (List Byte) :=
  if s.supply.power = .hold ∧ s.awl.running = false then
    (vget none s.mail.inb 0).bind fun (m : Msg) =>
      if fieldBE m.bytes 0 1 = code then some m.bytes else none
  else none

/-- The Awl's answer to an MB0 command: the message is taken, and the answer lands in the outbound slot
unless that slot holds a message (R658, R771). -/
def awlAnswer (s : State) (bytes : List Byte) : State :=
  let s := { s with mail.inb := vset s.mail.inb 0 none }
  (s.postOut 0 .keeper bytes s.now).getD s

end State

/-! ### The rows of the table -/

/-- AWL_RUN_END: the on-demand run ends once its loopbacks' bubbles have ended: the masks, the reply, and what
a FAIL brings (R774, R775, R777). -/
def execAwlRunEnd (res : AwlResult) (s : State) : Host.Outcome State Fault Refusal :=
  .next (if !s.awl.running || s.awl.powerUp || s.loopbackWaits then s
    else
      let req := s.awl.req
      let t := { s.awlTake s.awl.mask (s.awlSeen res) with awl.running := false, awl.req := none }
      let t := (testsOf t.awl.fail).foldl (fun (t : State) i => t.awlFailUnit i) t.awlRaise
      match req with
      | some id => t.awlReply id (if t.awl.defer = 0 then stOk else stDeferred) 0
      | none => t)

/-- AWL_RERUN: in AWL_HOLD the Awl takes a RERUN from MB0, runs its tests and answers with the masks
(R771, Table 19-9). -/
def execAwlRerun (res : AwlResult) (s : State) : Host.Outcome State Fault Refusal :=
  .next (match s.awlMessage 1 with
    | some m =>
      let run := fieldBE m 1 4 &&& awlAll
      let t := { s.awlTake run res with awl.powerUp := false, awl.mask := run, awl.defer := 0 }
      let t := t.awlRaise
      t.awlAnswer (bytesBE 1 1 ++ bytesBE 4 t.awl.pass ++ bytesBE 4 t.awl.fail ++ bytesBE 4 t.awl.warn)
    | none => s)

/-- AWL_DETAIL: in AWL_HOLD the Awl answers a DETAIL with a test's result and detail (Table 19-9). -/
def execAwlDetail (s : State) : Host.Outcome State Fault Refusal :=
  .next (match s.awlMessage 2 with
    | some m =>
      let i := fieldBE m 1 1
      let r := if s.awl.pass.testBit i then 0 else if s.awl.fail.testBit i then 1
        else if s.awl.warn.testBit i then 2 else 3
      s.awlAnswer (bytesBE 1 2 ++ bytesBE 1 i ++ bytesBE 1 r ++ ((kget s.awl.details i).getD []).take 60)
    | none => s)

/-- POWER_UP_AWL_END: the power-up Awl ends: the masks, the codes of FAIL and WARN, the faults of a cut write
and of an abandoned install (R756, R790), the BOOT record (R757), and then AWL_HOLD with its cause, or IDLE,
or RUN with AUTORUN (R769, Table 19-8). -/
def execPowerUpAwlEnd (res : AwlResult) (s : State) : Host.Outcome State Fault Refusal :=
  .next (if s.supply.power ≠ .hold ∨ s.awl.running = false ∨ s.awl.powerUp = false then s
    else (((s.awlTake awlAll res).awlEnded.awlRaise).awlFaults.bootRecord).awlLeave)

end Sys2Proof.Machine
end

