-- ==== Sys2Proof/Machine/Control.lean ====
section
/-! DEFINITION. Alnomal branches, calls and control (Table 5-8). -/

namespace Sys2Proof.Machine

open Sys2Proof

/-- A branch: PC + off18 when the condition holds, else the next word (R182). -/
def branch (h : Handler) (off : BitVec 18) (taken : Bool) (s : State) : Exec :=
  if taken then .goto s h ((BitVec.ofNat 32 h.pc + sext18 off).toNat) else .cont s h

/-- BEQ. -/
def execBeq (b : Fin 5) (ra rb : Fin 16) (off : BitVec 18) (s : State) :
    Host.Outcome State Fault Refusal :=
  .next (s.instruct b 2 fun s h => branch h off (h.get ra == h.get rb) s)

/-- BNE. -/
def execBne (b : Fin 5) (ra rb : Fin 16) (off : BitVec 18) (s : State) :
    Host.Outcome State Fault Refusal :=
  .next (s.instruct b 2 fun s h => branch h off (h.get ra != h.get rb) s)

/-- BLT, signed. -/
def execBlt (b : Fin 5) (ra rb : Fin 16) (off : BitVec 18) (s : State) :
    Host.Outcome State Fault Refusal :=
  .next (s.instruct b 2 fun s h => branch h off ((h.get ra).slt (h.get rb)) s)

/-- BGE, signed. -/
def execBge (b : Fin 5) (ra rb : Fin 16) (off : BitVec 18) (s : State) :
    Host.Outcome State Fault Refusal :=
  .next (s.instruct b 2 fun s h => branch h off (!(h.get ra).slt (h.get rb)) s)

/-- BLTU, unsigned. -/
def execBltu (b : Fin 5) (ra rb : Fin 16) (off : BitVec 18) (s : State) :
    Host.Outcome State Fault Refusal :=
  .next (s.instruct b 2 fun s h => branch h off ((h.get ra).ult (h.get rb)) s)

/-- BGEU, unsigned. -/
def execBgeu (b : Fin 5) (ra rb : Fin 16) (off : BitVec 18) (s : State) :
    Host.Outcome State Fault Refusal :=
  .next (s.instruct b 2 fun s h => branch h off (!(h.get ra).ult (h.get rb)) s)

/-- JMP. -/
def execJmp (b : Fin 5) (target : BitVec 16) (s : State) : Host.Outcome State Fault Refusal :=
  .next (s.instruct b 2 fun s h => .goto s h target.toNat)

/-- A call: w15 [15:0] pushed, w15 = PC + 1, PC = target; 0x8104 when the stack already holds 16
entries, which is checked before the target (R182, R184, R185). -/
def call (h : Handler) (target : Nat) (s : State) : Exec :=
  if 16 ≤ h.stack.length then .fault 0x8104 0
  else
    let k := { h with stack := (h.get 15).setWidth 16 :: h.stack }
    .goto s (k.put 15 (BitVec.ofNat 32 (h.pc + 1))) target

/-- CALL. -/
def execCall (b : Fin 5) (target : BitVec 16) (s : State) : Host.Outcome State Fault Refusal :=
  .next (s.instruct b 3 fun s h => call h target.toNat s)

/-- JR. -/
def execJr (b : Fin 5) (ra : Fin 16) (s : State) : Host.Outcome State Fault Refusal :=
  .next (s.instruct b 2 fun s h => .goto s h (h.get ra).toNat)

/-- CALLR. -/
def execCallr (b : Fin 5) (ra : Fin 16) (s : State) : Host.Outcome State Fault Refusal :=
  .next (s.instruct b 3 fun s h => call h (h.get ra).toNat s)

/-- RET: PC = w15, w15 = the popped entry; 0x8104 on an empty stack, checked before w15 is taken as
the target (R182, R185). -/
def execRet (b : Fin 5) (s : State) : Host.Outcome State Fault Refusal :=
  .next (s.instruct b 3 fun s h => match h.stack with
    | [] => .fault 0x8104 0
    | x :: xs => .goto s (({ h with stack := xs }).put 15 (x.setWidth 32)) (h.get 15).toNat)

/-- END: the handler ends (R135); 0x8104 when the call stack is not empty (R186).  A replayed handler
that ends with logged items left over differs from the log (R139). -/
def execEndHandler (b : Fin 5) (s : State) : Host.Outcome State Fault Refusal :=
  .next (s.instruct b 1 fun s h =>
    if h.stack ≠ [] then .fault 0x8104 0
    else match h.script with
      | some (_ :: _) => .fault 0x8108 0
      | _ => .finish s h)

/-- NOP. -/
def execNop (b : Fin 5) (s : State) : Host.Outcome State Fault Refusal :=
  .next (s.instruct b 1 fun s h => .cont s h)

/-- TRAP: fault 0x811F with imm8 in FAULTARG (R189). -/
def execTrap (b : Fin 5) (code : BitVec 8) (s : State) : Host.Outcome State Fault Refusal :=
  .next (s.instruct b 1 fun _ _ => .fault 0x811F code.toNat)

/-- SREM: the steps remaining after this instruction (R188). -/
def execSrem (b : Fin 5) (rd : Fin 16) (s : State) : Host.Outcome State Fault Refusal :=
  .next (s.compute b 1 rd fun h => BitVec.ofNat 32 (h.budget - h.used))

/-- An undefined instruction: 1 step, no effect, fault 0x8102 (R175). -/
def execUndefinedInstruction (b : Fin 5) (s : State) : Host.Outcome State Fault Refusal :=
  .next (s.instruct b 1 fun _ _ => .fault 0x8102 0)

end Sys2Proof.Machine
end

