-- ==== Sys2Proof/Machine/Outputs.lean ====
section
/-! DEFINITION. Alnomal tack, message and wake instructions (Tables 5-13, 5-16 and 5-18).  RADIO is in
Requests.lean. -/

namespace Sys2Proof.Machine

open Sys2Proof

/-! ### Tacks -/

/-- The range of TPARAM for a target (Table 6-1). -/
def tparamOk (target p : Nat) : Bool :=
  match target with
  | 1 => p ≤ 0x7F
  | 2 | 3 | 4 | 5 => p ≤ 0x0F
  | 6 => 1 ≤ p
  | 7 => true
  | 8 => p ≤ 1
  | 9 => p == 0
  | _ => false

/-- The offset of the first offending byte of a post descriptor (R202). -/
def descFault (d : List Byte) : Option Nat :=
  let x := fun i => (byteAt d i).toNat
  let bad : List (Nat × Bool) :=
    [(0, x 0 != 0), (1, x 1 != 0), (8, !(decide (1 ≤ x 8) && decide (x 8 ≤ 9))),
     (9, x 9 % 4 == 3 || decide (16 ≤ x 9)), (12, decide (48 < x 12)),
     (13, !tparamOk (x 8) (x 13)), (14, x 14 != 0), (15, x 15 != 0)]
  (bad.find? fun e => e.2).map (·.1)

/-- The handle of bench `b`'s post number `seq` (R203). -/
def handleOf (b seq : Nat) : Word := BitVec.ofNat 32 (0x40000000 + b * 2 ^ 28 + seq % 2 ^ 28)

/-- The entry position of a handler's posts and cancels: (e, p + 2) (R156). -/
def entryOf (p : Pos) : Pos := ⟨p.epoch, p.pp + 2⟩

/-- The tack that a descriptor describes (Table 5-14). -/
def tackOf (d : List Byte) (b seq : Nat) (p : Pos) : Tack :=
  { handle := handleOf b seq, bench := b, seq := seq, due := fieldBE d 2 6, target := fieldBE d 8 1,
    flags := fieldBE d 9 1, order := fieldBE d 10 2, plen := fieldBE d 12 1,
    tparam := fieldBE d 13 1, payload := (d.drop 16).take (fieldBE d 12 1), entry := entryOf p,
    late := false }

/-- A post or cancel handed to the tack store (R205). -/
def State.toStore (s : State) (b : Nat) (p : Pos) (op : TackOp) : State :=
  { s with tack := { s.tack with entries := s.tack.entries ++ [⟨entryOf p, b, op, false⟩] } }

/-- TPOST: the tack of a 64-byte descriptor posted, rd = its handle (R199–R205).  On bench 4 it is not
permitted. -/
def execTpost (b : Fin 5) (rd ra : Fin 16) (s : State) : Host.Outcome State Fault Refusal :=
  .next (s.instruct b 12 fun t h =>
    let a := (h.get ra).toNat
    if b.1 = 4 then .fault 0x8105 0
    else if a % 4 ≠ 0 then .fault 0x8110 a
    else if 0x8000 < a + 64 then .fault 0x8103 a
    else
      let d := readBytes (t.dataOf b) a 64
      match descFault d with
      | some o => .fault 0x8112 o
      | none =>
        let n := t.bench b
        let hd := handleOf b n.seq
        match logged n h (.tpost d hd) with
        | .fresh k =>
          let t := t.setBench b { n with seq := n.seq + 1 }
          .cont (t.toStore b h.ev.pos (.post (tackOf d b n.seq h.ev.pos))) (k.put rd hd)
        | .replay (.tpost d' x) k => if d' = d then .cont t (k.put rd x) else .fault 0x8108 0
        | .replay _ _ | .mismatch => .fault 0x8108 0
        | .full => .fault 0x8109 0)

/-- A cancel with operand `x`, logged and handed to the store (R205, R206). -/
def cancelTack (t : State) (b : Nat) (h : Handler) (x : Word) (op : TackOp) : Exec :=
  match logged (t.bench b) h (.tcan x) with
  | .fresh k => .cont (t.toStore b h.ev.pos op) k
  | .replay i k => if i = .tcan x then .cont t k else .fault 0x8108 0
  | .mismatch => .fault 0x8108 0
  | .full => .fault 0x8109 0

/-- TCAN: a tack of this bench cancelled by handle; 0x8113 for another bench's (R206). -/
def execTcan (b : Fin 5) (ra : Fin 16) (s : State) : Host.Outcome State Fault Refusal :=
  .next (s.instruct b 4 fun t h =>
    let x := h.get ra
    if b.1 = 4 then .fault 0x8105 0
    else if x.bits 29 28 ≠ b then .fault 0x8113 (x.bits 31 16)
    else cancelTack t b h x (.cancel b x))

/-- TCANK: every pending tack of this bench with order key ra [15:0] cancelled. -/
def execTcank (b : Fin 5) (ra : Fin 16) (s : State) : Host.Outcome State Fault Refusal :=
  .next (s.instruct b 6 fun t h =>
    let x := h.get ra
    if b.1 = 4 then .fault 0x8105 0
    else cancelTack t b h x (.cancelKey b (x.bits 15 0)))

/-! ### Messages -/

/-- The MAIL event of an inter-bench message sent at position `p`: of position (e, p + 1) (R147). -/
def benchMail (b : Nat) (msg : List Byte) (p : Pos) : Event :=
  ⟨.mail, ⟨p.epoch, p.pp + 1⟩, b, b, BitVec.ofNat 32 b, msg, [(12, BitVec.ofNat 32 b)]⟩

/-- An inter-bench message on its way: pending at its destination, discarded and counted at a HALTED
one (R150), discarded at one that is OFF.
DEDUCED, safe: log entry 17. -/
def State.sendMail (s : State) (dest : Nat) (e : Event) : State :=
  let n := s.bench dest
  if n.takes then s.setBench dest { n with inbox := n.inbox ++ [e] }
  else if n.mode == .halted then s.dropEvent
  else s

/-- MSEND's effect on the machine: its status, and the message delivered within the limit of 16 to a
destination (R148); what bench 4 sends to a cue bench is mirrored by an active member and discarded
on a standby (chapter 18). -/
def State.msend (s : State) (b dest : Nat) (msg : List Byte) (p : Pos) : State :=
  let n := s.bench b
  let s := s.setBench b { n with sent := vset n.sent dest (vget 0 n.sent dest + 1) }
  let e := benchMail b msg p
  if b = 4 ∧ dest < 4 then
    if s.welt.role = .standby then s else (s.sendMail dest e).mirror (.b4msg dest e)
  else s.sendMail dest e

/-- FAULTARG of a message instruction: the destination or mailbox, and the length, saturating at 0xFF
(Table 5-20). -/
def msgArg (dest len : Nat) : Nat := dest + 256 * Nat.min 0xFF len

/-- MSEND: a message of 1–32 bytes to a bench, rd = OK or FULL (R208). -/
def execMsend (b : Fin 5) (rd ra rb : Fin 16) (dest : BitVec 8) (s : State) :
    Host.Outcome State Fault Refusal :=
  .next (s.instruct b 10 fun t h =>
    let a := (h.get ra).toNat
    let len := (h.get rb).toNat
    let d := dest.toNat
    if 4 < d ∨ len = 0 ∨ 32 < len then .fault 0x8114 (msgArg d len)
    else if 0x8000 < a + len then .fault 0x8103 a
    else
      let msg := readBytes (t.dataOf b) a len
      let full := decide (16 ≤ vget 0 (t.bench b).sent d)
      let st := if full then stFull else stOk
      match logged (t.bench b) h (.msend d len st msg) with
      | .fresh k =>
        .cont (if full then t else t.msend b d msg h.ev.pos) (k.put rd (BitVec.ofNat 32 st))
      | .replay (.msend d' len' st' msg') k =>
        if d' = d ∧ len' = len ∧ msg' = msg then .cont t (k.put rd (BitVec.ofNat 32 st'))
        else .fault 0x8108 0
      | .replay _ _ | .mismatch => .fault 0x8108 0
      | .full => .fault 0x8109 0)

/-- MPOST: a message of 1–64 bytes to the host-bound slot of mailbox 0–7.  A cue bench learns nothing
of its fate (R149), its post is held to the end of the position (R663), and on a STANDBY or PARTED
member posts nothing (R722); bench 4 posts at once and takes OK or FULL (R211, R728). -/
def execMpost (b : Fin 5) (rd ra rb : Fin 16) (mb : BitVec 8) (s : State) :
    Host.Outcome State Fault Refusal :=
  .next (s.instruct b 20 fun t h =>
    let a := (h.get ra).toNat
    let len := (h.get rb).toNat
    let m := mb.toNat
    if 7 < m ∨ len = 0 ∨ 64 < len ∨ (b.1 < 4 ∧ rd ≠ 0) then .fault 0x8115 (msgArg m len)
    else if 0x8000 < a + len then .fault 0x8103 a
    else
      let msg := readBytes (t.dataOf b) a len
      let done := t.postOut m (.bench b) msg h.ev.pos
      let st := if b.1 = 4 ∧ done.isNone then stFull else stOk
      match logged (t.bench b) h (.mpost m len st msg) with
      | .fresh k =>
        if b.1 = 4 then
          .cont (match done with | some u => u | none => t.postRefused m)
            (k.put rd (BitVec.ofNat 32 st))
        else if t.silent then .cont t k
        else .cont { t with mail.heldPosts := t.mail.heldPosts ++ [⟨b, m, msg, h.ev.pos⟩] } k
      | .replay (.mpost m' len' st' msg') k =>
        if m' = m ∧ len' = len ∧ msg' = msg then .cont t (k.put rd (BitVec.ofNat 32 st'))
        else .fault 0x8108 0
      | .replay _ _ | .mismatch => .fault 0x8108 0
      | .full => .fault 0x8109 0)

/-- RING: an eyelet of the host endpoint rung (R213); nothing rings from a cue bench of a STANDBY or
PARTED member (R722). -/
def execRing (b : Fin 5) (eyelet : BitVec 8) (s : State) : Host.Outcome State Fault Refusal :=
  .next (s.instruct b 2 fun t h =>
    let e := eyelet.toNat
    if 31 < e then .fault 0x8118 e
    else match logged (t.bench b) h (.ring e) with
      | .fresh k => .cont (if t.silent && decide (b.1 < 4) then t else t.ringHost e) k
      | .replay i k => if i = .ring e then .cont t k else .fault 0x8108 0
      | .mismatch => .fault 0x8108 0
      | .full => .fault 0x8109 0)

/-! ### Wakes -/

/-- WAKE: a wake slot armed for PP rb [15:0] : ra (R219, R220); an earlier wake of the slot is
replaced (R130). -/
def execWake (b : Fin 5) (ra rb : Fin 16) (slot : BitVec 8) (s : State) :
    Host.Outcome State Fault Refusal :=
  .next (s.instruct b 3 fun t h =>
    let i := slot.toNat
    if 15 < i then .fault 0x8117 i
    else
      let pp := (h.get rb).bits 15 0 * 2 ^ 32 + (h.get ra).toNat
      let w : Wake := ⟨pp, h.ev.pos, decide (pp ≤ h.ev.pos.pp)⟩
      let n := t.bench b
      .cont (t.setBench b { n with wakes := vset n.wakes i (some w) }) h)

/-- WCAN: a wake slot disarmed (R219). -/
def execWcan (b : Fin 5) (slot : BitVec 8) (s : State) : Host.Outcome State Fault Refusal :=
  .next (s.instruct b 2 fun t h =>
    let i := slot.toNat
    if 15 < i then .fault 0x8117 i
    else
      let n := t.bench b
      .cont (t.setBench b { n with wakes := vset n.wakes i none }) h)

end Sys2Proof.Machine
end

