-- ==== Sys2Proof/Machine/Keeper.lean ====
section
/-! DEFINITION. The Keeper's work (chapters 13, 16 and 19): provisioning, installation, the seal, the IVK, and
the completion of store operations. -/

namespace Sys2Proof.Machine

open Sys2Proof

/-- The provisioning commands (Table 16-4). -/
def provCodes : List Nat := [1, 2, 3, 4, 5, 6]

/-- The install commands (Table 19-14). -/
def instCodes : List Nat := [0x10, 0x11, 0x12, 0x13, 0x14, 0x15]

/-- The key store after a provisioning command (R684, Table 16-4). -/
def Keys.apply (k : Keys) (cmd : List Byte) : Keys :=
  match fieldBE cmd 0 1 with
  | 1 =>
    let id := fieldBE cmd 1 1
    { k with show_ := (k.show_.filter fun (x : ShowKey) => x.id != id) ++
        [⟨id, fieldBE cmd 2 2, (cmd.drop 4).take 16⟩] }
  | 2 => { k with show_ := k.show_.filter fun (x : ShowKey) => x.id != fieldBE cmd 1 1 }
  | 3 => { k with site := some ((cmd.drop 1).take 16) }
  | 4 => { k with link := kput k.link (fieldBE cmd 1 1) ((cmd.drop 2).take 16) }
  | 5 => { k with link := kdel k.link (fieldBE cmd 1 1) }
  | _ => { k with hak := some ((cmd.drop 1).take 16) }

/-- The bytes of a key store copy that a KEY record's CRC covers.
DESIGN CHOICE, unsafe: log entry 55. -/
def Keys.bytes (k : Keys) : List Byte :=
  k.show_.flatMap (fun (x : ShowKey) => bytesBE 1 x.id ++ bytesBE 2 x.stream ++ x.key) ++ k.site.getD [] ++
    k.link.flatMap (fun (x : Nat × List Byte) => bytesBE 1 x.1 ++ x.2) ++ k.hak.getD []

/-- What a provisioning command lacks: status 1 INVALID, 2 NOROOM for a 17th show key (R684). -/
def Keys.refuses (k : Keys) (cmd : List Byte) : Option Nat :=
  let n := cmd.length
  match fieldBE cmd 0 1 with
  | 1 =>
    if n ≠ 20 ∨ fieldBE cmd 1 1 = 0 then some 1
    else if 16 ≤ k.show_.length ∧ k.show_.all (fun (x : ShowKey) => x.id != fieldBE cmd 1 1) = true then some 2
    else none
  | 2 => if n ≠ 2 ∨ fieldBE cmd 1 1 = 0 then some 1 else none
  | 3 | 6 => if n ≠ 17 then some 1 else none
  | 4 => if n ≠ 18 ∨ 15 < fieldBE cmd 1 1 then some 1 else none
  | _ => if n ≠ 2 ∨ 15 < fieldBE cmd 1 1 then some 1 else none

namespace State

/-! ### Messages to the Keeper (R680, R681, R684) -/

/-- A reply of the Keeper, while a session can carry it.
DESIGN CHOICE, unsafe: log entry 55. -/
def keeperReply (s : State) (mb : Nat) (bytes : List Byte) : State :=
  if s.secureOpen then s.keeperPost mb bytes else s

/-- The inbound slot of a Keeper mailbox emptied. -/
def emptySlot (s : State) (mb : Nat) : State := { s with mail.inb := vset s.mail.inb mb none }

/-- The Keeper takes the message in an inbound slot: one with a wrong tag or counter closes the session with
0x9205 (R681); a command unknown there, or one outside a PROVISION session, is answered INVALID; the
command `code` is acted on; another row's command waits for its row.
DESIGN CHOICE, safe: log entry 13. DESIGN CHOICE, unsafe: log entry 55. -/
def keeperTake (s : State) (mb : Nat) (known : List Nat) (code : Nat) (act : List Byte → State → State) :
    State :=
  match vget none s.mail.inb mb with
  | none => s
  | some m =>
    if !s.up .keeper || !s.secureOpen then s
    else match s.secureBody mb m.bytes with
      | none => ((s.emptySlot mb).closeSession).note 0x9205
      | some body =>
        let c := fieldBE body 0 1
        let t := s.emptySlot mb
        let t := { t with mail.session.rxCount := s.mail.session.rxCount + 1 }
        if s.mail.session.kind ≠ 2 ∨ known.contains c = false then
          t.keeperReply mb (bytesBE 1 c ++ bytesBE 1 1)
        else if c = code then act body t
        else s

/-! ### Provisioning (R684) -/

/-- A provisioning command acted on: refused, or its store write begun (R684, R784, R785). -/
def provision (cmd : List Byte) (s : State) : State :=
  let answer := fun (s : State) (status : Nat) => s.keeperReply 8 (cmd.take 1 ++ bytesBE 1 status)
  match s.mail.keys.refuses cmd with
  | some status => answer s status
  | none =>
    let r := s.startOp .key
    if r.1 then { r.2 with mail.provCmd := some cmd } else answer r.2 3

/-- A provisioning command's row: the command taken from MB8 while no store operation runs.
DESIGN CHOICE, safe: log entry 13. -/
def provisionRow (s : State) (code : Nat) : State :=
  if s.store.op.isSome then s else s.keeperTake 8 provCodes code provision

/-- The new HAK that an INSTALL session takes in clear on MB8 (R679). -/
def installHak (s : State) : State :=
  match vget none s.mail.inb 8 with
  | some m =>
    if !s.up .keeper || m.bytes.length != 16 then s
    else
      let r := (s.emptySlot 8).startOp .key
      if r.1 then { r.2 with mail.provCmd := some (bytesBE 1 6 ++ m.bytes) } else r.2
  | none => s

/-- A key store copy written with its KEY record, and the command answered (R684); an INSTALL session closes
once the HAK is stored (R679). -/
def keyDone (s : State) (ok : Bool) : State :=
  match s.mail.provCmd with
  | none => s
  | some cmd =>
    let s := { s with mail.provCmd := none }
    let s := if ok then
        let k := s.mail.keys.apply cmd
        let copy := match s.standing .key with | some r => 1 - fieldBE r.body 0 1 | none => 0
        ({ s with mail.keys := k }).journalPut .key 0 (bytesBE 1 copy ++ bytesBE 4 (crc32c k.bytes).toNat)
      else s
    if s.mail.session.kind = 3 then if ok then s.closeSession else s
    else s.keeperReply 8 (cmd.take 1 ++ bytesBE 1 (if ok then 0 else 4))

/-! ### The seal (R570–R575) -/

/-- A staged field of the seal is valid (Table 13-11). -/
def sealFieldOk (s : State) (a : Nat) : Bool :=
  let w := s.sealReg a
  if a = 0x622 then
    let p : Int := (w.setWidth 8).toInt
    decide (-3 ≤ p) && decide (p ≤ 27)
  else if a = 0x623 then
    let t := w.bits 15 8
    decide (60 ≤ w.bits 7 0) && decide (w.bits 7 0 ≤ 120) && (t == 0 || (decide (16 ≤ t) && decide (t ≤ 80)))
  else if 0x62D ≤ a ∧ a ≤ 0x634 then
    !w.bit 18 || (decide (w.bits 8 0 ≤ w.bits 17 9) && decide (w.bits 17 9 ≤ 259))
  else if 0x635 ≤ a ∧ a ≤ 0x63C then decide (w.bits 15 0 ≤ 36000)
  else true

/-- Every staged field is valid. -/
def sealOk (s : State) : Bool := (List.range 35).all fun i => s.sealFieldOk (0x622 + i)

/-- SEAL_STATUS's last result. -/
def sealResult (s : State) (r : SealResult) : State := { s with theSeal.result := r }

/-- A write of SEAL_CMD: the seal word seals, if the link is STOPPED, the staged fields are valid, a seal
record is left and the hold-up check passes (R573, chapter 19).
DEDUCED, unsafe: log entry 64. -/
def sealCommand (s : State) (v : Word) : State :=
  if v ≠ 0x5EA1C0DE#32 ∨ s.theSeal.sealed = true ∨ s.store.op.isSome = true then s
  else if s.hearth.mode ≠ .stopped ∨ s.sealOk = false then s.sealResult .invalid
  else if 2 ≤ s.theSeal.tried then s.sealResult .full
  else
    let r := s.startOp .seal
    if r.1 then { r.2 with theSeal.busy := true, theSeal.tried := s.theSeal.tried + 1 }
    else r.2.sealResult .energy

/-- The bits of a seal-view register. -/
def sealMask (a : Nat) : Word :=
  if a = 0x622 then 0xFF#32
  else if a = 0x623 then 0xFFFF#32
  else if a = 0x62C then 0xF#32
  else if a ≤ 0x62C then 0xFFFFFFFF#32
  else if a ≤ 0x634 then 0x7FFFF#32
  else if a ≤ 0x63C then 0xFFFF#32
  else 0x1FFF1FFF#32

/-- A write after sealing tightens every field that it changes (R574, Table 13-11). -/
def tightens (a : Nat) (old new : Word) : Bool :=
  let lower := fun (hi lo : Nat) => decide (new.bits hi lo ≤ old.bits hi lo)
  if a = 0x622 then decide ((new.setWidth 8).toInt ≤ (old.setWidth 8).toInt)
  else if a = 0x623 then
    decide (old.bits 7 0 ≤ new.bits 7 0) && decide (old.bits 15 8 ≤ new.bits 15 8)
  else if a ≤ 0x62C then (new &&& ~~~old) == 0
  else if a ≤ 0x634 then new.bits 17 0 == old.bits 17 0 && lower 18 18
  else if a ≤ 0x63C then lower 15 0
  else lower 7 0 && lower 12 8 && lower 23 16 && lower 28 24

/-- A write refused as loosening, or of a fixed field (R574, R844). -/
def loosened (s : State) : State := (s.sealResult .loosen).note 0x6501

/-- The seal view with one register set. -/
def viewPut (view : List (Nat × Word)) (a : Nat) (v : Word) : List (Nat × Word) :=
  sput (if a = 0x623 then 0x00002855#32 else 0) view a v

/-- A write of a seal-view register: staged before sealing (R572); afterwards programmed if it tightens, in
place for the mask and in an amendment slot for the rest (R574, R575, R844).
DEDUCED, unsafe: log entry 64. -/
def sealWrite (s : State) (a : Nat) (v : Word) : State :=
  let v' := v &&& sealMask a
  let old := s.sealReg a
  let inPlace := decide (0x624 ≤ a) && decide (a ≤ 0x62C)
  if s.store.op.isSome then s
  else if a = 0x62C ∧ v ≠ v' then s.loosened
  else if s.theSeal.sealed = false then { s with theSeal.view := viewPut s.theSeal.view a v' }
  else if v' = old then s
  else if tightens a old v' = false then s.loosened
  else if inPlace = false ∧ 8 ≤ s.theSeal.used then (s.sealResult .full).note 0x6502
  else
    let r := s.startOp .sealWrite
    if r.1 then { r.2 with theSeal.busy := true, theSeal.writing := some (a, v') } else r.2.sealResult .energy

/-- The seal OTP programmed and verified (R573). -/
def sealDone (s : State) (ok : Bool) : State :=
  let s := { s with theSeal.busy := false }
  if ok then { s with theSeal.sealed := true, theSeal.otp := s.theSeal.view, theSeal.result := .ok }
  else s.sealResult .verify

/-- An amendment, or cleared mask bits, programmed and verified: effective at the next burst (R574, R575). -/
def sealWriteDone (s : State) (ok : Bool) : State :=
  let w := s.theSeal.writing
  let s := { s with theSeal.busy := false, theSeal.writing := none }
  match w with
  | some (a, v) =>
    if ok then
      let view := viewPut s.theSeal.otp a v
      { s with
        theSeal.otp := view, theSeal.view := view, theSeal.result := .ok
        theSeal.used := if 0x624 ≤ a ∧ a ≤ 0x62C then s.theSeal.used else s.theSeal.used + 1 }
    else s.sealResult .verify
  | none => s

/-! ### STORE_BOOT and the IVK (R757, chapter 19) -/

/-- STORE_BOOT written: a BOOT record, ignored where the hold-up check refuses it (R785). -/
def writeBoot (s : State) (v : Word) : State :=
  if s.store.op.isSome then s else (s.startOp (.boot (v.bits 1 0))).2

/-- A BOOT record carrying STORE_BOOT's values (R757). -/
def bootPut (s : State) (v : Nat) : State :=
  ({ s with store.boot := v }).journalPut .boot 0 (bytesBE 1 (v % 2) ++ bytesBE 1 (v / 2 % 2))

/-- STORE_CMD: the IVK programmed, in AWL_HOLD and once only. -/
def storeCommand (s : State) (v : Word) : State :=
  if v ≠ 0x00001A7C#32 ∨ s.supply.power ≠ .hold ∨ s.store.ivk.isSome = true ∨ s.store.op.isSome = true then s
  else (s.startOp .ivk).2

/-- STORE_IVK0–15 written: staged in AWL_HOLD until the IVK is programmed. -/
def writeIvk (s : State) (i : Nat) (v : Word) : State :=
  if s.supply.power = .hold ∧ s.store.ivk.isNone = true then
    { s with store.ivkView := sput 0 s.store.ivkView i v }
  else s

/-! ### Installation (R786–R792) -/

/-- The INSTALL record of a step (Table 19-12). -/
def instPut (s : State) (step : Nat) (target : Bool) : State :=
  let active := match s.store.active with | some b => bitNat b | none => 0
  let digest := (s.bank target).digest
  s.journalPut .install step (bytesBE 1 (bitNat target) ++ bytesBE 1 active ++ bytesBE 4 s.store.imgLen ++
    (digest ++ List.replicate 32 0).take 32)

/-- Bytes of the image taken from the host: the next expected offset (R788). -/
def instNext (s : State) : Nat := s.store.got + s.store.chunk.length

/-- The install ended as FAILED, with its target INVALID. -/
def instFail (s : State) : State := ({ s with store.inst := .failed }).spoilBank s.store.target

/-- What the start of an install operation changes besides: the install begins with the erase of its
target, and an END makes it VERIFYING (R787, R790). -/
def instStarted (s : State) (op : StoreOp) : State :=
  match op with
  | .instErase =>
    let b := s.targetBank
    let s := { s with
      store.inst := .erasing, store.target := b, store.got := 0, store.chunk := [], store.chunksLost := 0
      store.previous := if s.store.previous = some b then none else s.store.previous }
    (s.setBank b ⟨[], false, 0, []⟩).instPut 1 b
  | .instRecord 3 => ({ s with store.inst := .verifying }).instPut 3 s.store.target
  | _ => s

/-- An install operation begun, or refused for energy and left to be checked again (R784, R785).
DESIGN CHOICE, unsafe: log entry 56. -/
def instStart (s : State) (op : StoreOp) : State :=
  let r := s.startOp op
  if r.1 then ({ r.2 with store.recheck := none }).instStarted op
  else
    let n := match s.store.recheck with | some x => x.2 | none => 0
    { r.2 with store.recheck := some (op, n) }

/-- The reply of an install operation with a status (Table 19-14).
DESIGN CHOICE, unsafe: log entry 56. -/
def instReply (s : State) (op : StoreOp) (status : Nat) : State :=
  let st := bytesBE 1 status
  match op with
  | .instErase => s.keeperReply 9 (bytesBE 1 0x10 ++ st ++ bytesBE 1 (bitNat s.store.target))
  | .instPage => s.keeperReply 9 (bytesBE 1 0x11 ++ st)
  | .instRecord 5 => s.keeperReply 9 (bytesBE 1 0x13 ++ st)
  | .instRecord 6 => s.keeperReply 9 (bytesBE 1 0x14 ++ st)
  | _ => s.keeperReply 9 (bytesBE 1 0x12 ++ st ++ bytesBE 3 s.instNext)

/-- INST_BEGIN (R786, R787). -/
def instBegin (cmd : List Byte) (s : State) : State :=
  let n := fieldBE cmd 1 4
  let x := s.store
  let status := fun (k : Nat) => s.keeperReply 9 (bytesBE 1 0x10 ++ bytesBE 1 k ++ bytesBE 1 (bitNat s.targetBank))
  if x.inst = .erasing ∨ x.inst = .programming ∨ x.inst = .verifying ∨ x.recheck.isSome = true ∨
      x.op.isSome = true then status 7
  else if cmd.length ≠ 5 ∨ n < 128 ∨ 1048576 < n then status 1
  else ({ s with store.imgLen := n }).instStart .instErase

/-- INST_DATA: the next chunk, or one discarded and counted (R788). -/
def instData (cmd : List Byte) (s : State) : State :=
  let bytes := cmd.drop 4
  let ok := s.store.inst == .programming && decide (5 ≤ cmd.length) && decide (cmd.length ≤ 52) &&
    fieldBE cmd 1 3 == s.instNext && decide (s.instNext + bytes.length ≤ s.store.imgLen)
  if ok then
    let s := { s with store.chunk := s.store.chunk ++ bytes }
    if 256 ≤ s.store.chunk.length ∧ s.store.op.isNone = true ∧ s.store.recheck.isNone = true then
      s.instStart .instPage
    else s
  else { s with store.chunksLost := s.store.chunksLost + 1 }

/-- INST_END: verification begins, or SEQUENCE; without an IVK, INVALID (R789–R791).
DESIGN CHOICE, unsafe: log entry 56. -/
def instEnd (_cmd : List Byte) (s : State) : State :=
  if s.store.inst ≠ .programming ∨ s.instNext < s.store.imgLen then s.instReply (.instRecord 3) 5
  else if s.store.ivk.isNone then (s.instReply (.instRecord 3) 1).instFail
  else s.instStart (.instRecord 3)

/-- INST_COMMIT: a VERIFIED install's COMMITTED record begun (R790, R792). -/
def instCommit (_cmd : List Byte) (s : State) : State :=
  if s.store.inst = .verified then s.instStart (.instRecord 5) else s.instReply (.instRecord 5) 5

/-- INST_REVERT: the PREVIOUS bank made active again, if its digest still matches (R792). -/
def instRevert (_cmd : List Byte) (s : State) : State :=
  let good := match s.store.previous with
    | some b => (s.bank b).valid && imageDigest (s.bank b).bytes == (s.bank b).digest
    | none => false
  if good then s.instStart (.instRecord 6) else s.instReply (.instRecord 6) 4

/-- INST_ABORT: an install not yet committed ends and its target is INVALID (Table 19-14).
DESIGN CHOICE, unsafe: log entry 56. -/
def instAbort (_cmd : List Byte) (s : State) : State :=
  let st := fun (s : State) (k : Nat) => s.keeperReply 9 (bytesBE 1 0x15 ++ bytesBE 1 k)
  if s.store.inst = .none ∨ s.store.inst = .committed then st s 5
  else
    let s := { s with
      store.inst := .none, store.instAt := .none, store.op := none, store.recheck := none
      store.chunk := [], store.got := 0 }
    st (s.spoilBank s.store.target) 0

/-- An install command's row: the command taken from MB9, while no other write of the store runs.
DESIGN CHOICE, safe: log entry 13. -/
def installRow (s : State) (code : Nat) (act : List Byte → State → State) : State :=
  match s.store.op with
  | some .instErase => s.keeperTake 9 instCodes code act
  | some .instPage =>
    if code = 0x11 ∨ code = 0x10 ∨ code = 0x15 then s.keeperTake 9 instCodes code act else s
  | some _ => s
  | none => s.keeperTake 9 instCodes code act

/-- A page programmed, with the next one begun once 256 bytes are held (R788). -/
def pageDone (s : State) : State :=
  let b := s.store.target
  let x := s.bank b
  let s := s.setBank b { x with bytes := x.bytes ++ s.store.chunk.take 256 }
  let s := { s with
    store.got := s.store.got + (s.store.chunk.take 256).length, store.chunk := s.store.chunk.drop 256 }
  if 256 ≤ s.store.chunk.length then s.instStart .instPage else s

/-- An INSTALL record written, with what its step brings (Table 19-15, R792). -/
def recordDone (s : State) (step : Nat) : State :=
  let b := s.store.target
  match step with
  | 3 =>
    let x := s.bank b
    let s := s.setBank b { x with bytes := x.bytes ++ s.store.chunk }
    { s with store.got := s.store.got + s.store.chunk.length, store.chunk := [] }
  | 4 =>
    let x := s.bank b
    let x := { x with valid := true, ver := (imageOf x.bytes).ver, digest := imageDigest x.bytes }
    let s := { (s.setBank b x) with store.inst := .verified }
    (s.instPut 4 b).instReply (.instRecord 4) 0
  | 5 =>
    let s := { s with store.inst := .committed, store.previous := s.store.active, store.active := some b }
    (s.instPut 5 b).instReply (.instRecord 5) 0
  | _ => match s.store.previous with
    | some p =>
      let s := { s with
        store.inst := .committed, store.target := p, store.previous := s.store.active, store.active := some p }
      (s.instPut 5 p).instReply (.instRecord 6) 0
    | none => s

/-- An install operation that failed in the flash: status STORE (R786). -/
def instBad (s : State) (op : StoreOp) : State :=
  let s := s.instReply op 4
  if op = .instRecord 5 ∨ op = .instRecord 6 then s else s.instFail

/-- What a completed operation brings, by what it was for. -/
def opCompletes (s : State) (op : StoreOp) (ok : Bool) : State :=
  match op with
  | .instErase => s
  | .instPage => if ok then s.pageDone else s.instBad .instPage
  | .instRecord k => if ok then s.recordDone k else s.instBad (.instRecord k)
  | .key => s.keyDone ok
  | .boot v => if ok then s.bootPut v else s
  | .seal => s.sealDone ok
  | .sealWrite => s.sealWriteDone ok
  | .ivk =>
    if ok then
      { s with
        store.ivk := some ((List.range 16).map fun i => sget 0 s.store.ivkView i), store.ivkView := [] }
    else s

/-- The POWERFAIL sequence ends with its record, naming the operation that was in progress; the device then
holds a power-on reset (R751).
DESIGN CHOICE, unsafe: log entry 70. -/
def failEnds (s : State) (named : Nat × Nat) : State :=
  let s := s.journalPut .powerfail 0 (bytesBE 1 named.1 ++ bytesBE 1 named.2)
  ({ (s.wipe false) with supply.failing := false }).leaveReset

/-! ### The calibration store (R334, R794–R797) -/

/-- A step of a commit that programs begins, if the hold-up check passes; PROGRAM writes the RAM table as it
stands now to the slot the commit takes (Table 19-16, R795). -/
def commitStep (s : State) (next : CommitStep) : State :=
  let r := s.checkEnergy 40
  if r.1 then
    let s := { r.2 with store.commit := next }
    if next = .program then
      { s with store.calSlots := kput s.store.calSlots s.nextCalSlot s.clk.table }
    else s
  else r.2.abandonCommit

/-- The CAL record of a commit: the slot becomes current (Table 19-16), and the commit of a sweep that ended
meanwhile begins (R334). -/
def commitEnds (s : State) : State :=
  let slot := s.nextCalSlot
  let prev := s.store.calSlot
  let t := (kget s.store.calSlots slot).getD []
  let s := s.journalPut .cal calStepRecord (calBody slot prev t)
  let due := s.store.commitDue
  let s := { s with
    store.calSlot := slot, store.calPrev := prev, store.commit := .idle, store.commitDue := false
    store.sweepLost := false }
  if due then s.startCommit else s

end State

/-! ### The rows of the table -/

/-- SHOW_SET (Table 16-4). -/
def execShowSet (s : State) : Host.Outcome State Fault Refusal := .next (s.provisionRow 1)

/-- SHOW_DEL (Table 16-4). -/
def execShowDel (s : State) : Host.Outcome State Fault Refusal := .next (s.provisionRow 2)

/-- SITE_SET (Table 16-4). -/
def execSiteSet (s : State) : Host.Outcome State Fault Refusal := .next (s.provisionRow 3)

/-- LINK_SET (Table 16-4). -/
def execLinkSet (s : State) : Host.Outcome State Fault Refusal := .next (s.provisionRow 4)

/-- LINK_DEL (Table 16-4). -/
def execLinkDel (s : State) : Host.Outcome State Fault Refusal := .next (s.provisionRow 5)

/-- HAK_SET (Table 16-4), or the HAK of an INSTALL session (R679). -/
def execHakSet (s : State) : Host.Outcome State Fault Refusal :=
  .next (if s.mail.session.mode = .open_ ∧ s.mail.session.kind = 3 then
      if s.store.op.isSome then s else s.installHak
    else s.provisionRow 6)

/-- INST_BEGIN (R787). -/
def execInstBegin (s : State) : Host.Outcome State Fault Refusal := .next (s.installRow 0x10 State.instBegin)

/-- INST_DATA (R788). -/
def execInstData (s : State) : Host.Outcome State Fault Refusal := .next (s.installRow 0x11 State.instData)

/-- INST_END (R789). -/
def execInstEnd (s : State) : Host.Outcome State Fault Refusal := .next (s.installRow 0x12 State.instEnd)

/-- INST_COMMIT (R792). -/
def execInstCommit (s : State) : Host.Outcome State Fault Refusal := .next (s.installRow 0x13 State.instCommit)

/-- INST_REVERT (R792). -/
def execInstRevert (s : State) : Host.Outcome State Fault Refusal := .next (s.installRow 0x14 State.instRevert)

/-- INST_ABORT (R786). -/
def execInstAbort (s : State) : Host.Outcome State Fault Refusal := .next (s.installRow 0x15 State.instAbort)

/-- INST_ERASE_DONE: the target is erased, PROGRAMMING begins and INST_BEGIN is answered (R790). -/
def execInstEraseDone (s : State) : Host.Outcome State Fault Refusal :=
  .next (if s.store.op = some .instErase then
    let s := { s with store.op := none, store.inst := .programming }
    (s.instPut 2 s.store.target).instReply .instErase 0
  else s)

/-- INST_VERIFY_DONE: the image VERIFIED, or rejected (R791). -/
def execInstVerifyDone (s : State) : Host.Outcome State Fault Refusal :=
  let bytes := (s.bank s.store.target).bytes
  .next (if s.store.inst ≠ .verifying ∨ s.store.op.isSome = true ∨ s.store.recheck.isSome = true then s
  else match s.store.ivk with
    | none => (s.instReply (.instRecord 4) 1).instFail
    | some k =>
      if !signatureOk k bytes then ((s.instReply (.instRecord 4) 6).instFail).note 0xB211
      else if !imageOk bytes then ((s.instReply (.instRecord 4) 1).instFail).note 0xB210
      else s.instStart (.instRecord 4))

/-- ENERGY_RECHECK: an install operation refused for energy is checked again; after 1 s it is answered ENERGY
(R785). -/
def execEnergyRecheck (s : State) : Host.Outcome State Fault Refusal :=
  .next (match s.store.recheck with
  | none => s
  | some (op, n) =>
    if s.store.op.isSome then s
    else if n + 1 < 100 then ({ s with store.recheck := some (op, n + 1) }).instStart op
    else
      let r := s.startOp op
      if r.1 then ({ r.2 with store.recheck := none }).instStarted op
      else
        let t := ({ r.2 with store.recheck := none }).instReply op 3
        if op = .instPage ∨ op = .instRecord 3 ∨ op = .instRecord 4 then t.instFail else t)

/-- STORE_OP_DONE: the store or OTP operation in progress completes, verified or not (R784); a POWERFAIL
sequence that waited for it ends (R751).
DESIGN CHOICE, safe: log entry 4. DESIGN CHOICE, unsafe: log entry 70. -/
def execStoreOpDone (ok : Bool) (s : State) : Host.Outcome State Fault Refusal :=
  .next (match s.store.op with
  | none => s
  | some .instErase => s
  | some op =>
    let named := s.opNamed
    let t := ({ s with store.op := none }).opCompletes op ok
    if s.supply.failing then ({ t with store.op := none }).failEnds named else t)

/-- CAL_COMMIT_STEP_DONE: a commit's step has run, well or not, and the next begins, or the CAL record stands
(R794, R795). -/
def execCalCommitStepDone (ok : Bool) (s : State) : Host.Outcome State Fault Refusal :=
  .next (if ok then
      match s.store.commit with
      | .idle => s
      | .erase => s.commitStep .program
      | .program => { s with store.commit := .check }
      | .check => s.commitStep .record
      | .record => s.commitEnds
    else if s.store.commit = .idle then s
    else s.abandonCommit)

end Sys2Proof.Machine
end

