-- ==== Sys2Proof/Machine/View.lean ====
section
/-! DEFINITION. What the registers read (chapters 21 and 22, and the register tables of the chapters): one
function for each block, and `regRead` over all of them.  What a read changes is in Registers.lean. -/

namespace Sys2Proof.Machine

open Sys2Proof

/-- A word of fields, each given as its lowest bit, its width and its value. -/
def pack (fs : List (Nat × Nat × Nat)) : Word :=
  BitVec.ofNat 32 (fs.foldl (fun (a : Nat) (f : Nat × Nat × Nat) => a + f.2.2 % 2 ^ f.2.1 * 2 ^ f.1) 0)

/-- A Boolean field. -/
def flag (i : Nat) (b : Bool) : Nat × Nat × Nat := (i, 1, bitNat b)

/-- Thirty-two Booleans as a word, bit n for `p n`. -/
def bitMap (p : Nat → Bool) : Word :=
  BitVec.ofNat 32 ((List.range 32).foldl (fun (a : Nat) i => a + bitNat (p i) * 2 ^ i) 0)

/-- The code that MB_VINFO gives a sender (Table 16-7). -/
def Sender.code : Sender → Nat
  | .bench b => b | .tack => 5 | .host => 6 | .keeper => 7

namespace State

/-! ### SYS (Tables 21-3, 19-18 and 20-4) -/

/-- The domains up, bit 0 HOST to bit 4 HEARTH. -/
def domainsUp (s : State) : Nat :=
  [Domain.host, .keeper, .bench, .broadcast, .hearth].foldl
    (fun (a : Nat) d => a + bitNat (s.up d) * 2 ^ d.ctorIdx) 0

/-- The power state code of SYS_PWR and STATUS. -/
def powerCode (s : State) : Nat := match s.supply.power with
  | .idle => 1 | .run => 2 | .hold => 3 | _ => 0

/-- The SYS block. -/
def readSys (s : State) (a : Nat) : Word :=
  match a with
  | 0x000 => 0x00009696
  | 0x001 => 0x00000101
  | 0x002 => pack [(0, 2, s.powerCode), (8, 5, s.domainsUp)]
  | 0x004 => BitVec.ofNat 32 s.supply.rstCause
  | 0x005 => pack [(0, 16, s.store.vsys), (16, 16, s.store.vhold)]
  | 0x010 => pack [(0, 7, s.flt.entries.length),
      flag 7 (s.flt.entries.any fun e => e.code == 0x1001),
      (16, 16, (s.flt.entries.getLast?.map fun e => e.code).getD 0)]
  | 0x011 => BitVec.ofNat 32 s.flt.lost
  | 0x012 => BitVec.ofNat 32 ((s.flt.entries.head?.map fun e => fieldBE e.bytes 0 4).getD 0)
  | 0x013 => s.flt.peek1
  | _ => s.reg a

/-! ### LAST and TACK (Tables 2-8, 2-10 and 6-7) -/

/-- LAST_STATUS (Table 2-10). -/
def lastStatus (s : State) : Word :=
  pack [(0, 3, s.last.src.code), (3, 2, s.last.mode.code), flag 5 s.last.stamped,
    flag 6 (s.last.src == .localRef), flag 7 s.last.trimValid, flag 8 (!s.last.pendErrs.isEmpty)]

/-- The earliest due PP of the pending tacks. -/
def nextDue (s : State) : Option Nat := (s.tack.pending.map fun t => t.due).min?

/-- The LAST and TACK blocks. -/
def readTime (s : State) (a : Nat) : Word :=
  match a with
  | 0x103 => s.lastStatus
  | 0x104 => BitVec.ofNat 32 s.last.pp
  | 0x105 => BitVec.ofNat 32 s.last.latchHi
  | 0x106 => BitVec.ofNat 32 s.last.latchEpoch
  | 0x107 => BitVec.ofNat 32 (satField 32 s.last.err)
  | 0x108 => BitVec.ofNat 32 (satField 32 s.last.trim)
  | 0x109 => BitVec.ofNat 32 (if s.last.src = .localRef then s.last.frEdges / 456 else 0)
  | 0x10A => pack [(0, 8, s.last.holds), (8, 8, s.last.slews), (16, 8, s.last.skips), (24, 8, s.last.rewinds)]
  | 0x10B => BitVec.ofNat 32 s.last.evt
  | 0x181 => BitVec.ofNat 32 s.tack.pending.length
  | 0x182 => BitVec.ofNat 32 s.tack.high
  | 0x183 => pack [(0, 8, s.tack.full), (8, 8, s.tack.dropped), (16, 8, s.tack.skipped), (24, 8, s.tack.late)]
  | 0x184 => BitVec.ofNat 32 s.tack.disp
  | 0x185 => pack [(0, 8, s.tack.failHearth), (8, 8, s.tack.failIr), (16, 8, s.tack.failMail),
      (24, 8, s.tack.failMarker)]
  | 0x186 => BitVec.ofNat 32 s.tack.repSf
  | 0x187 | 0x188 | 0x189 => s.tack.latch.getD (a - 0x187) 0
  | 0x18A => BitVec.ofNat 32 (s.nextDue.getD 0)
  | 0x18B => pack [(0, 16, s.nextDue.getD 0 / 2 ^ 32), flag 16 s.nextDue.isNone]
  | _ => s.reg a

/-! ### Benches and intake (Tables 4-10 and 3-6) -/

/-- A bench's state code (Table 4-10). -/
def benchCode (n : Bench) : Nat := match n.mode with
  | .off => 0 | .run => if n.handler.isSome then 2 else 1 | .replay => 3 | .halted => 4

/-- The bench and intake block. -/
def readBench (s : State) (a : Nat) : Word :=
  let p := s.barrierPos.getD ⟨0, 0⟩
  if 0x210 ≤ a ∧ a ≤ 0x223 then
    let n := s.bench ((a - 0x210) / 4)
    match a % 4 with
    | 0 => BitVec.ofNat 32 n.stepsPrev
    | 1 => BitVec.ofNat 32 n.events
    | 2 => pack [(0, 11, n.queue.length), (16, 11, n.queueHigh)]
    | _ => pack [(0, 16, min 65535 (n.logBytes + match n.handler with
        | some h => if h.script.isNone then h.logBytes else 0
        | none => 0)),
        (16, 8, (n.faultSfs.filter fun x => decide (s.prog.sfs < x + 16)).length)]
  else match a with
  | 0x200 => BitVec.ofNat 32 s.prog.runWant
  | 0x201 => pack ((List.range 5).map fun b => (3 * b, 3, benchCode (s.bench b)))
  | 0x202 => BitVec.ofNat 32 p.pp
  | 0x204 => pack [(0, 16, s.lag), (16, 16, s.prog.lagHigh)]
  | 0x205 => pack [(0, 16, s.prog.lastFault), (16, 3, s.prog.lastFaultBench)]
  | 0x206 => (s.prog.image.map fun i => i.ver).getD 0
  | 0x207 => pack [(0, 16, s.prog.ckpts), (16, 16, s.prog.restarts)]
  | 0x224 => BitVec.ofNat 32 s.prog.dropped
  | 0x2A0 => pack [(0, 8, s.intake.badtag), (8, 8, s.intake.malformed), (16, 8, s.intake.replays),
      (24, 8, s.intake.abandoned)]
  | 0x2A1 => BitVec.ofNat 32 s.intake.dups
  | 0x2A2 => BitVec.ofNat 32 s.intake.lost
  | 0x2A3 => BitVec.ofNat 32 s.intake.streams.length
  | _ => s.reg a

/-! ### Mailboxes, bus, stream and audio (Tables 16-7, 15-8 and 17-7) -/

/-- The message that MB_VSEL selects. -/
def viewedMsg (s : State) : Option Msg :=
  let i := s.fld 0x303 3 0
  if (s.reg 0x303).bit 4 then vget none s.mail.outb i else vget none s.mail.inb i

/-- MB_VINFO (Table 16-7). -/
def mbInfo (s : State) : Word := match s.viewedMsg with
  | some m => pack [(0, 7, m.bytes.length), flag 7 m.stale, flag 8 m.orphan, flag 9 m.timeout, (10, 1, 1),
      (11, 3, m.sender.code)]
  | none => 0

/-- SESS_STATUS (Table 16-7) but for the seconds since the last session command. -/
def sessStatus (s : State) : Nat :=
  let x := s.mail.session
  (if x.locked then 3 else match x.mode with | .closed => 0 | .challenge => 1 | .open_ => 2) +
    x.kind % 4 * 4 + x.failures % 16 * 16 + bitNat s.mail.keys.hak.isSome * 256

/-- The code of an output routed to a port: 0 none, 1 PO0, 2 PO1. -/
def routedCode (a : Audio) : Nat := match a.routed with | some po => po + 1 | none => 0

/-- The mailbox, eyelet, bus, stream and audio blocks. -/
def readHost (s : State) (a : Nat) : Word :=
  if 0x320 ≤ a ∧ a ≤ 0x326 then vget 0 s.mail.rung (a - 0x320)
  else if 0x328 ≤ a ∧ a ≤ 0x32E then vget 0 s.mail.mask (a - 0x328)
  else if 0x3C8 ≤ a ∧ a ≤ 0x3CF then
    let x := s.audio ((a - 0x3C8) / 4)
    match a % 4 with
    | 0 => s.reg a
    | 1 => pack [(0, 2, routedCode x), flag 2 x.lock, flag 3 (x.muted || s.stopped),
        (16, 16, satField 16 x.ratio)]
    | 2 => BitVec.ofNat 32 x.frames
    | _ => BitVec.ofNat 32 (satField 32 x.err)
  else match a with
  | 0x302 => bitMap fun i => if i < 16 then (vget none s.mail.inb i).isSome
      else (vget none s.mail.outb (i - 16)).isSome
  | 0x304 => s.mbInfo
  | 0x305 | 0x306 => s.mail.latch.getD (a - 0x305) 0
  | 0x307 => pack [(0, 8, s.mail.timeouts), (8, 8, s.mail.stales), (16, 8, s.mail.orphans),
      (24, 8, s.mail.refused)]
  | 0x330 => BitVec.ofNat 32 s.mail.eyeEvt
  | 0x340 => BitVec.ofNat 32 s.sessStatus
  | 0x381 => pack [(0, 7, s.bus.addr), flag 7 (s.bus.sclStuck || s.bus.sdaStuck), flag 8 s.bus.alertStuck,
      flag 9 s.alertDriven, flag 10 s.bus.notifyFail, flag 11 (s.mail.session.mode == .open_)]
  | 0x382 => s.bus.lastNack
  | 0x384 => BitVec.ofNat 32 s.causes
  | 0x385 => pack [(0, 8, s.bus.busy), (8, 8, s.bus.refusals), (16, 8, s.bus.pecErrs), (24, 8, s.bus.timeouts)]
  | 0x386 => BitVec.ofNat 32 s.bus.evt
  | 0x3C2 => pack [(0, 18, s.bufUsed), flag 24 s.port.stHold, flag 25 s.port.drop.isSome]
  | 0x3C3 => pack [(0, 16, s.port.dropped), (16, 16, s.port.drops)]
  | 0x3C4 => BitVec.ofNat 32 s.port.seq
  | _ => s.reg a

/-! ### Welt, store, Awl and Keeper (Tables 18-9, 19-18 and 21-14) -/

/-- STORE_INST (Table 19-18). -/
def instWord (s : State) : Word :=
  let x := s.store
  let kib := x.inst == .programming ||
    (x.inst == .abandoned && (x.instAt == .programming || x.instAt == .verifying))
  pack [(0, 3, x.inst.code), (3, 3, if x.inst = .abandoned then x.instAt.code else 0), flag 6 x.target,
    (16, 16, if kib then x.got / 1024 else 0)]

/-- KEEPER_VIEW (Table 21-14). -/
def keeperView (s : State) : Word :=
  let k := s.mail.keys
  pack [(0, 5, k.show_.length), flag 5 k.site.isSome, flag 6 k.hak.isSome, flag 7 s.theSeal.sealed,
    (16, 16, (List.range 16).foldl (fun (a : Nat) t => a + bitNat (kget k.link t).isSome * 2 ^ t) 0)]

/-- The welt, store, Awl and Keeper blocks. -/
def readKeeper (s : State) (a : Nat) : Word :=
  let w := s.welt
  let x := s.store
  if 0xF20 ≤ a ∧ a ≤ 0xF2F then
    match x.ivk with
    | some k => k.getD (a - 0xF20) 0
    | none => sget 0 x.ivkView (a - 0xF20)
  else match a with
  | 0xE01 => pack [(0, 2, w.role.code), (2, 2, w.partner.code), flag 4 w.up, flag 5 w.pri, flag 6 w.diverged,
      flag 7 w.adopting, flag 8 w.arbitrating, (9, 3, min 7 w.absences)]
  | 0xE02 => BitVec.ofNat 32 w.conf.pp
  | 0xE03 => w.latchHi
  | 0xE04 => w.digCmp
  | 0xE05 => BitVec.ofNat 32 w.take
  | 0xE06 => pack [(0, 8, w.resends), (8, 8, w.crcErrs), (16, 8, w.mismatches), (24, 8, w.shadowLost)]
  | 0xE07 => BitVec.ofNat 32 w.evt
  | 0xF00 => pack [flag 0 (x.active == some true), flag 1 x.bankA.valid, flag 2 x.bankB.valid,
      flag 3 x.ivk.isSome, flag 4 (x.op.isSome || x.commit != .idle), flag 5 s.committed]
  | 0xF01 => s.instWord
  | 0xF02 => if x.bankA.valid then x.bankA.ver else 0
  | 0xF03 => if x.bankB.valid then x.bankB.ver else 0
  | 0xF04 => pack [(0, 5, x.calSlot), flag 16 x.sweepLost, flag 17 x.calEmpty]
  | 0xF05 => BitVec.ofNat 32 x.boot
  | 0xF06 => pack [(0, 16, x.vhold), (16, 16, x.c)]
  | 0xF07 => pack [(0, 16, min 65535 s.energy), (16, 16, min 65535 x.need)]
  | 0xF08 => BitVec.ofNat 32 x.evt
  | 0xF12 => BitVec.ofNat 32 s.awl.pass
  | 0xF13 => BitVec.ofNat 32 s.awl.fail
  | 0xF14 => BitVec.ofNat 32 s.awl.warn
  | 0xF15 => BitVec.ofNat 32 s.awl.defer
  | 0xF16 => pack [flag 0 s.awl.running, flag 1 s.awl.powerUp, flag 2 s.degradeOk, (8, 8, s.awl.cause)]
  | 0xF40 => s.keeperView
  | _ => s.reg a

/-! ### Clocks, synthesizers and chains (Tables 8-5, 8-10 and 7-16) -/

/-- The entry that CAL_INDEX selects, as its two words (R842). -/
def calEntryWord (s : State) (i : Nat) : Word :=
  let slot := s.fld 0x412 8 0
  match kget s.clk.table slot with
  | some e => BitVec.ofNat 32 ((e.words (s.calPinned slot e)).getD i 0)
  | none => 0

/-- The code of an output divider in SYNc_STATUS. -/
def dividerCode (d : Nat) : Nat :=
  if d = 16 then 1 else if d = 24 then 2 else if d = 32 then 3 else if d = 48 then 4 else 0

/-- SYNc_STATUS (Table 8-10, R842): locked while the chain's state runs its synthesizer, no transition is in
progress and the output is not gated.
DEDUCED, unsafe: log entry 62. -/
def synStatus (s : State) (c : Nat) : Word :=
  let t := (20, 12, satField 12 (vget 0 s.clk.temp c))
  if !s.chainUp c then pack [t]
  else
    let x := s.chain c
    let gated := !s.clk.refOk || vget false s.clk.synLost c
    let live := x.mode == .synth || x.mode == .rx || x.mode == .tx
    let hz := if c = 2 then channelHz x.lo else x.lo
    let d := if x.tuned then dividerOf c hz else 4
    let slot := s.calInUse c
    let (spur, rm) := match slot.bind fun i => kget s.clk.table i with
      | some e => (e.spurnear, e.refmode)
      | none => if x.tuned then ((refModeOf (hz * d)).2, (refModeOf (hz * d)).1) else (false, 0)
    pack [flag 0 (live && x.trans.isNone && !gated), flag 1 gated, flag 2 spur, (3, 2, rm),
      (5, 3, dividerCode d), (8, 9, slot.getD 0), t]

/-- The CLOCKS/SYNTH block.
DEDUCED, unsafe: log entry 62. -/
def readClocks (s : State) (a : Nat) : Word :=
  let k := s.clk
  let bench := s.up .bench
  match a with
  | 0x401 => pack [flag 0 (k.sysLock && bench), flag 1 (k.sckLock && bench), flag 2 k.refOk, flag 3 k.refIn,
      flag 4 (k.limp || !bench)]
  | 0x402 => BitVec.ofNat 32 k.evt
  | 0x403 => BitVec.ofNat 32 k.limpKHz
  | 0x411 => pack [(0, 10, k.table.length),
      (10, 10, (k.table.filter fun (e : Nat × CalEntry) => s.calPinned e.1 e.2).length),
      flag 20 k.sweep.isSome, flag 21 (s.store.commit != .idle)]
  | 0x413 => s.calEntryWord 0
  | 0x414 => k.latch1
  | 0x415 => pack [(0, 16, k.cals), (16, 8, k.calFails), (24, 8, k.evictions)]
  | 0x418 => s.synStatus 0
  | 0x419 => s.synStatus 1
  | 0x41A => s.synStatus 2
  | _ => s.reg a

/-- The next placed bubble of a chain. -/
def nextBubble (s : State) (c : Nat) : Option Bubble :=
  ((s.chain c).bubbles.filter fun b => b.begun.isNone).foldl (fun (m : Option Bubble) b => match m with
    | some d => if b.start < d.start then some b else m
    | none => some b) none

/-- BRc_BUB_HI as it stands (Table 7-16). -/
def bubbleHi (s : State) (c : Nat) : Word := match s.nextBubble c with
  | some b => pack [(0, 16, b.start / 2 ^ 32), (16, 4, b.kind.code), (20, 4, b.kind.ticks)]
  | none => 0x80000000

/-- A chain's status bits [15:0] (Table 7-16). -/
def chainStatus (s : State) (c : Nat) : List (Nat × Nat × Nat) :=
  let x := s.chain c
  [(0, 3, codeOfMode x.mode), flag 3 (x.bubbles.any fun b => b.begun.isSome), flag 4 x.failed, (8, 8, x.epoch)]

/-- The BR block. -/
def readBr (s : State) (a : Nat) : Word :=
  if a = 0x540 then (s.reg 0x540).setBits 1 0 s.radio.mode
  else
    let c := if a < 0x520 then 0 else 1
    let x := s.chain c
    match a % 32 with
    | 1 => pack (s.chainStatus c ++ [(16, 4, x.gain), (24, 8, if x.mode = .rx then min 255 x.clipped else 0)])
    | 2 => BitVec.ofNat 32 x.lo
    | 4 => pack [(0, 8, satField 8 x.trimI), (8, 8, satField 8 x.trimQ), (16, 8, satField 8 x.loopI),
        (24, 8, satField 8 x.loopQ)]
    | 6 => BitVec.ofNat 32 (((s.nextBubble c).map fun (b : Bubble) => b.start).getD 0)
    | _ => s.reg a

/-- The HR, hearth-link and seal-view blocks (Tables 7-16 and 13-14). -/
def readHearth (s : State) (a : Nat) : Word :=
  let r := s.radio
  let h := s.hearth
  if 0x60B ≤ a ∧ a ≤ 0x612 then BitVec.ofNat 32 (s.usedAirtime (a - 0x60B) / 1000)
  else if 0x622 ≤ a ∧ a ≤ 0x644 then s.sealReg a
  else match a with
  | 0x601 => pack (s.chainStatus 2 ++ [flag 5 r.pinPafault, flag 6 r.pinAntsel, (16, 8, (s.chain 2).gain)])
  | 0x602 => pack [(0, 9, (s.chain 2).lo)]
  | 0x603 => pack [flag 0 r.paflt, flag 1 r.clamp, flag 2 r.maskref, flag 3 r.noseal]
  | 0x604 => BitVec.ofNat 32 r.txCount
  | 0x609 => pack [(0, 2, h.mode.code), flag 2 h.plan.isSome, (8, 8, min 255 h.queue.length),
      (16, 8, (h.plan.map fun p => p.id).getD 0), flag 24 h.bcnQual, (28, 4, (h.plan.map fun p => p.hub).getD 0)]
  | 0x60A => BitVec.ofNat 32 (sfOf h.slotStart)
  | 0x613 => pack [(0, 8, h.lbtBusy), (8, 8, h.dutyRef), (16, 8, h.lost), (24, 8, h.oneBurst)]
  | 0x614 => pack [(0, 16, h.upOk), (16, 8, h.upCrc), (24, 8, h.upMac)]
  | 0x615 => pack [(0, 16, h.rxOk), (16, 16, h.rxBad)]
  | 0x620 => pack [flag 0 s.theSeal.sealed, flag 1 s.theSeal.busy, (2, 3, s.theSeal.result.ctorIdx),
      (5, 4, s.theSeal.used)]
  | _ => s.reg a

/-! ### Infrared and GPIO (Tables 14-7 and 22-8) -/

/-- The GPIO lines that the device drives (R846). -/
def gpioDriven (s : State) : Nat :=
  let oe := s.fld 0x720 7 0
  let released := s.fld 0x720 15 8 &&& s.infra.gpioLevel
  let out := (s.supply.power == .idle || s.supply.power == .run) &&
    (s.welt.role == .solo || s.welt.role == .active) && !s.supply.hiZ
  if out then oe &&& (0xFF ^^^ released) else 0

/-- The infrared and GPIO block but for GPIO_IN. -/
def readInfra (s : State) (a : Nat) : Word :=
  let x := s.infra
  if 0x710 ≤ a ∧ a ≤ 0x71F then vget 0 x.prof (a - 0x710)
  else match a with
  | 0x701 =>
    let up := s.up .broadcast
    let mode := fun c => if up then (s.ir c).mode.code else 0
    pack ([(0, 3, mode 0), (3, 3, mode 1), (16, 8, (s.ir 0).floor), (24, 8, (s.ir 1).floor)] ++
      (List.range 4).flatMap fun i =>
        [flag (6 + i) (s.irOut i).sending.isSome, flag (10 + i) (s.irOut i).waiting.isSome])
  | 0x702 => pack [(0, 12, x.mean), (16, 10, x.bias)]
  | 0x703 => pack [(0, 8, x.ok), (8, 8, x.single), (16, 8, x.floodCodes), (24, 8, x.floods)]
  | 0x704 => pack [(0, 8, x.sent), (8, 8, x.busy), (16, 8, x.noneTx), (24, 8, x.aborted)]
  | 0x705 => BitVec.ofNat 32 x.evt
  | 0x721 => pack [(0, 8, x.gpioLevel), (8, 8, s.gpioDriven)]
  | _ => s.reg a

/-! ### Lanes (Table 9-13) -/

/-- The lane whose block number `n` shows: an understudy's number shows the lane it covers, and its reset
values while it is unbound (R849).
DEDUCED, unsafe: log entry 62. -/
def shownLane (s : State) (n : Nat) : Lane :=
  if 96 ≤ n ∧ n < 100 then
    match s.lanes.lane.find? fun (e : Nat × Lane) => e.2.under == some (n - 96) with
    | some e => e.2
    | none => Lane.init
  else s.lane n

/-- A register of a lane block. -/
def readLane (s : State) (n off : Nat) : Word :=
  let x := s.shownLane n
  match off with
  | 0 => pack [flag 0 (x.use != .free), flag 1 x.hold, flag 2 x.reson]
  | 1 => x.nco
  | 2 => pack [(0, 2, x.n), (2, 8, x.dec), (10, 1, x.f), (11, 10, x.a)]
  | 3 => pack [(0, 5, x.setA), (5, 5, x.setB), flag 10 x.bankB, flag 12 x.fading, (16, 13, x.xf)]
  | 4 => BitVec.ofNat 32 (s.groupDelay x)
  | 5 => pack [(0, 21, x.delta), flag 31 x.reson]
  | 6 => pack [(0, 16, x.sfdFreq), (16, 14, x.sfdK), (30, 2, x.sfdIn)]
  | _ =>
    let st := match x.use with
      | .free => 0
      | .run => if x.settle = 0 then 2 else 1
      | .ir => 3
      | .wide => 4
    pack [(0, 3, st), (3, 2, x.branches), (8, 8, x.epoch), (16, 8, x.level),
      (25, 3, match x.under with | some i => i + 1 | none => 0)]

/-- The lane covered by understudy `i`. -/
def coveredBy (s : State) (i : Nat) : Option Nat :=
  (s.lanes.lane.find? fun (e : Nat × Lane) => e.2.under == some i).map fun (e : Nat × Lane) => e.1

/-- The pool and coefficient registers (Table 22-10).
DEDUCED, unsafe: log entry 62. -/
def readPool (s : State) (a : Nat) : Word :=
  let x := s.lanes
  match a with
  | 0xB80 => pack [(0, 11, 1024 - x.sharedUsed - (x.lane.map fun (e : Nat × Lane) => Nat.min e.2.blocks (laneReserve e.1)).sum),
      (11, 10, s.sharedFree)]
  | 0xB81 => BitVec.ofNat 32 x.poolLow
  | 0xB82 => BitVec.ofNat 32 x.none
  | 0xB83 => pack ((List.range 4).flatMap fun i =>
      [(7 * i, 7, (s.coveredBy i).getD 0), flag (28 + i) (s.coveredBy i).isSome])
  | 0xB84 | 0xB85 | 0xB86 => bitMap fun i => (s.lane (32 * (a - 0xB84) + i)).failed
  | 0xB87 => bitMap fun i => if i < 4 then vget false x.underFailed i
      else if i < 6 then vget false x.wideFailed (i - 4) else false
  | 0xB89 => s.coefRead
  | 0xB8A => pack [(0, 16, x.coefRef), (16, 16, x.coefFixed)]
  | _ => s.reg a

/-! ### Receivers and following (Tables 10-6 and 11-7) -/

/-- The quality record of the lane that FM_VSEL names; 0 for one that is no FM lane (R856). -/
def viewedFm (s : State) : Option FmLane := s.fmLane (s.fld 0xC20 6 0)

/-- The views FM_VQ0, FM_VQ1, FM_VRDS, FM_VPI and FM_VPS0–1 as they stand. -/
def fmView (s : State) : List Word := match s.viewedFm with
  | none => [0, 0, 0, 0, 0, 0]
  | some f =>
    let q := lastQuality f.quality
    let b := fun i => fieldBE q i 1
    let ps := f.psRep.getD []
    [pack [(0, 16, fieldBE q 0 2), (16, 8, b 2), (24, 8, b 3)],
     pack [(0, 16, fieldBE q 4 2), (16, 16, fieldBE q 6 2)],
     pack [(0, 1, b 11), (1, 1, b 11 / 2), (8, 8, b 8), (16, 8, b 9), (24, 8, b 10)],
     pack [(0, 16, f.pi.getD 0), flag 16 f.pi.isSome, (17, 5, f.pty), flag 22 f.tp, flag 23 f.ta,
       (24, 8, (s.lane (s.fld 0xC20 6 0)).epoch)],
     BitVec.ofNat 32 (fieldBE ps 0 4), BitVec.ofNat 32 (fieldBE ps 4 4)]

/-- POp_STATUS (Table 10-6). -/
def poStatus (s : State) (p : Po) : Word :=
  pack [flag 0 (match p.source with | some n => s.laneLocked n | none => false), flag 1 (decide (0 < p.main.blend)),
    (2, 8, p.main.blend * 255 / 16320), (10, 6, p.main.mute / 4), flag 16 p.noSrc, flag 17 p.main.concealing]

/-- The offset that FOLLOW_OFFSEL names (R857). -/
def viewedOffset (s : State) : Int × Bool :=
  let c := s.fld 0xC42 7 0
  if carrierId c then s.offsetOf c else (0, false)

/-- FOLLOW_OFFV as it stands: whether the offset is valid, and the bleed's ticks still to come. -/
def offsetValid (s : State) : Word :=
  let left := match s.last.govCarrier with
    | some c => if s.follow.bleed then ((s.offsetOf c).1.natAbs + 65535) / 65536 else 0
    | none => 0
  pack [flag 0 s.viewedOffset.2, (16, 16, min 65535 left)]

/-- The FM/RDS and FOLLOW blocks. -/
def readFm (s : State) (a : Nat) : Word :=
  let po := vget Po.init s.fm.po ((a - 0xC10) / 8)
  match a with
  | 0xC04 | 0xC05 | 0xC06 => bitMap fun i => s.laneLocked (32 * (a - 0xC04) + i)
  | 0xC07 | 0xC08 | 0xC09 => bitMap fun i => s.laneSync (32 * (a - 0xC07) + i)
  | 0xC0A => pack [(0, 16, s.fm.rdsCorr), (16, 16, s.fm.rdsBad)]
  | 0xC0B => BitVec.ofNat 32 s.fm.afBad
  | 0xC10 | 0xC18 => ((s.reg a).setBits 6 0 (po.source.getD 0)).setBits 7 7 (bitNat po.source.isSome)
  | 0xC13 | 0xC1B => s.poStatus po
  | 0xC21 => s.fmView.getD 0 0
  | 0xC22 | 0xC23 | 0xC24 | 0xC25 | 0xC26 => s.fm.latch.getD (a - 0xC22) 0
  | 0xC41 =>
    let on := fun p => s.follow.splices.any fun x => spliceOut x.blk == some p
    pack [flag 0 (on 0), flag 1 (on 1), flag 2 (s.follow.splices.any fun x => (byteAt x.blk 20).getLsbD 0),
      flag 3 s.follow.bleed, (8, 8, s.last.govCarrier.getD 0), (16, 8, s.follow.corrs.length)]
  | 0xC43 => BitVec.ofNat 32 (satField 32 s.viewedOffset.1)
  | 0xC44 => s.follow.latchV
  | 0xC45 => pack [(0, 16, s.follow.done), (16, 16, s.follow.abandoned)]
  | _ => s.reg a

/-! ### DAB (Table 12-10) -/

/-- The DAB block; an IDLE decoder that is not FAILED shows nothing (R858). -/
def readDab (s : State) (a : Nat) : Word :=
  if a = 0xD40 then s.reg a
  else
    let x := s.decoder (if a < 0xD20 then 0 else 1)
    let shown := x.mode != .idle || x.failed
    match a % 32 with
    | 1 => pack [(0, 3, x.mode.code), flag 3 x.ready, flag 4 x.failed, (8, 8, x.epoch), (16, 4, x.sels.length)]
    | 2 => BitVec.ofNat 32 (if shown then x.freq else 0)
    | 3 => if shown then pack [(0, 16, x.eid), (16, 8, x.ecc)] else 0
    | 4 => if shown then pack [(0, 13, x.cif)] else 0
    | 5 => BitVec.ofNat 32 (if shown then satField 32 x.foff else 0)
    | 6 => if shown then bitMap fun i => x.sels.any fun q => q.id == i else 0
    | 7 => if shown then bitMap fun i => x.sels.any fun q => q.id == 32 + i else 0
    | 8 => pack [(0, 8, x.badFib), (8, 8, x.badPacket), (16, 8, x.badGroup), (24, 8, x.badRs)]
    | 9 => BitVec.ofNat 32 x.repeats
    | _ => s.reg a

/-- What a register reads, but for the fields that the spec leaves open (R623, R821, R835). -/
def regRead (s : State) (a : Nat) : Word :=
  if a < 0x100 then s.readSys a
  else if a < 0x200 then s.readTime a
  else if a < 0x300 then s.readBench a
  else if a < 0x400 then s.readHost a
  else if a < 0x500 then s.readClocks a
  else if a < 0x600 then s.readBr a
  else if a < 0x700 then s.readHearth a
  else if a < 0x800 then s.readInfra a
  else if a < 0xB30 then s.readLane ((a - 0x800) / 8) (a % 8)
  else if a < 0xC00 then s.readPool a
  else if a < 0xD00 then s.readFm a
  else if a < 0xE00 then s.readDab a
  else s.readKeeper a

end State

end Sys2Proof.Machine
end

