-- ==== Sys2Proof/Machine/Registers.lean ====
section
/-! DEFINITION. The register space at work (chapters 15, 21 and 22): what a read changes, what a write does and
when, and the transactions REG_READ and REG_WRITE. -/

namespace Sys2Proof.Machine

open Sys2Proof

namespace State

/-! ### Reads -/

/-- What a register reads, with the fields that the spec leaves open: the seconds since the last session
command, and the levels of GPIO pins that the device does not drive.
DESIGN CHOICE, unsafe: log entry 6. -/
def readFull (s : State) (a : Nat) : Word × State :=
  if a = 0x340 ∧ s.mail.session.asked = true then
    let (v, s) := s.free16
    (pack [(0, 16, s.sessStatus), (16, 16, v.toNat)], s)
  else if a = 0x722 then
    let driven := s.gpioDriven
    let free := (Config.freePins s.freeCtr).toNat
    (BitVec.ofNat 32 ((s.infra.gpioLevel &&& driven) ||| (free &&& (0xFF ^^^ driven))),
      { s with freeCtr := s.freeCtr + 1 })
  else (s.regRead a, s)

/-- The followers that a read of a leading register captures (R828, R841). -/
def capture (s : State) (a : Nat) : State :=
  match a with
  | 0x012 =>
    let w := (s.flt.entries.head?.map fun (e : FaultEntry) => fieldBE e.bytes 4 4).getD 0
    { s with flt.peek1 := BitVec.ofNat 32 w }
  | 0x104 => { s with last.latchHi := s.last.pp / 2 ^ 32, last.latchEpoch := s.last.epoch }
  | 0x186 => { s with tack.latch := [s.tack.repInfo, s.tack.repCrc, BitVec.ofNat 32 s.tack.repSeq] }
  | 0x202 =>
    let p := s.barrierPos.getD ⟨0, 0⟩
    s.setReg 0x203 (pack [(0, 16, p.pp / 2 ^ 32), (16, 16, p.epoch)])
  | 0x304 =>
    let p := (s.viewedMsg.map fun (m : Msg) => m.pos).getD ⟨0, 0⟩
    { s with mail.latch := [BitVec.ofNat 32 p.pp, pack [(0, 16, p.pp / 2 ^ 32), (16, 16, p.epoch)]] }
  | 0x413 => { s with clk.latch1 := s.calEntryWord 1 }
  | 0x506 => s.setReg 0x507 (s.bubbleHi 0)
  | 0x526 => s.setReg 0x527 (s.bubbleHi 1)
  | 0xC21 => { s with fm.latch := s.fmView.tail }
  | 0xC43 => { s with follow.latchV := s.offsetValid }
  | 0xE02 => { s with welt.latchHi := pack [(0, 16, s.welt.conf.pp / 2 ^ 32), (16, 16, s.welt.conf.epoch)] }
  | _ => s

/-- A read-clear register of the time, bench and host blocks cleared by its read (Table 0-6).
DEDUCED, unsafe: log entry 62. -/
def clearHost (s : State) (a : Nat) : State :=
  match a with
  | 0x011 => { s with flt.lost := 0 }
  | 0x10A => { s with last.holds := 0, last.slews := 0, last.skips := 0, last.rewinds := 0 }
  | 0x182 => { s with tack.high := s.tack.pending.length }
  | 0x183 => { s with tack.full := 0, tack.dropped := 0, tack.skipped := 0, tack.late := 0 }
  | 0x184 => { s with tack.disp := 0 }
  | 0x185 => { s with tack.failHearth := 0, tack.failIr := 0, tack.failMail := 0, tack.failMarker := 0 }
  | 0x204 => { s with prog.lagHigh := 0 }
  | 0x211 | 0x215 | 0x219 | 0x21D | 0x221 =>
    let b := (a - 0x211) / 4
    s.setBench b { s.bench b with events := 0 }
  | 0x224 => { s with prog.dropped := 0 }
  | 0x2A0 => { s with intake.badtag := 0, intake.malformed := 0, intake.replays := 0, intake.abandoned := 0 }
  | 0x2A1 => { s with intake.dups := 0 }
  | 0x2A2 => { s with intake.lost := 0 }
  | 0x307 => { s with mail.timeouts := 0, mail.stales := 0, mail.orphans := 0, mail.refused := 0 }
  | 0x385 => { s with bus.busy := 0, bus.refusals := 0, bus.pecErrs := 0, bus.timeouts := 0 }
  | 0x3C3 => { s with port.dropped := 0, port.drops := 0 }
  | _ => s

/-- A read-clear register of the radio, lane and receiver blocks cleared by its read. -/
def clearRadio (s : State) (a : Nat) : State :=
  match a with
  | 0x415 => { s with clk.cals := 0, clk.calFails := 0, clk.evictions := 0 }
  | 0x604 => { s with radio.txCount := 0 }
  | 0x613 => { s with hearth.lbtBusy := 0, hearth.dutyRef := 0, hearth.lost := 0, hearth.oneBurst := 0 }
  | 0x614 => { s with hearth.upOk := 0, hearth.upCrc := 0, hearth.upMac := 0 }
  | 0x615 => { s with hearth.rxOk := 0, hearth.rxBad := 0 }
  | 0x703 => { s with infra.ok := 0, infra.single := 0, infra.floodCodes := 0, infra.floods := 0 }
  | 0x704 => { s with infra.sent := 0, infra.busy := 0, infra.noneTx := 0, infra.aborted := 0 }
  | 0xB81 => { s with lanes.poolLow := s.sharedFree }
  | 0xB82 => { s with lanes.none := 0 }
  | 0xB89 => s.coefMove
  | 0xB8A => { s with lanes.coefRef := 0, lanes.coefFixed := 0 }
  | 0xC0A => { s with fm.rdsCorr := 0, fm.rdsBad := 0 }
  | 0xC0B => { s with fm.afBad := 0 }
  | 0xC45 => { s with follow.done := 0, follow.abandoned := 0 }
  | 0xD08 | 0xD28 =>
    let d := (a - 0xD08) / 0x20
    s.setDab d { s.decoder d with badFib := 0, badPacket := 0, badGroup := 0, badRs := 0 }
  | 0xD09 | 0xD29 =>
    let d := (a - 0xD09) / 0x20
    s.setDab d { s.decoder d with repeats := 0 }
  | 0xE06 => { s with
      welt.resends := 0, welt.crcErrs := 0, welt.mismatches := 0, welt.shadowLost := 0 }
  | _ => s

/-- What a read changes: followers captured, read-clear registers cleared, the coefficient index moved
(R828, R841, Table 0-6). -/
def readEffect (s : State) (a : Nat) : State := ((s.capture a).clearHost a).clearRadio a

/-- The refusal of a register access: an address not implemented, or its domain not up (Tables 15-4 and 15-6,
R821).
DEDUCED, unsafe: log entry 51. -/
def regRefusal (s : State) (a : Nat) : Option (Nat × Nat) :=
  if (regLine a).isNone then some (nackAddress, phData)
  else (s.domainRefusal (regDomain a)).map fun (c : Nat) => (c, phData)

/-- REG_READ of an address (R623). -/
def busRegRead (s : State) (a : Nat) (ack : Bool) : State :=
  s.busRead 0x10 (s.regRefusal a) fun (s : State) =>
    let r := s.readFull a
    (r.2.readEffect a).sendRead 0x10 (bytesBE 2 a) ack (bytesBE 4 r.1.toNat)

/-! ### Writes -/

/-- HOSTRESET: the marks of a host restart (R677, Table 16-3). -/
def hostRestart (s : State) : State :=
  let s := s.markOut true fun i _ => decide (i < 12)
  (s.markIn false fun i _ => decide (i < 12)).flagEyelets 0

/-- An eyelet mask written: rung eyelets that it enables are queued (R670); the Keeper's takes no write.
DEDUCED, unsafe: log entry 71. -/
def writeEyeMask (s : State) (e : Nat) (v : Word) : State :=
  if 6 ≤ e then s
  else
    let was := s.hostEyelets
    let s := { s with mail.mask := vset s.mail.mask e v }
    if e = 0 then (if was = 0 ∧ s.hostEyelets ≠ 0 then s.arise 1 else s)
    else if s.hostWaits (e - 1) then s
    else s.queueWaiting (e - 1) s.now

/-- SYS_DOMCTRL: in RUN, BROADCAST and HEARTH powered or removed as it says (R21, Table 19-4). -/
def writeDomCtrl (s : State) (v : Word) : State :=
  let s := s.setReg 0x003 (v &&& 3#32)
  if s.supply.power ≠ .run then s
  else
    let s := if !v.bit 1 then (if s.supply.dom[4] = .down then s else s.lowerHearth)
      else if s.supply.dom[4] = .down then s.setDom .hearth .powering else s
    if !v.bit 0 then (if s.supply.dom[3] = .down then s else s.lowerBroadcast)
    else if s.supply.dom[3] = .down then s.setDom .broadcast .powering else s

/-- CAL_CTRL: SWEEP starts a sweep of the named chains if they allow it, and COMMIT a commit (R334, R794).
DEDUCED, unsafe: log entry 69. -/
def writeCalCtrl (s : State) (v : Word) : State :=
  let s := s.setReg 0x410 (v &&& 0x001C011F#32)
  let mask := v.bits 20 18
  if v.bit 17 then (if mask ≠ 0 ∧ s.sweepable mask = true then s.startSweep mask 0 none else s)
  else if v.bit 16 && s.clk.sweep.isNone then s.startCommit
  else s

/-- Welt pairing switched off by EN: the member is SOLO (R711).
DESIGN CHOICE, unsafe: log entry 65. -/
def weltOff (s : State) : State :=
  let was := s.welt.role
  let s := { s with welt := { Welt.init with
    pri := s.welt.pri, take := s.welt.take, evt := s.welt.evt, resends := s.welt.resends
    crcErrs := s.welt.crcErrs, mismatches := s.welt.mismatches, matches_ := s.welt.matches_
    shadowLost := s.welt.shadowLost, role := was, shadow := s.welt.shadow } }
  let s := if was = .solo then s else s.setRole .solo 1
  if was = .standby then (s.releaseShadow.queueHeldHost).watchSource else { s with welt.shadow := [] }

/-- WELT_CTRL: EN, and the commands ADOPT, for a STANDBY, and YIELD, for an ACTIVE with a STANDBY partner
(R711, R732, Table 18-3).
DESIGN CHOICE, unsafe: log entry 65. -/
def writeWelt (s : State) (v : Word) : State :=
  let was := (s.reg 0xE00).bit 0
  let s := s.setReg 0xE00 (v &&& 0xFF#32)
  let s := if was && !v.bit 0 then s.weltOff
    else if !was && v.bit 0 && s.supply.power == .run then { s with welt.deciding := true }
    else s
  let s := if v.bit 8 && s.welt.role == .standby then s.askAdopt else s
  if v.bit 9 && s.welt.role == .active && s.welt.up && s.welt.partner == .standby then
    { s with welt.yielding := true }
  else s

/-- BENCH_CTRL: RUN and RESTART bits, in effect from the next tick edge (R141, R888). -/
def writeBenchCtrl (s : State) (v : Word) : State :=
  { s with
    prog.runWant := v.bits 4 0, prog.runEdge := s.last.edge
    prog.restartWant := s.prog.restartWant ||| v.bits 12 8
    prog.restartEdge := if v.bits 12 8 = 0 then s.prog.restartEdge else s.last.edge }

/-- STOP of HL_CTRL: the link stops at the next slot start (R539). -/
def hostStopsLink (s : State) : State :=
  if s.hearth.mode = .stopped then s else { s with hearth.stopping := s.hearth.stopping ++ [0] }

/-- A wide lane's bit of LANE_FAILEDX, and an understudy's, returned (R855). -/
def returnSpare (s : State) (v : Word) : State :=
  { s with
    lanes.underFailed := Vector.ofFn fun (i : Fin 4) => s.lanes.underFailed.get i && !v.bit i.val
    lanes.wideFailed := Vector.ofFn fun (i : Fin 2) => s.lanes.wideFailed.get i && !v.bit (4 + i.val) }

/-- Lanes returned to service: one whose number an understudy holds takes it again at its next ASSIGN (R409,
R855). -/
def returnLanes (s : State) (base : Nat) (v : Word) : State :=
  ((List.range 32).filter fun i => v.bit i && (s.lane (base + i)).failed).foldl
    (fun (s : State) i =>
      let x := s.lane (base + i)
      s.setLane (base + i) { x with failed := false, returned := x.under.isSome }) s

/-- A write of a W1C register (Table 0-6). -/
def writeOnes (s : State) (a : Nat) (v : Word) : State :=
  let clear := fun (x : Nat) => x &&& (0xFFFFFFFF ^^^ v.toNat)
  match a with
  | 0x10B => { s with last.evt := clear s.last.evt }
  | 0x330 => { s with mail.eyeEvt := clear s.mail.eyeEvt }
  | 0x386 => { s with bus.evt := clear s.bus.evt }
  | 0x402 => { s with clk.evt := clear s.clk.evt }
  | 0x603 =>
    { s with
      radio.paflt := s.radio.paflt && !v.bit 0, radio.clamp := s.radio.clamp && !v.bit 1
      radio.maskref := s.radio.maskref && !v.bit 2, radio.noseal := s.radio.noseal && !v.bit 3 }
  | 0x705 => { s with infra.evt := clear s.infra.evt }
  | 0xB84 | 0xB85 | 0xB86 => s.returnLanes (32 * (a - 0xB84)) v
  | 0xB87 => s.returnSpare v
  | 0xE07 => { s with welt.evt := clear s.welt.evt }
  | _ => { s with store.evt := clear s.store.evt }

/-- LANE_COEFIDX: set values 16–31 are ignored (R852). -/
def writeCoefIdx (s : State) (v : Word) : State :=
  let old := s.reg 0xB88
  s.setReg 0xB88 (if 16 ≤ v.bits 4 0 then (v &&& 0x7E0#32).setBits 4 0 (old.bits 4 0) else v &&& 0x7FF#32)

/-- RESET of DABd_CTRL returns a decoder to service (R32, Table 12-10). -/
def writeDabCtrl (s : State) (d : Nat) (v : Word) : State :=
  let s := s.setReg (0xD00 + 0x20 * d) (v &&& 0xF2#32)
  if v.bit 0 then
    let s := s.dabReset d
    s.setDab d { s.decoder d with failed := false }
  else s

/-- A write of an RW register or of a command register as it takes effect: the registers of the clocks, the
broadcast and hearth radio, the lanes, the receivers and infrared. -/
def effectRadio (s : State) (a : Nat) (v : Word) : State :=
  if 0x710 ≤ a ∧ a ≤ 0x71F then { s with infra.prof := vset s.infra.prof (a - 0x710) (v &&& 0x7FFFFF#32) }
  else if 0x800 ≤ a ∧ a < 0xB30 then
    let n := (a - 0x800) / 8
    if s.laneWritable n then s.writeLane n (a % 8) v else s
  else if (chainOfReg a).isSome then s.chainWrite ⟨a, v, 0⟩
  else match a with
  | 0x400 => s.writeClkCtrl v
  | 0x410 => s.writeCalCtrl v
  | 0x621 => s.sealCommand v
  | 0x700 => s.irCtrl v
  | 0xB88 => s.writeCoefIdx v
  | 0xB89 => s.coefWrite v
  | 0xD00 => s.writeDabCtrl 0 v
  | 0xD20 => s.writeDabCtrl 1 v
  | _ => match regLine a with
    | some l => s.setReg a (v &&& l.mask)
    | none => s

/-- The same over the whole register space. -/
def regEffect (s : State) (a : Nat) (v : Word) : State :=
  if 0x400 ≤ a ∧ a < 0xE00 then s.effectRadio a v
  else match a with
  | 0x003 => s.writeDomCtrl v
  | 0x101 => s.setGoverning (v.bits 15 0)
  | 0x200 => s.writeBenchCtrl v
  | 0x300 =>
    let s := s.setReg 0x300 (v &&& 0x00FFFF00#32)
    if v.bit 0 then s.hostRestart else s
  | 0x328 | 0x329 | 0x32A | 0x32B | 0x32C | 0x32D | 0x32E => s.writeEyeMask (a - 0x328) v
  | 0x3C1 => s.writeCapture (v &&& 0x00FFFFFF#32)
  | 0x3C8 => s.writeAudCtrl 0 0 (v &&& 0x007F7F7F#32)
  | 0x3CC => s.writeAudCtrl 1 0 (v &&& 0x007F7F7F#32)
  | 0xE00 => s.writeWelt v
  | 0xF05 => s.writeBoot v
  | 0xF10 => if v.bit 0 then s.startAwl (s.reg 0xF11).toNat none else s
  | 0xF30 => s.storeCommand v
  | _ => match regLine a with
    | some l => s.setReg a (v &&& l.mask)
    | none => s

/-- A write left to wait for the next tick edge (R823, R838).
DESIGN CHOICE, unsafe: log entry 6. -/
def queueWrite (s : State) (a : Nat) (v : Word) : State :=
  { s with regWrites := s.regWrites ++ [⟨a, v, s.last.edge⟩] }

/-- A write that takes effect at a tick edge; while the BENCH domain is down there is none, and it takes
effect at once.
DESIGN CHOICE, unsafe: log entry 63. -/
def atEdge (s : State) (a : Nat) (v : Word) : State :=
  if s.up .bench then s.queueWrite a v else s.regEffect a v

/-- BRc_CTRL and HR_CTRL: RESET acts at any time; STATE only where the host may write it, the hearth link
STOPPED for HR; HR_CTRL's other fields are the host's (R269, R309, R838). -/
def writeChainCtrl (s : State) (a c : Nat) (v : Word) : State :=
  let s := if v.bit 3 then s.hostChainReset c else s
  if s.hostOwns && (c != 2 || s.hearth.mode == .stopped) then s.atEdge a v
  else if c = 2 then s.writeHrCtrl ((v &&& 0x000F7F30#32) ||| (s.reg 0x600 &&& 7#32))
  else s

/-- A host write of an RW register: at once, at the tick edge for configuration, and only while bench 4 is
OFF or HALTED for the registers it owns (R65, R823, R827, R838). -/
def writeRw (s : State) (l : RegLine) (a : Nat) (v : Word) : State :=
  match a with
  | 0x100 =>
    let s := s.setReg 0x100 ((s.reg 0x100 &&& 0xFFFF0800#32) ||| (v &&& 0x77F#32))
    s.atEdge 0x100 v
  | 0x101 => { s with last.govWrite := some (v &&& 0xFFFF#32) }
  | 0x500 => s.writeChainCtrl a 0 v
  | 0x520 => s.writeChainCtrl a 1 v
  | 0x600 => s.writeChainCtrl a 2 v
  | 0x608 =>
    let s := if v.bit 0 then s.hostStopsLink else s
    s.atEdge a v
  | _ =>
    if l.owned then (if s.hostOwns then s.atEdge a v else s)
    else if l.cfg || (chainOfReg a).isSome then s.atEdge a v
    else s.regEffect a v

/-- A write of an implemented register, by its access code (Table 0-6). -/
def regWrite (s : State) (a : Nat) (v : Word) : State :=
  match regLine a with
  | none => s
  | some l => match l.access with
    | .ro | .rc => s
    | .w1c => s.writeOnes a v
    | .rws => s.sealWrite a v
    | .rwh => s.writeIvk (a - 0xF20) v
    | .wo => if l.owned then (if s.hostOwns then s.atEdge a v else s) else s.regEffect a v
    | .rw => s.writeRw l a v

/-- The refusal of a REG_WRITE: also BUSY for the STORE/AWL/KEEPER registers while the Keeper works (Table
15-6).
DEDUCED, unsafe: log entry 51. -/
def writeRefusal (s : State) (a : Nat) : Option (Nat × Nat) :=
  match s.regRefusal a with
  | some r => some r
  | none => if 0xF00 ≤ a ∧ s.keeperBusy = true then some (nackBusy, phData) else none

/-- REG_WRITE of a value to an address (R621, R623). -/
def busRegWrite (s : State) (a : Nat) (v : Word) (pec : Pec) : State :=
  s.busWrite 0x11 (bytesBE 2 a ++ bytesBE 4 v.toNat) (s.writeRefusal a) pec false fun (s : State) => s.regWrite a v

/-- The host writes that wait for the present tick edge, but those of lanes and chains, which have rows of
their own (R823, R839).
DESIGN CHOICE, unsafe: log entry 6. -/
def edgeWrites (s : State) : State :=
  let mine := fun (w : RegWrite) => decide (w.edge < s.last.edge) && (chainOfReg w.addr).isNone &&
    !(decide (0x800 ≤ w.addr) && decide (w.addr < 0xB30))
  let ws := s.regWrites.filter mine
  let s := { s with regWrites := s.regWrites.filter fun (w : RegWrite) => !mine w }
  ws.foldl (fun (s : State) w => s.regEffect w.addr w.value) s

/-- The configuration block's entries written in order, with the effect of REG_WRITE (R783). -/
def applyConfig (s : State) : State := match s.prog.image with
  | some i => i.config.foldl (fun (s : State) e => s.regEffect e.1 e.2) s
  | none => s

end State

/-! ### The rows of the table -/

/-- REG_READ (R623). -/
def execRegRead (addr : Nat) (ack : Bool) (s : State) : Host.Outcome State Fault Refusal :=
  .next (s.busRegRead addr ack)

/-- REG_WRITE (R623). -/
def execRegWrite (addr : Nat) (v : Word) (pec : Pec) (s : State) : Host.Outcome State Fault Refusal :=
  .next (s.busRegWrite addr v pec)

/-- CAPTURE_READ: a read of a leading register (R828). -/
def execCaptureRead (addr : Nat) (ack : Bool) (s : State) : Host.Outcome State Fault Refusal :=
  .next (s.busRegRead addr ack)

/-- READ_CLEAR: a read of a read-clear register (Table 0-6). -/
def execReadClear (addr : Nat) (ack : Bool) (s : State) : Host.Outcome State Fault Refusal :=
  .next (s.busRegRead addr ack)

/-- BENCH_CTRL_RUN (R888). -/
def execBenchCtrlRun (v : Word) (pec : Pec) (s : State) : Host.Outcome State Fault Refusal :=
  .next (s.busRegWrite 0x200 v pec)

/-- BENCH_CTRL_RESTART (R141). -/
def execBenchCtrlRestart (v : Word) (pec : Pec) (s : State) : Host.Outcome State Fault Refusal :=
  .next (s.busRegWrite 0x200 v pec)

/-- LAST_GOV_WRITE (R827). -/
def execLastGovWrite (v : Word) (pec : Pec) (s : State) : Host.Outcome State Fault Refusal :=
  .next (s.busRegWrite 0x101 v pec)

/-- LANE_CTRL_EN_WRITE (R850). -/
def execLaneCtrlEnWrite (lane : Nat) (v : Word) (pec : Pec) (s : State) : Host.Outcome State Fault Refusal :=
  .next (s.busRegWrite (if lane ≤ 101 then 0x800 + 8 * lane else 0xFFFF) v pec)

/-- LANE_FIR_FADE_WRITE (Table 9-13). -/
def execLaneFirFadeWrite (lane : Nat) (v : Word) (pec : Pec) (s : State) :
    Host.Outcome State Fault Refusal :=
  .next (s.busRegWrite (if lane ≤ 101 then 0x803 + 8 * lane else 0xFFFF) v pec)

/-- LANE_FAILED_WRITE (R855). -/
def execLaneFailedWrite (reg : Fin 4) (v : Word) (pec : Pec) (s : State) : Host.Outcome State Fault Refusal :=
  .next (s.busRegWrite (0xB84 + reg.val) v pec)

/-- LANE_COEFDAT_ACCESS: a write, or a read whose last byte the host ACKs unless `pec` is absent (R619, R852). -/
def execLaneCoefdatAccess (write : Option Word) (pec : Pec) (s : State) : Host.Outcome State Fault Refusal :=
  .next (match write with
    | some v => s.busRegWrite 0xB89 v pec
    | none => s.busRegRead 0xB89 (pec != .absent))

/-- LANE_COEFIDX_WRITE (R852). -/
def execLaneCoefidxWrite (v : Word) (pec : Pec) (s : State) : Host.Outcome State Fault Refusal :=
  .next (s.busRegWrite 0xB88 v pec)

/-- HR_PAEVT_CLEAR (R296). -/
def execHrPaevtClear (v : Word) (pec : Pec) (s : State) : Host.Outcome State Fault Refusal :=
  .next (s.busRegWrite 0x603 v pec)

/-- The control register of a chain. -/
def chainCtrlReg (c : Fin 3) : Nat := match c with | 0 => 0x500 | 1 => 0x520 | 2 => 0x600

/-- CHAIN_RESET: RESET in BRc_CTRL or HR_CTRL (R309). -/
def execChainReset (c : Fin 3) (v : Word) (pec : Pec) (s : State) : Host.Outcome State Fault Refusal :=
  .next (s.busRegWrite (chainCtrlReg c) v pec)

/-- CHAIN_STATE_WRITE: STATE in BRc_CTRL or HR_CTRL (R269). -/
def execChainStateWrite (c : Fin 3) (v : Word) (pec : Pec) (s : State) : Host.Outcome State Fault Refusal :=
  .next (s.busRegWrite (chainCtrlReg c) v pec)

/-- BR_MODE_WRITE (R840). -/
def execBrModeWrite (v : Word) (pec : Pec) (s : State) : Host.Outcome State Fault Refusal :=
  .next (s.busRegWrite 0x540 v pec)

/-- CAL_SWEEP: CAL_CTRL SWEEP (R334). -/
def execCalSweep (v : Word) (pec : Pec) (s : State) : Host.Outcome State Fault Refusal :=
  .next (s.busRegWrite 0x410 v pec)

/-- CAL_COMMIT: CAL_CTRL COMMIT (R794). -/
def execCalCommit (v : Word) (pec : Pec) (s : State) : Host.Outcome State Fault Refusal :=
  .next (s.busRegWrite 0x410 v pec)

/-- SYSRESTART: CLK_CTRL (R347). -/
def execSysrestart (v : Word) (pec : Pec) (s : State) : Host.Outcome State Fault Refusal :=
  .next (s.busRegWrite 0x400 v pec)

/-- SCKRESTART: CLK_CTRL (R347). -/
def execSckrestart (v : Word) (pec : Pec) (s : State) : Host.Outcome State Fault Refusal :=
  .next (s.busRegWrite 0x400 v pec)

/-- DAB_DECODER_RESET: DABd_CTRL RESET (R32). -/
def execDabDecoderReset (d : Fin 2) (v : Word) (pec : Pec) (s : State) : Host.Outcome State Fault Refusal :=
  .next (s.busRegWrite (0xD00 + 0x20 * d.val) v pec)

/-- HL_CTRL_STOP: HL_CTRL STOP (R539). -/
def execHlCtrlStop (v : Word) (pec : Pec) (s : State) : Host.Outcome State Fault Refusal :=
  .next (s.busRegWrite 0x608 v pec)

/-- SEAL_CMD (R573). -/
def execSealCmd (v : Word) (pec : Pec) (s : State) : Host.Outcome State Fault Refusal :=
  .next (s.busRegWrite 0x621 v pec)

/-- SEAL_WRITE: a seal-view register written (R572, R574). -/
def execSealWrite (addr : Nat) (v : Word) (pec : Pec) (s : State) : Host.Outcome State Fault Refusal :=
  .next (s.busRegWrite addr v pec)

/-- IR_TXRESET: IR_CTRL (Table 14-7). -/
def execIrTxreset (v : Word) (pec : Pec) (s : State) : Host.Outcome State Fault Refusal :=
  .next (s.busRegWrite 0x700 v pec)

/-- IR_RXRESET: IR_CTRL (Table 14-7). -/
def execIrRxreset (v : Word) (pec : Pec) (s : State) : Host.Outcome State Fault Refusal :=
  .next (s.busRegWrite 0x700 v pec)

/-- HOSTRESET: MB_CTRL (R677). -/
def execHostreset (v : Word) (pec : Pec) (s : State) : Host.Outcome State Fault Refusal :=
  .next (s.busRegWrite 0x300 v pec)

/-- EYE_MASK_WRITE (R670). -/
def execEyeMaskWrite (e : Fin 7) (v : Word) (pec : Pec) (s : State) : Host.Outcome State Fault Refusal :=
  .next (s.busRegWrite (0x328 + e.val) v pec)

/-- STORE_BOOT_WRITE (R757). -/
def execStoreBootWrite (v : Word) (pec : Pec) (s : State) : Host.Outcome State Fault Refusal :=
  .next (s.busRegWrite 0xF05 v pec)

/-- IVK_PROGRAM: STORE_CMD (R784). -/
def execIvkProgram (v : Word) (pec : Pec) (s : State) : Host.Outcome State Fault Refusal :=
  .next (s.busRegWrite 0xF30 v pec)

/-- AWL_START: AWL_CTRL START (R774, R776). -/
def execAwlStart (v : Word) (pec : Pec) (s : State) : Host.Outcome State Fault Refusal :=
  .next (s.busRegWrite 0xF10 v pec)

/-- DOMCTRL_WRITE: SYS_DOMCTRL (R21). -/
def execDomctrlWrite (v : Word) (pec : Pec) (s : State) : Host.Outcome State Fault Refusal :=
  .next (s.busRegWrite 0x003 v pec)

/-- STRM_CAP_WRITE (R691). -/
def execStrmCapWrite (v : Word) (pec : Pec) (s : State) : Host.Outcome State Fault Refusal :=
  .next (s.busRegWrite 0x3C1 v pec)

/-- AUD_CTRL_WRITE: AUDp_CTRL, `sub` in 1/65 536 tick after the tick edge (chapter 17, Edges). -/
def execAudCtrlWrite (p : Fin 2) (sub : Nat) (v : Word) (pec : Pec) (s : State) :
    Host.Outcome State Fault Refusal :=
  let a := 0x3C8 + 4 * p.val
  .next (s.busWrite 0x11 (bytesBE 2 a ++ bytesBE 4 v.toNat) (s.writeRefusal a) pec false fun (s : State) =>
    s.writeAudCtrl p sub (v &&& 0x007F7F7F#32))

/-- WELT_ADOPT: WELT_CTRL ADOPT (R732). -/
def execWeltAdopt (v : Word) (pec : Pec) (s : State) : Host.Outcome State Fault Refusal :=
  .next (s.busRegWrite 0xE00 v pec)

/-- WELT_YIELD: WELT_CTRL YIELD (Table 18-3). -/
def execWeltYield (v : Word) (pec : Pec) (s : State) : Host.Outcome State Fault Refusal :=
  .next (s.busRegWrite 0xE00 v pec)

/-- SWEEP_DONE: a sweep has calibrated its entries, each with the measurement given; the request that ordered
it is answered, and the commit begins, after one that still runs (R333, R334). -/
def execSweepDone (cals : List CalResult) (s : State) : Host.Outcome State Fault Refusal :=
  .next (match s.clk.sweep with
  | none => s
  | some w =>
    let none_ : CalResult := ⟨false, 0, 0, 0, 0⟩
    let t := (w.slots.zipIdx).foldl (fun (t : State) (x : Nat × Nat) =>
      match kget t.clk.table x.1 with
      | some e => t.calWrite e.chain e.key (t.calHz e.chain x.1 e) (cals.getD x.2 none_)
      | none => t) s
    let ok := ((w.slots.zipIdx).filter fun (x : Nat × Nat) => (cals.getD x.2 none_).ok).length
    let t := { t with clk.sweep := none }
    let t := match w.req with
      | some id => t.chainReply 7 w.chain id stOk 0 (State.calCounts ok (w.slots.length - ok))
      | none => t
    if t.store.commit = .idle then t.startCommit else { t with store.commitDue := true })

end Sys2Proof.Machine
end

