-- ==== Sys2Proof/Machine/PowerRows.lean ====
section
/-! DEFINITION. The rows of power and reset (chapters 1, 15 and 19): the POWER and HOLD_EXIT commands, the
supply monitors, the resets, and the power-up of domains. -/

namespace Sys2Proof.Machine

open Sys2Proof

namespace State

/-- A POWER or HOLD_EXIT command under the bus rules: refused STATE at its data byte where `ok` fails
(Tables 15-4, 19-5 and 19-10). -/
def powerCommand (s : State) (code data : Nat) (ok : Bool) (pec : Pec) (f : State → State) : State :=
  s.busWrite code (bytesBE 1 data) (if ok then none else some (nackState, phData)) pec false f

/-- SLEEP is allowed: IDLE, no move to RUN begun, WAKE low, no session open and no store operation running
(Table 19-5).
DEDUCED, unsafe: log entry 73. -/
def sleepOk (s : State) : Bool :=
  s.supply.power == .idle && !s.supply.moving && !s.supply.wakePin && s.mail.session.mode != .open_ && s.store.op.isNone &&
    s.store.commit == .idle

/-- A device restart by RESET# or DEVICE_RESET: everything reset but what Table 19-3 keeps. -/
def restart (s : State) (cause : Nat) : State :=
  let s := s.wipe true
  { s with supply.rstCause := cause }

/-- The image load failed: AWL_HOLD with hold cause LOADFAIL (R760). -/
def loadFailed (s : State) (code : Nat) : State :=
  let s := s.note code
  ({ s with awl.cause := 5, awl.running := false, supply.moving := false }).setPower .hold

/-- BROADCAST and HEARTH powered as SYS_DOMCTRL allows (R760). -/
def powerRadio (s : State) : State :=
  let s := if s.fld 0x003 0 0 = 1 then s.setDom .broadcast .powering else s
  if s.fld 0x003 1 1 = 1 then s.setDom .hearth .powering else s

/-- The active image loaded into a BENCH domain that has come up (R760, R782, R783). -/
def loadImage (s : State) : State :=
  match s.loadable with
  | none => s.loadFailed 0xB212
  | some bytes =>
    if imageOk bytes then
      let i := imageOf bytes
      ({ s with prog.image := some i, prog.ledger := i.ledger }).powerRadio
    else s.loadFailed 0xB210

/-- Once every domain that RUN needs is up, the device is in RUN, a SYS_DOMCTRL written during the move acts,
the configuration block is applied, and the benches start at the next tick edge (R760).
DEDUCED, unsafe: log entry 73. -/
def runReady (s : State) : State :=
  if s.supply.moving = true ∧ s.up .bench = true ∧ s.supply.dom[3] ≠ .powering ∧ s.supply.dom[4] ≠ .powering then
    let s := ({ s with supply.moving := false, supply.starting := true }).setPower .run
    (s.writeDomCtrl (s.reg 0x003)).applyConfig
  else s

/-- A domain has come up (R18, R760, R762).  Where the reference is absent as BENCH comes up the Last stops
(R77).
DESIGN CHOICE, unsafe: log entry 79. -/
def domainUp (s : State) (d : Domain) : State :=
  let s := s.setDom d .up
  match d with
  | .host => ({ s with bus.stretching := false }).powerOn .keeper
  | .keeper => if s.supply.moving then s.powerOn .bench else s
  | .bench =>
    let s := ({ s with clk.limp := !s.clk.sysLock }).loadTable.markBench
    let s := if s.clk.refOk then s else s.stopLast
    if s.supply.moving then s.loadImage.runReady else s
  | .broadcast => s.markBroadcast.runReady
  | .hearth => s.markHearth.runReady

end State

/-! ### The rows of the table -/

/-- POWER 0, IDLE (Table 19-5, R761). -/
def execPowerIdle (pec : Pec) (s : State) : Host.Outcome State Fault Refusal :=
  .next (s.powerCommand 0x05 0 (s.supply.power != .hold) pec fun (s : State) =>
    if s.supply.power = .run then s.toIdle else s)

/-- POWER 1, RUN (Table 19-5, R760); a move that has begun goes on.
DEDUCED, unsafe: log entry 73. -/
def execPowerRun (pec : Pec) (s : State) : Host.Outcome State Fault Refusal :=
  let ok := s.supply.power == .run || (s.supply.power == .idle && s.committed)
  .next (s.powerCommand 0x05 1 ok pec fun (s : State) =>
    if s.supply.power = .idle ∧ s.supply.moving = false then s.toRun else s)

/-- POWER 2, SLEEP (Table 19-5, R758). -/
def execPowerSleep (pec : Pec) (s : State) : Host.Outcome State Fault Refusal :=
  .next (s.powerCommand 0x05 2 s.sleepOk pec fun (s : State) => s.toSleep)

/-- HOLD_EXIT 0, NORMAL (Table 19-10). -/
def execHoldExitNormal (pec : Pec) (s : State) : Host.Outcome State Fault Refusal :=
  let ok := s.supply.power == .hold && !s.awl.running && s.awl.fail == 0
  .next (s.powerCommand 0x06 0 ok pec fun (s : State) => s.leaveHold)

/-- HOLD_EXIT 1, a degraded start: the failed units are marked FAILED as their domains power up
(Table 19-10, R773). -/
def execHoldExitDegraded (pec : Pec) (s : State) : Host.Outcome State Fault Refusal :=
  .next (s.powerCommand 0x06 1 (s.supply.power == .hold && s.degradeOk) pec fun (s : State) =>
    (({ s with awl.degraded := true }).raise 0x1120 0xFF clsCovered).leaveHold)

/-- DEVICE_RESET: the guard bytes, a PEC that it always needs, and then a device restart (R627, R753, R754).
DESIGN CHOICE, safe: log entry 67. -/
def execDeviceReset (g0 g1 : Byte) (pec : Pec) (s : State) : Host.Outcome State Fault Refusal :=
  let refusal := if g0 = 0x96 ∧ g1 = 0x69 then none else some (nackGuard, phData)
  .next (s.busWrite 0xF0 [g0, g1] refusal pec true fun (s : State) => (s.restart 8).enterHold)

/-- VSYS_GOOD: VSYS above 2.95 V for 1 ms ends a power-on reset; VIO is sensed, the straps sampled, and the
cause told from the journal (R749, R750, R754, R757).
DESIGN CHOICE, safe: log entry 68. -/
def execVsysGood (pins : Straps) (s : State) : Host.Outcome State Fault Refusal :=
  .next (if s.supply.vsysGood then s
  else
    let cause := if s.supply.failing ∨ s.freshFail.isSome = true then 2 else 1
    let s := { s with
      supply.vsysGood := true, supply.vio33 := pins.vio33, supply.rstCause := cause }
    (s.sampleStraps pins).leaveReset)

/-- VIO_GOOD: VIO above 1.62 V for 1 ms (R748, R750). -/
def execVioGood (s : State) : Host.Outcome State Fault Refusal :=
  .next ({ s with supply.vioGood := true, supply.hiZ := s.supply.hiZ && !s.supply.vsysGood }).leaveReset

/-- POWERFAIL: VSYS below 2.80 V: every output high-impedance and the domains removed; the store operation in
progress completes, but a bank's block erase; then the record (R750, R751).
DESIGN CHOICE, unsafe: log entry 70. -/
def execPowerfail (s : State) : Host.Outcome State Fault Refusal :=
  .next (if !s.supply.vsysGood then s
  else
    let named := s.opNamed
    let s := if s.store.op = some .instErase then { s with store.op := none } else s
    let s := if s.store.commit = .record then s.commitEnds else s
    let s := { s with
      supply.vsysGood := false, supply.hiZ := true, supply.power := .reset
      supply.dom := #v[.down, .down, .down, .down, .down] }
    if s.store.op.isSome then { s with supply.failing := true } else s.failEnds named)

/-- VHOLD_FLOOR: VHOLD below 2.70 V while VSYS has failed: a power-on reset, held until VSYS is good
(Table 19-2). -/
def execVholdFloor (s : State) : Host.Outcome State Fault Refusal :=
  .next (if s.supply.vsysGood then s else { s.wipe false with supply.failing := false })

/-- PIN_RESET: RESET# low for 1 µs (R753). -/
def execPinReset (s : State) : Host.Outcome State Fault Refusal :=
  let s' := if s.supply.failing ∨ s.supply.power = .reset then s else s.restart 4
  .next { s' with supply.resetPin := false }

/-- RESET_RELEASE: RESET# rises and the straps are sampled (R613, R755). -/
def execResetRelease (pins : Straps) (s : State) : Host.Outcome State Fault Refusal :=
  .next (if s.supply.resetPin then s
  else (({ s with supply.resetPin := true }).sampleStraps pins).leaveReset)

/-- WAKE_PIN: the level on WAKE changes; a rising edge wakes the device from SLEEP (R762), which then counts
the edges on REFIN (R312).
DESIGN CHOICE, safe: log entry 68. -/
def execWakePin (level : Bool) (refCount : Nat) (s : State) : Host.Outcome State Fault Refusal :=
  let rises := level && !s.supply.wakePin
  let t := { s with supply.wakePin := level }
  .next (if rises = true ∧ s.supply.power = .sleep then t.wake refCount else t)

/-- SUPPLY_SAMPLE: the 1 ms reading of VSYS and VHOLD, in mV (R831). -/
def execSupplySample (vsys vhold : Nat) (s : State) : Host.Outcome State Fault Refusal :=
  .next (if s.powerCode = 0 then s
  else { s with store.vsys := min 65535 vsys, store.vhold := min 65535 vhold })

/-- VHOLD_LOW: VHOLD below 4.50 V for 1 s (Table 19-17). -/
def execVholdLow (s : State) : Host.Outcome State Fault Refusal :=
  .next (if s.powerCode = 0 then s else s.note 0x1204)

/-- DOMAIN_POWER_UP_DONE: a domain powering up is usable (R764), what it depends on being up (R18). -/
def execDomainPowerUpDone (dom : Domain) (s : State) : Host.Outcome State Fault Refusal :=
  .next (if s.supply.dom[dom.ctorIdx]? = some .powering ∧ s.depsUp dom = true then s.domainUp dom else s)

/-- AWL: the request for an on-demand run (R774). -/
def State.awlReq (s : State) (r : Req) : State := s.startAwl (fieldBE r.blk 0 4) (some r.id)

end Sys2Proof.Machine
end

