-- ==== Sys2Proof/Machine/Requests.lean ====
section
/-! DEFINITION. Radio requests (Table 5-17): their issue to the blocks, the instruction RADIO, and the rows that
issue one request of a given kind. -/

namespace Sys2Proof.Machine

open Sys2Proof

/-- The application PP of a request's parameter block, 0 for at once: GOVERN has it at byte 4 (R50); the lane
requests and CHAIN_TUNE at byte 16; the others have none. -/
def appOf (code : Nat) (blk : List Byte) : Nat :=
  match code with
  | 13 => fieldBE blk 4 6
  | 1 | 2 | 3 => fieldBE blk 16 6
  | _ => 0

/-- The request ID after `n` (R215). -/
def nextId (n : Nat) : Nat := if 0xFFFF ≤ n then 1 else n + 1

namespace State

/-- The reply of a request that its block does not take, in the form of its own reply (R816, R728).
DESIGN CHOICE, unsafe: log entry 22. -/
def turnAway (s : State) (code : Nat) (blk : List Byte) (id status reason : Nat) : State :=
  let f := fun i => fieldBE blk i 1
  match code with
  | 1 => s.laneReply false (f 0) id status reason []
  | 2 => s.laneReply true (f 0) id status reason []
  | 3 | 4 | 5 | 7 => s.chainReply code (Nat.min (f 0) 2) id status reason []
  | 6 => s.chainReply 6 (([0, 1, 2].filter fun c => (f 2).testBit c).headD 0) id status reason []
  | 8 => s.reply 0x0508 id status
      (bytesBE 1 0 ++ bytesBE 1 reason ++ bytesBE 1 (f 1) ++ List.replicate 13 0)
  | 9 => s.correlateReply id blk status reason 0 0 0 0
  | 10 => s.spliceReply id blk status reason 0 0
  | 11 | 12 => s.dabReply code (Nat.min (f 0) 1) id status reason []
  | 13 => s.governReply id status reason
  | 14 | 15 => s.hearthReply code id status reason
  | 16 => s.irReply id (f 1) status reason
  | 17 => s.routeReply ⟨id, blk, 0, 0⟩ status reason
  | _ => s.awlReply id status reason

/-- The block of a request is not in service: its domain is down (R816).
DESIGN CHOICE, unsafe: log entry 22. -/
def blockDown (s : State) (code : Nat) : Bool :=
  match code with
  | 1 | 2 | 8 | 9 | 10 | 11 | 12 | 16 => !s.up .broadcast
  | 14 | 15 => !s.up .hearth
  | _ => false

/-- A request handed to its block: at once, or to wait for the tick edge at which it takes effect. -/
def handOver (s : State) (code : Nat) (r : Req) : State :=
  match code with
  | 1 => { s with lanes.reqs := s.lanes.reqs ++ [⟨r, false⟩] }
  | 2 => { s with lanes.reqs := s.lanes.reqs ++ [⟨r, true⟩] }
  | 3 => s.chainTuneReq r
  | 4 => s.chainStateReq r
  | 5 => s.gainReq r
  | 6 => s.protectReq r
  | 7 => s.calibrateReq r
  | 8 => { s with fm.reqs := s.fm.reqs ++ [r] }
  | 9 | 10 => { s with follow.reqs := s.follow.reqs ++ [(code, r)] }
  | 11 | 12 =>
    let d := Nat.min 1 (fieldBE r.blk 0 1)
    s.setDab d { s.decoder d with reqs := (s.decoder d).reqs ++ [(code, r)] }
  | 13 => { s with last.govReqs := s.last.govReqs ++ [r] }
  | 14 | 15 => { s with hearth.reqs := s.hearth.reqs ++ [(code, r)] }
  | 16 => { s with infra.reqs := s.infra.reqs ++ [r] }
  | 17 => { s with port.routeReqs := s.port.routeReqs ++ [r] }
  | _ => s.awlReq r

/-- A request carried out: handed to its block, or turned away BUSY where that is not in service.
DESIGN CHOICE, unsafe: log entry 3. -/
def carryOut (s : State) (code : Nat) (blk : List Byte) (id app : Nat) : State :=
  if s.blockDown code then s.turnAway code blk id stBusy 0
  else s.handOver code ⟨id, blk, app, s.last.edge⟩

/-- A request as bench 4 issues it: on a STANDBY member it completes NONE, reason 2, at the next position
(R159, R728); an active member mirrors it (Table 18-2).
DESIGN CHOICE, unsafe: log entry 3. -/
def issue (s : State) (code : Nat) (blk : List Byte) (id : Nat) : State :=
  if s.welt.role = .standby then
    let t := ({ s with last.pp := s.last.pp + 1 }).turnAway code blk id stNone 2
    { t with last.pp := s.last.pp }
  else (s.carryOut code blk id (appOf code blk)).mirror (.decision code blk (appOf code blk))

/-- Bench 4 runs handlers, and so may issue requests: in RUN, with its mode RUN and the Last not stopped
(R19, R132, R165). -/
def benchFour (s : State) : Bool :=
  s.supply.power == .run && s.up .bench && (s.bench 4).mode == .run && !s.stopped

/-- A request with the next request ID (R215).
DESIGN CHOICE, unsafe: log entry 3. -/
def request (s : State) (code : Nat) (blk : List Byte) : State :=
  if !s.benchFour then s
  else
    let id := s.prog.nextReq
    ({ s with prog.nextReq := nextId id }).issue code ((List.range 32).map (byteAt blk)) id

/-- A block with byte `i` set to `v`. -/
def withByte (blk : List Byte) (i v : Nat) : List Byte :=
  (List.range 32).map fun k => if k = i then BitVec.ofNat 8 v else byteAt blk k

end State

/-! ### The instruction -/

/-- RADIO: request `op` issued with the 32-byte block at ra, rd = its ID (R214–R218); on bench 4 only
(R172).
DESIGN CHOICE, unsafe: log entry 3. -/
def execRadio (b : Fin 5) (rd ra : Fin 16) (op : BitVec 8) (s : State) :
    Host.Outcome State Fault Refusal :=
  .next (s.instruct b 8 fun t h =>
    let a := (h.get ra).toNat
    let code := op.toNat
    if b.1 ≠ 4 then .fault 0x8105 0
    else if code = 0 ∨ 0x12 < code then .fault 0x8116 code
    else if a % 4 ≠ 0 then .fault 0x8110 a
    else if 0x8000 < a + 32 then .fault 0x8103 a
    else
      let blk := readBytes (t.dataOf b) a 32
      let id := t.prog.nextReq
      match logged (t.bench b) h (.radio code blk id) with
      | .fresh k =>
        .cont (({ t with prog.nextReq := nextId id }).issue code blk id) (k.put rd (BitVec.ofNat 32 id))
      | .replay (.radio code' blk' id') k =>
        if code' = code ∧ blk' = blk then .cont t (k.put rd (BitVec.ofNat 32 id')) else .fault 0x8108 0
      | .replay _ _ | .mismatch => .fault 0x8108 0
      | .full => .fault 0x8109 0)

/-! ### The rows of the table -/

/-- LANE_ASSIGN (R353). -/
def execLaneAssign (blk : List Byte) (s : State) : Host.Outcome State Fault Refusal :=
  .next (s.request 1 (State.withByte blk 1 0))

/-- LANE_MODIFY (R357). -/
def execLaneModify (blk : List Byte) (s : State) : Host.Outcome State Fault Refusal :=
  .next (s.request 1 (State.withByte blk 1 1))

/-- LANE_FADE (R358). -/
def execLaneFade (blk : List Byte) (s : State) : Host.Outcome State Fault Refusal :=
  .next (s.request 1 (State.withByte blk 1 2))

/-- LANE_RELEASE (R360). -/
def execLaneRelease (blk : List Byte) (s : State) : Host.Outcome State Fault Refusal :=
  .next (s.request 2 blk)

/-- CHAIN_TUNE (R270). -/
def execChainTune (blk : List Byte) (s : State) : Host.Outcome State Fault Refusal :=
  .next (s.request 3 blk)

/-- CHAIN_STATE (R266). -/
def execChainState (blk : List Byte) (s : State) : Host.Outcome State Fault Refusal :=
  .next (s.request 4 blk)

/-- GAIN (R280). -/
def execGain (blk : List Byte) (s : State) : Host.Outcome State Fault Refusal :=
  .next (s.request 5 blk)

/-- PROTECT SET (R305). -/
def execProtectSet (blk : List Byte) (s : State) : Host.Outcome State Fault Refusal :=
  .next (s.request 6 (State.withByte blk 0 0))

/-- PROTECT CLEAR (R305). -/
def execProtectClear (blk : List Byte) (s : State) : Host.Outcome State Fault Refusal :=
  .next (s.request 6 (State.withByte blk 0 1))

/-- CALIBRATE CURRENT (Table 8-7). -/
def execCalibrateCurrent (blk : List Byte) (s : State) : Host.Outcome State Fault Refusal :=
  .next (s.request 7 (State.withByte blk 1 0))

/-- CALIBRATE KEY (Table 8-7). -/
def execCalibrateKey (blk : List Byte) (s : State) : Host.Outcome State Fault Refusal :=
  .next (s.request 7 (State.withByte blk 1 1))

/-- CALIBRATE STALE (Table 8-7). -/
def execCalibrateStale (blk : List Byte) (s : State) : Host.Outcome State Fault Refusal :=
  .next (s.request 7 (State.withByte blk 1 2))

/-- CALIBRATE ALL (Table 8-7). -/
def execCalibrateAll (blk : List Byte) (s : State) : Host.Outcome State Fault Refusal :=
  .next (s.request 7 (State.withByte blk 1 3))

/-- CALIBRATE SWEEP (R334). -/
def execCalibrateSweep (blk : List Byte) (s : State) : Host.Outcome State Fault Refusal :=
  .next (s.request 7 (State.withByte blk 1 4))

/-- MEASURE SUBSCRIBE (R455). -/
def execMeasureSubscribe (blk : List Byte) (s : State) : Host.Outcome State Fault Refusal :=
  .next (s.request 8 (State.withByte blk 2 0))

/-- MEASURE UNSUBSCRIBE (R455). -/
def execMeasureUnsubscribe (blk : List Byte) (s : State) : Host.Outcome State Fault Refusal :=
  .next (s.request 8 (State.withByte blk 2 1))

/-- MEASURE ONCE (R455). -/
def execMeasureOnce (blk : List Byte) (s : State) : Host.Outcome State Fault Refusal :=
  .next (s.request 8 (State.withByte blk 2 2))

/-- CORRELATE MPX (Table 11-2). -/
def execCorrelateMpx (blk : List Byte) (s : State) : Host.Outcome State Fault Refusal :=
  .next (s.request 9 (State.withByte blk 0 0))

/-- CORRELATE STAMP (Table 11-2). -/
def execCorrelateStamp (blk : List Byte) (s : State) : Host.Outcome State Fault Refusal :=
  .next (s.request 9 (State.withByte blk 0 1))

/-- SPLICE AT (Table 11-5). -/
def execSpliceAt (blk : List Byte) (s : State) : Host.Outcome State Fault Refusal :=
  .next (s.request 10 (State.withByte blk 3 0))

/-- SPLICE ARMED (Table 11-5). -/
def execSpliceArmed (blk : List Byte) (s : State) : Host.Outcome State Fault Refusal :=
  .next (s.request 10 (State.withByte blk 3 1))

/-- ENSEMBLE START (R497). -/
def execEnsembleStart (blk : List Byte) (s : State) : Host.Outcome State Fault Refusal :=
  .next (s.request 11 (State.withByte blk 1 0))

/-- ENSEMBLE STOP (R501). -/
def execEnsembleStop (blk : List Byte) (s : State) : Host.Outcome State Fault Refusal :=
  .next (s.request 11 (State.withByte blk 1 1))

/-- SUBCHANNEL SELECT (R508). -/
def execSubchannelSelect (blk : List Byte) (s : State) : Host.Outcome State Fault Refusal :=
  .next (s.request 12 (State.withByte blk 1 0))

/-- SUBCHANNEL DESELECT (R512). -/
def execSubchannelDeselect (blk : List Byte) (s : State) : Host.Outcome State Fault Refusal :=
  .next (s.request 12 (State.withByte blk 1 1))

/-- GOVERN (R50). -/
def execGovern (blk : List Byte) (s : State) : Host.Outcome State Fault Refusal :=
  .next (s.request 13 blk)

/-- HEARTH_PLAN (R537). -/
def execHearthPlan (blk : List Byte) (s : State) : Host.Outcome State Fault Refusal :=
  .next (s.request 14 blk)

/-- HEARTH_STATE START (R539). -/
def execHearthStart (blk : List Byte) (s : State) : Host.Outcome State Fault Refusal :=
  .next (s.request 15 (State.withByte blk 0 0))

/-- HEARTH_STATE STOP (R539). -/
def execHearthStop (blk : List Byte) (s : State) : Host.Outcome State Fault Refusal :=
  .next (s.request 15 (State.withByte blk 0 1))

/-- IR_CONFIG RX_SET (R580). -/
def execIrRxSet (blk : List Byte) (s : State) : Host.Outcome State Fault Refusal :=
  .next (s.request 16 (State.withByte blk 0 0))

/-- IR_CONFIG RX_OFF (R580). -/
def execIrRxOff (blk : List Byte) (s : State) : Host.Outcome State Fault Refusal :=
  .next (s.request 16 (State.withByte blk 0 1))

/-- IR_CONFIG TX_PROFILE (R580). -/
def execIrTxProfile (blk : List Byte) (s : State) : Host.Outcome State Fault Refusal :=
  .next (s.request 16 (State.withByte blk 0 2))

/-- AUDIO_ROUTE with a source lane (R699). -/
def execAudioRouteSource (blk : List Byte) (s : State) : Host.Outcome State Fault Refusal :=
  .next (s.request 17 (State.withByte blk 1 0))

/-- AUDIO_ROUTE with no source (R699). -/
def execAudioRouteNosource (blk : List Byte) (s : State) : Host.Outcome State Fault Refusal :=
  .next (s.request 17 (State.withByte blk 1 1))

/-- AUDIO_ROUTE of the ports (R699). -/
def execAudioRoutePorts (blk : List Byte) (s : State) : Host.Outcome State Fault Refusal :=
  .next (s.request 17 (State.withByte blk 1 2))

/-- AWL (R774). -/
def execAwl (blk : List Byte) (s : State) : Host.Outcome State Fault Refusal :=
  .next (s.request 18 blk)

end Sys2Proof.Machine
end

