-- ==== Sys2Proof/Machine/Edge.lean ====
section
/-! DEFINITION. The tick edge (chapter 2, R889): publication, and everything that takes effect at an edge and
has no row of its own. -/

namespace Sys2Proof.Machine

open Sys2Proof

namespace State

/-- The edge counted, and the totals of corrections kept for the receivers' timestamps (R890) with the position
that the tick began at; host clock and
benches move back to a system PLL that has relocked (R340, R347).
DEDUCED, unsafe: log entry 10. -/
def countEdge (s : State) : State :=
  { s with
    last.trail := ((s.last.corrNow, s.last.epoch, s.position) :: s.last.trail).take 1024
    last.edge := s.last.edge + 1
    clk.limp := s.clk.limp && !s.clk.sysLock }

/-- An edge of the selected source counted: a free-run's, or one of the trim measurement's (R72, R75). -/
def countSource (s : State) : State :=
  if s.last.src = .localRef then { s with last.frEdges := s.last.frEdges + 1 }
  else { s with last.trimEdges := s.last.trimEdges + 1 }

/-- The next PP published. -/
def publishNext (s : State) : State := s.publish ⟨s.last.epoch, s.last.pp + 1⟩ none

/-- A correction with nothing outstanding ended, as HOLD_END or SLEW_END would end it. -/
def closeCorrection (s : State) : State :=
  if (s.last.mode = .hold ∨ s.last.mode = .slew) ∧ s.last.rem = 0 then s.completeCorrection else s

/-- What one tick of rate adds to the position, in 1/65 536 tick, and the correction after it: a hold takes
its ticks of rate out, a slew adds 1/SLEW until its error is absorbed (Table 2-4, R57, Table 2-5).  A
correction that ends within the tick leaves the rest of the tick to the position.
DEDUCED, unsafe: log entry 10. -/
def rateTick (s : State) : Nat × State :=
  let s := s.closeCorrection
  match s.last.mode with
  | .hold =>
    let u := Nat.min 65536 s.last.rem
    let t := { s with last.rem := s.last.rem - u }
    (65536 - u, if u < 65536 then t.completeCorrection else t)
  | .slew =>
    let g := 65536 / s.last.rate
    let u := Nat.min g s.last.rem
    let t := { s with last.rem := s.last.rem - u }
    (65536 + u, if u < g then t.completeCorrection else t)
  | _ => (65536, s)

/-- The position moved by one tick of rate: the PPs that it reaches, 0 in a hold, 2 where a slew has gained a
tick, are still to be published (R59, R889).  At the last PP of 48 bits it stays: the device does not wrap
it (R34).
DESIGN CHOICE, unsafe: log entry 77. -/
def advance (s : State) : Nat × State :=
  let r := s.rateTick
  let q := Nat.min (2 ^ 64 - 1) (r.2.position + r.1)
  (q / 65536 - r.2.last.pp, { r.2 with last.frac := q % 65536 })

/-- The benches set in BENCH_CTRL RUN start, and GPIO_OUT LEVEL takes INIT (R760, R848). -/
def startBenches (s : State) : State :=
  if !s.supply.starting then s
  else
    let present := (s.prog.image.map fun (i : Image) => i.present).getD []
    let s := { s with
      supply.starting := false, prog.runBits := s.prog.runWant, infra.gpioLevel := s.fld 0x720 23 16 }
    ((List.range 5).filter fun b => s.prog.runWant.testBit b && present.contains b).foldl
      (fun (s : State) b => s.setBench b { s.bench b with joining := true, starting := true }) s

/-- A host write of LAST_GOV in effect (R827). -/
def applyGovWrite (s : State) : State := match s.last.govWrite with
  | some v => ({ s with last.govWrite := none }).setGoverning v.toNat
  | none => s

/-- The requests that take effect at an edge, and then the host's writes (R823, R839). -/
def edgeWork (s : State) : State :=
  let s := s.applyGovWrite
  let s := ((s.applyGains 0).applyGains 1).applyGains 2
  let s := ((s.measureEdge.dabEdge 0).dabEdge 1).irEdge
  let s := s.hearthEdge.followEdge.routeEdge
  s.edgeWrites.startBenches

end State

namespace State

/-- `n` PPs published, each of them a tick edge of its own (R59); with none, in a hold, the edge is a tick
edge of the held PP (R889). -/
def publishEdges (s : State) : Nat → State
  | 0 => s.edgeWork
  | 1 => s.publishNext.edgeWork
  | n + 1 => (s.publishNext.edgeWork.countEdge).publishEdges n

end State

/-! ### The row of the table -/

/-- The pulse that an ACTIVE member drives on WLSYNC at a tick edge: 3 µs at a superframe boundary, else 1 µs
(R715). -/
def State.pulseSync (s : State) : State :=
  if s.welt.role = .active then
    { s with welt.sync := if s.last.pp % 456 = 0 then 3 else 1 } else s

/-- TICK_EDGE: a tick edge of the rate source in force (R39, R42, R59, R889). A STANDBY's edges publish nothing:
its Last copies the active's PP (R44); an ACTIVE member pulses WLSYNC (R715). A stopped Last has no edges (R77).
A source that what takes effect at the edge leaves unqualified is left at the same edge (R42). -/
def execTickEdge (s : State) : Host.Outcome State Fault Refusal :=
  .next (if s.up .bench = false ∨ s.stopped = true then s
  else
    let s := s.countEdge.bestSource.countSource
    (if s.welt.role = .standby then s.edgeWork
      else (s.advance.2.publishEdges s.advance.1).pulseSync).watchSource)

end Sys2Proof.Machine
end

