-- ==== Sys2Proof/Machine/HostRows.lean ====
section
/-! DEFINITION. The commands of the two-wire bus (chapters 15 and 16): status, faults, mailboxes, eyelets,
sessions, alerts, Host Notify, and stuck lines. -/

namespace Sys2Proof.Machine

open Sys2Proof

/-- The command codes of Table 15-2. -/
def busCodes : List Nat :=
  [0x00, 0x01, 0x02, 0x03, 0x04, 0x05, 0x06, 0x10, 0x11, 0x40, 0x41, 0x50, 0x60, 0x70, 0x71, 0x72, 0x73, 0xF0] ++
    (List.range 12).map (fun m => 0x20 + m) ++ (List.range 12).map (fun m => 0x30 + m)

namespace State

/-! ### Refusals -/

/-- The Keeper cannot serve the command now: its domain is not up, or it is at work (Tables 15-4 and 15-6). -/
def keeperRefusal (s : State) : Option (Nat × Nat) :=
  match s.domainRefusal .keeper with
  | some c => some (c, phCommand)
  | none => if s.keeperBusy then some (nackBusy, phCommand) else none

/-- A mailbox number's refusals before its slot is looked at: no such command, the Keeper at work, or no
session for the secure mailboxes (R626, R679). -/
def mailRefusal (s : State) (mb : Nat) : Option (Nat × Nat) :=
  if 12 ≤ mb then some (nackUnknown, phCommand)
  else if mb < 8 then none
  else match s.keeperRefusal with
    | some r => some r
    | none =>
      let x := s.mail.session
      if x.mode = .open_ ∧ (x.kind ≠ 3 ∨ mb = 8) then none else some (nackSession, phCommand)

/-- A block's refusals for its count byte and for bytes beyond it (R616, R618, Table 15-4).
DEDUCED, unsafe: log entry 51. -/
def blockRefusal (count : Nat) (bytes : List Byte) : Option (Nat × Nat) :=
  if count = 0 ∨ 64 < count ∨ count < bytes.length then some (nackLength, phData) else none

/-! ### Mailboxes and eyelets -/

/-- A host message that has landed: in a bench mailbox, with the wake that it causes, or in a Keeper mailbox
(R625, R763).
DEDUCED, unsafe: log entry 53. -/
def hostPosts (s : State) (mb : Nat) (bytes : List Byte) : State :=
  if mb < 8 then (s.landHost mb bytes).mailWake
  else { s with mail.inb := vset s.mail.inb mb (some ⟨bytes, .host, s.now, 0, false, false, false, false⟩) }

/-- The Keeper acts on a ring (R672). -/
def ringKeeper (s : State) (i : Nat) : State :=
  if i = 0 then (if s.secureOpen then s.keeperStatus else s)
  else { s with mail.keeperRings := s.mail.keeperRings + 1 }

/-! ### Sessions -/

/-- A session command has come. -/
def sessionAsked (s : State) : State := { s with mail.session.asked := true }

/-- SESS_OPEN of a kind: 1 MAIL and 2 PROVISION begin with a challenge; 3 INSTALL opens at once, in AWL_HOLD
without a HAK only (R678, R679, R682).
DESIGN CHOICE, unsafe: log entry 55. -/
def openSession (s : State) (kind : Nat) (pec : Pec) : State :=
  let refusal : Option (Nat × Nat) := match s.keeperRefusal with
    | some r => some r
    | none =>
      if s.mail.session.locked then some (nackSession, phCommand)
      else if kind = 0 ∨ 3 < kind then some (nackLength, phData)
      else if kind = 3 ∧ ¬(s.supply.power = .hold ∧ s.mail.keys.hak.isNone = true) then
        some (nackSession, phData)
      else none
  let t := s.busWrite 0x70 (bytesBE 1 kind) refusal pec false fun (s : State) =>
    let s := s.closeSession.sessionAsked
    if kind = 3 then
      ({ s with mail.session.mode := SessMode.open_, mail.session.kind := 3 }).alert 10
    else { s with mail.session.step := some (.opening kind) }
  if s.answers ∧ s.keeperRefusal = none ∧ s.mail.session.locked = true then t.note 0x9204 else t

/-- A CMAC of the opening: under the HAK, over a label, both nonces and the kind (R678). -/
def sessionMac (hak : List Byte) (label : Nat) (nd nh : List Byte) (kind : Nat) : List Byte :=
  Crypto.cmac hak (bytesBE 1 label ++ nd ++ nh ++ bytesBE 1 kind)

/-- A response checked: the session opens, or the failure is counted, the fourth in succession locking
SESS_OPEN (R678, R682).
DESIGN CHOICE, unsafe: log entry 55. -/
def sessionResponse (s : State) (bytes : List Byte) : State :=
  let x := s.mail.session
  let nh := bytes.take 8
  let good := match s.mail.keys.hak with
    | some k => (sessionMac k 1 x.nonce nh x.kind).take 8 == bytes.drop 8
    | none => false
  if good then
    let key := sessionMac (s.mail.keys.hak.getD []) 2 x.nonce nh x.kind
    ({ s with mail.session := { x with
        mode := .open_, hostNonce := nh, key := key, rxCount := 0, txCount := 0, failures := 0
        step := none } }).alert 10
  else
    let s := (s.closeSession).note 0x9203
    let n := x.failures + 1
    { s with mail.session.failures := n, mail.session.locked := decide (4 ≤ n) }

/-! ### Alerts -/

/-- The Host Notify in progress is over, taken by the host. -/
def notified (s : State) : State :=
  { s with bus.notifying := false, bus.notifyTries := 0, bus.notifyWait := false }

/-- A Host Notify lost or NACKed: repeated, and after 8 attempts given up (R645). -/
def notifyLost (s : State) : State :=
  let n := s.bus.notifyTries + 1
  if n < 8 then { s with bus.notifyTries := n, bus.notifyWait := true }
  else
    (({ s.notified with bus.notifyFail := true, bus.evt := s.bus.evt ||| 8 }).note 0x9106).alert 9

/-- STATUS (Table 15-3). -/
def statusBytes (s : State) : List Byte :=
  let flags := bitNat (s.causes &&& s.fld 0x383 15 0 != 0) + 2 * bitNat (s.bus.sclStuck || s.bus.sdaStuck) +
    4 * bitNat s.bus.alertStuck + 8 * bitNat (s.mail.session.mode == .open_) +
    16 * bitNat (s.clk.limp || !s.up .bench) + 32 * bitNat s.bus.notifyFail
  bytesBE 1 s.powerCode ++ bytesBE 1 flags ++ bytesBE 1 s.domainsUp ++ bytesBE 1 s.bus.addr

end State

/-! ### The rows of the table: reads -/

/-- STATUS (Table 15-3). -/
def execStatus (ack : Bool) (s : State) : Host.Outcome State Fault Refusal :=
  .next (s.busRead 0x00 none fun (s : State) => s.sendRead 0x00 [] ack s.statusBytes)

/-- DEVID (R2). -/
def execDevid (ack : Bool) (s : State) : Host.Outcome State Fault Refusal :=
  .next (s.busRead 0x01 none fun (s : State) => s.sendRead 0x01 [] ack (bytesBE 4 0x9696))

/-- REVID (R829). -/
def execRevid (ack : Bool) (s : State) : Host.Outcome State Fault Refusal :=
  .next (s.busRead 0x02 none fun (s : State) => s.sendRead 0x02 [] ack (bytesBE 4 0x0101))

/-- LASTNACK (R630). -/
def execLastnack (ack : Bool) (s : State) : Host.Outcome State Fault Refusal :=
  .next (s.busRead 0x03 none fun (s : State) => s.sendRead 0x03 [] ack (bytesBE 4 s.bus.lastNack.toNat))

/-- FAULT_READ: up to 8 entries, removed by a complete read (Table 15-2, R806). -/
def execFaultRead (complete ack : Bool) (s : State) : Host.Outcome State Fault Refusal :=
  let refusal := if s.flt.entries.isEmpty then some (nackEmpty, phCommand) else none
  .next (s.busRead 0x04 refusal fun (s : State) =>
    let es := s.flt.entries.take 8
    let s := s.sendRead 0x04 [] (complete && ack) (bytesBE 1 (8 * es.length) ++ es.flatMap FaultEntry.bytes)
    if complete then { s with flt.entries := s.flt.entries.drop 8 } else s)

/-- LAST_SNAPSHOT: PP, epoch and LAST_STATUS of one tick (R624). -/
def execLastSnapshot (ack : Bool) (s : State) : Host.Outcome State Fault Refusal :=
  .next (s.busRead 0x60 ((s.domainRefusal .bench).map fun (c : Nat) => (c, phCommand)) fun (s : State) =>
    s.sendRead 0x60 [] ack (bytesBE 6 s.last.pp ++ bytesBE 2 s.last.epoch ++ bytesBE 4 s.lastStatus.toNat))

/-- A command code that Table 15-2 does not list (R622). -/
def execUnknownCommand (code : Byte) (s : State) : Host.Outcome State Fault Refusal :=
  .next (if busCodes.contains code.toNat then s
    else s.busGate code.toNat (some (nackUnknown, phCommand)) id)

/-! ### Mailboxes and eyelets -/

/-- MB_POST: the message lands in an EMPTY inbound slot, or is refused (R625, R658). -/
def execMbPost (mb count : Nat) (bytes : List Byte) (pec : Pec) (s : State) :
    Host.Outcome State Fault Refusal :=
  let full := if (vget none s.mail.inb mb).isSome then some (nackFull, phCommand) else none
  let refusal := State.firstRefusal [s.mailRefusal mb, full, State.blockRefusal count bytes]
  .next (if bytes.length < count ∧ refusal = none then s
    else s.busWrite (0x20 + mb) (bytesBE 1 count ++ bytes) refusal pec false fun (s : State) => s.hostPosts mb bytes)

/-- MB_READ: the message of an outbound slot, removed by a complete read (R625, R660). -/
def execMbRead (mb : Nat) (complete ack : Bool) (s : State) : Host.Outcome State Fault Refusal :=
  let m := vget none s.mail.outb mb
  let empty := if m.isNone then some (nackEmpty, phCommand) else none
  .next (s.busRead (0x30 + mb) (State.firstRefusal [s.mailRefusal mb, empty]) fun (s : State) =>
    match m with
    | some m =>
      let s := s.sendRead (0x30 + mb) [] (complete && ack) (bytesBE 1 m.bytes.length ++ m.bytes)
      if complete then { s with mail.outb := vset s.mail.outb mb none } else s
    | none => s)

/-- EYELET_RING (R668, R672). -/
def execEyeletRing (endpoint eyelet : Nat) (pec : Pec) (s : State) : Host.Outcome State Fault Refusal :=
  let refusal :=
    if 5 < endpoint then some (nackLength, phData)
    else if endpoint = 5 ∧ s.mail.session.mode ≠ .open_ then some (nackSession, phData)
    else if 31 < eyelet then some (nackLength, phData)
    else none
  .next (s.busWrite 0x40 (bytesBE 1 endpoint ++ bytesBE 1 eyelet) refusal pec false fun (s : State) =>
    if endpoint = 5 then s.ringKeeper eyelet else (s.ringBench endpoint eyelet).mailWake)

/-- EYELET_TAKE (R671). -/
def execEyeletTake (complete ack : Bool) (s : State) : Host.Outcome State Fault Refusal :=
  .next (s.busRead 0x41 none fun (s : State) =>
    let e := s.hostEyelets
    let s := s.sendRead 0x41 [] (complete && ack) (bytesBE 4 e.toNat)
    if complete then { s with mail.rung := vset s.mail.rung 0 (vget 0 s.mail.rung 0 &&& ~~~e) } else s)

/-- MB_TIMEOUT: a message has stayed in its slot for MBTMO (R666).
DESIGN CHOICE, safe: log entry 4. -/
def execMbTimeout (mb : Fin 16) (s : State) : Host.Outcome State Fault Refusal :=
  .next (match s.mail.inb.get mb with
  | none => s
  | some m =>
    if m.timeout || !s.up .host then s
    else
      let s := { s with
        mail.inb := s.mail.inb.set mb (some { m with timeout := true })
        mail.timeouts := satAdd 255 s.mail.timeouts 1 }
      if m.sender = .host then (s.alert 3).raise 0x9201 mb.val clsNote else s)

/-! ### Sessions -/

/-- SESS_OPEN (R678). -/
def execSessOpen (kind : Nat) (pec : Pec) (s : State) : Host.Outcome State Fault Refusal :=
  .next (s.openSession kind pec)

/-- SESS_OPEN of kind 3, INSTALL (R679). -/
def execSessOpenInstall (pec : Pec) (s : State) : Host.Outcome State Fault Refusal :=
  .next (s.openSession 3 pec)

/-- SESS_CHAL: the pending challenge (R678). -/
def execSessChal (ack : Bool) (s : State) : Host.Outcome State Fault Refusal :=
  let empty := if s.mail.session.mode = .challenge then none else some (nackEmpty, phCommand)
  .next (s.busRead 0x71 (State.firstRefusal [s.keeperRefusal, empty]) fun (s : State) =>
    let x := s.mail.session
    (s.sessionAsked).sendRead 0x71 [] ack (bytesBE 1 16 ++ x.nonce ++ bytesBE 4 x.number ++ bytesBE 1 x.kind ++
      List.replicate 3 0))

/-- SESS_RESP: the response handed to the Keeper (R678). -/
def execSessResp (count : Nat) (bytes : List Byte) (pec : Pec) (s : State) :
    Host.Outcome State Fault Refusal :=
  let none_ := if s.mail.session.mode = .challenge then none else some (nackSession, phCommand)
  let length := if count = 16 then State.blockRefusal count bytes else some (nackLength, phData)
  let refusal := State.firstRefusal [s.keeperRefusal, none_, length]
  .next (if bytes.length < count ∧ refusal = none then s
    else s.busWrite 0x72 (bytesBE 1 count ++ bytes) refusal pec false fun (s : State) =>
      ({ s with mail.session.step := some (.response bytes) }).sessionAsked)

/-- SESSION_STEP_DONE: the Keeper has computed a step, with the nonce it drew for a challenge (R678).
DESIGN CHOICE, safe: log entry 5. -/
def execSessionStepDone (nonce : List Byte) (s : State) : Host.Outcome State Fault Refusal :=
  .next (match s.mail.session.step with
  | none => s
  | some (.opening kind) =>
    ({ s with
      mail.session.mode := SessMode.challenge, mail.session.kind := kind
      mail.session.nonce := (List.range 8).map (byteAt nonce)
      mail.session.number := (s.mail.session.number + 1) % 2 ^ 32, mail.session.step := none }).alert 10
  | some (.response bytes) => s.sessionResponse bytes)

/-- SESS_CLOSE (R683). -/
def execSessClose (data : Byte) (pec : Pec) (s : State) : Host.Outcome State Fault Refusal :=
  let refusal := if data = 0 then none else some (nackLength, phData)
  .next (s.busWrite 0x73 [data] refusal pec false fun (s : State) => (s.closeSession).sessionAsked)

/-- SESSIDLE_EXPIRY: no session command for SESSIDLE seconds (R683).
DESIGN CHOICE, safe: log entry 4. -/
def execSessidleExpiry (s : State) : Host.Outcome State Fault Refusal := .next s.closeSession

/-- SESSION_LOCKOUT_END: 10 s after the fourth failed response (R682).
DESIGN CHOICE, unsafe: log entry 55. -/
def execSessionLockoutEnd (s : State) : Host.Outcome State Fault Refusal :=
  .next (if s.mail.session.locked then
    { s with mail.session.locked := false, mail.session.failures := 0 }
  else s)

/-! ### Alerts and Host Notify -/

/-- ALERT_CAUSE: every pending cause; a complete read clears the latched ones it returned, and ALERT# and
Host Notify begin anew (R639, R640, R645, R646). -/
def execAlertCause (complete ack : Bool) (s : State) : Host.Outcome State Fault Refusal :=
  .next (s.busRead 0x50 none fun (s : State) =>
    let c := s.causes
    let s := s.sendRead 0x50 [] (complete && ack) (bytesBE 4 c)
    if complete then
      let s := s.notified
      { s with
        bus.latched := s.bus.latched &&& (0xFFFF ^^^ c), bus.released := false, bus.notifyFail := false }
    else s)

/-- ALERT_RESPONSE: the Alert Response Address read while the device drives ALERT#; the device that wins the
arbitration releases ALERT#, and appends PEC when the host ACKs its byte (R614, R640, R641). -/
def execAlertResponse (wins ack : Bool) (s : State) : Host.Outcome State Fault Refusal :=
  .next (if s.answers && s.alertDriven && wins then
    let own := bytesBE 1 (2 * s.bus.addr)
    { s.sendBytes (own ++ if ack then [pecOf (bytesBE 1 0x19 ++ own)] else []) with bus.released := true }
  else s)

namespace State

/-- The bytes of a Host Notify: the host's address with the write bit, the own address, and the causes pending
(R642, R646). -/
def notifyBytes (s : State) : List Byte :=
  bytesBE 1 0x10 ++ bytesBE 1 (2 * s.bus.addr) ++ bytesBE 1 s.causes ++ bytesBE 1 (s.causes / 256)

/-- One attempt at a Host Notify, taken or lost (R642, R645). -/
def notify (s : State) (taken : Bool) : State :=
  let s := s.sendBytes s.notifyBytes
  if taken then s.notified else s.notifyLost

end State

/-- HOST_NOTIFY: a first attempt at a Host Notify, taken or lost (R642, R645). -/
def execHostNotify (taken : Bool) (s : State) : Host.Outcome State Fault Refusal :=
  .next (if s.answers && s.bus.notifying && !s.bus.notifyWait then s.notify taken
  else s)

/-- HOST_NOTIFY_RETRY: a further attempt (R645). -/
def execHostNotifyRetry (taken : Bool) (s : State) : Host.Outcome State Fault Refusal :=
  .next (if s.answers && s.bus.notifying && s.bus.notifyWait then s.notify taken
  else s)

/-- REARM_EXPIRY: the host has read nothing for REARM after a win or a Host Notify, and unmasked causes are
still pending (R640, R646). -/
def execRearmExpiry (s : State) : Host.Outcome State Fault Refusal :=
  .next (if s.up .host && (s.causes &&& s.fld 0x383 15 0) != 0 then
    { s with
      bus.released := false
      bus.notifying := s.bus.notifying || (s.fld 0x380 2 1 != 0 && !s.bus.notifyFail) }
  else s)

/-! ### Wake, timeouts and stuck lines -/

/-- BUS_WAKE_MATCH: in SLEEP, the device's address with the write bit starts the wake and the clock stretch
(R632, R762), and the reference is chosen anew from `refCount` (R312). -/
def execBusWakeMatch (refCount : Nat) (s : State) : Host.Outcome State Fault Refusal :=
  .next (if s.supply.power = .sleep then { s.wake refCount with bus.stretching := true } else s)

/-- WAKE_STRETCH_EXPIRY: the host clock does not run 120 µs after the stretch began, and the command byte is
NACKed (R637). -/
def execWakeStretchExpiry (code : Byte) (s : State) : Host.Outcome State Fault Refusal :=
  .next (if s.bus.stretching then
    (({ s with bus.stretching := false, bus.evt := s.bus.evt ||| 16 }).nack code.toNat nackWake phCommand).note
      0x9104
  else s)

/-- BUS_TIMEOUT: SCL low for 25–35 ms within a transaction (R647). -/
def execBusTimeout (s : State) : Host.Outcome State Fault Refusal :=
  .next (if s.up .host then { s with bus.timeouts := satAdd 255 s.bus.timeouts 1 } else s)

/-- BUSSTUCK: SCL, or SDA, low for more than 35 ms (R648). -/
def execBusstuck (sda : Bool) (s : State) : Host.Outcome State Fault Refusal :=
  .next (if !s.up .host || (if sda then s.bus.sdaStuck else s.bus.sclStuck) then s
  else if sda then
    ((({ s with bus.sdaStuck := true, bus.evt := s.bus.evt ||| 2 }).note 0x9102).alert 7)
  else
    ((({ s with bus.sclStuck := true, bus.evt := s.bus.evt ||| 1 }).note 0x9101).alert 7))

/-- BUSSTUCK_CLEAR: both lines high for 1 ms (R648). -/
def execBusstuckClear (s : State) : Host.Outcome State Fault Refusal :=
  .next { s with bus.sclStuck := false, bus.sdaStuck := false, bus.recoverTries := 0 }

/-- BUS_RECOVERY: one attempt to free SDA, which a waiting Host Notify calls for (R650). -/
def execBusRecovery (freed : Bool) (s : State) : Host.Outcome State Fault Refusal :=
  .next (if s.bus.sdaStuck && !s.bus.sclStuck && s.bus.notifying && decide (s.bus.recoverTries < 3) then
    if freed then { s with bus.recoverTries := 0 }
    else
      let t := { s with bus.recoverTries := s.bus.recoverTries + 1 }
      if t.bus.recoverTries = 3 then t.note 0x9107 else t
  else s)

/-- ALERTSTUCK: ALERT# held low by another for longer than ALSTUCKT (R651). -/
def execAlertstuck (s : State) : Host.Outcome State Fault Refusal :=
  .next (if s.up .host && !s.alertDriven && !s.bus.alertStuck then
    (({ s with bus.alertStuck := true, bus.evt := s.bus.evt ||| 4 }).note 0x9103).alert 8
  else s)

/-- ALERTSTUCK_CLEAR: ALERT# high for 1 ms (R651). -/
def execAlertstuckClear (s : State) : Host.Outcome State Fault Refusal :=
  .next { s with bus.alertStuck := false }

/-- ALERT_READBACK_FAULT: ALERT# driven low and read high for 1 ms (R652). -/
def execAlertReadbackFault (s : State) : Host.Outcome State Fault Refusal :=
  .next (if s.alertDriven then s.note 0x9105 else s)

/-! ### Restarts of a bench -/

namespace State

/-- A RESTART's bench: data memory and wakes from its last checkpoint, without replay, its log emptied and
its fault window cleared (R141, Table 16-3).
DEDUCED, safe: log entry 74. -/
def restartBench (s : State) (b : Nat) : State :=
  let n := s.bench b
  let back := s.benchCkpt b
  let wakes : Vector (Option Wake) 16 := (back.map (fun (c : BenchCkpt) => c.wakes)).getD (Vector.replicate 16 none)
  let s := s.setBench b { n with
    data := (back.map (fun (c : BenchCkpt) => c.data)).getD (s.initialData b)
    wakes := wakes.map fun (w : Option Wake) => w.map fun (w : Wake) =>
      if w.pp ≤ s.last.pp then { w with passed := true } else w
    log := [], logBytes := 0, faultSfs := [], joining := true, starting := false }
  let s := { s with prog.restarts := satAdd 65535 s.prog.restarts 1 }
  s.marksBench b

end State

/-- BENCH_RESTART_EFFECT: at a tick edge after the write, a HALTED bench is given back (R141). -/
def execBenchRestartEffect (b : Fin 5) (s : State) : Host.Outcome State Fault Refusal :=
  .next (if s.prog.restartWant.testBit b && decide (s.prog.restartEdge < s.last.edge) then
    let t := { s with prog.restartWant := s.prog.restartWant ^^^ 2 ^ b.val }
    if (s.bench b).mode = .halted then t.restartBench b else t
  else s)

end Sys2Proof.Machine
end

