-- ==== Sys2Proof/Machine/IntakeRows.lean ====
section
/-! DEFINITION. The release of batches by record intake (chapter 3): the order of release, the hand-over
of governing stamps to the Last, waits, losses and idle entries. -/

namespace Sys2Proof.Machine

open Sys2Proof

namespace State

/-- The order in which batches that complete together are taken: a VERIFIED copy first, then the lower
priority value, then the lower carrier (R112). -/
def batchLe (s : State) (a b : Batch) : Bool :=
  let u := fun (x : Batch) => bitNat (x.verdict != Verdict.verified)
  let p := s.priority a.carrier
  let q := s.priority b.carrier
  decide (u a < u b) || (u a == u b && (decide (p < q) || (p == q && decide (a.carrier ≤ b.carrier))))

/-- A record of a batch with its anchor: a STAMP on DAB takes the instance of the CIF count that QUAL
names (R104, R105).
DEDUCED, safe: log entry 43. -/
def anchorOf (s : State) (r : Record) : Record :=
  if r.type = 1 ∧ (r.carrier = 0x80 ∨ r.carrier = 0x81) then
    { r with anchor := s.dabAnchor (r.carrier - 0x80) (fieldBE r.payload 6 2) }
  else r

/-- The STAMP records of a batch as every copy brings them, seen or not, told to the correlations in
progress (R465).
DEDUCED, unsafe: log entry 34. -/
def noteStamps (s : State) (b : Batch) : State :=
  ((b.records.getD []).zipIdx).foldl (fun (s : State) (e : (Nat × Nat × List Byte) × Nat) =>
    let r := e.1
    if r.2.1 = 1 ∧ recordBad b.carrier 1 r.2.2 = false then
      let a := if b.carrier = 0x80 ∨ b.carrier = 0x81 then
          s.dabAnchor (b.carrier - 0x80) (fieldBE r.2.2 6 2)
        else anchorAt b r.1
      match a with
      | some a => s.noteStamp b.stream ((b.seq0 + e.2) % 65536) b.carrier a
      | none => s
    else s) s

/-- A batch taken at its release: the copies held for it go (R118), and its records are judged one by
one. -/
def takeBatch (s : State) (b : Batch) : State × List Record :=
  let s := if b.verdict = Verdict.verified then s.dropHeld b else s
  (s.noteStamps b).acceptBatch b

/-- A record steers the Last: a STAMP of the governing stream, VERIFIED or let in by UNVSTAMP, from a
carrier whose offset is valid once a carrier governs by a stamp (R47, R48, R49, R487); never on a STANDBY
member (R44). -/
def steers (s : State) (r : Record) : Bool :=
  r.type == 1 && !r.generated && s.governing != 0 && r.stream == s.governing &&
    (!r.unverified || (s.reg 0x100).bit 10) &&
    (!s.last.govFixed || (s.offsetOf r.carrier).2) && s.welt.role != .standby

/-- The carrier of a stream's latest release noted; while no governing stamp has been applied it governs, if
the stream does (R886). -/
def noteReleased (s : State) (r : Record) : State :=
  let s := { s with intake.released := kput s.intake.released r.stream r.carrier }
  if s.governing = r.stream ∧ s.last.govFixed = false then s.setGovCarrier (some r.carrier) else s

/-- The records of one release, in the order of R115: the governing ones are handed to the Last first
(R116), then all are queued as RECORD events, stamped with the published position. -/
def deliverRelease (s : State) (rs : List Record) : State :=
  let rs := (rs.map s.anchorOf).mergeSort s.recordLe
  let s := rs.foldl (fun (s : State) r => if r.generated then s else s.noteReleased r) s
  let s := rs.foldl (fun (s : State) r =>
    if s.steers r then s.applyStamp (fieldBE r.payload 0 6) r.carrier r.anchor else s) s
  rs.foldl (fun (s : State) r => s.deliverRecord r) s

/-- Batches released, in the order of R112.
DESIGN CHOICE, unsafe: log entry 48. -/
def releaseBatches (s : State) (bs : List Batch) : State :=
  let bs := bs.mergeSort s.batchLe
  let (s, rs) := bs.foldl (fun (a : State × List Record) b =>
    let (t, more) := a.1.takeBatch b
    (t, a.2 ++ more)) (s, [])
  s.deliverRelease rs

/-- A stream's numbers that have stood unseen for GAPTIME tick edges, marked seen (R113). -/
def expireGap (gap edge : Nat) (e : Stream) : Stream × List Nat :=
  let old := (e.missing.filter fun m => decide (m.2 + gap ≤ edge)).map (·.1)
  ({ e with
      seen := old ++ e.seen
      missing := e.missing.filter fun m => !decide (m.2 + gap ≤ edge) }, old)

end State

/-! ### The rows of the table -/

/-- A batch discarded under WITHHOLD: as REPLAY when it is of another generation than its stream's (R109),
else counted by itself (R118); it creates no stream entry.
DESIGN CHOICE, unsafe: log entry 48. DESIGN CHOICE, unsafe: log entry 78. -/
def State.withhold (s : State) (b : Batch) : State :=
  if (s.streamOf b.stream).any fun e => e.gen != b.gen then
    { s with intake.replays := satAdd 255 s.intake.replays 1 }
  else { s with intake.withheld := satAdd 0xFFFFFFFF s.intake.withheld 1 }

/-- INTAKE_RELEASE: at a tick edge, the batches complete before it are released (R114): VERIFIED ones and
those whose FLAG wait is 0; an UNVERIFIED one under WITHHOLD is discarded and counted, and under FLAG is held
for UVWAIT ticks (R118).  While the Last is stopped no edge comes, and the complete batches are released with
the frozen PP (R121).
DESIGN CHOICE, unsafe: log entry 48. -/
def execIntakeRelease (s : State) : Host.Outcome State Fault Refusal :=
  let edge := s.last.edge
  let isDue := fun (b : Batch) => b.heldTo.isNone && (decide (b.edge < edge) || s.stopped)
  let due := s.intake.batches.filter isDue
  let rest := s.intake.batches.filter fun (b : Batch) => !isDue b
  let wait := s.fld 0x282 10 0
  let flag := fun (b : Batch) => b.verdict != Verdict.verified && (s.routeOf b.stream).2
  let goes := fun (b : Batch) => b.verdict == Verdict.verified || (flag b && decide (b.edge + wait ≤ edge))
  let hold := (due.filter fun b => flag b && !decide (b.edge + wait ≤ edge)).map fun (b : Batch) =>
    { b with heldTo := some (b.edge + wait) }
  let kept := (due.filter fun b => b.verdict != Verdict.verified && !(s.routeOf b.stream).2)
  let t := kept.foldl (fun (t : State) b => t.withhold b) { s with intake.batches := rest ++ hold }
  .next (t.releaseBatches (due.filter goes))

/-- UVWAIT_EXPIRY: the batches whose wait has ended are released with the UNVERIFIED mark (R118); while the
Last is stopped the row itself is the end of the wait (R121).
DESIGN CHOICE, unsafe: log entry 48. -/
def execUvwaitExpiry (s : State) : Host.Outcome State Fault Refusal :=
  let over_ := fun (b : Batch) => (b.heldTo.map fun e => decide (e ≤ s.last.edge) || s.stopped).getD false
  .next (({ s with intake.batches := s.intake.batches.filter fun b => !over_ b }).releaseBatches
    (s.intake.batches.filter over_))

/-- GAPTIME_LOSS: numbers unseen for GAPTIME ticks are lost, and their LOSS records delivered (R113,
R117).  GAPTIME 0, below its range, acts as 1.
DESIGN CHOICE, unsafe: log entry 78. -/
def execGaptimeLoss (s : State) : Host.Outcome State Fault Refusal :=
  let gap := max 1 (s.fld 0x282 27 16)
  let (t, rs) := s.intake.streams.foldl (fun (a : State × List Record) e =>
    let (e, old) := State.expireGap gap s.last.edge e
    let (t, more) := (a.1.putStream e).declareLost e old
    (t, a.2 ++ more)) (s, [])
  .next (t.deliverRelease rs)

/-- STREAM_ENTRY_IDLE: entries of streams that have had no record for IDLE superframes, of 456 tick edges each,
are freed (R107, Table 3-6).  IDLE 0, below its range, acts as 1; a record that a route of mask 0 discards
has been delivered to intake all the same.
DESIGN CHOICE, unsafe: log entry 78. -/
def execStreamEntryIdle (s : State) : Host.Outcome State Fault Refusal :=
  let idle := max 1 (s.fld 0x280 31 20)
  let live := fun (e : Stream) => decide (s.last.edge < e.lastEdge + idle * 456)
  .next { s with intake.streams := s.intake.streams.filter live }

end Sys2Proof.Machine
end

