-- ==== Sys2Proof/Machine/Memory.lean ====
section
/-! DEFINITION. Alnomal loads, stores, ledger and code accesses, event access, and digest
instructions (Tables 5-10, 5-11, 5-12 and 5-19). -/

namespace Sys2Proof.Machine

open Sys2Proof

/-- The byte address of a load or store: ra + imm18, wrapping (R191). -/
def addrOf (h : Handler) (ra : Fin 16) (imm : BitVec 18) : Nat := (h.get ra + sext18 imm).toNat

/-- A load of `n` bytes of data memory, made a word by `f`: 2 steps (Table 5-10). -/
def loadData (b : Nat) (rd ra : Fin 16) (imm : BitVec 18) (n : Nat) (f : Nat → Word) (s : State) :
    State :=
  s.instruct b 2 fun t h =>
    let a := addrOf h ra imm
    match accessFault a n 0x8000 with
    | some e => .fault e.1 e.2
    | none => .cont t (h.put rd (f (natBE (readBytes (t.dataOf b) a n))))

/-- Bytes written to the data memory of bench `b`. -/
def State.writeData (s : State) (b a : Nat) (xs : List Byte) : State :=
  s.setBench b { s.bench b with data := writeBytes (s.dataOf b) a xs }

/-- A store of the `n` low bytes of register rd to data memory: 2 steps (Table 5-10). -/
def storeData (b : Nat) (rd ra : Fin 16) (imm : BitVec 18) (n : Nat) (s : State) : State :=
  s.instruct b 2 fun t h =>
    let a := addrOf h ra imm
    match accessFault a n 0x8000 with
    | some e => .fault e.1 e.2
    | none => .cont (t.writeData b a (bytesBE n (h.get rd).toNat)) h

/-- LDW. -/
def execLdw (b : Fin 5) (rd ra : Fin 16) (imm : BitVec 18) (s : State) :
    Host.Outcome State Fault Refusal :=
  .next (loadData b rd ra imm 4 (BitVec.ofNat 32) s)

/-- LDH, sign-extended. -/
def execLdh (b : Fin 5) (rd ra : Fin 16) (imm : BitVec 18) (s : State) :
    Host.Outcome State Fault Refusal :=
  .next (loadData b rd ra imm 2 (fun x => (BitVec.ofNat 16 x).signExtend 32) s)

/-- LDHU, zero-extended. -/
def execLdhu (b : Fin 5) (rd ra : Fin 16) (imm : BitVec 18) (s : State) :
    Host.Outcome State Fault Refusal :=
  .next (loadData b rd ra imm 2 (BitVec.ofNat 32) s)

/-- LDB, sign-extended. -/
def execLdb (b : Fin 5) (rd ra : Fin 16) (imm : BitVec 18) (s : State) :
    Host.Outcome State Fault Refusal :=
  .next (loadData b rd ra imm 1 (fun x => (BitVec.ofNat 8 x).signExtend 32) s)

/-- LDBU, zero-extended. -/
def execLdbu (b : Fin 5) (rd ra : Fin 16) (imm : BitVec 18) (s : State) :
    Host.Outcome State Fault Refusal :=
  .next (loadData b rd ra imm 1 (BitVec.ofNat 32) s)

/-- STW. -/
def execStw (b : Fin 5) (rd ra : Fin 16) (imm : BitVec 18) (s : State) :
    Host.Outcome State Fault Refusal :=
  .next (storeData b rd ra imm 4 s)

/-- STH: rd [15:0]. -/
def execSth (b : Fin 5) (rd ra : Fin 16) (imm : BitVec 18) (s : State) :
    Host.Outcome State Fault Refusal :=
  .next (storeData b rd ra imm 2 s)

/-- STB: rd [7:0]. -/
def execStb (b : Fin 5) (rd ra : Fin 16) (imm : BitVec 18) (s : State) :
    Host.Outcome State Fault Refusal :=
  .next (storeData b rd ra imm 1 s)

/-! ### The ledger -/

/-- A ledger word as bench `b` sees it from handler `h`: its own buffered writes of the present
position over the ledger as applied at the end of the previous one (R194). -/
def State.ledgerSeen (s : State) (b : Nat) (h : Handler) (a : Nat) : Word :=
  match (h.ledger ++ (s.bench b).ledgerBuf).find? fun e => e.1 == a with
  | some e => e.2
  | none => sget 0 s.prog.ledger a

/-- Whether the page map lets bench `b` write ledger page `n` (Table 4-8). -/
def State.mayWrite (s : State) (b n : Nat) : Bool :=
  match s.prog.image with
  | some i => i.pageMap.bit (2 * n + if b < 4 then 0 else 1)
  | none => false

/-- LLW: the value is logged, and a replay returns the logged one (R139, R194). -/
def execLlw (b : Fin 5) (rd ra : Fin 16) (imm : BitVec 18) (s : State) :
    Host.Outcome State Fault Refusal :=
  .next (s.instruct b 3 fun t h =>
    let a := addrOf h ra imm
    match accessFault a 4 0x10000 with
    | some e => .fault e.1 e.2
    | none =>
      let v := t.ledgerSeen b h a
      match logged (t.bench b) h (.llw v) with
      | .fresh k => .cont t (k.put rd v)
      | .replay (.llw x) k => .cont t (k.put rd x)
      | .replay _ _ | .mismatch => .fault 0x8108 0
      | .full => .fault 0x8109 0)

/-- LSW: buffered (R145), to a page this bench may write, at most 512 counted in a position (R193);
a replay compares it and buffers nothing (R139). -/
def execLsw (b : Fin 5) (rd ra : Fin 16) (imm : BitVec 18) (s : State) :
    Host.Outcome State Fault Refusal :=
  .next (s.instruct b 3 fun t h =>
    let a := addrOf h ra imm
    match accessFault a 4 0x10000 with
    | some e => .fault e.1 e.2
    | none =>
      let v := h.get rd
      if !t.mayWrite b (a / 0x1000) then .fault 0x8106 (a / 0x1000)
      else if h.script.isNone && decide (512 ≤ (t.bench b).lsws + h.lsws) then .fault 0x8107 0
      else match logged (t.bench b) h (.lsw a v) with
        | .fresh k => .cont t { k with ledger := (a, v) :: k.ledger, lsws := k.lsws + 1 }
        | .replay i k => if i = .lsw a v then .cont t k else .fault 0x8108 0
        | .mismatch => .fault 0x8108 0
        | .full => .fault 0x8109 0)

/-- LDC: a word of the code section as loaded (Table 5-9). -/
def execLdc (b : Fin 5) (rd ra : Fin 16) (imm : BitVec 18) (s : State) :
    Host.Outcome State Fault Refusal :=
  .next (s.instruct b 3 fun t h =>
    let a := addrOf h ra imm
    let (code, size) := match t.prog.image with
      | some i => (i.code, i.codeLen)
      | none => ([], 0)
    match accessFault a 4 size with
    | some e => .fault e.1 e.2
    | none => .cont t (h.put rd (BitVec.ofNat 32 (natBE (readBytes code a 4)))))

/-! ### The event -/

/-- A read of `n` bytes of the event window at ra + imm8; 0x8111 beyond byte 63 (R197). -/
def readWindow (b : Nat) (rd ra : Fin 16) (off : BitVec 8) (n : Nat) (s : State) : State :=
  s.instruct b 2 fun t h =>
    let o := (h.get ra + off.setWidth 32).toNat
    if 64 < o + n then .fault 0x8111 o
    else .cont t (h.put rd (BitVec.ofNat 32 (fieldBE h.ev.win o n)))

/-- EVB. -/
def execEvb (b : Fin 5) (rd ra : Fin 16) (off : BitVec 8) (s : State) :
    Host.Outcome State Fault Refusal :=
  .next (readWindow b rd ra off 1 s)

/-- EVH. -/
def execEvh (b : Fin 5) (rd ra : Fin 16) (off : BitVec 8) (s : State) :
    Host.Outcome State Fault Refusal :=
  .next (readWindow b rd ra off 2 s)

/-- EVW. -/
def execEvw (b : Fin 5) (rd ra : Fin 16) (off : BitVec 8) (s : State) :
    Host.Outcome State Fault Refusal :=
  .next (readWindow b rd ra off 4 s)

/-- EVF: an event field; 0x8111 above field 19 (R198). -/
def execEvf (b : Fin 5) (rd : Fin 16) (field : BitVec 8) (s : State) :
    Host.Outcome State Fault Refusal :=
  .next (s.instruct b 2 fun t h =>
    if 19 < field.toNat then .fault 0x8111 field.toNat
    else .cont t (h.put rd (h.ev.field field.toNat)))

/-- EVCPY: all 64 window bytes to data memory (R197). -/
def execEvcpy (b : Fin 5) (ra : Fin 16) (s : State) : Host.Outcome State Fault Refusal :=
  .next (s.instruct b 16 fun t h =>
    let a := (h.get ra).toNat
    if a % 4 ≠ 0 then .fault 0x8110 a
    else if 0x8000 < a + 64 then .fault 0x8103 a
    else .cont (t.writeData b a ((List.range 64).map h.ev.window)) h)

/-! ### Digests -/

/-- CRCB: rd updated with ra [7:0] (R223). -/
def execCrcb (b : Fin 5) (rd ra : Fin 16) (s : State) : Host.Outcome State Fault Refusal :=
  .next (s.compute b 1 rd fun h => crcByte (h.get rd) ((h.get ra).setWidth 8))

/-- CRCW: rd updated with the four bytes of ra, [31:24] first (R223). -/
def execCrcw (b : Fin 5) (rd ra : Fin 16) (s : State) : Host.Outcome State Fault Refusal :=
  .next (s.compute b 2 rd fun h => crcBytes (h.get rd) (bytesBE 4 (h.get ra).toNat))

/-- CRCD: rd updated with 32 bytes of data memory (R223, R224). -/
def execCrcd (b : Fin 5) (rd ra : Fin 16) (s : State) : Host.Outcome State Fault Refusal :=
  .next (s.instruct b 8 fun t h =>
    let a := (h.get ra).toNat
    if a % 4 ≠ 0 then .fault 0x8110 a
    else if 0x8000 < a + 32 then .fault 0x8103 a
    else .cont t (h.put rd (crcBytes (h.get rd) (readBytes (t.dataOf b) a 32))))

end Sys2Proof.Machine
end

