-- ==== Sys2Proof/Machine/WeltRows.lean ====
section
/-! DEFINITION. The rows of welt pairs (chapter 18): heartbeats and the link, the frames a member receives,
adoption, the swap of roles, and takeover. -/

namespace Sys2Proof.Machine

open Sys2Proof

/-- An event that came from the partner: one of a host message or ring gets the model's mark, since its slot
or RUNG bit lies in the partner. -/
def Event.fromPartner (e : Event) : Event :=
  if (e.hostBox.isSome || e.cls == .eyelet) && !e.mirrored then
    { e with fields := e.fields ++ [(mirrorMark, 0)] }
  else e

/-- A Last event of the active as a STANDBY member raises it: a step carries cause PARTNER (R44). -/
def Event.asPartner (e : Event) : Event :=
  if e.cls = .rewind ∨ e.cls = .skip then { e with win := e.win.take 14 ++ bytesBE 1 2 } else e

namespace State

/-! ### Heartbeats -/

/-- The configuration registers of Table 0-3 with their values (chapters 21 and 22, R837), the RUN bits in effect
and SEALED among them.
DESIGN CHOICE, safe: log entry 45. -/
def pairingConfig (s : State) : List (Nat × Word) :=
  let plain := [0x100, 0x101, 0x102, 0x180] ++ (List.range 32).map (fun i => 0x280 + i) ++ [0x301] ++
    (List.range 5).map (fun i => 0x329 + i)
  plain.map (fun a => (a, s.reg a)) ++ [(0x200, BitVec.ofNat 32 s.prog.runBits), (0x608, s.reg 0x608 &&& 0x1F0#32)] ++
    (List.range 9).map (fun i => (0x624 + i, s.sealReg (0x624 + i))) ++
    [(0x620, BitVec.ofNat 32 (bitNat s.theSeal.sealed))]

/-- The pairing digest: the leftmost 64 bits of the CMAC under the site key over the signature of the active image,
the configuration values, and the show keys' IDs and stream bindings (R718). -/
def pairingDigest (s : State) : List Byte :=
  let sig := match s.store.active with
    | some b => (s.bank b).bytes.drop ((s.bank b).bytes.length - 64)
    | none => []
  let key := s.mail.keys.site.getD ((List.range 16).map Config.keyless)
  (Crypto.cmac key (Config.pairingText sig s.pairingConfig
    (s.mail.keys.show_.map fun (k : ShowKey) => (k.id, k.stream)))).take 8

/-- The heartbeat that a member sends (Table 18-2). -/
def heartbeat (s : State) : Heartbeat :=
  ⟨s.welt.role, s.welt.pri, s.pairingDigest, s.now, s.welt.conf.pp, (List.range 16).map s.nextSeq,
    s.hearth.beaconSeq, s.welt.rxSeq⟩

/-- What a heartbeat tells: the partner's role, strap and pairing digest, and to a STANDBY member CONFPP and
the hearth SEQs (Table 18-6); tacks dispatched up to CONFPP cannot fall into a window (R740). -/
def heartbeatTold (s : State) (hb : Heartbeat) : State :=
  let s := { s.weltAck hb.ack with
    welt.hbMiss := 0, welt.partner := hb.role, welt.partnerPri := hb.pri, welt.digestOk := hb.digest == s.pairingDigest }
  if s.welt.role = .standby then
    let conf : Pos := ⟨hb.pos.epoch, hb.conf⟩
    { s with
      welt.conf := conf, welt.troupeSeq := hb.troupeSeq, welt.beaconSeq := hb.beaconSeq
      welt.silent := s.welt.silent.filter fun e => !posLe e.2 conf }
  else s

/-- The run of valid heartbeats counted: with the fourth, received while the partner's ACK shows this member's
frames received, the link is up (R716).  The Boolean tells that it has come up. -/
def heartbeatRun (s : State) : Bool × State :=
  if s.welt.up then (false, s)
  else
    let n := if s.welt.unacked.isEmpty then s.welt.hbRun + 1 else 0
    if 4 ≤ n then
      (true, { s with welt.up := true, welt.hbRun := 4, welt.txSeq := 1, welt.rxSeq := 0, welt.unacked := [] })
    else (false, { s with welt.hbRun := n })

/-- The pairing digests differ: 0xA104 once, and the secondary becomes PARTED (R718). -/
def digestsDiffer (s : State) : State :=
  let s := if s.welt.mismatch then s
    else (({ s with welt.mismatch := true }).weltEvt 3).note 0xA104
  if !s.welt.pri && (s.welt.role != .parted || s.welt.deciding) then s.becomeParted 5 else s

/-- The roles that a link with equal digests gives (Table 18-4, R721, R744). -/
def pairUp (s : State) (came : Bool) : State :=
  let s := { s with welt.mismatch := false }
  let partner := s.welt.partner == .active
  if s.welt.deciding then
    if partner || !s.welt.pri then s.becomeStandby 0 else s.setRole .active 0
  else match s.welt.role with
    | .parted => if partner then s.becomeStandby 0 else s
    | .active =>
      if came && partner then
        let s := (s.weltEvt 2).note 0xA203
        if s.welt.pri then s else s.becomeStandby 4
      else s
    | _ => s

/-! ### Frames -/

/-- A mirrored event kept for an adoption in progress (R732). -/
def keepMirrored (s : State) (b : Nat) (e : Event) : State :=
  if s.welt.adopting then { s with welt.mirrored := s.welt.mirrored ++ [(b, e)] } else s

/-- A mirrored event queued to a bench. -/
def mirrorTo (s : State) (b : Nat) (e : Event) : State := (s.deliver b e).keepMirrored b e

/-- A position copied from the active (R44, R724); a change of its epoch is a step of the active. -/
def copyTick (s : State) (p : Pos) : State :=
  let p0 := s.last.pp
  let s := if s.welt.adopting then { s with welt.ticks := s.welt.ticks ++ [p] } else s
  if s.welt.inSync = true ∧ p.epoch = nextEpoch s.last.epoch then
    (((s.publish p (some p0)).replaceBubbles).hearthStep).moveStamps (((p.pp : Int) - p0) * 65536)
  else s.publish p none

/-- A mirrored record marked as seen in the de-duplication state, and taken out of the shadow queue
(R726).
DESIGN CHOICE, unsafe: log entry 45. -/
def markMirrored (s : State) (e : Event) : State :=
  let id := (e.field 7).toNat
  let seq := (e.field 8).toNat % 65536
  let gen := (e.field 9).toNat
  let at_ : Nat → List (Nat × Nat) → Stream → Stream := fun g miss x =>
    let m := ({ x with missing := miss }).mark seq s.last.edge
    { m.1 with gen := g }
  let s := match s.streamOf id with
    | some x =>
      if x.gen = gen then s.putStream (at_ gen x.missing x)
      else s.putStream ({ x with gen := gen, high := seq, seen := [seq], missing := [] })
    | none =>
      if 32 ≤ s.intake.streams.length then s
      else s.putStream ⟨id, gen, seq, [seq], [], none, none, 0, s.last.edge⟩
  { s with welt.shadow := s.welt.shadow.filter fun (x : Event) =>
      !(x.field 7 == e.field 7 && x.field 8 == e.field 8 && x.field 9 == e.field 9 && x.sub == e.sub &&
        x.field 11 == e.field 11) }

/-- A mirrored record queued to its benches.
DESIGN CHOICE, unsafe: log entry 45. -/
def copyRecord (s : State) (e : Event) (mask : Nat) : State :=
  [0, 1, 2, 3].foldl (fun (s : State) b => if mask.testBit b then s.mirrorTo b e else s) (s.markMirrored e)

/-- A Last event of the active raised to every bench (Table 18-6). -/
def copyLast (s : State) (e : Event) : State :=
  [0, 1, 2, 3, 4].foldl (fun (s : State) b => s.mirrorTo b e.asPartner) s

/-- A mirrored host message or ring queued at its landing position (Table 18-6). -/
def copyHost (s : State) (m : HostMirror) : State :=
  match m with
  | .post mb bytes p =>
    let e := (mailEvent mb ⟨bytes, .host, p, s.bindOf mb, false, false, false, false⟩ p).fromPartner
    s.mirrorTo (s.bindOf mb) e
  | .ring b i p => s.mirrorTo b (eyeletEvent i p).fromPartner

/-- A message from the active's bench 4 to a cue bench (Table 18-6, R147). -/
def copyB4 (s : State) (dest : Nat) (e : Event) : State := (s.sendMail dest e).keepMirrored dest e

/-! ### Adoption -/

/-- Bench `b` as the checkpoint has it, with the mirrored events since then that the checkpoint does not hold
(R732, R733); bench 4 runs on its own events (R728). -/
def adoptBench (s : State) (c : BenchCkpt) (p : Pos) (b : Nat) : State :=
  let n := s.bench b
  let own : List Event := if b = 4 then n.queue ++ n.held
    else (s.welt.mirrored.filter fun (x : Nat × Event) => x.1 == b).map fun (x : Nat × Event) => x.2
  let base := c.queue.map fun (e : Event) => e.fromPartner
  let rest := if n.mode == .off then [] else
    own.filter fun (e : Event) => posLe p e.pos && !base.contains e && !c.inbox.contains e
  let base := if n.mode == .off then [] else base
  let running := n.mode == .run || n.mode == .replay
  let fresh : Bench := { n with
    mode := if running then .run else n.mode
    data := canon 0 c.data, wakes := c.wakes, queue := [], held := [], inbox := c.inbox
    handler := none, ledgerBuf := [], lsws := 0, sent := Vector.replicate 5 0, seq := c.seq, log := []
    logBytes := 0, replay := [], faultSfs := c.faultSfs, faultEvs := [] }
  s.setBench b ((base ++ rest).foldl Bench.enqueue fresh)

/-- The positions from the checkpoint's on that the active has published. -/
def adoptedPositions (s : State) (a : Adopted) : List Pos :=
  s.welt.ticks.filter fun p => posLt a.ckpt.pos p

/-- The adopted positions as the tack store has still to dispatch them, each with the step that led to it. -/
def adoptedDue (edge : Nat) (p : Pos) : List Pos → List Due
  | [] => []
  | q :: qs =>
    ⟨q, edge, if p.epoch = q.epoch then [] else [⟨p.pp, q, false⟩], false, false⟩ :: adoptedDue edge q qs

/-- The adopted state taken (R733, R734).
DESIGN CHOICE, unsafe: log entry 45. -/
def adopt (s : State) (a : Adopted) : State :=
  let p := a.ckpt.pos
  let later := s.adoptedPositions a
  let s := (a.ckpt.benches.zip [0, 1, 2, 3, 4]).foldl
    (fun (s : State) (x : BenchCkpt × Nat) => s.adoptBench x.1 p x.2) s
  let ledger := canon 0 a.ckpt.ledger
  let due := adoptedDue s.last.edge p later
  let s := { s with
    prog.ledger := ledger, prog.ckpt := none, prog.ckptPrev := none, prog.barrier := none
    prog.opened := p :: later, prog.voidTo := some p
    tack.pending := a.tacks, tack.entries := a.entries, tack.due := due, tack.crc := a.crc
    tack.inReport := a.inReport, tack.lastDisp := some p, tack.lastDone := some p
    intake.streams := a.streams
    last.pp := a.pp, last.epoch := a.epoch
    welt.adopted := true, welt.inSync := true, welt.adopting := false, welt.diverged := false
    welt.adoptFails := 0, welt.reports := [], welt.theirs := [], welt.mirrored := [], welt.ticks := [] }
  s.setRole .standby 3

/-- An adoption not complete in time (R720, R733). -/
def failAdoption (s : State) : State :=
  let n := s.welt.adoptFails + 1
  let t := ({ s with welt.adoptFails := n }).note 0xA302
  if 2 ≤ n then t.becomeParted 6 else t.askAdopt

/-! ### Takeover -/

/-- ARBN, 0 acting as 1 (Table 18-9), and for a secondary that holds no adopted checkpoint SECWAIT more
(R738). -/
def absencesNeeded (s : State) : Nat :=
  Nat.max 1 (Nat.min 4 (s.fld 0xE00 3 1)) +
    (if s.welt.pri || s.welt.adopted then 0 else s.fld 0xE00 7 4)

/-- The position after which the ambiguity window begins: the later of CONFPP and B (R740). -/
def windowFrom (s : State) : Pos :=
  let b := s.welt.lastBeacon
  if b.epoch = s.last.epoch ∧ posLt s.welt.conf b = true then b else s.welt.conf

/-- The tacks silently dispatched in the ambiguity window, in dispatch order. -/
def windowTacks (s : State) : List (Tack × Pos) :=
  if !s.welt.ambiguous then []
  else s.welt.silent.filter fun e => posLt s.windowFrom e.2 && posLt e.2 s.now

/-- A delivery that ends with outcome NONE, cause AMBIGUOUS, counted for its target; GPIO has no count
(R741, Table 6-7). -/
def failAmbiguous (s : State) (t : Tack) : State :=
  let k := s.tack
  if t.target = 1 then { s with tack := { k with failHearth := satAdd 255 k.failHearth 1 } }
  else if 2 ≤ t.target ∧ t.target ≤ 5 then { s with tack := { k with failIr := satAdd 255 k.failIr 1 } }
  else if t.target = 6 then s
  else if t.target = 7 then { s with tack := { k with failMail := satAdd 255 k.failMail 1 } }
  else { s with tack := { k with failMarker := satAdd 255 k.failMarker 1 } }

/-- What the new active does at the takeover position before it dispatches there (R741).
DESIGN CHOICE, unsafe: log entry 45. -/
def settleWindow (s : State) : State :=
  let ts := s.windowTacks
  let level := s.infra.gpioLevel
  let again := ts.filter fun (e : Tack × Pos) => e.1.idempotent
  let rest := ts.filter fun (e : Tack × Pos) => !e.1.idempotent
  let s := again.foldl (fun (s : State) (e : Tack × Pos) => s.handTack e.1 e.2) s
  let s := rest.foldl (fun (s : State) (e : Tack × Pos) => s.failAmbiguous e.1) s
  let s := if rest.isEmpty then s else s.note 0xA204
  let seqs := (s.welt.troupeSeq.zip (List.range s.welt.troupeSeq.length)).map
    fun (x : Nat × Nat) => (x.2, (x.1 + 64) % 65536)
  { s with
    infra.gpioLevel := level, welt.silent := []
    hearth.troupeSeq := if seqs.isEmpty then s.hearth.troupeSeq else seqs
    hearth.beaconSeq := (s.welt.beaconSeq + 64) % 65536 }

/-- A STANDBY member takes the role its partner yields (Edges of Roles).
DESIGN CHOICE, unsafe: log entry 45. -/
def takeRole (s : State) : State :=
  let s := { s with welt.partner := .standby, welt.ambiguous := false, welt.adopting := false }
  ((s.setRole .active 2).releaseShadow.queueHeldHost).settleWindow.bestSource

/-- The roles swapped, as each member does it (Edges of Roles). -/
def swapRoles (s : State) : State := match s.welt.role with
  | .active =>
    if s.welt.yielding then ({ s with welt.partner := .active }).becomeStandby 2 else s
  | .standby => if s.welt.partner = .active then s.takeRole else s
  | _ => s

/-- The takeover (R740–R743). -/
def takeOver (s : State) : State :=
  let s := { s with
    welt.take := s.last.pp % 2 ^ 32, welt.arbitrating := false, welt.absences := 0 }
  (((s.setRole .active 2).settleWindow.weltEvt 1).raise 0xA201 0xFF clsCovered).bestSource

/-- A takeover may be made: PARTED, enough due beacons absent, at a superframe boundary (R738).
DESIGN CHOICE, unsafe: log entry 45. -/
def mayTakeOver (s : State) : Bool :=
  s.weltOn && s.welt.role == .parted && s.welt.arbitrating && decide (s.absencesNeeded ≤ s.welt.absences) &&
    s.last.pp % 456 == 0

end State

/-! ### The rows of the table -/

/-- HEARTBEAT_SEND: a member sends its heartbeat, in which an ACTIVE one confirms the latest position dispatched
(R712, Table 18-2, chapter 18 Ground); a full hold of unacknowledged frames takes the link down (R716). -/
def execHeartbeatSend (s : State) : Host.Outcome State Fault Refusal :=
  .next (if !s.weltOn then s
  else
    let conf := match s.welt.role, s.tack.lastDone with
      | .active, some p => p
      | _, _ => s.welt.conf
    let s := { s with welt.conf := conf }
    let s := { s with welt.beat := some s.heartbeat }
    if 524288 ≤ s.weltHeld then s.linkDown else s)

/-- HEARTBEAT_RX: a valid heartbeat (R716, R718, R720, R721, R744). -/
def execHeartbeatRx (hb : Heartbeat) (s : State) : Host.Outcome State Fault Refusal :=
  .next (if !s.weltOn then s
  else
    let r := (s.heartbeatTold hb).heartbeatRun
    if !r.2.welt.up then r.2
    else if !r.2.welt.digestOk then r.2.digestsDiffer
    else r.2.pairUp r.1)

/-- HEARTBEAT_MISSED: a slot without a heartbeat; the fourth in succession takes the link down (R716). -/
def execHeartbeatMissed (s : State) : Host.Outcome State Fault Refusal :=
  .next (if !s.weltOn then s
  else
    let n := Nat.min 4 (s.welt.hbMiss + 1)
    let s := { s with welt.hbMiss := n, welt.hbRun := 0 }
    if 4 ≤ n then s.linkDown else s)

/-- WLSYNC_EDGE_LOSS: four tick edges without a rising edge of WLSYNC while the partner is ACTIVE (R716,
R717). -/
def execWlsyncEdgeLoss (s : State) : Host.Outcome State Fault Refusal :=
  .next (if s.weltOn = true ∧ s.welt.partner = .active then (s.note 0xA102).linkDown else s)

/-- SYMBOL_LOCK_LOSS: 4 ms without symbol lock on WLRX (R716, R717). -/
def execSymbolLockLoss (s : State) : Host.Outcome State Fault Refusal :=
  .next (if s.weltOn then (s.note 0xA103).linkDown else s)

/-- WELT_RESEND: a slot with no advance of ACK: the unacknowledged frames are sent again (R713). -/
def execWeltResend (s : State) : Host.Outcome State Fault Refusal :=
  .next (if s.welt.unacked.isEmpty then s
  else { s with welt.resends := satAdd 255 s.welt.resends 1 })

/-- WELT_TICK_FRAME (R44, R724, R725). -/
def execWeltTickFrame (h : WHead) (pos : Pos) (s : State) : Host.Outcome State Fault Refusal :=
  .next (s.standbyTake h fun t => t.copyTick pos)

/-- WELT_RECORD_FRAME (R724, R726). -/
def execWeltRecordFrame (h : WHead) (ev : Event) (mask : Nat) (s : State) :
    Host.Outcome State Fault Refusal :=
  .next (s.standbyTake h fun t => t.copyRecord ev mask)

/-- WELT_LASTEV_FRAME (R44, R724). -/
def execWeltLastevFrame (h : WHead) (ev : Event) (s : State) : Host.Outcome State Fault Refusal :=
  .next (s.standbyTake h fun t => t.copyLast ev)

/-- WELT_HOSTMSG_FRAME (R724). -/
def execWeltHostmsgFrame (h : WHead) (m : HostMirror) (s : State) : Host.Outcome State Fault Refusal :=
  .next (s.standbyTake h fun t => t.copyHost m)

/-- WELT_B4MSG_FRAME (R724). -/
def execWeltB4msgFrame (h : WHead) (dest : Nat) (ev : Event) (s : State) :
    Host.Outcome State Fault Refusal :=
  .next (s.standbyTake h fun t => t.copyB4 dest ev)

/-- WELT_DECISION_FRAME: the active's radio request applied to this member's own blocks, its events with
HANDLE 0 (R159, R724, R728). -/
def execWeltDecisionFrame (h : WHead) (code : Nat) (blk : List Byte) (app : Nat) (s : State) :
    Host.Outcome State Fault Refusal :=
  .next (s.standbyTake h fun t => t.carryOut code blk 0 app)

/-- WELT_DIGEST_FRAME: the active's digest report compared with this member's (R735, R736). -/
def execWeltDigestFrame (h : WHead) (rep : DigestRep) (s : State) : Host.Outcome State Fault Refusal :=
  .next (s.standbyTake h fun t => ({ t with welt.theirs := t.welt.theirs ++ [rep] }).compareDigests)

/-- WELT_CKPT_FRAME: a checkpoint page stored (R724, R731). -/
def execWeltCkptFrame (h : WHead) (index : Nat) (page : List Byte) (s : State) :
    Host.Outcome State Fault Refusal :=
  .next (s.standbyTake h fun t => { t with welt.pages := kput t.welt.pages index page })

/-- WELT_ADOPT_FRAME: the partner asks for a full checkpoint, sent from the next checkpoint on (R732). -/
def execWeltAdoptFrame (h : WHead) (s : State) : Host.Outcome State Fault Refusal :=
  .next (s.weltTake h fun t =>
    if t.welt.role = .active then { t with welt.sendFull := true } else t)

/-- ADOPTION_COMPLETE: the transfer of R732 is whole: the adopted state is taken, with PAIR, cause ADOPT
(R733, R734). -/
def execAdoptionComplete (a : Adopted) (s : State) : Host.Outcome State Fault Refusal :=
  .next (if s.weltOn = true ∧ s.welt.role = .standby ∧ s.welt.adopting = true then s.adopt a else s)

/-- ADOPTION_TIMEOUT: two superframes have passed: 0xA302, and the adoption starts again from the next
checkpoint; failed twice in a row, the member becomes PARTED with cause ADOPTFAIL (R720, R733). -/
def execAdoptionTimeout (s : State) : Host.Outcome State Fault Refusal :=
  .next (if s.weltOn = true ∧ s.welt.role = .standby ∧ s.welt.adopting = true then s.failAdoption else s)

/-- ROLE_SWAP: the superframe boundary after a YIELD, this member's or its partner's: the roles are swapped,
with no ambiguity window (Edges of Roles). -/
def execRoleSwap (s : State) : Host.Outcome State Fault Refusal :=
  .next (if s.weltOn = true ∧ s.welt.up = true then s.swapRoles else s)

/-- TAKEOVER: the superframe boundary after enough due beacons were absent (R738, R740–R743). -/
def execTakeover (s : State) : Host.Outcome State Fault Refusal :=
  .next (if s.mayTakeOver then s.takeOver else s)

/-- LINK_UP_DEADLINE: 200 ms after the first superframe the link was not up with equal digests (Table
18-4). -/
def execLinkUpDeadline (s : State) : Host.Outcome State Fault Refusal :=
  .next (if s.weltOn && s.welt.deciding then s.becomeParted 1 else s)

end Sys2Proof.Machine
end

