-- ==== Sys2Proof/Machine/Dispatch.lean ====
section
/-! DEFINITION. The meaning of each command: one arm per constructor of Instr. -/

namespace Sys2Proof.Machine

open Sys2Proof

/-- A command's effect on everything but the queue of commands that wait. -/
def exec (i : Instr) (s : State) : Host.Outcome State Fault Refusal :=
  match i with
  | .add b rd ra rb => Sys2Proof.Machine.execAdd b rd ra rb s
  | .sub b rd ra rb => Sys2Proof.Machine.execSub b rd ra rb s
  | .adds b rd ra rb => Sys2Proof.Machine.execAdds b rd ra rb s
  | .subs b rd ra rb => Sys2Proof.Machine.execSubs b rd ra rb s
  | .addus b rd ra rb => Sys2Proof.Machine.execAddus b rd ra rb s
  | .subus b rd ra rb => Sys2Proof.Machine.execSubus b rd ra rb s
  | .and b rd ra rb => Sys2Proof.Machine.execAnd b rd ra rb s
  | .or b rd ra rb => Sys2Proof.Machine.execOr b rd ra rb s
  | .xor b rd ra rb => Sys2Proof.Machine.execXor b rd ra rb s
  | .shl b rd ra rb => Sys2Proof.Machine.execShl b rd ra rb s
  | .shr b rd ra rb => Sys2Proof.Machine.execShr b rd ra rb s
  | .sar b rd ra rb => Sys2Proof.Machine.execSar b rd ra rb s
  | .rol b rd ra rb => Sys2Proof.Machine.execRol b rd ra rb s
  | .slt b rd ra rb => Sys2Proof.Machine.execSlt b rd ra rb s
  | .sltu b rd ra rb => Sys2Proof.Machine.execSltu b rd ra rb s
  | .seq b rd ra rb => Sys2Proof.Machine.execSeq b rd ra rb s
  | .sne b rd ra rb => Sys2Proof.Machine.execSne b rd ra rb s
  | .min b rd ra rb => Sys2Proof.Machine.execMin b rd ra rb s
  | .max b rd ra rb => Sys2Proof.Machine.execMax b rd ra rb s
  | .minu b rd ra rb => Sys2Proof.Machine.execMinu b rd ra rb s
  | .maxu b rd ra rb => Sys2Proof.Machine.execMaxu b rd ra rb s
  | .clz b rd ra => Sys2Proof.Machine.execClz b rd ra s
  | .popc b rd ra => Sys2Proof.Machine.execPopc b rd ra s
  | .mul b rd ra rb => Sys2Proof.Machine.execMul b rd ra rb s
  | .mulh b rd ra rb => Sys2Proof.Machine.execMulh b rd ra rb s
  | .mulhu b rd ra rb => Sys2Proof.Machine.execMulhu b rd ra rb s
  | .div b rd ra rb => Sys2Proof.Machine.execDiv b rd ra rb s
  | .divu b rd ra rb => Sys2Proof.Machine.execDivu b rd ra rb s
  | .rem b rd ra rb => Sys2Proof.Machine.execRem b rd ra rb s
  | .remu b rd ra rb => Sys2Proof.Machine.execRemu b rd ra rb s
  | .addi b rd ra imm => Sys2Proof.Machine.execAddi b rd ra imm s
  | .addis b rd ra imm => Sys2Proof.Machine.execAddis b rd ra imm s
  | .andi b rd ra imm => Sys2Proof.Machine.execAndi b rd ra imm s
  | .ori b rd ra imm => Sys2Proof.Machine.execOri b rd ra imm s
  | .xori b rd ra imm => Sys2Proof.Machine.execXori b rd ra imm s
  | .shli b rd ra sh => Sys2Proof.Machine.execShli b rd ra sh s
  | .shri b rd ra sh => Sys2Proof.Machine.execShri b rd ra sh s
  | .sari b rd ra sh => Sys2Proof.Machine.execSari b rd ra sh s
  | .slti b rd ra imm => Sys2Proof.Machine.execSlti b rd ra imm s
  | .sltiu b rd ra imm => Sys2Proof.Machine.execSltiu b rd ra imm s
  | .lui b rd imm => Sys2Proof.Machine.execLui b rd imm s
  | .beq b ra rb off => Sys2Proof.Machine.execBeq b ra rb off s
  | .bne b ra rb off => Sys2Proof.Machine.execBne b ra rb off s
  | .blt b ra rb off => Sys2Proof.Machine.execBlt b ra rb off s
  | .bge b ra rb off => Sys2Proof.Machine.execBge b ra rb off s
  | .bltu b ra rb off => Sys2Proof.Machine.execBltu b ra rb off s
  | .bgeu b ra rb off => Sys2Proof.Machine.execBgeu b ra rb off s
  | .jmp b target => Sys2Proof.Machine.execJmp b target s
  | .call b target => Sys2Proof.Machine.execCall b target s
  | .jr b ra => Sys2Proof.Machine.execJr b ra s
  | .callr b ra => Sys2Proof.Machine.execCallr b ra s
  | .ret b => Sys2Proof.Machine.execRet b s
  | .endHandler b => Sys2Proof.Machine.execEndHandler b s
  | .nop b => Sys2Proof.Machine.execNop b s
  | .trap b code => Sys2Proof.Machine.execTrap b code s
  | .srem b rd => Sys2Proof.Machine.execSrem b rd s
  | .undefinedInstruction b => Sys2Proof.Machine.execUndefinedInstruction b s
  | .ldw b rd ra imm => Sys2Proof.Machine.execLdw b rd ra imm s
  | .ldh b rd ra imm => Sys2Proof.Machine.execLdh b rd ra imm s
  | .ldhu b rd ra imm => Sys2Proof.Machine.execLdhu b rd ra imm s
  | .ldb b rd ra imm => Sys2Proof.Machine.execLdb b rd ra imm s
  | .ldbu b rd ra imm => Sys2Proof.Machine.execLdbu b rd ra imm s
  | .stw b rd ra imm => Sys2Proof.Machine.execStw b rd ra imm s
  | .sth b rd ra imm => Sys2Proof.Machine.execSth b rd ra imm s
  | .stb b rd ra imm => Sys2Proof.Machine.execStb b rd ra imm s
  | .llw b rd ra imm => Sys2Proof.Machine.execLlw b rd ra imm s
  | .lsw b rd ra imm => Sys2Proof.Machine.execLsw b rd ra imm s
  | .ldc b rd ra imm => Sys2Proof.Machine.execLdc b rd ra imm s
  | .evb b rd ra off => Sys2Proof.Machine.execEvb b rd ra off s
  | .evh b rd ra off => Sys2Proof.Machine.execEvh b rd ra off s
  | .evw b rd ra off => Sys2Proof.Machine.execEvw b rd ra off s
  | .evf b rd field => Sys2Proof.Machine.execEvf b rd field s
  | .evcpy b ra => Sys2Proof.Machine.execEvcpy b ra s
  | .tpost b rd ra => Sys2Proof.Machine.execTpost b rd ra s
  | .tcan b ra => Sys2Proof.Machine.execTcan b ra s
  | .tcank b ra => Sys2Proof.Machine.execTcank b ra s
  | .msend b rd ra rb dest => Sys2Proof.Machine.execMsend b rd ra rb dest s
  | .mpost b rd ra rb mb => Sys2Proof.Machine.execMpost b rd ra rb mb s
  | .ring b eyelet => Sys2Proof.Machine.execRing b eyelet s
  | .radio b rd ra op => Sys2Proof.Machine.execRadio b rd ra op s
  | .wake b ra rb slot => Sys2Proof.Machine.execWake b ra rb slot s
  | .wcan b slot => Sys2Proof.Machine.execWcan b slot s
  | .crcb b rd ra => Sys2Proof.Machine.execCrcb b rd ra s
  | .crcw b rd ra => Sys2Proof.Machine.execCrcw b rd ra s
  | .crcd b rd ra => Sys2Proof.Machine.execCrcd b rd ra s
  | .replayDone b => Sys2Proof.Machine.execReplayDone b s
  | .handlerEntry b => Sys2Proof.Machine.execHandlerEntry b s
  | .positionClose => Sys2Proof.Machine.execPositionClose s
  | .eventHoldRelease b => Sys2Proof.Machine.execEventHoldRelease b s
  | .wakeatFire b slot => Sys2Proof.Machine.execWakeatFire b slot s
  | .benchCtrlRun v pec => Sys2Proof.Machine.execBenchCtrlRun v pec s
  | .benchRunEffect b => Sys2Proof.Machine.execBenchRunEffect b s
  | .benchCtrlRestart v pec => Sys2Proof.Machine.execBenchCtrlRestart v pec s
  | .benchRestartEffect b => Sys2Proof.Machine.execBenchRestartEffect b s
  | .tickEdge => Sys2Proof.Machine.execTickEdge s
  | .tackDispatch => Sys2Proof.Machine.execTackDispatch s
  | .holdEnd => Sys2Proof.Machine.execHoldEnd s
  | .slewEnd => Sys2Proof.Machine.execSlewEnd s
  | .sourceQualify => Sys2Proof.Machine.execSourceQualify s
  | .trimMeasure trim => Sys2Proof.Machine.execTrimMeasure trim s
  | .frlimitReached => Sys2Proof.Machine.execFrlimitReached s
  | .govern blk => Sys2Proof.Machine.execGovern blk s
  | .governApply => Sys2Proof.Machine.execGovernApply s
  | .lastGovWrite v pec => Sys2Proof.Machine.execLastGovWrite v pec s
  | .bleedCorrection => Sys2Proof.Machine.execBleedCorrection s
  | .rdsBlockDelivery lane syms bitPos anchor ago => Sys2Proof.Machine.execRdsBlockDelivery lane syms bitPos anchor ago s
  | .intakeRelease => Sys2Proof.Machine.execIntakeRelease s
  | .uvwaitExpiry => Sys2Proof.Machine.execUvwaitExpiry s
  | .gaptimeLoss => Sys2Proof.Machine.execGaptimeLoss s
  | .streamEntryIdle => Sys2Proof.Machine.execStreamEntryIdle s
  | .pilotTickJudge lane clean phaseErr => Sys2Proof.Machine.execPilotTickJudge lane clean phaseErr s
  | .detectorBlock lane => Sys2Proof.Machine.execDetectorBlock lane s
  | .poTick po => Sys2Proof.Machine.execPoTick po s
  | .fmQuality carrier aliased record => Sys2Proof.Machine.execFmQuality carrier aliased record s
  | .measureSubscribe blk => Sys2Proof.Machine.execMeasureSubscribe blk s
  | .measureUnsubscribe blk => Sys2Proof.Machine.execMeasureUnsubscribe blk s
  | .measureOnce blk => Sys2Proof.Machine.execMeasureOnce blk s
  | .laneAssign blk => Sys2Proof.Machine.execLaneAssign blk s
  | .laneModify blk => Sys2Proof.Machine.execLaneModify blk s
  | .laneFade blk => Sys2Proof.Machine.execLaneFade blk s
  | .laneRelease blk => Sys2Proof.Machine.execLaneRelease blk s
  | .laneApplyEdge => Sys2Proof.Machine.execLaneApplyEdge s
  | .fadeDone lane => Sys2Proof.Machine.execFadeDone lane s
  | .laneOutputBlock lane inp => Sys2Proof.Machine.execLaneOutputBlock lane inp s
  | .laneSettled lane => Sys2Proof.Machine.execLaneSettled lane s
  | .laneSubstitution lane => Sys2Proof.Machine.execLaneSubstitution lane s
  | .poolGrantRound => Sys2Proof.Machine.execPoolGrantRound s
  | .coefEccError set double => Sys2Proof.Machine.execCoefEccError set double s
  | .laneCtrlEnWrite lane v pec => Sys2Proof.Machine.execLaneCtrlEnWrite lane v pec s
  | .laneFirFadeWrite lane v pec => Sys2Proof.Machine.execLaneFirFadeWrite lane v pec s
  | .laneFailedWrite reg v pec => Sys2Proof.Machine.execLaneFailedWrite reg v pec s
  | .laneCoefdatAccess write pec => Sys2Proof.Machine.execLaneCoefdatAccess write pec s
  | .laneCoefidxWrite v pec => Sys2Proof.Machine.execLaneCoefidxWrite v pec s
  | .chainTune blk => Sys2Proof.Machine.execChainTune blk s
  | .chainTuneApply c => Sys2Proof.Machine.execChainTuneApply c s
  | .chainState blk => Sys2Proof.Machine.execChainState blk s
  | .chainTransitionDone c us cal => Sys2Proof.Machine.execChainTransitionDone c us cal s
  | .gain blk => Sys2Proof.Machine.execGain blk s
  | .protectSet blk => Sys2Proof.Machine.execProtectSet blk s
  | .protectClear blk => Sys2Proof.Machine.execProtectClear blk s
  | .protectWindowEnd c w => Sys2Proof.Machine.execProtectWindowEnd c w s
  | .gainAutoTick c above clipped low => Sys2Proof.Machine.execGainAutoTick c above clipped low s
  | .dcLoopLimit c di dq => Sys2Proof.Machine.execDcLoopLimit c di dq s
  | .bubbleStart c => Sys2Proof.Machine.execBubbleStart c s
  | .bubbleDone c cal => Sys2Proof.Machine.execBubbleDone c cal s
  | .pafaultAssert level => Sys2Proof.Machine.execPafaultAssert level s
  | .hrPaevtClear v pec => Sys2Proof.Machine.execHrPaevtClear v pec s
  | .chainReset c v pec => Sys2Proof.Machine.execChainReset c v pec s
  | .chainStateWrite c v pec => Sys2Proof.Machine.execChainStateWrite c v pec s
  | .brModeWrite v pec => Sys2Proof.Machine.execBrModeWrite v pec s
  | .adcStuckFail c => Sys2Proof.Machine.execAdcStuckFail c s
  | .tempReading t0 t1 t2 => Sys2Proof.Machine.execTempReading t0 t1 t2 s
  | .calibrateCurrent blk => Sys2Proof.Machine.execCalibrateCurrent blk s
  | .calibrateKey blk => Sys2Proof.Machine.execCalibrateKey blk s
  | .calibrateStale blk => Sys2Proof.Machine.execCalibrateStale blk s
  | .calibrateAll blk => Sys2Proof.Machine.execCalibrateAll blk s
  | .calibrateSweep blk => Sys2Proof.Machine.execCalibrateSweep blk s
  | .calSweep v pec => Sys2Proof.Machine.execCalSweep v pec s
  | .sweepDone cals => Sys2Proof.Machine.execSweepDone cals s
  | .calCommit v pec => Sys2Proof.Machine.execCalCommit v pec s
  | .calCommitStepDone ok => Sys2Proof.Machine.execCalCommitStepDone ok s
  | .pllLockLoss pll => Sys2Proof.Machine.execPllLockLoss pll s
  | .referenceLoss => Sys2Proof.Machine.execReferenceLoss s
  | .referenceBack => Sys2Proof.Machine.execReferenceBack s
  | .sysrestart v pec => Sys2Proof.Machine.execSysrestart v pec s
  | .sckrestart v pec => Sys2Proof.Machine.execSckrestart v pec s
  | .pllRelock pll => Sys2Proof.Machine.execPllRelock pll s
  | .limpMeasure kHz => Sys2Proof.Machine.execLimpMeasure kHz s
  | .ensembleStart blk => Sys2Proof.Machine.execEnsembleStart blk s
  | .ensembleStop blk => Sys2Proof.Machine.execEnsembleStop blk s
  | .dabFrame d anchor ago foff fibs => Sys2Proof.Machine.execDabFrame d anchor ago foff fibs s
  | .dabFrameMissed d => Sys2Proof.Machine.execDabFrameMissed d s
  | .acqtimeExpiry d => Sys2Proof.Machine.execAcqtimeExpiry d s
  | .cifBoundary d cif => Sys2Proof.Machine.execCifBoundary d cif s
  | .subchannelSelect blk => Sys2Proof.Machine.execSubchannelSelect blk s
  | .subchannelDeselect blk => Sys2Proof.Machine.execSubchannelDeselect blk s
  | .cifDecoded d cif anchor subs => Sys2Proof.Machine.execCifDecoded d cif anchor subs s
  | .dabDecoderReset d v pec => Sys2Proof.Machine.execDabDecoderReset d v pec s
  | .dabDecoderFailed d => Sys2Proof.Machine.execDabDecoderFailed d s
  | .correlateMpx blk => Sys2Proof.Machine.execCorrelateMpx blk s
  | .correlateStamp blk => Sys2Proof.Machine.execCorrelateStamp blk s
  | .correlateReply id => Sys2Proof.Machine.execCorrelateReply id s
  | .spliceAt blk => Sys2Proof.Machine.execSpliceAt blk s
  | .spliceArmed blk => Sys2Proof.Machine.execSpliceArmed blk s
  | .spliceAlignEnd id => Sys2Proof.Machine.execSpliceAlignEnd id s
  | .spliceEdge id invalid => Sys2Proof.Machine.execSpliceEdge id invalid s
  | .spliceFadeEnd id => Sys2Proof.Machine.execSpliceFadeEnd id s
  | .spliceExpiry id => Sys2Proof.Machine.execSpliceExpiry id s
  | .hearthPlan blk => Sys2Proof.Machine.execHearthPlan blk s
  | .hearthStart blk => Sys2Proof.Machine.execHearthStart blk s
  | .hearthStop blk => Sys2Proof.Machine.execHearthStop blk s
  | .hlCtrlStop v pec => Sys2Proof.Machine.execHlCtrlStop v pec s
  | .hearthRunning => Sys2Proof.Machine.execHearthRunning s
  | .slotStart => Sys2Proof.Machine.execSlotStart s
  | .lbtResult rssi => Sys2Proof.Machine.execLbtResult rssi s
  | .burstTransmit => Sys2Proof.Machine.execBurstTransmit s
  | .burstEnd => Sys2Proof.Machine.execBurstEnd s
  | .hearthFrameRx rx => Sys2Proof.Machine.execHearthFrameRx rx s
  | .beaconMissed own => Sys2Proof.Machine.execBeaconMissed own s
  | .maxwaitTimeout handle => Sys2Proof.Machine.execMaxwaitTimeout handle s
  | .dutyBucketRoll => Sys2Proof.Machine.execDutyBucketRoll s
  | .sealCmd v pec => Sys2Proof.Machine.execSealCmd v pec s
  | .sealWrite addr v pec => Sys2Proof.Machine.execSealWrite addr v pec s
  | .irRxSet blk => Sys2Proof.Machine.execIrRxSet blk s
  | .irRxOff blk => Sys2Proof.Machine.execIrRxOff blk s
  | .irTxProfile blk => Sys2Proof.Machine.execIrTxProfile blk s
  | .irAmbientStep irin => Sys2Proof.Machine.execIrAmbientStep irin s
  | .irMarkEdge c y us at_ carrier peak => Sys2Proof.Machine.execIrMarkEdge c y us at_ carrier peak s
  | .irBurstEnd c => Sys2Proof.Machine.execIrBurstEnd c s
  | .irFloodBlock c at_ irin out => Sys2Proof.Machine.execIrFloodBlock c at_ irin out s
  | .floodholdExpiry c => Sys2Proof.Machine.execFloodholdExpiry c s
  | .irRecoverEnd c at_ => Sys2Proof.Machine.execIrRecoverEnd c at_ s
  | .irStuck lo hi => Sys2Proof.Machine.execIrStuck lo hi s
  | .irStuckRelease lo hi => Sys2Proof.Machine.execIrStuckRelease lo hi s
  | .recentre bias => Sys2Proof.Machine.execRecentre bias s
  | .pairWindowExpiry c => Sys2Proof.Machine.execPairWindowExpiry c s
  | .irCode c => Sys2Proof.Machine.execIrCode c s
  | .irTxCodeEnd out => Sys2Proof.Machine.execIrTxCodeEnd out s
  | .irTxreset v pec => Sys2Proof.Machine.execIrTxreset v pec s
  | .irRxreset v pec => Sys2Proof.Machine.execIrRxreset v pec s
  | .status ack => Sys2Proof.Machine.execStatus ack s
  | .devid ack => Sys2Proof.Machine.execDevid ack s
  | .revid ack => Sys2Proof.Machine.execRevid ack s
  | .lastnack ack => Sys2Proof.Machine.execLastnack ack s
  | .faultRead complete ack => Sys2Proof.Machine.execFaultRead complete ack s
  | .powerIdle pec => Sys2Proof.Machine.execPowerIdle pec s
  | .powerRun pec => Sys2Proof.Machine.execPowerRun pec s
  | .powerSleep pec => Sys2Proof.Machine.execPowerSleep pec s
  | .holdExitNormal pec => Sys2Proof.Machine.execHoldExitNormal pec s
  | .holdExitDegraded pec => Sys2Proof.Machine.execHoldExitDegraded pec s
  | .regRead addr ack => Sys2Proof.Machine.execRegRead addr ack s
  | .regWrite addr v pec => Sys2Proof.Machine.execRegWrite addr v pec s
  | .captureRead addr ack => Sys2Proof.Machine.execCaptureRead addr ack s
  | .readClear addr ack => Sys2Proof.Machine.execReadClear addr ack s
  | .mbPost mb count bytes pec => Sys2Proof.Machine.execMbPost mb count bytes pec s
  | .mbRead mb complete ack => Sys2Proof.Machine.execMbRead mb complete ack s
  | .eyeletRing endpoint eyelet pec => Sys2Proof.Machine.execEyeletRing endpoint eyelet pec s
  | .eyeletTake complete ack => Sys2Proof.Machine.execEyeletTake complete ack s
  | .alertCause complete ack => Sys2Proof.Machine.execAlertCause complete ack s
  | .lastSnapshot ack => Sys2Proof.Machine.execLastSnapshot ack s
  | .sessOpen kind pec => Sys2Proof.Machine.execSessOpen kind pec s
  | .sessOpenInstall pec => Sys2Proof.Machine.execSessOpenInstall pec s
  | .sessChal ack => Sys2Proof.Machine.execSessChal ack s
  | .sessResp count bytes pec => Sys2Proof.Machine.execSessResp count bytes pec s
  | .sessionStepDone nonce => Sys2Proof.Machine.execSessionStepDone nonce s
  | .sessClose data pec => Sys2Proof.Machine.execSessClose data pec s
  | .sessidleExpiry => Sys2Proof.Machine.execSessidleExpiry s
  | .sessionLockoutEnd => Sys2Proof.Machine.execSessionLockoutEnd s
  | .deviceReset g0 g1 pec => Sys2Proof.Machine.execDeviceReset g0 g1 pec s
  | .unknownCommand code => Sys2Proof.Machine.execUnknownCommand code s
  | .alertResponse wins ack => Sys2Proof.Machine.execAlertResponse wins ack s
  | .hostNotify taken => Sys2Proof.Machine.execHostNotify taken s
  | .hostNotifyRetry taken => Sys2Proof.Machine.execHostNotifyRetry taken s
  | .rearmExpiry => Sys2Proof.Machine.execRearmExpiry s
  | .busWakeMatch refCount => Sys2Proof.Machine.execBusWakeMatch refCount s
  | .wakeStretchExpiry code => Sys2Proof.Machine.execWakeStretchExpiry code s
  | .busTimeout => Sys2Proof.Machine.execBusTimeout s
  | .busstuck sda => Sys2Proof.Machine.execBusstuck sda s
  | .busstuckClear => Sys2Proof.Machine.execBusstuckClear s
  | .busRecovery freed => Sys2Proof.Machine.execBusRecovery freed s
  | .alertstuck => Sys2Proof.Machine.execAlertstuck s
  | .alertstuckClear => Sys2Proof.Machine.execAlertstuckClear s
  | .alertReadbackFault => Sys2Proof.Machine.execAlertReadbackFault s
  | .mbTimeout mb => Sys2Proof.Machine.execMbTimeout mb s
  | .hostreset v pec => Sys2Proof.Machine.execHostreset v pec s
  | .eyeMaskWrite e v pec => Sys2Proof.Machine.execEyeMaskWrite e v pec s
  | .showSet => Sys2Proof.Machine.execShowSet s
  | .showDel => Sys2Proof.Machine.execShowDel s
  | .siteSet => Sys2Proof.Machine.execSiteSet s
  | .linkSet => Sys2Proof.Machine.execLinkSet s
  | .linkDel => Sys2Proof.Machine.execLinkDel s
  | .hakSet => Sys2Proof.Machine.execHakSet s
  | .instBegin => Sys2Proof.Machine.execInstBegin s
  | .instData => Sys2Proof.Machine.execInstData s
  | .instEnd => Sys2Proof.Machine.execInstEnd s
  | .instCommit => Sys2Proof.Machine.execInstCommit s
  | .instRevert => Sys2Proof.Machine.execInstRevert s
  | .instAbort => Sys2Proof.Machine.execInstAbort s
  | .instEraseDone => Sys2Proof.Machine.execInstEraseDone s
  | .instVerifyDone => Sys2Proof.Machine.execInstVerifyDone s
  | .energyRecheck => Sys2Proof.Machine.execEnergyRecheck s
  | .storeBootWrite v pec => Sys2Proof.Machine.execStoreBootWrite v pec s
  | .ivkProgram v pec => Sys2Proof.Machine.execIvkProgram v pec s
  | .storeOpDone ok => Sys2Proof.Machine.execStoreOpDone ok s
  | .awl blk => Sys2Proof.Machine.execAwl blk s
  | .awlStart v pec => Sys2Proof.Machine.execAwlStart v pec s
  | .awlRunEnd res => Sys2Proof.Machine.execAwlRunEnd res s
  | .awlRerun res => Sys2Proof.Machine.execAwlRerun res s
  | .awlDetail => Sys2Proof.Machine.execAwlDetail s
  | .powerUpAwlEnd res => Sys2Proof.Machine.execPowerUpAwlEnd res s
  | .vsysGood pins => Sys2Proof.Machine.execVsysGood pins s
  | .powerfail => Sys2Proof.Machine.execPowerfail s
  | .vholdFloor => Sys2Proof.Machine.execVholdFloor s
  | .vioGood => Sys2Proof.Machine.execVioGood s
  | .pinReset => Sys2Proof.Machine.execPinReset s
  | .wakePin level refCount => Sys2Proof.Machine.execWakePin level refCount s
  | .supplySample vsys vhold => Sys2Proof.Machine.execSupplySample vsys vhold s
  | .vholdLow => Sys2Proof.Machine.execVholdLow s
  | .domctrlWrite v pec => Sys2Proof.Machine.execDomctrlWrite v pec s
  | .strmCapWrite v pec => Sys2Proof.Machine.execStrmCapWrite v pec s
  | .streamPacketSend stHold => Sys2Proof.Machine.execStreamPacketSend stHold s
  | .audioRouteSource blk => Sys2Proof.Machine.execAudioRouteSource blk s
  | .audioRouteNosource blk => Sys2Proof.Machine.execAudioRouteNosource blk s
  | .audioRoutePorts blk => Sys2Proof.Machine.execAudioRoutePorts blk s
  | .audioFrame p => Sys2Proof.Machine.execAudioFrame p s
  | .audioTrackMeasure p sub clk => Sys2Proof.Machine.execAudioTrackMeasure p sub clk s
  | .audioClockLoss p => Sys2Proof.Machine.execAudioClockLoss p s
  | .audioClockReturn p sub => Sys2Proof.Machine.execAudioClockReturn p sub s
  | .audCtrlWrite p sub v pec => Sys2Proof.Machine.execAudCtrlWrite p sub v pec s
  | .heartbeatSend => Sys2Proof.Machine.execHeartbeatSend s
  | .heartbeatRx hb => Sys2Proof.Machine.execHeartbeatRx hb s
  | .heartbeatMissed => Sys2Proof.Machine.execHeartbeatMissed s
  | .wlsyncEdgeLoss => Sys2Proof.Machine.execWlsyncEdgeLoss s
  | .symbolLockLoss => Sys2Proof.Machine.execSymbolLockLoss s
  | .weltResend => Sys2Proof.Machine.execWeltResend s
  | .weltTickFrame h pos => Sys2Proof.Machine.execWeltTickFrame h pos s
  | .weltRecordFrame h ev mask => Sys2Proof.Machine.execWeltRecordFrame h ev mask s
  | .weltLastevFrame h ev => Sys2Proof.Machine.execWeltLastevFrame h ev s
  | .weltHostmsgFrame h m => Sys2Proof.Machine.execWeltHostmsgFrame h m s
  | .weltB4msgFrame h dest ev => Sys2Proof.Machine.execWeltB4msgFrame h dest ev s
  | .weltDecisionFrame h code blk app => Sys2Proof.Machine.execWeltDecisionFrame h code blk app s
  | .weltDigestFrame h rep => Sys2Proof.Machine.execWeltDigestFrame h rep s
  | .weltCkptFrame h index page => Sys2Proof.Machine.execWeltCkptFrame h index page s
  | .weltAdoptFrame h => Sys2Proof.Machine.execWeltAdoptFrame h s
  | .adoptionComplete a => Sys2Proof.Machine.execAdoptionComplete a s
  | .adoptionTimeout => Sys2Proof.Machine.execAdoptionTimeout s
  | .weltAdopt v pec => Sys2Proof.Machine.execWeltAdopt v pec s
  | .weltYield v pec => Sys2Proof.Machine.execWeltYield v pec s
  | .roleSwap => Sys2Proof.Machine.execRoleSwap s
  | .takeover => Sys2Proof.Machine.execTakeover s
  | .resetRelease pins => Sys2Proof.Machine.execResetRelease pins s
  | .domainPowerUpDone dom => Sys2Proof.Machine.execDomainPowerUpDone dom s
  | .linkUpDeadline => Sys2Proof.Machine.execLinkUpDeadline s

end Sys2Proof.Machine
end

