-- ==== Sys2Proof/Safety.lean ====
section
/-! DEFINITION. What counts as a sound state and a sound run, in the terms the claims use. -/

namespace Sys2Proof.Machine

open Sys2Proof

/-- The canonical form of the configuration registers: rising addresses, and no entry that holds the reset
value of its register. -/
def regsWf : List (Nat × Word) → Bool
  | [] => true
  | [(a, v)] => v != regReset a
  | (a, v) :: (b, w) :: m => v != regReset a && decide (a < b) && regsWf ((b, w) :: m)

/-- The data memories that a checkpoint holds are canonical, and so is its ledger. -/
def Ckpt.memWf (c : Ckpt) : Bool := swf 0 c.ledger && c.benches.all fun n => swf 0 n.data

/-- The initial data memories and the ledger of an image are canonical. -/
def Image.memWf (i : Image) : Bool := swf 0 i.ledger && i.data.all fun m => swf 0 m

/-- Every memory the benches can read is in canonical form: data memories, the ledger, and the copies that
checkpoints and the image hold. -/
def Program.memWf (p : Program) : Bool :=
  swf 0 p.ledger && p.bench.toList.all (fun n => swf 0 n.data) &&
    (p.ckpt.all fun c => c.memWf) && (p.ckptPrev.all fun c => c.memWf) &&
    (p.image.all fun i => i.memWf)

/-- The state's memories are in canonical form. -/
def State.memWf (s : State) : Bool := s.prog.memWf

/-- The canonical form of the seal view and of the seal OTP: as for configuration registers, the link rules
alone resetting to another value than 0 (Table 13-11). -/
def sealWf : List (Nat × Word) → Bool
  | [] => true
  | [(a, v)] => v != (if a = 0x623 then 0x00002855#32 else 0)
  | (a, v) :: (b, w) :: m =>
    v != (if a = 0x623 then 0x00002855#32 else 0) && decide (a < b) && sealWf ((b, w) :: m)

/-- The sparse tables are in canonical form: the registers, the seal view and the OTP, the lanes, and the
coefficient sets with their taps. -/
def State.tablesWf (s : State) : Bool :=
  regsWf s.regs && sealWf s.theSeal.view && sealWf s.theSeal.otp && swf Lane.init s.lanes.lane &&
    swf CoefSet.init s.lanes.coef && s.lanes.coef.all fun e => swf 0 e.2.taps

/-- Everything that the state keeps in sparse form is canonical, so that equal contents are equal data. -/
def State.wf (s : State) : Bool := s.memWf && s.tablesWf

/-- The fault log holds at most its 64 entries (R805, R806). -/
def State.logFits (s : State) : Bool := decide (s.flt.entries.length ≤ 64)

/-! ### Benches that execute -/

/-- Bench `b` runs handler `h`, the Last not being stopped (R132). -/
def State.inHandler (s : State) (b : Fin 5) (h : Handler) : Prop :=
  (s.bench b).handler = some h ∧ s.last.mode ≠ .stopped

/-- The handler that bench `b` runs can pay an instruction of cost `cost` (R136). -/
def State.paying (s : State) (b : Fin 5) (h : Handler) (cost : Nat) : Prop :=
  s.inHandler b h ∧ h.used + cost ≤ h.budget

/-- It can pay the instruction and has a next word in the code section (R187). -/
def State.running (s : State) (b : Fin 5) (h : Handler) (cost : Nat) : Prop :=
  s.paying b h cost ∧ h.pc + 1 < s.codeWords

/-- The state with bench `b` running handler `h`, `cost` steps used and the PC at `pc`; nothing else is
changed. -/
def State.at_ (s : State) (b : Fin 5) (h : Handler) (cost pc : Nat) : State :=
  s.setBench b { s.bench b with handler := some { h with used := h.used + cost, pc := pc } }

/-- The same with the PC at the next word. -/
def State.goesOn (s : State) (b : Fin 5) (h : Handler) (cost : Nat) : State := s.at_ b h cost (h.pc + 1)

/-- A request as it reaches its block: the next ID, the edge of its issue, its application PP, and the 32 bytes
of its parameter block with byte `k` holding `v` (R214, R215). -/
def Req.issued (r : Req) (s : State) (blk : List Byte) (k v : Nat) : Prop :=
  r.id = s.prog.nextReq ∧ r.edge = s.last.edge ∧ r.blk.length = 32 ∧
    (k < 32 → byteAt r.blk k = BitVec.ofNat 8 v) ∧ ∀ i, i < 32 → i ≠ k → byteAt r.blk i = byteAt blk i

/-- A bench as another state has it, but for its queues, its log and what it counts. -/
def State.sameBench (s t : State) (b : Fin 5) : Prop :=
  (t.bench b).data = (s.bench b).data ∧ (t.bench b).wakes = (s.bench b).wakes ∧
    (t.bench b).handler = (s.bench b).handler ∧ (t.bench b).mode = (s.bench b).mode ∧
    (t.bench b).ledgerBuf = (s.bench b).ledgerBuf

/-- What a command of the radio, the media or the clocks leaves alone whatever events it raises: the seal, the
store, the supplies, the waiting commands, and of the program plane the image, the ledger, the checkpoint and
every bench's data memory, wake slots, running handler, mode and buffered ledger writes. -/
def State.keeps (s t : State) : Prop :=
  t.theSeal = s.theSeal ∧ t.store = s.store ∧ t.supply = s.supply ∧ t.pending = s.pending ∧
    t.prog.image = s.prog.image ∧ t.prog.ledger = s.prog.ledger ∧ t.prog.ckpt = s.prog.ckpt ∧
    ∀ b : Fin 5, s.sameBench t b

/-- The bench of an Alnomal instruction other than RADIO, which gives requests to the blocks. -/
def benchOf : Instr → Option (Fin 5)
  | .add b _ _ _ | .sub b _ _ _ | .adds b _ _ _ | .subs b _ _ _ | .addus b _ _ _ | .subus b _ _ _
  | .and b _ _ _ | .or b _ _ _ | .xor b _ _ _ | .shl b _ _ _ | .shr b _ _ _ | .sar b _ _ _ | .rol b _ _ _
  | .slt b _ _ _ | .sltu b _ _ _ | .seq b _ _ _ | .sne b _ _ _ | .min b _ _ _ | .max b _ _ _
  | .minu b _ _ _ | .maxu b _ _ _ | .clz b _ _ | .popc b _ _ | .mul b _ _ _ | .mulh b _ _ _
  | .mulhu b _ _ _ | .div b _ _ _ | .divu b _ _ _ | .rem b _ _ _ | .remu b _ _ _ | .addi b _ _ _
  | .addis b _ _ _ | .andi b _ _ _ | .ori b _ _ _ | .xori b _ _ _ | .shli b _ _ _ | .shri b _ _ _
  | .sari b _ _ _ | .slti b _ _ _ | .sltiu b _ _ _ | .lui b _ _ | .beq b _ _ _ | .bne b _ _ _
  | .blt b _ _ _ | .bge b _ _ _ | .bltu b _ _ _ | .bgeu b _ _ _ | .jmp b _ | .call b _ | .jr b _
  | .callr b _ | .ret b | .endHandler b | .nop b | .trap b _ | .srem b _ | .undefinedInstruction b
  | .ldw b _ _ _ | .ldh b _ _ _ | .ldhu b _ _ _ | .ldb b _ _ _ | .ldbu b _ _ _ | .stw b _ _ _
  | .sth b _ _ _ | .stb b _ _ _ | .llw b _ _ _ | .lsw b _ _ _ | .ldc b _ _ _ | .evb b _ _ _ | .evh b _ _ _
  | .evw b _ _ _ | .evf b _ _ | .evcpy b _ | .tpost b _ _ | .tcan b _ | .tcank b _ | .msend b _ _ _ _
  | .mpost b _ _ _ _ | .ring b _ | .wake b _ _ _ | .wcan b _ | .crcb b _ _ | .crcw b _ _ | .crcd b _ _ => some b
  | _ => none

/-- A run of the block is safe when no step of it faults or is refused: `n` steps from `s` all answer a next
state. -/
def State.runsSafely : Nat → State → Prop
  | 0, _ => True
  | n + 1, s => match step s with
    | .next t => t.runsSafely n
    | _ => False

end Sys2Proof.Machine
end

