-- ==== Sys2Proof/Certificates/Slice0/Obligations.lean ====
section
/-! DEFINITION. The statements for the provers: what the commands of every family do, what a step is, and what
every step keeps. -/

open Sys2Proof Sys2Proof.Machine

/-! ### Alnomal: registers, arithmetic, control (chapter 5) -/

/-- w0 reads 0 and a write of it is discarded; a write of any other register sets that register alone (Table
5-1). -/
def Obligations.RegisterZeroReadsZero : Prop :=
  ∀ (h : Handler) (r q : Fin 16) (v : Word),
    h.get 0 = 0 ∧ h.put 0 v = h ∧ (r ≠ 0 → (h.put r v).get r = v) ∧ (q ≠ r → (h.put r v).get q = h.get q)

/-- The arithmetic, logic and comparison instructions of Table 5-5 and the multiplications of Table 5-6 write
their result to rd, cost their steps, go on with the next word and change nothing else. -/
def Obligations.RegisterArithmeticCompletes : Prop :=
  ∀ (s : State) (b : Fin 5) (h : Handler) (rd ra rb : Fin 16), s.running b h 2 →
    let x := h.get ra
    let y := h.get rb
    let n := y.toNat % 32
    let one : Word → Host.Outcome State Fault Refusal := fun v => .next (s.goesOn b (h.put rd v) 1)
    let two : Word → Host.Outcome State Fault Refusal := fun v => .next (s.goesOn b (h.put rd v) 2)
    exec (.add b rd ra rb) s = one (x + y) ∧ exec (.sub b rd ra rb) s = one (x - y) ∧
    exec (.and b rd ra rb) s = one (x &&& y) ∧ exec (.or b rd ra rb) s = one (x ||| y) ∧
    exec (.xor b rd ra rb) s = one (x ^^^ y) ∧ exec (.shl b rd ra rb) s = one (x <<< n) ∧
    exec (.shr b rd ra rb) s = one (x >>> n) ∧ exec (.sar b rd ra rb) s = one (x.sshiftRight n) ∧
    exec (.rol b rd ra rb) s = one (x <<< n ||| x >>> ((32 - n) % 32)) ∧
    exec (.slt b rd ra rb) s = one (if x.toInt < y.toInt then 1 else 0) ∧
    exec (.sltu b rd ra rb) s = one (if x.toNat < y.toNat then 1 else 0) ∧
    exec (.seq b rd ra rb) s = one (if x = y then 1 else 0) ∧
    exec (.sne b rd ra rb) s = one (if x = y then 0 else 1) ∧
    exec (.min b rd ra rb) s = one (if x.toInt ≤ y.toInt then x else y) ∧
    exec (.max b rd ra rb) s = one (if x.toInt < y.toInt then y else x) ∧
    exec (.minu b rd ra rb) s = one (if x.toNat ≤ y.toNat then x else y) ∧
    exec (.maxu b rd ra rb) s = one (if x.toNat < y.toNat then y else x) ∧
    exec (.mul b rd ra rb) s = two (x * y) ∧
    exec (.mulh b rd ra rb) s = two (((x.signExtend 64 * y.signExtend 64) >>> 32).setWidth 32) ∧
    exec (.mulhu b rd ra rb) s = two (((x.setWidth 64 * y.setWidth 64) >>> 32).setWidth 32)

/-- The saturating additions clamp the exact sum or difference to the range of their words (Table 5-5, R180).
CLZ counts the zero bits above the highest one bit, and POPC the one bits (Table 5-5). -/
def Obligations.SaturationAndBitCounts : Prop :=
  (∀ (s : State) (b : Fin 5) (h : Handler) (rd ra rb : Fin 16) (imm : BitVec 18), s.running b h 1 →
    let x := h.get ra
    let y := h.get rb
    let signed : Int → Word → Prop := fun e v => v.toInt = max (-2147483648) (Min.min 2147483647 e)
    let unsigned : Int → Word → Prop := fun e v => (v.toNat : Int) = max 0 (Min.min 4294967295 e)
    (∃ v, exec (.adds b rd ra rb) s = .next (s.goesOn b (h.put rd v) 1) ∧ signed (x.toInt + y.toInt) v) ∧
    (∃ v, exec (.subs b rd ra rb) s = .next (s.goesOn b (h.put rd v) 1) ∧ signed (x.toInt - y.toInt) v) ∧
    (∃ v, exec (.addis b rd ra imm) s = .next (s.goesOn b (h.put rd v) 1) ∧
      signed (x.toInt + imm.toInt) v) ∧
    (∃ v, exec (.addus b rd ra rb) s = .next (s.goesOn b (h.put rd v) 1) ∧
      unsigned (x.toNat + y.toNat) v) ∧
    (∃ v, exec (.subus b rd ra rb) s = .next (s.goesOn b (h.put rd v) 1) ∧
      unsigned ((x.toNat : Int) - y.toNat) v)) ∧
  (∀ (s : State) (b : Fin 5) (h : Handler) (rd ra : Fin 16), s.running b h 1 →
    let x := h.get ra
    (∃ v, exec (.clz b rd ra) s = .next (s.goesOn b (h.put rd v) 1) ∧ v.toNat ≤ 32 ∧
      x.toNat < 2 ^ (32 - v.toNat) ∧ (v.toNat < 32 → 2 ^ (31 - v.toNat) ≤ x.toNat)) ∧
    (∃ v, exec (.popc b rd ra) s = .next (s.goesOn b (h.put rd v) 1) ∧
      v.toNat = ((List.finRange 32).filter fun i => x.getLsb i).length))

/-- Division truncates toward zero, never faults, and on a divisor of 0 gives all ones and the dividend as
remainder (R181); the remainder is the dividend less the quotient times the divisor. -/
def Obligations.DivisionNeverFaults : Prop :=
  ∀ (s : State) (b : Fin 5) (h : Handler) (rd ra rb : Fin 16), s.running b h 34 →
    let x := h.get ra
    let y := h.get rb
    let q : Word := if y = 0 then 0xFFFFFFFF else x.sdiv y
    let u : Word := if y = 0 then 0xFFFFFFFF else x / y
    exec (.div b rd ra rb) s = .next (s.goesOn b (h.put rd q) 34) ∧
    exec (.divu b rd ra rb) s = .next (s.goesOn b (h.put rd u) 34) ∧
    exec (.rem b rd ra rb) s = .next (s.goesOn b (h.put rd (if y = 0 then x else x - q * y)) 34) ∧
    exec (.remu b rd ra rb) s = .next (s.goesOn b (h.put rd (if y = 0 then x else x - u * y)) 34)

/-- The immediate instructions of Table 5-7, ADDIS saturating among them, and SREM, which writes the steps
remaining after it (R188). -/
def Obligations.ImmediateArithmeticCompletes : Prop :=
  ∀ (s : State) (b : Fin 5) (h : Handler) (rd ra : Fin 16) (imm : BitVec 18) (sh : BitVec 5)
      (up : BitVec 16), s.running b h 1 →
    let x := h.get ra
    let n := sh.toNat
    let sx : Word := imm.signExtend 32
    let zx : Word := imm.setWidth 32
    let one : Word → Host.Outcome State Fault Refusal := fun v => .next (s.goesOn b (h.put rd v) 1)
    exec (.addi b rd ra imm) s = one (x + sx) ∧
    exec (.addis b rd ra imm) s =
      one (BitVec.ofInt 32 (max (-2147483648) (Min.min 2147483647 (x.toInt + sx.toInt)))) ∧
    exec (.andi b rd ra imm) s = one (x &&& zx) ∧
    exec (.ori b rd ra imm) s = one (x ||| zx) ∧ exec (.xori b rd ra imm) s = one (x ^^^ zx) ∧
    exec (.shli b rd ra sh) s = one (x <<< n) ∧ exec (.shri b rd ra sh) s = one (x >>> n) ∧
    exec (.sari b rd ra sh) s = one (x.sshiftRight n) ∧
    exec (.slti b rd ra imm) s = one (if x.toInt < sx.toInt then 1 else 0) ∧
    exec (.sltiu b rd ra imm) s = one (if x.toNat < zx.toNat then 1 else 0) ∧
    exec (.lui b rd up) s = one (up.setWidth 32 <<< 16) ∧
    exec (.srem b rd) s = one (BitVec.ofNat 32 (h.budget - (h.used + 1)))

/-- A branch whose condition holds goes to PC + off18, taken as a number of 32 bits, when that lies in the
code section; one whose condition fails goes on; jumps go to their target (R182). CALL and CALLR push w15
[15:0] and link, RET goes to w15 and takes back the pushed entry (R184, R185). -/
def Obligations.TransfersOfControlComplete : Prop :=
  (∀ (s : State) (b : Fin 5) (h : Handler) (ra rb : Fin 16) (off : BitVec 18) (target : BitVec 16),
    s.running b h 2 →
    let x := h.get ra
    let y := h.get rb
    let a := (BitVec.ofNat 32 h.pc + off.signExtend 32).toNat
    let on : Host.Outcome State Fault Refusal := .next (s.goesOn b h 2)
    let go : Nat → Host.Outcome State Fault Refusal := fun a => .next (s.at_ b h 2 a)
    (a < s.codeWords →
      exec (.beq b ra rb off) s = (if x = y then go a else on) ∧
      exec (.bne b ra rb off) s = (if x = y then on else go a) ∧
      exec (.blt b ra rb off) s = (if x.toInt < y.toInt then go a else on) ∧
      exec (.bge b ra rb off) s = (if x.toInt < y.toInt then on else go a) ∧
      exec (.bltu b ra rb off) s = (if x.toNat < y.toNat then go a else on) ∧
      exec (.bgeu b ra rb off) s = (if x.toNat < y.toNat then on else go a)) ∧
    (target.toNat < s.codeWords → exec (.jmp b target) s = go target.toNat) ∧
    (x.toNat < s.codeWords → exec (.jr b ra) s = go x.toNat) ∧
    exec (.nop b) s = .next (s.goesOn b h 1)) ∧
  (∀ (s : State) (b : Fin 5) (h : Handler) (ra : Fin 16) (target : BitVec 16), s.paying b h 3 →
    let link : Handler :=
      ({ h with stack := (h.get 15).setWidth 16 :: h.stack }).put 15 (BitVec.ofNat 32 (h.pc + 1))
    (h.stack.length < 16 → target.toNat < s.codeWords →
      exec (.call b target) s = .next (s.at_ b link 3 target.toNat)) ∧
    (h.stack.length < 16 → (h.get ra).toNat < s.codeWords →
      exec (.callr b ra) s = .next (s.at_ b link 3 (h.get ra).toNat)) ∧
    (∀ e rest, h.stack = e :: rest → (h.get 15).toNat < s.codeWords →
      exec (.ret b) s =
        .next (s.at_ b (({ h with stack := rest }).put 15 (e.setWidth 32)) 3 (h.get 15).toNat)) ∧
    (16 ≤ h.stack.length →
      exec (.call b target) s = .next (s.benchFault b { h with used := h.used + 3 } 0x8104 0)) ∧
    (16 ≤ h.stack.length →
      exec (.callr b ra) s = .next (s.benchFault b { h with used := h.used + 3 } 0x8104 0)) ∧
    (h.stack = [] → exec (.ret b) s = .next (s.benchFault b { h with used := h.used + 3 } 0x8104 0)))

/-- END ends the handler with an empty call stack: the bench has no handler, its ledger writes join the bench's
buffer, and the handler enters the replay log (R135, R145, R186); with entries on the stack it faults. Where
that ends the position, what R146 and R663 name happens then (State.settle, log entry 8). -/
def Obligations.EndFinishesTheHandler : Prop :=
  ∀ (s : State) (b : Fin 5) (h : Handler), s.paying b h 1 →
    (h.stack = [] → h.script = none →
      exec (.endHandler b) s = .next (State.settle (s.setBench b { s.bench b with
        handler := none
        ledgerBuf := h.ledger ++ (s.bench b).ledgerBuf
        lsws := (s.bench b).lsws + h.lsws
        log := (s.bench b).log ++ [⟨h.ev, h.items, true⟩]
        logBytes := (s.bench b).logBytes + h.logBytes
        stepsSf := Nat.max (s.bench b).stepsSf (h.used + 1) }))) ∧
    (h.stack = [] → h.script = some [] →
      exec (.endHandler b) s = .next (State.settle (s.setBench b { s.bench b with handler := none }))) ∧
    (h.stack ≠ [] →
      exec (.endHandler b) s = .next (s.benchFault b { h with used := h.used + 1 } 0x8104 0))

/-- TRAP completes by raising bench fault 0x811F with imm8 as its detail, and an undefined encoding completes at
the cost of 1 step by raising 0x8102, the bench that executes it going into replay by the restart of R138 or
HALTED (R175, R189). An instruction whose cost exceeds the steps left is not executed: the handler faults with
0x8101, its registers and the machine as they were before it (R136). An instruction whose next word lies past
the code section faults with 0x8103 once its effect on the registers stands, and a transfer to a target
outside the section is not taken and faults (R183, R187). The word of an instruction is read as that instruction
and no other word is, and a word that no table lists, 0x0000_0000 among them, is the undefined one (R173–R175). -/
def Obligations.InstructionsFaultAsTheSpecSays : Prop :=
  (∀ (s : State) (b : Fin 5) (h : Handler) (code : BitVec 8), s.paying b h 1 →
    exec (.trap b code) s = .next (s.benchFault b { h with used := h.used + 1 } 0x811F code.toNat) ∧
    exec (.undefinedInstruction b) s = .next (s.benchFault b { h with used := h.used + 1 } 0x8102 0) ∧
    ((s.bench b).mode = .run →
      ((s.bench b).faultSfs.filter fun x => decide (s.prog.sfs < x + 16)).length < 3 →
      ∃ t u, exec (.trap b code) s = .next t ∧ exec (.undefinedInstruction b) s = .next u ∧
        (t.bench b).mode = .replay ∧ (u.bench b).mode = .replay ∧ (t.bench b).handler = none ∧
        (u.bench b).handler = none ∧ t.prog.lastFault = 0x811F ∧ u.prog.lastFault = 0x8102 ∧
        t.prog.lastFaultBench = b.val ∧ u.prog.lastFaultBench = b.val ∧ t.last = s.last ∧
        u.last = s.last)) ∧
  ((∀ (s : State) (b : Fin 5) (h : Handler) (rd ra rb : Fin 16) (imm : BitVec 18),
    s.inHandler b h →
    (h.budget < h.used + 1 → exec (.add b rd ra rb) s = .next (s.benchFault b h 0x8101 0) ∧
      exec (.undefinedInstruction b) s = .next (s.benchFault b h 0x8101 0)) ∧
    (h.budget < h.used + 2 → exec (.stw b rd ra imm) s = .next (s.benchFault b h 0x8101 0)) ∧
    (h.budget < h.used + 12 → exec (.tpost b rd ra) s = .next (s.benchFault b h 0x8101 0)) ∧
    (h.budget < h.used + 34 → exec (.div b rd ra rb) s = .next (s.benchFault b h 0x8101 0))) ∧
  (∀ (s : State) (b : Fin 5) (h : Handler) (rd ra rb : Fin 16) (target : BitVec 16), s.paying b h 2 →
    (s.codeWords ≤ h.pc + 1 → ∃ t, exec (.add b rd ra rb) s = .next t ∧
      t = (s.at_ b (h.put rd (h.get ra + h.get rb)) 1 h.pc).benchFault b
        ({ h.put rd (h.get ra + h.get rb) with used := h.used + 1 }) 0x8103 s.codeWords) ∧
    (s.codeWords ≤ target.toNat → exec (.jmp b target) s =
      .next (s.benchFault b { h with used := h.used + 2 } 0x8103 target.toNat)))) ∧
  (∀ (i : Instr) (b : Fin 5) (w : Word),
    (encodeWord i = some (b, w) → decodeWord b w = i) ∧
    (decodeWord b w = i → i ≠ .undefinedInstruction b → encodeWord i = some (b, w)) ∧
    decodeWord b 0 = .undefinedInstruction b)

/-! ### Alnomal: memory, the event, and outputs -/

/-- The loads of Table 5-10 from data memory, most significant byte first: an aligned access inside the 32 KiB
writes rd and changes nothing else (R191); a byte load needs no alignment. -/
def Obligations.LoadsReadDataMemory : Prop :=
  ∀ (s : State) (b : Fin 5) (h : Handler) (rd ra : Fin 16) (imm : BitVec 18), s.running b h 2 →
    let a := (h.get ra + imm.signExtend 32).toNat
    let m : Nat → Byte := fun k => sget 0 (s.bench b).data k
    let half : BitVec 16 := m a ++ m (a + 1)
    let word : BitVec 32 := (m a ++ m (a + 1)) ++ (m (a + 2) ++ m (a + 3))
    let got : Word → Host.Outcome State Fault Refusal := fun v => .next (s.goesOn b (h.put rd v) 2)
    (a % 4 = 0 → a + 4 ≤ 0x8000 → exec (.ldw b rd ra imm) s = got word) ∧
    (a % 2 = 0 → a + 2 ≤ 0x8000 → exec (.ldh b rd ra imm) s = got (half.signExtend 32) ∧
      exec (.ldhu b rd ra imm) s = got (half.setWidth 32)) ∧
    (a + 1 ≤ 0x8000 → exec (.ldb b rd ra imm) s = got ((m a).signExtend 32) ∧
      exec (.ldbu b rd ra imm) s = got ((m a).setWidth 32))

/-- The stores of Table 5-10 and EVCPY: the bytes of rd, or the 64 bytes of the event window, stand at the
address in data memory, every other byte reads as before, and the bench goes on with its registers as they
were (R191, R197). Data memory is taken in canonical form, which every step keeps. -/
def Obligations.StoresChangeTheirBytesOnly : Prop :=
  ∀ (s : State) (b : Fin 5) (h : Handler) (rd ra : Fin 16) (imm : BitVec 18),
    swf 0 (s.bench b).data = true → s.running b h 16 →
    let a := (h.get ra + imm.signExtend 32).toNat
    let e := (h.get ra).toNat
    let v := h.get rd
    let m : Nat → Byte := fun k => sget 0 (s.bench b).data k
    let stored : Instr → Nat → Nat → Nat → (Nat → Byte) → Prop := fun i a n c f =>
      ∃ d : List Host.Cell,
        exec i s = .next (s.setBench b { s.bench b with
          data := d, handler := some { h with used := h.used + c, pc := h.pc + 1 } }) ∧
        (∀ k, k < n → sget 0 d (a + k) = f k) ∧ (∀ k, k < a ∨ a + n ≤ k → sget 0 d k = m k)
    (a % 4 = 0 → a + 4 ≤ 0x8000 →
      stored (.stw b rd ra imm) a 4 2 fun k => (v >>> (8 * (3 - k))).setWidth 8) ∧
    (a % 2 = 0 → a + 2 ≤ 0x8000 →
      stored (.sth b rd ra imm) a 2 2 fun k => (v >>> (8 * (1 - k))).setWidth 8) ∧
    (a + 1 ≤ 0x8000 → stored (.stb b rd ra imm) a 1 2 fun _ => v.setWidth 8) ∧
    (e % 4 = 0 → e + 64 ≤ 0x8000 →
      stored (.evcpy b ra) e 64 16 fun k => if k < h.ev.win.length then h.ev.win.getD k 0 else 0)

/-- A misaligned access of data memory or of the ledger faults with 0x8110, judged first, and one outside its
space with 0x8103; nothing is loaded or stored (R192). -/
def Obligations.BadAddressesFault : Prop :=
  ∀ (s : State) (b : Fin 5) (h : Handler) (rd ra : Fin 16) (imm : BitVec 18), s.paying b h 3 →
    let a := (h.get ra + imm.signExtend 32).toNat
    let bad : Nat → Nat → Host.Outcome State Fault Refusal := fun c code =>
      .next (s.benchFault b { h with used := h.used + c } code a)
    (a % 4 ≠ 0 → exec (.ldw b rd ra imm) s = bad 2 0x8110 ∧ exec (.stw b rd ra imm) s = bad 2 0x8110 ∧
      exec (.llw b rd ra imm) s = bad 3 0x8110 ∧ exec (.lsw b rd ra imm) s = bad 3 0x8110) ∧
    (a % 2 ≠ 0 → exec (.ldh b rd ra imm) s = bad 2 0x8110 ∧ exec (.ldhu b rd ra imm) s = bad 2 0x8110 ∧
      exec (.sth b rd ra imm) s = bad 2 0x8110) ∧
    (a % 4 = 0 → 0x8000 < a + 4 → exec (.ldw b rd ra imm) s = bad 2 0x8103 ∧
      exec (.stw b rd ra imm) s = bad 2 0x8103) ∧
    (a % 4 = 0 → 0x10000 < a + 4 → exec (.llw b rd ra imm) s = bad 3 0x8103 ∧
      exec (.lsw b rd ra imm) s = bad 3 0x8103) ∧
    (0x8000 < a + 1 → exec (.ldb b rd ra imm) s = bad 2 0x8103 ∧
      exec (.ldbu b rd ra imm) s = bad 2 0x8103 ∧ exec (.stb b rd ra imm) s = bad 2 0x8103)

/-- LLW reads a ledger word as its bench sees it: its own latest buffered write of the position, else the
ledger as it stood at the position's start; the word is logged (R139, R194). LSW buffers a write to a page the
bench may write, with fewer than 512 counted in the position, and changes no ledger word (R145, R193). -/
def Obligations.LedgerAccessesComplete : Prop :=
  ∀ (s : State) (b : Fin 5) (h : Handler) (i : Image) (rd ra : Fin 16) (imm : BitVec 18), s.running b h 3 →
    h.script = none → s.prog.image = some i → (s.bench b).logBytes + h.logBytes + 8 ≤ 65536 →
    let a := (h.get ra + imm.signExtend 32).toNat
    let seen : Word := match (h.ledger ++ (s.bench b).ledgerBuf).lookup a with
      | some v => v
      | none => sget 0 s.prog.ledger a
    a % 4 = 0 → a + 4 ≤ 0x10000 →
      exec (.llw b rd ra imm) s = .next (s.goesOn b
        (({ h with items := h.items ++ [LogItem.llw seen], logBytes := h.logBytes + 4 }).put rd seen) 3) ∧
      (i.pageMap.getLsbD (2 * (a / 0x1000) + if b.val < 4 then 0 else 1) = true →
        (s.bench b).lsws + h.lsws < 512 →
        exec (.lsw b rd ra imm) s = .next (s.goesOn b { h with
          items := h.items ++ [LogItem.lsw a (h.get rd)], logBytes := h.logBytes + 8
          ledger := (a, h.get rd) :: h.ledger, lsws := h.lsws + 1 } 3)) ∧
      (i.pageMap.getLsbD (2 * (a / 0x1000) + if b.val < 4 then 0 else 1) = false →
        exec (.lsw b rd ra imm) s =
          .next (s.benchFault b { h with used := h.used + 3 } 0x8106 (a / 0x1000))) ∧
      (i.pageMap.getLsbD (2 * (a / 0x1000) + if b.val < 4 then 0 else 1) = true →
        512 ≤ (s.bench b).lsws + h.lsws →
        exec (.lsw b rd ra imm) s = .next (s.benchFault b { h with used := h.used + 3 } 0x8107 0))

/-- The event instructions read the window, whose bytes from LEN on read 0 and which ends at byte 63, and the
fields of Table 5-12; LDC reads a word of the code section (R191, R195, R197, R198). The digest instructions
carry rd over one byte, one word or 32 bytes of data memory by CRC-32C with the reflected polynomial, the
first byte of a word its most significant (R222–R224). -/
def Obligations.EventAndDigestInstructionsComplete : Prop :=
  (∀ (s : State) (b : Fin 5) (h : Handler) (i : Image) (rd ra : Fin 16) (off field : BitVec 8)
      (imm : BitVec 18), s.running b h 3 → s.prog.image = some i →
    let o := (h.get ra + off.setWidth 32).toNat
    let a := (h.get ra + imm.signExtend 32).toNat
    let w : Nat → Byte := fun k => if k < h.ev.win.length then h.ev.win.getD k 0 else 0
    let c : Nat → Byte := fun k => sget 0 i.code k
    let got : Word → Host.Outcome State Fault Refusal := fun v => .next (s.goesOn b (h.put rd v) 2)
    (o + 1 ≤ 64 → exec (.evb b rd ra off) s = got ((w o).setWidth 32)) ∧
    (o + 2 ≤ 64 → exec (.evh b rd ra off) s = got ((w o ++ w (o + 1)).setWidth 32)) ∧
    (o + 4 ≤ 64 → exec (.evw b rd ra off) s =
      got ((w o ++ w (o + 1)) ++ (w (o + 2) ++ w (o + 3)))) ∧
    (64 < o + 4 → exec (.evw b rd ra off) s =
      .next (s.benchFault b { h with used := h.used + 2 } 0x8111 o)) ∧
    (field.toNat ≤ 19 → exec (.evf b rd field) s = got (h.ev.field field.toNat)) ∧
    (19 < field.toNat → exec (.evf b rd field) s =
      .next (s.benchFault b { h with used := h.used + 2 } 0x8111 field.toNat)) ∧
    (a % 4 = 0 → a + 4 ≤ i.codeLen → exec (.ldc b rd ra imm) s =
      .next (s.goesOn b (h.put rd ((c a ++ c (a + 1)) ++ (c (a + 2) ++ c (a + 3)))) 3))) ∧
  (∀ (s : State) (b : Fin 5) (h : Handler) (rd ra : Fin 16), s.running b h 8 →
    let x := h.get ra
    let a := x.toNat
    let bit : Word → Word := fun c => if c.getLsbD 0 then (c >>> 1) ^^^ 0x82F63B78 else c >>> 1
    let one : Word → Byte → Word := fun c y =>
      bit (bit (bit (bit (bit (bit (bit (bit (c ^^^ y.setWidth 32))))))))
    exec (.crcb b rd ra) s = .next (s.goesOn b (h.put rd (one (h.get rd) (x.setWidth 8))) 1) ∧
    exec (.crcw b rd ra) s = .next (s.goesOn b (h.put rd
      (one (one (one (one (h.get rd) ((x >>> 24).setWidth 8)) ((x >>> 16).setWidth 8))
        ((x >>> 8).setWidth 8)) (x.setWidth 8))) 2) ∧
    (a % 4 = 0 → a + 32 ≤ 0x8000 → exec (.crcd b rd ra) s = .next (s.goesOn b (h.put rd
      ((List.range 32).foldl (fun c k => one c (sget 0 (s.bench b).data (a + k))) (h.get rd))) 8)))

/-- TPOST hands the tack its descriptor describes to the store at entry position (e, p + 2), with handle 01,
bench, and the bench's sequence number, and writes the handle to rd; TCAN and TCANK hand over their cancels
(R156, R199, R203, R205, R206). Bench 4 may post and cancel nothing. -/
def Obligations.TackInstructionsComplete : Prop :=
  ∀ (s : State) (b : Fin 5) (h : Handler) (rd ra : Fin 16), s.running b h 12 → h.script = none →
    (s.bench b).logBytes + h.logBytes + 68 ≤ 65536 →
    let x := h.get ra
    let a := x.toNat
    let n := s.bench b
    let d := readBytes n.data a 64
    let p : Pos := ⟨h.ev.pos.epoch, h.ev.pos.pp + 2⟩
    let hd : Word := BitVec.ofNat 32 (2 ^ 30 + b.val * 2 ^ 28 + n.seq % 2 ^ 28)
    let tk : Tack := {
      handle := hd, bench := b.val, seq := n.seq, due := fieldBE d 2 6, target := fieldBE d 8 1
      flags := fieldBE d 9 1, order := fieldBE d 10 2, plen := fieldBE d 12 1, tparam := fieldBE d 13 1
      payload := (d.drop 16).take (fieldBE d 12 1), entry := p, late := false }
    let hands : TackOp → State := fun op =>
      { s with tack.entries := s.tack.entries ++ [⟨p, b.val, op, false⟩] }
    let cancels : Handler := { h with items := h.items ++ [LogItem.tcan x], logBytes := h.logBytes + 4 }
    (b.val < 4 → a % 4 = 0 → a + 64 ≤ 0x8000 → descFault d = none →
      exec (.tpost b rd ra) s = .next (((hands (.post tk)).setBench b { n with seq := n.seq + 1 }).goesOn b
        (({ h with items := h.items ++ [LogItem.tpost d hd], logBytes := h.logBytes + 68 }).put rd hd) 12)) ∧
    (b.val < 4 → x.bits 29 28 = b.val →
      exec (.tcan b ra) s = .next ((hands (.cancel b.val x)).goesOn b cancels 4)) ∧
    (b.val < 4 → exec (.tcank b ra) s = .next ((hands (.cancelKey b.val (a % 65536))).goesOn b cancels 6)) ∧
    (b.val = 4 → exec (.tpost b rd ra) s = .next (s.benchFault b { h with used := h.used + 12 } 0x8105 0) ∧
      exec (.tcan b ra) s = .next (s.benchFault b { h with used := h.used + 4 } 0x8105 0) ∧
      exec (.tcank b ra) s = .next (s.benchFault b { h with used := h.used + 6 } 0x8105 0)) ∧
    (b.val < 4 → x.bits 29 28 ≠ b.val → exec (.tcan b ra) s =
      .next (s.benchFault b { h with used := h.used + 4 } 0x8113 (a / 65536)))

/-- Message instructions on data that lies in memory: MSEND within the limit of 16 posts to another running
bench for position (e, p + 1) and writes OK, and past it FULL with no message (R147, R148, R208); a cue
bench's MPOST waits for the end of its position (R663); RING sets the host eyelet's bit (R213). WAKE arms a
slot for the position of rb [15:0] : ra, marked when that PP is not later than the handler's own, and WCAN
disarms it; no other slot changes (R219, R220). -/
def Obligations.MessageAndWakeInstructionsComplete : Prop :=
  (∀ (s : State) (b : Fin 5) (h : Handler) (rd ra rb : Fin 16) (dest mb eyelet : BitVec 8),
    s.running b h 20 → h.script = none → (s.bench b).logBytes + h.logBytes + 68 ≤ 65536 →
    let a := (h.get ra).toNat
    let len := (h.get rb).toNat
    let n := s.bench b
    let msg := readBytes n.data a len
    let p := h.ev.pos
    let logs : LogItem → Nat → Handler := fun i k =>
      { h with items := h.items ++ [i], logBytes := h.logBytes + k }
    let mail : Event := ⟨.mail, ⟨p.epoch, p.pp + 1⟩, b.val, b.val, BitVec.ofNat 32 b.val, msg,
      [(12, BitVec.ofNat 32 b.val)]⟩
    let post : Mail := { s.mail with heldPosts := s.mail.heldPosts ++ [⟨b.val, mb.toNat, msg, p⟩] }
    1 ≤ len → a + len ≤ 0x8000 →
    (b.val < 4 → dest.toNat < 4 → dest.toNat ≠ b.val → len ≤ 32 →
      vget 0 n.sent dest.toNat < 16 → (s.bench dest.toNat).takes = true →
      ∃ t, exec (.msend b rd ra rb dest) s = .next t ∧
        (t.bench dest.toNat).inbox = (s.bench dest.toNat).inbox ++ [mail] ∧
        (t.bench b).sent = vset n.sent dest.toNat (vget 0 n.sent dest.toNat + 1) ∧
        ∃ k, (t.bench b).handler = some k ∧ k.regs = (h.put rd 0).regs ∧ k.pc = h.pc + 1) ∧
    (dest.toNat < 5 → len ≤ 32 → 16 ≤ vget 0 n.sent dest.toNat →
      exec (.msend b rd ra rb dest) s = .next (s.goesOn b
        ((logs (.msend dest.toNat len stFull msg) (4 + (len + 3) / 4 * 4)).put rd
          (BitVec.ofNat 32 stFull)) 10)) ∧
    (b.val < 4 → mb.toNat < 8 → len ≤ 64 → s.silent = false →
      exec (.mpost b 0 ra rb mb) s = .next (({ s with mail := post }).goesOn b
          (logs (.mpost mb.toNat len stOk msg) (4 + (len + 3) / 4 * 4)) 20)) ∧
    (eyelet.toNat < 32 → s.silent = false →
      exec (.ring b eyelet) s = .next ((s.ringHost eyelet.toNat).goesOn b (logs (.ring eyelet.toNat) 4) 2) ∧
      vget 0 (s.ringHost eyelet.toNat).mail.rung 0 =
        vget 0 s.mail.rung 0 ||| BitVec.ofNat 32 (2 ^ eyelet.toNat))) ∧
  (∀ (s : State) (b : Fin 5) (h : Handler) (ra rb : Fin 16) (slot : BitVec 8), s.running b h 3 →
    let i := slot.toNat
    let n := s.bench b
    let pp := (h.get rb).toNat % 65536 * 2 ^ 32 + (h.get ra).toNat
    let w : Wake := ⟨pp, h.ev.pos, decide (pp ≤ h.ev.pos.pp)⟩
    (i < 16 → exec (.wake b ra rb slot) s =
      .next ((s.setBench b { n with wakes := vset n.wakes i (some w) }).goesOn b h 3)) ∧
    (i < 16 → exec (.wcan b slot) s =
      .next ((s.setBench b { n with wakes := vset n.wakes i none }).goesOn b h 2)) ∧
    (16 ≤ i → exec (.wake b ra rb slot) s =
      .next (s.benchFault b { h with used := h.used + 3 } 0x8117 i) ∧
      exec (.wcan b slot) s = .next (s.benchFault b { h with used := h.used + 2 } 0x8117 i)))

/-! ### Benches (chapter 4) -/

/-- A bench fault of a handler that is not a replay, short of the fourth within 16 superframes, begins a
restart: the bench takes back the data memory and wakes of its last checkpoint and replays its log, the
faulted handler last and to be skipped (R138, R139). The fourth bench fault within 16 superframes halts the
bench: it holds no event and runs no handler (R141). Where the spec leaves a point open it states the choice
of the model: log entry 2. -/
def Obligations.BenchFaultsRestartThenHalt : Prop :=
  (∀ (s : State) (b : Fin 5) (h : Handler) (code arg : Nat) (c : Ckpt) (k : BenchCkpt),
    (s.bench b).mode = .run → s.prog.ckpt = some c → c.benches[b.val]? = some k →
    ((s.bench b).faultSfs.filter fun x => decide (s.prog.sfs < x + 16)).length < 3 →
    let t := s.benchFault b h code arg
    (t.bench b).mode = .replay ∧ (t.bench b).handler = none ∧ (t.bench b).data = k.data ∧
    (t.bench b).wakes = k.wakes ∧ (t.bench b).replay = (s.bench b).log ++ [⟨h.ev, [], false⟩] ∧
    (t.bench b).ledgerBuf = (s.bench b).ledgerBuf ∧ t.prog.ledger = s.prog.ledger ∧
    t.prog.lastFault = code ∧ t.prog.lastFaultBench = b.val ∧
    t.prog.restarts = Nat.min 65535 (s.prog.restarts + 1) ∧
    (∀ d : Fin 5, d ≠ b → (t.bench d).data = (s.bench d).data ∧ (t.bench d).mode = (s.bench d).mode)) ∧
  (∀ (s : State) (b : Fin 5) (h : Handler) (code arg : Nat), (s.bench b).mode = .run →
    3 ≤ ((s.bench b).faultSfs.filter fun x => decide (s.prog.sfs < x + 16)).length →
    let t := s.benchFault b h code arg
    (t.bench b).mode = .halted ∧ (t.bench b).handler = none ∧ (t.bench b).queue = [] ∧
    (t.bench b).held = [] ∧ (t.bench b).inbox = [] ∧ (t.bench b).data = (s.bench b).data)

/-- A bench that runs and holds no handler takes its next event of the barrier position: its handler starts at
the address and with the budget of the image's table, 0 acting as 4096, and with the registers of Table 4-3
(R131, R134, R168). A bench in replay that has run out of handlers runs again (R138). -/
def Obligations.HandlersStartAsTheTableSays : Prop :=
  ∀ (s : State) (b : Fin 5) (p : Pos) (e : Event) (i : Image) (a : HEntry),
    (s.supply.power = .run → s.last.mode ≠ .stopped → (s.bench b).mode = .run →
      (s.bench b).handler = none → s.prog.barrier = some p → (s.bench b).nextEvent p = some e →
      s.prog.image = some i → i.handler b e = some a → (s.bench b).logBytes + entrySize e ≤ 65536 →
      ∃ t h, exec (.handlerEntry b) s = .next t ∧ (t.bench b).handler = some h ∧
        h.pc = a.addr ∧ h.used = 0 ∧ h.stack = [] ∧ h.script = none ∧
        h.budget = (if a.budget = 0 then 4096 else a.budget) ∧
        h.get 1 = BitVec.ofNat 32 (e.cls.code + e.sub % 256 * 16 + e.pos.epoch % 65536 * 65536) ∧
        h.get 2 = BitVec.ofNat 32 e.pos.pp ∧ h.get 3 = BitVec.ofNat 32 (e.pos.pp / 2 ^ 32 % 65536) ∧
        h.get 4 = e.w4 ∧ (∀ r : Fin 16, 5 ≤ r.val → h.get r = 0) ∧
        (t.bench b).data = (s.bench b).data ∧
        (t.bench b).events = Nat.min 0xFFFFFFFF ((s.bench b).events + 1)) ∧
    ((s.bench b).mode = .replay → (s.bench b).replay = [] → (s.bench b).handler = none →
      exec (.replayDone b) s =
        .next (State.settle (s.setBench b { s.bench b with mode := .run, fresh := true })))

/-- The benches begin the next position once they have finished the present one, a later position has been
published and the tack store has dispatched it (R126, R241); the position becomes the barrier position. Events
held back for a full queue enter it while it has room, and an armed wake fires at the first position at or
past its PP, disarming its slot (R129, R132). Where the spec leaves a point open it states the choice of the
model: log entry 8. -/
def Obligations.PositionsAndEventsAreBegunInOrder : Prop :=
  (∀ (s : State) (p q : Pos) (rest : List Pos), s.prog.opened = p :: q :: rest → s.supply.power = .run →
    s.last.mode ≠ .stopped → s.barrierDone = true → (∀ d ∈ s.tack.due, d.pos ≠ p) →
    ∃ t, exec .positionClose s = .next t ∧ t.prog.barrier = some p ∧ t.prog.opened = q :: rest ∧
      t.last = s.last ∧ t.theSeal = s.theSeal ∧ t.store = s.store) ∧
  (∀ (s : State) (b : Fin 5) (slot : Fin 16) (p : Pos) (w : Wake),
    ((s.bench b).queue.length ≤ 1024 →
      ∃ t, exec (.eventHoldRelease b) s = .next t ∧
        (t.bench b).queue.length =
          (s.bench b).queue.length + Nat.min (1024 - (s.bench b).queue.length) (s.bench b).held.length ∧
        (t.bench b).held = (s.bench b).held.drop (1024 - (s.bench b).queue.length) ∧
        (t.bench b).data = (s.bench b).data) ∧
    (s.supply.dom[2] = .up → (s.bench b).mode = .run → s.last.mode ≠ .stopped →
      s.prog.barrier = some p → (s.bench b).wakes.get slot = some w → w.pos ≠ p → w.pp ≤ p.pp →
      (s.bench b).queue.length < 1024 → (s.bench b).held = [] →
      ∃ t e, exec (.wakeatFire b slot) s = .next t ∧ e.cls = .wakeat ∧ e.pos = p ∧ e.sub = slot.val ∧
        (t.bench b).queue = insertEvent e (s.bench b).queue ∧ (t.bench b).wakes.get slot = none ∧
        (∀ r : Fin 16, r ≠ slot → (t.bench b).wakes.get r = (s.bench b).wakes.get r)))

/-- BENCH_CTRL, written while the device answers, records its RUN and RESTART bits with the tick edge of the
write and changes nothing else. At a later edge a RUN bit set starts an OFF bench that the image holds, which
joins at the next position with its initial data; a RUN bit cleared lets a running bench finish its position
and leave; and a RESTART bit gives a HALTED bench back with the data memory of its last checkpoint, to rejoin
the barrier (R141, R888). -/
def Obligations.BenchControlStartsAndRestarts : Prop :=
  ∀ (s : State) (b : Fin 5) (i : Image) (v : Word),
    (s.answers = true → s.up .bench = true →
      let sets : State := { s with prog := { s.prog with
        runWant := v.toNat % 32, runEdge := s.last.edge
        restartWant := s.prog.restartWant ||| (v.toNat / 256 % 32)
        restartEdge := if v.toNat / 256 % 32 = 0 then s.prog.restartEdge else s.last.edge } }
      exec (.benchCtrlRun v .good) s = .next sets ∧ exec (.benchCtrlRestart v .good) s = .next sets) ∧
    (s.supply.power = .run → s.prog.runEdge < s.last.edge →
      let flips : State := { s with prog := { s.prog with runBits := s.prog.runBits ^^^ 2 ^ b.val } }
      (s.prog.runBits.testBit b = false → s.prog.runWant.testBit b = true → (s.bench b).mode = .off →
        s.prog.image = some i → i.present.contains b.val = true →
        exec (.benchRunEffect b) s =
          .next (flips.setBench b { s.bench b with joining := true, starting := true })) ∧
      (s.prog.runBits.testBit b = true → s.prog.runWant.testBit b = false → (s.bench b).mode = .run →
        exec (.benchRunEffect b) s =
          .next (flips.setBench b { s.bench b with leaving := true, joining := false, starting := false }))) ∧
    (s.prog.restartWant.testBit b = true → s.prog.restartEdge < s.last.edge → (s.bench b).mode = .halted →
      ∃ t, exec (.benchRestartEffect b) s = .next t ∧ t.prog.restartWant.testBit b = false ∧
        (t.bench b).joining = true ∧ (t.bench b).faultSfs = [] ∧ (t.bench b).logBytes = 0 ∧
        (t.bench b).data = ((s.benchCkpt b).map fun c => c.data).getD (s.initialData b) ∧
        t.last = s.last ∧ ∀ d : Fin 5, d ≠ b → t.bench d = s.bench d)

/-! ### The Last (chapter 2) -/

/-- A tick edge of a running Last counts, moves to the best source, publishes the PPs that the position reaches
as the mode says, each with the work of an edge, and leaves a source that this made unqualified; a STANDBY
member publishes nothing, and a stopped Last or a BENCH domain that is down has no edges (R39, R42, R44, R59,
R77, R889). The work of an edge is what waits for it, block by block, and then the host's writes (R823).
The PPs that a tick reaches: in TRACK one; in a HOLD with a whole tick left none, the hold losing
one tick; in a HOLD with less than a tick left the rest of that tick goes to the position and the hold ends;
in a slew the position gains one in SLEW, and a second PP comes where that makes a whole tick (R35, R57, R59,
Table 2-5). Where the spec leaves a point open it states the choice of the model: log entries 10, 77. -/
def Obligations.TickEdgesPublishAsTheModeSays : Prop :=
  (∀ (s : State),
    (s.supply.dom[2] = .up → s.last.mode ≠ .stopped →
      let u := s.countEdge.bestSource.countSource
      exec .tickEdge s = .next (if u.welt.role = .standby then u.edgeWork
        else (u.advance.2.publishEdges u.advance.1).pulseSync).watchSource) ∧
    (s.supply.dom[2] ≠ .up ∨ s.last.mode = .stopped → exec .tickEdge s = .next s)) ∧
  (∀ (s : State), s.edgeWork = (((((s.applyGovWrite.applyGains 0).applyGains 1).applyGains
    2).measureEdge.dabEdge 0).dabEdge 1).irEdge.hearthEdge.followEdge.routeEdge.edgeWrites.startBenches) ∧
  (∀ (s : State), s.publishEdges 0 = s.edgeWork ∧ s.publishEdges 1 = s.publishNext.edgeWork ∧
    s.publishEdges 2 = s.publishNext.edgeWork.countEdge.publishNext.edgeWork ∧
    s.publishNext.last.pp = s.last.pp + 1 ∧ s.publishNext.last.epoch = s.last.epoch) ∧
  (∀ (s : State), s.last.pp < 2 ^ 48 - 3 → s.last.frac < 65536 →
    (s.last.mode = .track → s.advance = (1, s)) ∧
    (s.last.mode = .hold → 65536 ≤ s.last.rem →
      s.advance = (0, { s with last := { s.last with rem := s.last.rem - 65536 } })) ∧
    (s.last.mode = .hold → s.last.rem < 65536 → 0 < s.last.rem →
      s.advance.1 = (s.last.frac + (65536 - s.last.rem)) / 65536 ∧
      s.advance.2.last.frac = (s.last.frac + (65536 - s.last.rem)) % 65536 ∧
      s.advance.2.last.pp = s.last.pp ∧ s.advance.2.last.mode = .track) ∧
    (s.last.mode = .slew → 64 ≤ s.last.rate → 65536 / s.last.rate ≤ s.last.rem → s.last.rem ≠ 0 →
      s.advance = ((s.last.frac + 65536 + 65536 / s.last.rate) / 65536, { s with last := { s.last with
        rem := s.last.rem - 65536 / s.last.rate
        frac := (s.last.frac + 65536 / s.last.rate) % 65536 } })))

/-- A stamp's error e decides (Table 2-4): the first applied stamp of all is a step whatever its error, and
none for e = 0 (R63), its position kept within 48 bits and not below 0; later, an error under 1/16 tick ends a
pending correction, one within TOL is held (e < 0) or slewed (e > 0) away, and one beyond TOL waits for CONFIRM
more that agree before it is a step into the next epoch (R56, R57, R59, R61, R67). Where the spec leaves a point
open it states the choice of the model: log entries 10, 77. -/
def Obligations.StampErrorsAreAnsweredByTable : Prop :=
  ∀ (s : State) (e : Int),
    (s.last.stamped = false → e = 0 → s.answer e = (0, { s with last := { s.last with stamped := true } })) ∧
    (s.last.stamped = false → e ≠ 0 → (s.answer e).1 = 4 ∧
      (s.answer e).2.last.epoch = nextEpoch s.last.epoch ∧ (s.answer e).2.last.stamped = true ∧
      ((s.answer e).2.last.pp : Int) =
        max 0 (Min.min (2 ^ 48 - 1) (((s.last.pp : Int) * 65536 + s.last.frac + e).fdiv 65536))) ∧
    (s.last.stamped = true → e.natAbs < 4096 → (s.answer e).1 = 0 ∧
      (s.answer e).2.last.mode = .track ∧ (s.answer e).2.last.pp = s.last.pp) ∧
    (s.last.stamped = true → 4096 ≤ e.natAbs → e.natAbs ≤ s.tol * 65536 → e < 0 →
      (s.answer e).1 = 1 ∧ (s.answer e).2.last.mode = .hold ∧ (s.answer e).2.last.rem = e.natAbs ∧
      (s.answer e).2.last.pp = s.last.pp) ∧
    (s.last.stamped = true → 4096 ≤ e.natAbs → e.natAbs ≤ s.tol * 65536 → 0 < e →
      (s.answer e).1 = 2 ∧ (s.answer e).2.last.mode = .slew ∧
      (s.answer e).2.last.rem = e.natAbs ∧ (s.answer e).2.last.rate = s.slewRate ∧
      (s.answer e).2.last.pp = s.last.pp) ∧
    (s.last.stamped = true → 4096 ≤ e.natAbs → s.tol * 65536 < e.natAbs → s.last.pendErrs = [] →
      1 ≤ s.fld 0x100 9 8 →
      s.answer e = (3, { s with last := { s.last with pendErrs := [e] } }))

/-- The rows of a correction's end, of the sources and of the trim: a hold or slew with nothing left ends in
TRACK at the same PP; the Last moves to its best source; a measured ratio replaces the trim once 7296
edges have been counted; and a free-run of FRLIMIT superframes is raised once (R42, R57, R59, R72, R75). Where
the spec leaves a point open it states the choice of the model: log entry 10. -/
def Obligations.LastRowsComplete : Prop :=
  ∀ (s : State) (trim : Int),
    (s.last.mode = .hold → s.last.rem = 0 → ∃ t, exec .holdEnd s = .next t ∧
      t = { s with last := t.last, follow := t.follow } ∧ t.last.mode = .track ∧ t.last.rem = 0 ∧
      t.last.pp = s.last.pp ∧ t.last.frac = s.last.frac ∧ t.last.corr = s.last.corr - s.last.total) ∧
    (s.last.mode = .slew → s.last.rem = 0 → ∃ t, exec .slewEnd s = .next t ∧
      t = { s with last := t.last, follow := t.follow } ∧ t.last.mode = .track ∧ t.last.rem = 0 ∧
      t.last.pp = s.last.pp ∧ t.last.frac = s.last.frac ∧ t.last.corr = s.last.corr + s.last.total) ∧
    (s.last.mode ≠ .stopped → s.supply.dom[2] = .up → ∃ t, exec .sourceQualify s = .next t ∧
      t.last.src = s.sources.headD .localRef ∧ t.last.pp = s.last.pp ∧ t.last.mode = s.last.mode) ∧
    (s.last.mode = .stopped → s.supply.dom[2] = .up → s.clk.refOk = true →
      ∃ t, exec .sourceQualify s = .next t ∧ t.last.mode = s.last.resume ∧ t.last.pp = s.last.pp ∧
        t.last.src = s.sources.headD .localRef) ∧
    (7296 ≤ s.last.trimEdges → exec (.trimMeasure trim) s = .next { s with last := { s.last with
      trim := trim, trimValid := true, trimEdges := s.last.trimEdges - 7296 } }) ∧
    (s.last.src = .localRef → s.last.frRaised = false →
      (Nat.max 1 ((s.reg 0x100).toNat / 65536)) * 456 ≤ s.last.frEdges →
      ∃ t, exec .frlimitReached s = .next t ∧ t.last.frRaised = true ∧ t.last.pp = s.last.pp ∧
        t.last.evt = s.last.evt ||| 16)

/-- GOVERN requests whose edge has come are carried out, a good one setting the governing stream; the host's
write of LAST_GOV waits for the edge and sets the governing stream there; and under BLEED, with no correction
running, one tick of the governing carrier's offset is taken out by a hold, every valid offset moving with it
(R50, R489, R827). Where the spec leaves a point open it states the choice of the model: log entry 34. -/
def Obligations.GoverningRowsComplete : Prop :=
  ∀ (s : State) (r : Req) (v : Word) (c : Nat) (o : Offset),
    (regsWf s.regs = true → s.last.govReqs = [r] → r.edge < s.last.edge → r.app ≤ s.last.pp →
      State.governBad r.blk = false →
      ∃ t, exec .governApply s = .next t ∧ t.last.govReqs = [] ∧ t.governing = fieldBE r.blk 0 2 ∧
        t.last.pp = s.last.pp) ∧
    (s.answers = true → s.supply.dom[2] = .up → exec (.lastGovWrite v .good) s =
      .next { s with last := { s.last with govWrite := some (v &&& 0xFFFF) } }) ∧
    (regsWf s.regs = true → s.last.govWrite = some (v &&& 0xFFFF) →
      s.applyGovWrite.governing = v.toNat % 65536 ∧ s.applyGovWrite.last.govWrite = none ∧
      s.applyGovWrite.last.pp = s.last.pp) ∧
    (s.follow.bleed = true → s.welt.role ≠ .standby → s.last.mode = .track → s.last.pendErrs = [] → s.last.src ≠ .localRef →
      s.follow.bleedEdge + (s.reg 0xC40).toNat / 256 % 1024 ≤ s.last.edge → s.last.govCarrier = some c →
      s.follow.offsets = [o] → o.carrier = c → o.valid = true → 65536 ≤ o.off →
      ∃ t, exec .bleedCorrection s = .next t ∧ t.last.mode = .hold ∧ t.last.rem = 65536 ∧
        t.last.pp = s.last.pp ∧ t.follow.offsets = [{ o with off := o.off - 65536 }] ∧
        t.follow.bleeding = true)

/-! ### Record intake and tacks (chapters 3 and 6) -/

/-- The rows of record intake: a complete UNVERIFIED batch on a route that withholds is discarded at its
release and counted, and one on a FLAG route waits UVWAIT ticks; a fresh record of a VERIFIED batch, or of one
whose wait has ended, is delivered as a RECORD event to the bench its route names; a number that has stood
unseen for GAPTIME edges is marked seen and counted lost, and one that has not stands; and entries idle for
IDLE superframes are freed, the others standing (R107, R113, R114, R118). Where the spec leaves a point open
it states the choice of the model: log entries 48, 78. -/
def Obligations.IntakeRowsComplete : Prop :=
  ∀ (s : State) (b : Batch) (x : Stream),
    (s.intake.batches = [b] → b.heldTo = none → b.edge < s.last.edge → b.verdict ≠ .verified →
      (s.routeOf b.stream).2 = false → (∀ e, s.streamOf b.stream = some e → e.gen = b.gen) →
      exec .intakeRelease s = .next { s with intake := { s.intake with
        batches := [], withheld := Nat.min 0xFFFFFFFF (s.intake.withheld + 1) } }) ∧
    (s.intake.batches = [b] → b.heldTo = none → b.edge < s.last.edge → b.verdict ≠ .verified →
      (s.routeOf b.stream).2 = true → s.last.edge < b.edge + (s.reg 0x282).toNat % 2048 →
      exec .intakeRelease s = .next { s with intake := { s.intake with
        batches := [{ b with heldTo := some (b.edge + (s.reg 0x282).toNat % 2048) }] } }) ∧
    (∀ o ty p, b.records = some [(o, ty, p)] → ty ≠ 1 → State.recordBad b.carrier ty p = false →
      s.intake.batches = [b] → s.streamOf b.stream = some x → x.gen = b.gen → x.judge (b.seq0 % 65536) = .fresh →
      (x.mark (b.seq0 % 65536) s.last.edge).2 = [] → s.supply.dom[2] = .up → s.welt.role = .solo →
      s.governing ≠ b.stream → (s.routeOf b.stream).1 = 1 → (s.bench 0).mode = .run →
      (s.bench 0).queue.length < 1024 → (s.bench 0).held = [] →
      let delivers : Instr → Prop := fun c => ∃ t e, exec c s = .next t ∧ e.cls = .record ∧
        e.pos = s.now ∧ e.sub = ty ∧ e.win = p ∧ t.intake.batches = [] ∧ t.last = s.last ∧
        (t.bench 0).queue = insertEvent e (s.bench 0).queue
      (b.heldTo = none → b.edge < s.last.edge → b.verdict = .verified → delivers .intakeRelease) ∧
      (∀ n, b.heldTo = some n → n ≤ s.last.edge → b.verdict ≠ .verified → delivers .uvwaitExpiry)) ∧
    (s.intake.streams = [x] → (∀ m ∈ x.missing, s.last.edge < m.2 + Nat.max 1 ((s.reg 0x282).toNat / 65536 % 4096)) →
      ∃ t, exec .gaptimeLoss s = .next t ∧ t.intake.streams = [x] ∧ t.intake.lost = s.intake.lost) ∧
    (∀ n m, s.intake.streams = [x] → x.missing = [(n, m)] →
      m + Nat.max 1 ((s.reg 0x282).toNat / 65536 % 4096) ≤ s.last.edge →
      ∃ t, exec .gaptimeLoss s = .next t ∧
        t.intake.streams = [{ x with seen := n :: x.seen, missing := [] }] ∧
        t.intake.lost = Nat.min 0xFFFFFFFF (s.intake.lost + 1) ∧ t.last = s.last) ∧
    (exec .streamEntryIdle s = .next { s with intake := { s.intake with
      streams := s.intake.streams.filter fun e =>
        decide (s.last.edge < e.lastEdge + Nat.max 1 ((s.reg 0x280).toNat / 2 ^ 20) * 456) } })

/-- Lateness judged at entry (Table 6-2) and at a SKIP that passes a tack over (Table 6-3): a tack not yet due
waits; DROP never dispatches late; LATE does within LATEMAX, and ANYWAY always. The store dispatches the oldest
published position it has not dispatched, once its entries are applied: the tacks due there leave the store, one
GPIO tack moves the levels of its mask alone, adds its bytes to the digest and is counted (R230, R240, R252,
R253); while the Last is stopped, and outside RUN, nothing is dispatched (R19, R78). Where the spec leaves a
point open it states the choice of the model: log entry 9. -/
def Obligations.DispatchAndLateness : Prop :=
  (∀ (latemax d p : Nat),
    (∀ policy, p ≤ d → judgeEntry latemax policy d p = .wait) ∧
    (d < p → judgeEntry latemax 0 d p = .never) ∧
    (d < p → judgeEntry latemax 1 d p = if p ≤ d + latemax then .now else .never) ∧
    (d < p → judgeEntry latemax 2 d p = .now) ∧
    judgeSkip latemax 0 d p = .never ∧
    (judgeSkip latemax 1 d p = if p ≤ d + latemax then .now else .never) ∧
    judgeSkip latemax 2 d p = .now ∧
    (∀ (t : Tack) (st : StepMade),
      (st.pos.pp ≤ st.p0 → st.pos.pp ≤ t.due → State.stepTack latemax st t = some { t with late := false }) ∧
      (t.late = false → st.p0 < st.pos.pp → st.pos.pp ≤ t.due → State.stepTack latemax st t = some t) ∧
      (st.p0 < t.due → t.due < st.pos.pp → State.stepTack latemax st t =
        if judgeSkip latemax t.policy t.due st.pos.pp = .now then some { t with late := true } else none))) ∧
  (∀ (s : State) (d : Due) (tk : Tack), s.tack.due = [d] → d.stepped = true → d.entered = true →
    (s.last.mode = .stopped → exec .tackDispatch s = .next s) ∧
    (s.supply.power ≠ .run → exec .tackDispatch s = .next s) ∧
    (s.supply.power = .run → s.last.mode ≠ .stopped → s.tack.pending = [tk] → tk.late = false → tk.due = d.pos.pp →
      tk.target = 6 → tk.flags.testBit 3 = false → s.silent = false → s.welt.role ≠ .standby →
      ∃ t, exec .tackDispatch s = .next t ∧ t.tack.pending = [] ∧ t.tack.due = [] ∧
        t.tack.lastDone = some d.pos ∧ t.tack.inReport = s.tack.inReport + 1 ∧
        t.tack.crc = crcBytes s.tack.crc (bytesBE 6 tk.due ++ bytesBE 1 6 ++ bytesBE 1 tk.tparam ++
          bytesBE 1 tk.plen ++ tk.payload.take tk.plen) ∧
        t.infra.gpioLevel = (s.infra.gpioLevel &&& (tk.tparam ^^^ 0xFF)) |||
          (fieldBE (tk.payload.take tk.plen) 0 1 &&& tk.tparam)) ∧
    (s.supply.power = .run → s.last.mode ≠ .stopped → s.tack.pending = [tk] → tk.late = false →
      tk.due ≠ d.pos.pp → s.welt.role ≠ .standby → ∃ t, exec .tackDispatch s = .next t ∧ t.tack.pending = [tk] ∧
        t.tack.due = [] ∧ t.tack.crc = s.tack.crc ∧ t.infra = s.infra))

/-! ### Radio requests (Table 5-17) and chains (chapters 7 and 8) -/

/-- A request that bench 4 issues and whose block is in service waits in that block, with the next request ID, its
own parameter block and the tick edge of its issue, until the edge at which it takes effect; nothing else changes
(R214–R216).  At that edge the block carries it out where nothing stands against it: a lane is assigned, modified,
faded or released (R353, R357, R358, R360), a measurement is subscribed to, ended or answered (R455, R456), a
correlation or a splice begins (R464, R473), a decoder enters SEARCH or IDLE (R497, R501), a sub-channel is
selected or deselected (R508, R510), a plan stands, a link is STARTING or waits to stop (R537, R539), an infrared
channel or profile is set (R580, R582, R583, R605), an output has its source or its ports (R700, R701), and a
stream governs (R50).  Where the spec leaves a point open it states the choice of the model: log entries 3, 35,
37. -/
def Obligations.RequestsWaitForTheirEdge : Prop :=
  ∀ (s : State) (blk : List Byte), s.benchFour = true → s.supply.dom[3] = .up → s.supply.dom[4] = .up →
    s.welt.role = .solo →
    let next : State := { s with prog := { s.prog with nextReq := nextId s.prog.nextReq } }
    let lane : Instr → Bool → Nat → Nat → (State → Req → State → Prop) → Prop := fun i rel k v eff =>
      ∃ r, Req.issued r s blk k v ∧
        exec i s = .next { next with lanes := { s.lanes with reqs := s.lanes.reqs ++ [⟨r, rel⟩] } } ∧
        ∀ u : State, u.lanes.reqs = [⟨r, rel⟩] → u.regWrites = [] → r.edge < u.last.edge →
          r.app ≤ u.last.pp → ∃ w, exec .laneApplyEdge u = .next w ∧ eff u r w
    let fm : Instr → Nat → (State → Req → State → Prop) → Prop := fun i v eff => ∃ r, Req.issued r s blk 2 v ∧
      exec i s = .next { next with fm := { s.fm with reqs := s.fm.reqs ++ [r] } } ∧
      ∀ u : State, u.fm.reqs = [r] → r.edge < u.last.edge → eff u r u.measureEdge
    let follow : Instr → Nat → Nat → Nat → (State → Req → State → Prop) → Prop := fun i code k v eff =>
      ∃ r, Req.issued r s blk k v ∧
        exec i s = .next { next with follow := { s.follow with reqs := s.follow.reqs ++ [(code, r)] } } ∧
        ∀ u : State, u.follow.reqs = [(code, r)] → r.edge < u.last.edge → u.fourRestarts = false →
          eff u r u.followEdge
    let dab : Instr → Nat → Nat → (State → Nat → Req → State → Prop) → Prop := fun i code v eff =>
      ∃ r, Req.issued r s blk 1 v ∧
        let d := Nat.min 1 (byteAt blk 0).toNat
        exec i s = .next (next.setDab d { s.decoder d with reqs := (s.decoder d).reqs ++ [(code, r)] }) ∧
        ∀ u : State, (u.decoder d).reqs = [(code, r)] → (u.decoder d).cover = none → (u.decoder d).selDone = [] →
          r.edge < u.last.edge → fieldBE r.blk 0 1 = d → eff u d r (u.dabEdge d)
    let hearth : Instr → Nat → Nat → Nat → (State → Req → State → Prop) → Prop := fun i code k v eff =>
      ∃ r, Req.issued r s blk k v ∧
        exec i s = .next { next with hearth := { s.hearth with reqs := s.hearth.reqs ++ [(code, r)] } } ∧
        ∀ u : State, u.hearth.reqs = [(code, r)] → r.edge < u.last.edge → eff u r u.hearthEdge
    let infra : Instr → Nat → (State → Req → State → Prop) → Prop := fun i v eff => ∃ r, Req.issued r s blk 0 v ∧
      exec i s = .next { next with infra := { s.infra with reqs := s.infra.reqs ++ [r] } } ∧
      ∀ u : State, u.infra.reqs = [r] → r.edge < u.last.edge → eff u r u.irEdge
    let route : Instr → Nat → (State → Req → State → Prop) → Prop := fun i v eff => ∃ r, Req.issued r s blk 1 v ∧
      exec i s = .next { next with port := { s.port with routeReqs := s.port.routeReqs ++ [r] } } ∧
      ∀ u : State, u.port.routeReqs = [r] → r.edge < u.last.edge → State.routeBad r.blk = false →
        eff u r u.routeEdge
    (lane (.laneAssign blk) false 1 0 (fun u r w =>
        let p := fieldBE r.blk 2 1
        let plan := fun (x : Lane) =>
          let y := { x with centre := fieldBE r.blk 4 4, hold := (byteAt r.blk 3).getLsbD 0
                            xf := fieldBE r.blk 14 2, preset := .custom }
          (if p = 0 then y.withBlock r.blk 0x1E else y).withPreset (presetOf p)
        ∀ n x, (if fieldBE r.blk 0 1 = 0xFF then u.lowestFree else some (fieldBE r.blk 0 1)) = some n →
          n ≤ 95 → p ≤ 3 → fieldBE r.blk 14 2 ≤ 4096 →
          (p = 0 → blockLow r.blk 0x1E = false ∧ u.stagesOk (plan Lane.init) = true) →
          (u.lane n).use = .free → u.bindLane (u.lane n) = some x → u.branchesOf (plan x) ≠ 0 →
          (w.lane n).use = .run ∧ (w.lane n).preset = presetOf p ∧ (w.lane n).centre = fieldBE r.blk 4 4 ∧
            (w.lane n).dec = (plan x).dec ∧ (w.lane n).setA = (plan x).setA ∧
            (w.lane n).epoch = (x.epoch + 1) % 256) ∧
      lane (.laneModify blk) false 1 1 (fun u r w =>
        let n := fieldBE r.blk 0 1
        let mask := fieldBE r.blk 24 1
        let x := (u.lane n).withBlock r.blk mask
        let y := if mask.testBit 0 then { x with centre := fieldBE r.blk 4 4 } else x
        n ≤ 95 → mask ≠ 0 → mask ≤ 63 → (u.lane n).use = .run → blockLow r.blk mask = false →
          u.stagesOk y = true → (mask.testBit 4 = true → (u.lane n).preset = .custom) →
          (u.lane n).fading = false → u.branchesOf y ≠ 0 →
          (w.lane n).use = .run ∧ (w.lane n).centre = y.centre ∧ (w.lane n).n = y.n ∧ (w.lane n).dec = y.dec ∧
            (w.lane n).f = y.f ∧ (w.lane n).a = y.a ∧ (w.lane n).setA = y.setA ∧ (w.lane n).setB = y.setB ∧
            (w.lane n).hold = y.hold ∧ (w.lane n).reson = y.reson ∧ (w.lane n).epoch = (u.lane n).epoch) ∧
      lane (.laneFade blk) false 1 2 (fun u r w =>
        let n := fieldBE r.blk 0 1
        n ≤ 95 → (u.lane n).use = .run → (u.lane n).fading = false → 0 < fieldBE r.blk 14 2 →
          fieldBE r.blk 14 2 ≤ 4096 → (w.lane n).fading = true ∧ (w.lane n).xf = fieldBE r.blk 14 2) ∧
      lane (.laneRelease blk) true 32 0 (fun u r w =>
        let n := fieldBE r.blk 0 1
        n ≤ 95 → (u.lane n).use = .run → (w.lane n).use = .free)) ∧
    (fm (.measureSubscribe blk) 0 (fun u r w =>
        let n := fieldBE r.blk 1 1
        let p := fieldBE r.blk 6 2
        (∀ f, fieldBE r.blk 0 1 = 0 → n ≤ 95 → p ≤ 1024 → u.fmLane n = some f →
          w.fmLane n = some { f with sub := some ⟨r.id, fieldBE r.blk 4 2 % 4096, p, p⟩ }) ∧
        (fieldBE r.blk 0 1 = 1 → n ≤ 1 → p ≤ 1024 → (u.decoder n).failed = false →
          w.decoder n = { u.decoder n with sub := some ⟨r.id, fieldBE r.blk 4 2 % 2048, p, p⟩ })) ∧
      fm (.measureUnsubscribe blk) 1 (fun u r w =>
        let n := fieldBE r.blk 1 1
        (∀ f, fieldBE r.blk 0 1 = 0 → n ≤ 95 → u.fmLane n = some f →
          w.fmLane n = some { f with sub := none }) ∧
        (fieldBE r.blk 0 1 = 1 → n ≤ 1 → (u.decoder n).failed = false →
          w.decoder n = { u.decoder n with sub := none })) ∧
      fm (.measureOnce blk) 2 (fun u r w =>
        let n := fieldBE r.blk 1 1
        let v : State := { u with fm := { u.fm with reqs := [] } }
        (∀ f, fieldBE r.blk 0 1 = 0 → n ≤ 95 → u.fmLane n = some f → w = v.reply 0x0508 r.id stOk
          (bytesBE 1 (u.lane n).epoch ++ bytesBE 1 0 ++ bytesBE 1 n ++ bytesBE 1 0 ++ State.lastQuality f.quality)) ∧
        (fieldBE r.blk 0 1 = 1 → n ≤ 1 → (u.decoder n).failed = false →
          w = v.dabReply 8 n r.id stOk 0 (bytesBE 1 n ++ bytesBE 1 0 ++
            ((u.decoder n).quality.map fun q => q.bytes).getD (List.replicate 12 0))))) ∧
    (let corr := fun (u : State) (r : Req) (w : State) =>
        let b := (sfOf u.last.pp + 1) * 456
        u.correlateBad r.blk = false → u.carrierRuns (fieldBE r.blk 1 1) = true →
          u.carrierRuns (fieldBE r.blk 2 1) = true → u.follow.corrs.length < 4 →
          w = { u with follow := { u.follow with reqs := [], corrs := u.follow.corrs ++
            [⟨r.id, r.blk, u.last.edge, u.last.edge + (b - u.last.pp), b, [], [], [], [], none⟩] } }
      let splice := fun (u : State) (r : Req) (w : State) =>
        ∀ q, u.spliceBad r.blk = false → u.targetUsable (fieldBE r.blk 2 1) = true →
          u.spliceClash r.blk = false → u.spliceResult r.blk = some q → u.piOk r.blk = true →
          u.delayOk r.blk q.d = true → u.offsetOk r.blk q.d = true →
          ∃ sp ∈ w.follow.splices, sp.id = r.id ∧ sp.blk = r.blk
      follow (.correlateMpx blk) 9 0 0 corr ∧ follow (.correlateStamp blk) 9 0 1 corr ∧
        follow (.spliceAt blk) 10 3 0 splice ∧ follow (.spliceArmed blk) 10 3 1 splice) ∧
    (dab (.ensembleStart blk) 11 0 (fun u d r w =>
        let f := fieldBE r.blk 4 4
        bandThree.contains f = true → (u.decoder d).mode = .idle → (u.decoder d).failed = false →
          vget false u.lanes.wideFailed d = false →
          u.branchesOf { Lane.init with use := .wide, preset := .dab, centre := f * 1000 } ≠ 0 →
          (w.decoder d).mode = .search ∧ (w.decoder d).freq = f ∧
            (w.decoder d).epoch = ((u.decoder d).epoch + 1) % 256 ∧ (w.lane (100 + d)).use = .wide ∧
            (w.lane (100 + d)).centre = f * 1000) ∧
      dab (.ensembleStop blk) 11 1 (fun _ d _ w =>
        (w.decoder d).mode = .idle ∧ (w.decoder d).sels = [] ∧ (w.lane (100 + d)).use = .free) ∧
      dab (.subchannelSelect blk) 12 0 (fun u d r w =>
        selectRefused (u.decoder d) r.blk = none →
          (u.decoder d).sels.find? (fun q => q.id == fieldBE r.blk 2 1) = none →
          w = u.setDab d { u.decoder d with
            reqs := [], sels := (u.decoder d).sels ++ [newSelection r.blk r.id u.last.edge] }) ∧
      dab (.subchannelDeselect blk) 12 1 (fun u d r w =>
        fieldBE r.blk 2 1 ≤ 63 → (u.decoder d).ready = true →
          (∃ q ∈ (u.decoder d).sels, q.id = fieldBE r.blk 2 1 ∧ q.leaving = none) →
          ∀ q ∈ (w.decoder d).sels, q.id = fieldBE r.blk 2 1 → q.leaving = some r.id)) ∧
    (hearth (.hearthPlan blk) 14 32 0 (fun u r w =>
        ∀ p, u.planOf r.blk = some p → u.hearth.mode = .stopped → (u.chain 2).failed = false →
          u.sweeping 2 = false → w.hearth.plan = some p ∧ w.hearth.mode = .stopped) ∧
      hearth (.hearthStart blk) 15 0 0 (fun u r w =>
        u.hearth.plan.isSome = true → u.hearth.mode = .stopped → (u.chain 2).failed = false →
          u.sweeping 2 = false → w.hearth.mode = .starting ∧ w.hearth.startId = r.id ∧
            w.hearth.plan = u.hearth.plan) ∧
      hearth (.hearthStop blk) 15 0 1 (fun u r w => w = { u with hearth := { u.hearth with
        reqs := [], stopping := u.hearth.stopping ++ [r.id] } })) ∧
    (infra (.irRxSet blk) 0 (fun u r w =>
        let c := fieldBE r.blk 1 1
        rxSetBad r.blk = false → (u.irOff = true → (u.lane 94).use = .free ∧ (u.lane 95).use = .free) →
          (w.ir c).cfg = r.blk.take 16 ∧ (w.ir c).mode ≠ .off ∧
            (u.irOff = true → (w.lane 94).use = .ir ∧ (w.lane 95).use = .ir)) ∧
      infra (.irRxOff blk) 1 (fun _ r w =>
        fieldBE r.blk 1 1 ≤ 1 → (w.ir (fieldBE r.blk 1 1)).mode = .off) ∧
      infra (.irTxProfile blk) 2 (fun u r w =>
        let c := fieldBE r.blk 1 1
        let period := fieldBE r.blk 2 2
        let high := fieldBE r.blk 4 2
        c ≤ 15 → 384 ≤ period → period ≤ 1920 → 1 ≤ high → high < period →
          vget 0 w.infra.prof c = BitVec.ofNat 32 (period + high * 2048 + 4194304 * (fieldBE r.blk 6 1 % 2)) ∧
            ∀ m, m ≠ c → vget 0 w.infra.prof m = vget 0 u.infra.prof m)) ∧
    (route (.audioRouteSource blk) 0 (fun u r w =>
        let po := fieldBE r.blk 0 1
        (u.fmLane (fieldBE r.blk 2 1)).isSome = true →
          (∀ x ∈ u.follow.splices, fieldBE x.blk 0 1 ≠ po) →
          (vget Po.init w.fm.po po).source = some (fieldBE r.blk 2 1) ∧
            (vget Po.init w.fm.po po).noSrc = false) ∧
      route (.audioRouteNosource blk) 1 (fun u r w =>
        let po := fieldBE r.blk 0 1
        (∀ x ∈ u.follow.splices, fieldBE x.blk 0 1 ≠ po) →
          (vget Po.init w.fm.po po).source = none ∧ (vget Po.init w.fm.po po).noSrc = true) ∧
      route (.audioRoutePorts blk) 2 (fun u r w =>
        ∀ p, p < 2 → (w.audio p).routed = if (fieldBE r.blk 3 1).testBit p then some (fieldBE r.blk 0 1)
          else (u.audio p).routed)) ∧
    (∃ r, Req.issued r s blk 32 0 ∧
      let g : Req := { r with app := fieldBE blk 4 6 }
      exec (.govern blk) s = .next { next with last := { s.last with govReqs := s.last.govReqs ++ [g] } } ∧
      ∀ u : State, regsWf u.regs = true → u.last.govReqs = [g] → g.edge < u.last.edge → g.app ≤ u.last.pp →
        State.governBad g.blk = false →
        ∃ w, exec .governApply u = .next w ∧ w.last.govReqs = [] ∧ w.governing = fieldBE r.blk 0 2)

/-- The requests to the chains: a tune that is not refused waits for its edge, and there puts the chain on its LO
or channel (R270); a gain waits likewise, and there gives the chain its mode and limits and the index that they
call for (R276, R280); a state is ordered and its transition begins (R266); and protected windows are set or
cleared on the chains of the mask (R305); on the way the next request ID is taken. Where the spec leaves a point
open it states the choice of the model: log entries 22, 23. -/
def Obligations.ChainRequestsComplete : Prop :=
  ∀ (s : State) (blk : List Byte) (c i mask : Nat), s.benchFour = true → s.welt.role = .solo →
    c = (byteAt blk 0).toNat → i = (byteAt blk 1).toNat → mask = (byteAt blk 2).toNat →
    let id := s.prog.nextReq
    let edge := s.last.edge
    let sent := (List.range 32).map (byteAt blk)
    let w : Window := ⟨fieldBE blk 4 6, fieldBE blk 10 6⟩
    (s.tuneRefused ⟨id, sent, fieldBE blk 16 6, edge⟩ = none →
      ∃ t, exec (.chainTune blk) s = .next t ∧ t.prog.nextReq = nextId id ∧
        (t.chain c).tunes = (s.chain c).tunes ++ [⟨id, sent, fieldBE blk 16 6, edge⟩] ∧
        (t.chain c).lo = (s.chain c).lo) ∧
    (∀ (u : State) (d : Fin 3) (r : Req), d.val = c → r = ⟨id, sent, fieldBE blk 16 6, edge⟩ →
      (u.chain c).tunes = [r] → u.regWrites = [] → u.appDue r true = true → u.tuneRefused r = none →
      ∃ w x, exec (.chainTuneApply d) u = .next w ∧ (w.chain c).tunes = [] ∧
        (w.chain c).lo = fieldBE r.blk 4 4 ∧ (w.chain c).trans = some x ∧ x.reqId = some id ∧
        x.target = (u.chain c).mode) ∧
    (c ≤ 2 → i ≤ 3 → s.hrOwned c = false → (s.chain c).failed = false → s.chainBusy c = false →
      (s.chain c).mode ≠ State.modeOfCode i →
      ∃ t x, exec (.chainState blk) s = .next t ∧ t.prog.nextReq = nextId id ∧
        (t.chain c).trans = some x ∧ x.target = State.modeOfCode i ∧ x.reqId = some id ∧
        (t.chain c).mode = (s.chain c).mode ∧
        (mask % 2 = 1 → t.radio.paflt = false) ∧ (mask % 2 = 0 → t.radio.paflt = s.radio.paflt)) ∧
    (c ≤ 1 → i ≤ 2 → mask ≤ 14 → (byteAt blk 3).toNat ≤ (byteAt blk 4).toNat →
      (byteAt blk 4).toNat ≤ 14 → (s.chain c).failed = false → s.sweeping c = false →
      s.supply.dom[3] = .up →
      ∃ t, exec (.gain blk) s = .next t ∧ t.prog.nextReq = nextId id ∧
        (t.chain c).gains = (s.chain c).gains ++ [⟨id, sent, 0, edge⟩] ∧
        (t.chain c).gain = (s.chain c).gain ∧
        ∀ u : State, regsWf u.regs = true → (u.chain c).gains = [⟨id, sent, 0, edge⟩] → edge < u.last.edge →
          let lo := (byteAt blk 3).toNat
          let hi := (byteAt blk 4).toNat
          (u.applyGains c).reg (0x503 + 0x20 * c) = BitVec.ofNat 32 (i + 16 * mask + 256 * lo + 4096 * hi) ∧
          ((u.applyGains c).chain c).gains = [] ∧
          ((u.applyGains c).chain c).gain = Nat.min 14 (if i = 0 then Nat.max lo (Nat.min hi (u.chain c).gain)
            else if i = 2 then mask else (u.chain c).gain)) ∧
    (i < 16 → w.start < w.stop → (∀ d, d < 3 → mask.testBit d = true → s.sweeping d = false) →
      (∀ d, d < 3 → mask.testBit d = true →
        windowsOk ((vset (s.chain d).windows i (some w)).toList.filterMap fun x => x) = true) →
      ∃ t, exec (.protectSet blk) s = .next t ∧ t.prog.nextReq = nextId id ∧ ∀ d, d < 3 →
        (t.chain d).windows =
          if mask.testBit d then vset (s.chain d).windows i (some w) else (s.chain d).windows) ∧
    (i < 16 → w.start < w.stop → (∀ d, d < 3 → mask.testBit d = true → s.sweeping d = false) →
      ∃ t, exec (.protectClear blk) s = .next t ∧ t.prog.nextReq = nextId id ∧ ∀ d, d < 3 →
        (t.chain d).windows =
          if mask.testBit d then vset (s.chain d).windows i none else (s.chain d).windows)

/-- CALIBRATE joins the slots of its scope to those its chain has to serve (Table 8-7, R333); SWEEP begins a
sweep of the chain's entries (R334); and AWL begins an on-demand run of the tests that may run now, what is
left out being DEFERRED (R774). Where the spec leaves a point open it states the choice of the model: log
entries 22, 26. -/
def Obligations.CalibrationAndAwlRequestsComplete : Prop :=
  ∀ (s : State) (blk : List Byte) (c : Nat), s.benchFour = true → s.welt.role = .solo →
    c = (byteAt blk 0).toNat → c ≤ 2 → s.chainUp c = true → (s.chain c).failed = false → s.clk.sweep = none →
    let id := s.prog.nextReq
    let urgent := (byteAt blk 2).getLsbD 0
    let joins : Instr → List Nat → Prop := fun i slots => slots ≠ [] → ∃ t, exec i s = .next t ∧
      t.prog.nextReq = nextId id ∧
      (∃ cov, (t.chain c).cals = (s.chain c).cals ++ [⟨id, slots, urgent, cov, 0, 0⟩]) ∧
      t.clk.table = s.clk.table
    joins (.calibrateCurrent blk) (s.calInUse c).toList ∧
    joins (.calibrateKey blk) ((s.calFind c (fieldBE blk 4 2)).map fun e => e.1).toList ∧
    joins (.calibrateStale blk)
      ((s.clk.table.filter fun e => e.2.chain == c && s.calStale e.2).map fun e => e.1) ∧
    joins (.calibrateAll blk) ((s.clk.table.filter fun e => e.2.chain == c).map fun e => e.1) ∧
    (s.hrOwned c = false → (s.chain c).mode = .standby → s.chainBusy c = false →
      ∃ t w, exec (.calibrateSweep blk) s = .next t ∧ t.clk.sweep = some w ∧ w.req = some id ∧
        w.slots = (s.clk.table.filter fun e => e.2.chain == c).map fun e => e.1) ∧
    (s.awl.running = false →
      ∃ t, exec (.awl blk) s = .next t ∧ t.awl.running = true ∧ t.awl.req = some id ∧
        t.awl.mask = fieldBE blk 0 4 &&& s.awlRuns ∧ t.awl.pass = s.awl.pass)

/-- On a STANDBY member a request completes NONE with reason 2 at the next position and nothing is handed to a
block (R159, R728): the blocks stand as they were. Where the spec leaves a point open it states the choice of
the model: log entry 3. -/
def Obligations.StandbyRequestsReachNoBlock : Prop :=
  ∀ (s : State) (blk : List Byte), s.benchFour = true → s.welt.role = .standby →
    (∃ t, exec (.laneAssign blk) s = .next t ∧ t.lanes = s.lanes ∧ t.last = s.last) ∧
    (∃ t, exec (.chainTune blk) s = .next t ∧ t.radio = s.radio ∧ t.last = s.last) ∧
    (∃ t, exec (.govern blk) s = .next t ∧ t.last = s.last ∧ t.regs = s.regs) ∧
    (∃ t, exec (.hearthStart blk) s = .next t ∧ t.hearth = s.hearth ∧ t.last = s.last)

/-- RADIO on bench 4 with an aligned block in data memory issues the request with the next ID and writes that
ID to rd; on a cue bench it is not permitted, and an unknown code faults (R172, R214, R215, R217). Where the
spec leaves a point open it states the choice of the model: log entry 3. -/
def Obligations.RadioInstructionIssuesRequests : Prop :=
  ∀ (s : State) (b : Fin 5) (h : Handler) (rd ra : Fin 16) (op : BitVec 8), s.running b h 8 →
    let a := (h.get ra).toNat
    let blk := readBytes (s.bench b).data a 32
    let id := s.prog.nextReq
    (b.val = 4 → 1 ≤ op.toNat → op.toNat ≤ 18 → a % 4 = 0 → a + 32 ≤ 0x8000 → h.script = none →
      (s.bench b).logBytes + h.logBytes + 36 ≤ 65536 →
      exec (.radio b rd ra op) s =
        .next ((({ s with prog := { s.prog with nextReq := nextId id } }).issue op.toNat blk id).goesOn b
          (({ h with items := h.items ++ [LogItem.radio op.toNat blk id], logBytes := h.logBytes + 36 }).put rd
            (BitVec.ofNat 32 id)) 8)) ∧
    (b.val < 4 → exec (.radio b rd ra op) s =
      .next (s.benchFault b { h with used := h.used + 8 } 0x8105 0)) ∧
    (b.val = 4 → op.toNat = 0 ∨ 18 < op.toNat → exec (.radio b rd ra op) s =
      .next (s.benchFault b { h with used := h.used + 8 } 0x8116 op.toNat)) ∧
    nextId 0xFFFF = 1 ∧ (∀ n, n < 0xFFFF → nextId n = n + 1)

/-- The rows of the chains: a transition's end puts the chain in its target (R266); a protected window ends
once its end is published (R308); AUTO gain steps down on a loud tick and up after 16 quiet ones, within MIN
and MAX (R277); the digital loop's corrections stand as measured (R274). Where the spec leaves a point open it
states the choice of the model: log entries 24, 25. -/
def Obligations.ChainRowsComplete : Prop :=
  ∀ (s : State) (c : Fin 3) (x : Transition) (us : Nat) (cal : CalResult) (k : Fin 16) (w : Window)
      (above clipped : Nat) (low : Bool) (di dq : Int),
    let ch := s.chain c
    let base := 0x503 + 0x20 * c.val
    let lo := (s.reg base).toNat / 256 % 16
    let hi := (s.reg base).toNat / 4096 % 16
    (ch.trans = some x → ∃ t, exec (.chainTransitionDone c us cal) s = .next t ∧
      (t.chain c).mode = x.target ∧ (t.chain c).trans = none ∧ t.last = s.last) ∧
    (ch.windows.get k = some w → w.stop ≤ s.last.pp → exec (.protectWindowEnd c k) s =
      .next (s.setChain c { ch with windows := ch.windows.set k none })) ∧
    (c.val < 2 → ch.mode = .rx → ch.trans = none → (s.reg base).toNat % 4 = 0 → 4 < above → lo < ch.gain →
      ∃ t, exec (.gainAutoTick c above clipped low) s = .next t ∧ (t.chain c).gain = ch.gain - 1 ∧
        (t.chain c).quiet = 0 ∧ (t.chain c).clipped = clipped) ∧
    (c.val < 2 → ch.mode = .rx → ch.trans = none → (s.reg base).toNat % 4 = 0 → above ≤ 4 → low = true →
      ch.quiet = 15 → ch.gain < 14 → ch.gain < hi →
      ∃ t, exec (.gainAutoTick c above clipped low) s = .next t ∧ (t.chain c).gain = ch.gain + 1 ∧
        (t.chain c).quiet = 0) ∧
    (c.val < 2 → ch.mode = .rx → ∃ t, exec (.dcLoopLimit c di dq) s = .next t ∧
      (t.chain c).loopI = di ∧ (t.chain c).loopQ = dq ∧
      (di.natAbs ≤ 48 → dq.natAbs ≤ 48 → (t.chain c).bubbles = ch.bubbles) ∧
      (48 < di.natAbs → (ch.bubbles.any fun b => b.kind == .dctrim) = false →
        (t.chain c).bubbles.length = ch.bubbles.length + 1))

/-- A placed DC-trim bubble begins when its start is published and ends after its tick with the trims measured
(R274, R299, R300); PAFAULT# with PAEN high moves HR to SYNTH and latches PAFLT (R295); a chain whose ADC
outputs stand still is FAILED and reset, its epoch counting on (R309, R310); temperature readings stand
(R321). Where the spec leaves a point open it states the choice of the model: log entries 24, 25. -/
def Obligations.BubblesFaultsAndReadingsComplete : Prop :=
  ∀ (s : State) (c : Fin 3) (b : Bubble) (cal : CalResult) (t0 t1 t2 : Int),
    let ch := s.chain c
    (ch.bubbles = [b] → b.kind = .dctrim → b.begun = none → b.start ≤ s.last.pp →
      exec (.bubbleStart c) s = .next (s.setChain c { ch with
        bubbles := [{ b with begun := some s.last.edge, slot := none }] })) ∧
    (∀ e, ch.bubbles = [b] → ch.held = false → b.kind = .dctrim → b.begun = some e → e + 1 ≤ s.last.edge →
      ∃ t, exec (.bubbleDone c cal) s = .next t ∧ (t.chain c).bubbles = [] ∧
        (t.chain c).trimI = cal.trimI ∧ (t.chain c).trimQ = cal.trimQ ∧ (t.chain c).mode = ch.mode) ∧
    (s.radio.pinPaen = true → ∃ t, exec (.pafaultAssert false) s = .next t ∧ (t.chain 2).mode = .synth ∧
      t.radio.paflt = true ∧ t.radio.pinPaen = false ∧ t.hearth.burst = none ∧
      t.radio.pinPafault = false) ∧
    (∀ level, level = true ∨ s.radio.pinPaen = false → exec (.pafaultAssert level) s =
      .next { s with radio := { s.radio with pinPafault := level } }) ∧
    (c.val < 2 → ch.mode = .rx → ch.held = false → ch.failed = false →
      ∃ t, exec (.adcStuckFail c) s = .next t ∧ (t.chain c).failed = true ∧ (t.chain c).mode = .sleep ∧
        (t.chain c).epoch = (ch.epoch + 1) % 256) ∧
    (-400 ≤ t0 → t0 ≤ 1200 → -400 ≤ t1 → t1 ≤ 1200 → -400 ≤ t2 → t2 ≤ 1200 →
      ∃ t, exec (.tempReading t0 t1 t2) s = .next t ∧ t.clk.temp = #v[t0, t1, t2] ∧
        t.clk.tempBad = #v[false, false, false] ∧
        t.clk.drift = Nat.max 4 (Nat.min 20 ((s.reg 0x410).toNat % 32)))

/-- The rows of the clocks: a tune whose edge has come takes effect on its chain (R270); loss of a PLL gates
what Table 8-8 names; loss of the reference gates every PLL and stops the Last, which keeps its PP (R77, R339);
the reference's return lets the PLLs that had not lost lock relock (R340); a commanded relock locks the system
PLL, and the tick edge that finds it locked ends the limp clock (R340, R347). Where the spec leaves a point open
it states the choice of the model: log entries 24, 46. -/
def Obligations.ClockRowsComplete : Prop :=
  ∀ (s : State) (c : Fin 3) (kHz : Nat) (cals : List CalResult) (w : Sweep),
    ((s.chain c).tunes = [] → s.regWrites = [] → ∃ t, exec (.chainTuneApply c) s = .next t ∧
      t.last.pp = s.last.pp ∧ (t.chain c).lo = (s.chain c).lo) ∧
    (∀ r : Req, c.val = 2 → (s.chain 2).tunes = [r] → r.app = 0 → (byteAt r.blk 0).toNat = 2 →
      s.tuneRefused r = none → s.regWrites = [] → ∃ t, exec (.chainTuneApply c) s = .next t ∧
        (t.chain 2).lo = fieldBE r.blk 4 4 ∧ (t.chain 2).tunes = [] ∧
        (∃ x, (t.chain 2).trans = some x ∧ x.reqId = some r.id)) ∧
    (s.clk.refOk = true → s.clk.sysLock = true → s.supply.dom[2] = .up → ∃ t, exec (.pllLockLoss .sys) s = .next t ∧
      t.clk.sysLock = false ∧ t.clk.limp = true ∧ t.welt.up = false ∧ t.last.pp = s.last.pp) ∧
    (s.clk.refOk = true → s.clk.sckLock = true → s.supply.dom[2] = .up → ∃ t, exec (.pllLockLoss .sck) s = .next t ∧
      t.clk.sckLock = false ∧ (t.chain 0).held = true ∧ (t.chain 1).held = true) ∧
    (s.clk.refOk = true → s.supply.power ≠ .sleep → s.supply.dom[2] = .up → s.last.mode ≠ .stopped →
      ∃ t, exec .referenceLoss s = .next t ∧ t.clk.refOk = false ∧ t.clk.sysLock = false ∧
        t.clk.sckLock = false ∧ t.clk.limp = true ∧ t.last.mode = .stopped ∧ t.last.pp = s.last.pp ∧
        t.last.resume = s.last.mode ∧ (t.chain 2).held = true) ∧
    (s.clk.refOk = false → s.supply.power ≠ .sleep → ∃ t, exec .referenceBack s = .next t ∧
      t.clk.refOk = true ∧ t.clk.sysLock = !s.clk.sysLost ∧ t.clk.sckLock = !s.clk.sckLost ∧
      t.clk.limp = s.clk.limp ∧ t.last.pp = s.last.pp) ∧
    (s.clk.refOk = true → s.clk.sysLost = false → s.clk.sysLock = false →
      ∃ t, exec (.pllRelock .sys) s = .next t ∧ t.clk.sysLock = true ∧ t.clk.limp = s.clk.limp) ∧
    s.countEdge.clk.limp = (s.clk.limp && !s.clk.sysLock) ∧
    (s.clk.refOk = true → s.supply.power ≠ .sleep → 27000 ≤ kHz → kHz ≤ 37000 → exec (.limpMeasure kHz) s =
      .next { s with clk := { s.clk with limpKHz := kHz } }) ∧
    (s.clk.sweep = some w → s.store.commit = .idle → 2040 ≤ s.energy →
      ∃ t, exec (.sweepDone cals) s = .next t ∧ t.clk.sweep = none ∧ t.store.commit = .erase ∧
        t.last = s.last ∧ (w.slots = [] → t.clk.table = s.clk.table))

/-! ### Lanes (chapter 9) and FM reception (chapter 10) -/

/-- The rows of the lanes: a release and a fade take effect at their edge (R353, R358, R360); a cross-fade's
end switches the bank (R374); an input sample goes through the stages, which on a decimated one give an output
sample, and the sample that fills a block of 64 stands with it in the pool (R351, R366, R401); the blind
interval of an IR lane's reset ends with its settling count (R390, R595); an understudy takes the number of a
failed lane, with the next epoch (R406–R410); a grant round hands out pool blocks (R402, R405); and a
coefficient error is corrected and counted, or marks its set (R376). Where the spec leaves a point open it
states the choice of the model: log entries 37, 81. -/
def Obligations.LaneRowsComplete : Prop :=
  ∀ (s : State) (r : Req) (n : Nat) (inp : LaneInput) (v : Iq × Iq) (set : Nat) (q : Claim),
    let x := s.lane n
    let pushed := s.lanePush x inp.at_ v
    let alone : Prop := inp.input = [v] ∧ inp.freed = 0 ∧ x.use = .run ∧ s.reception = true ∧
      x.badRun < 2 ∧ n < 100
    (s.lanes.reqs = [⟨r, true⟩] → s.regWrites = [] → r.edge < s.last.edge → r.app ≤ s.last.pp →
      n = fieldBE r.blk 0 1 → n ≤ 95 → x.use = .run →
      ∃ t, exec .laneApplyEdge s = .next t ∧ s.keeps t ∧ t.lanes.reqs = [] ∧ (t.lane n).use = .free ∧
        (t.lane n).epoch = x.epoch ∧
        (s.follow.splices = [] → ∀ m, m ≠ n → t.lane m = s.lane m)) ∧
    (s.lanes.reqs = [⟨r, false⟩] → s.regWrites = [] → r.edge < s.last.edge → r.app ≤ s.last.pp →
      n = fieldBE r.blk 0 1 → n ≤ 95 → byteAt r.blk 1 = 2 → x.use = .run → x.fading = false →
      0 < fieldBE r.blk 14 2 → fieldBE r.blk 14 2 ≤ 4096 →
      ∃ t, exec .laneApplyEdge s = .next t ∧ s.keeps t ∧ t.lanes.reqs = [] ∧
        t.lane n = { x with
          xf := fieldBE r.blk 14 2, fading := true, sig := { x.sig with fadeK := 0 } }) ∧
    (x.use = .run → x.fading = true → x.xf ≤ x.sig.fadeK → ∃ t, exec (.fadeDone n) s = .next t ∧ s.keeps t ∧
      t.lane n = { x with bankB := !x.bankB, fading := false } ∧ t.last = s.last) ∧
    (alone → pushed.2 = none → ∃ t, exec (.laneOutputBlock n inp) s = .next t ∧
      t = { s with lanes := t.lanes } ∧ t.lane n = { x with sig := pushed.1 } ∧
      (∀ m, m ≠ n → t.lane m = s.lane m) ∧ t.lanes.sharedUsed = s.lanes.sharedUsed ∧
      pushed.1.phase = x.sig.phase + x.nco ∧ pushed.1.cic = (x.sig.cic + 1) % x.decim) ∧
    (∀ y, alone → pushed.2 = some y → pushed.1.out.length < 63 → x.slewing = false → x.hold = false →
      x.failing = none → x.sfdIn = 0 → ∃ t z, exec (.laneOutputBlock n inp) s = .next t ∧
        t = { s with lanes := t.lanes } ∧ (t.lane n).sig.out = z :: pushed.1.out ∧ z.v = y.v ∧
        z.invalid = y.invalid ∧ z.unsettled = (!y.invalid && (y.unsettled || decide (0 < x.settle))) ∧
        (t.lane n).settle = x.settle - 1 ∧ (t.lane n).latest = x.latest) ∧
    (∀ y, alone → pushed.2 = some y → pushed.1.out.length = 63 → x.slewing = false → x.hold = false →
      x.failing = none → x.sfdIn = 0 → x.wait = [] → x.blocks < 2 → inp.residueOk = true →
      s.fmLane n = none → (s.reg 0x3C1).bit 7 = false →
      ∃ t b, exec (.laneOutputBlock n inp) s = .next t ∧ t = { s with lanes := t.lanes } ∧
        (t.lane n).latest = some b ∧ b.samples.length = 64 ∧ b.gap = x.gap ∧ b.epoch = x.epoch ∧
        (t.lane n).sig.out = [] ∧ (t.lane n).gap = 0 ∧ (t.lane n).blocks = x.blocks + 1 ∧
        (t.lane n).badRun = 0) ∧
    (∀ c : Fin 2, (s.lane (94 + c.val)).use = .ir → (s.lane (94 + c.val)).settle = 0 →
      (s.ir c).settling = true → ∃ t, exec (.laneSettled (94 + c.val)) s = .next t ∧
        t = { s with infra := t.infra } ∧ (t.ir c).settling = false ∧ (t.ir c).mode = (s.ir c).mode) ∧
    (x.use = .run → exec (.laneSettled n) s = .next s) ∧
    (∀ e i, x.failing = some e → e < s.last.edge → x.under = none → s.freeUnderstudy = some i →
      x.use = .run → ∃ t, exec (.laneSubstitution n) s = .next t ∧ s.keeps t ∧
        (t.lane n).under = some i ∧ (t.lane n).failing = none ∧ (t.lane n).use = .run ∧
        (t.lane n).epoch = (x.epoch + 1) % 256 ∧ t.last = s.last) ∧
    (s.lanes.claims = [q] → q.delay = true → s.lanes.sharedUsed < 632 →
      ∃ t, exec .poolGrantRound s = .next t ∧ t.lanes.claims = [] ∧
        t.lanes.sharedUsed = s.lanes.sharedUsed + 1 ∧
        t.lane q.who = { s.lane q.who with delayBlocks := (s.lane q.who).delayBlocks + 1 } ∧
        t = { s with lanes := t.lanes }) ∧
    (exec (.coefEccError set false) s = .next { s with lanes := { s.lanes with
      coefFixed := Nat.min 65535 (s.lanes.coefFixed + 1) } }) ∧
    (∃ t, exec (.coefEccError set true) s = .next t ∧ s.keeps t ∧
      t.coefSet set = { s.coefSet set with ecc := true } ∧ t.last = s.last)

/-- The rows of the FM receivers: a lock tick counts toward LOCKED and a no-lock tick away from it (R420,
R421); a block without errors at its place joins its group (R437); a detector block of settled samples gives
LEVEL, and one with a marked sample leaves it (R396, R398, R419); a tick of a programme output moves soft mute
and blend toward what LEVEL and USN ask for, and blend to 0 without lock (R428–R430, R432); and a superframe's
quality record is kept (R454).  Where the spec leaves a point open it states the choice of the model: log entries
5, 32, 82, 85. -/
def Obligations.FmRowsComplete : Prop :=
  ∀ (s : State) (n : Nat) (f : FmLane) (err ago bit anchor : Nat) (syms : List RdsSym) (po : Fin 2)
      (lev : Int) (src : Nat) (aliased : Bool) (rec : List Byte),
    s.fmLane n = some f →
    let run := Nat.min 19 (f.lockRun + 1)
    let noRun := Nat.min 4 (f.noLockRun + 1)
    let word := rdsWord ((rdsBits f.locked syms).map (·.1))
    let info := word.toNat / 1024
    let x := s.lane n
    let k := Nat.max 15 x.sfdK + 1
    let p := s.fm.po.get po
    let sm := s.reg (0xC11 + 8 * po.val)
    let tick : (Copy → Prop) → Prop := fun y => ∃ t, exec (.poTick po) s = .next t ∧
      t = { s with fm := t.fm } ∧ t.fm.lanes = s.fm.lanes ∧ (t.fm.po.get po).source = p.source ∧
      (t.fm.po.get po).out = p.out ∧ y (t.fm.po.get po).main
    let met := s.metrics f.meas aliased
    (s.reception = true → s.laneHears n = true → err < 100 →
      f.level ≤ (s.reg 0xC00).toNat / 4096 % 256 →
      ∃ t, exec (.pilotTickJudge n true err) s = .next t ∧ s.keeps t ∧ t.last.pp = s.last.pp ∧
        t.fmLane n = some { f with lockRun := run, noLockRun := 0, locked := f.locked || run == 19 }) ∧
    (∃ t, exec (.pilotTickJudge n false err) s = .next t ∧ s.keeps t ∧ t.last.pp = s.last.pp ∧
      t.fmLane n = some { f with lockRun := 0, noLockRun := noRun, locked := f.locked && noRun != 4 }) ∧
    (∀ g, s.reception = true → f.sync = true → bit = f.lastBit + 26 → f.next = 1 → f.group = [g] →
      (∀ y ∈ syms, y.erased = false) → rdsRemainder word = 0x198 →
      ∃ t, exec (.rdsBlockDelivery n syms bit anchor ago) s = .next t ∧
        s.keeps t ∧ t.last.pp = s.last.pp ∧ t.fm.rdsBad = s.fm.rdsBad ∧
        t.fmLane n = some { f with
          lastBit := bit, next := 2, badRun := 0, group := [g, (info, 0)],
          groupVerB := some (info.testBit 11), hist := (0 :: f.hist).take 50 }) ∧
    (x.use ≠ .free → s.reception = true → k ≤ x.sfd.length → ∃ t, exec (.detectorBlock n) s = .next t ∧
      t = { s with lanes := t.lanes, fm := t.fm } ∧
      ((∀ e ∈ x.sfd.take k, e.2 = false) →
        t.lane n = { x with level := detectorLevel x.sfdFreq ((x.sfd.take k).map (·.1)), sfd := x.sfd.drop k }) ∧
      ((∃ e ∈ x.sfd.take k, e.2 = true) → t.lane n = { x with sfd := x.sfd.drop k }) ∧
      t.fmLane n = some { f with level := (t.lane n).level }) ∧
    (p.source = some src → s.reception = true → s.levelOf p.main.since = some lev → tick fun c =>
      c.since = [] ∧ c.mute = stepToward p.main.mute
        (Nat.min (4 * Nat.min 40 (sm.toNat / 256 % 64)) (4 * ((sm.toNat % 256 : Nat) : Int) - 2 * lev).toNat)
        16 1 ∧
      (s.laneLocked src = false → c.blend = stepToward p.main.blend 0 255 2040) ∧
      (s.laneLocked src = true → (s.reg (0xC10 + 8 * po.val)).bit 10 = false → c.blend =
        stepToward p.main.blend (s.blendTarget po lev (usnOf p.main.since)) 255 2040)) ∧
    (n < 96 → f.sub = none → exec (.fmQuality n aliased rec) s =
      .next (met.2.setFm n { f with
        quality := some ⟨State.qualityBytes f met.1, sfOf s.last.pp⟩, meas := [], gapSeen := false })) ∧
    (met.1.length = 8 ∧ met.2 = { s with freeCtr := met.2.freeCtr } ∧
      (aliased = true → byteAt met.1 6 = 0xFF ∧ byteAt met.1 7 = 0xFF))

/-! ### Following (chapter 11), DAB (chapter 12) and infrared (chapter 14) -/

/-- The rows of following: a MPX correlation ends at its boundary with what its recordings give (R464, R467);
the end of the target's slew begins the wait of AT (R475, R477); the splice edge gives the target its offset and
begins the cross-fade (R478, R479); the fade's end makes the target the output's source (R479); and an ARMED
splice that its expiry finds untriggered ends without effect on what is heard (R477).  Where the spec leaves a
point open it states the choice of the model: log entries 28, 35, 36. -/
def Obligations.FollowRowsComplete : Prop :=
  ∀ (s : State) (id : Nat) (q : Corr) (sp : Splice),
    let src := fieldBE sp.blk 1 1
    let tgt := fieldBE sp.blk 2 1
    let po := fieldBE sp.blk 0 1
    let o := s.offsetOf src
    let m := State.corrPeak q
    let result : Bool → Int → Nat → Nat → CorrResult := fun ok d conf ratio =>
      ⟨id, fieldBE q.blk 1 1, fieldBE q.blk 2 1, true, ok, d, conf, ratio, s.last.edge⟩
    (s.follow.corrs = [q] → q.id = id → fieldBE q.blk 0 1 = 0 → (byteAt q.blk 4).getLsbD 0 = false →
      q.start + (fieldBE q.blk 3 1 + 11) * 456 ≤ s.last.edge → ∃ t, exec (.correlateReply id) s = .next t ∧
        s.keeps t ∧ t.last = s.last ∧ t.follow.corrs = [] ∧ t.follow.offsets = s.follow.offsets ∧
        (State.corrMissing q = true → t.follow.results.head? = some (result false 0 0 0)) ∧
        (State.corrMissing q = false → t.follow.results.head? = some (
          if m.1.natAbs ≤ 400000000 then result true m.1 (Nat.min 255 m.2.1) (Nat.min 255 m.2.2)
          else result false 0 0 0))) ∧
    (s.follow.splices = [sp] → sp.id = id → sp.stage = .align → po < 2 → fieldBE sp.blk 3 1 = 0 →
      (s.lane tgt).slewing = false →
      ∃ t, exec (.spliceAlignEnd id) s = .next t ∧ s.keeps t ∧ t.last = s.last ∧ t.lanes = s.lanes ∧
        t.fm = s.fm ∧ t.follow.splices = [{ sp with stage := .waiting, stageEdge := s.last.edge }]) ∧
    (s.follow.splices = [sp] → sp.id = id → sp.stage = .waiting → sp.stageEdge < s.last.edge →
      fieldBE sp.blk 6 6 ≤ s.last.pp → (byteAt sp.blk 20).getLsbD 0 = false → fieldBE sp.blk 12 2 ≠ 0 →
      ∃ t, exec (.spliceEdge id false) s = .next t ∧ s.keeps t ∧ t.last = s.last ∧
        t.offsetOf tgt = ((if o.2 then o.1 else 0) + nsToTicks sp.d, o.2) ∧ t.follow.splices =
          [{ sp with stage := .fade, stageEdge := s.last.edge, edgePp := s.last.pp }]) ∧
    (s.follow.splices = [sp] → sp.id = id → sp.stage = .fade → po < 2 →
      fieldBE sp.blk 12 2 * 48 ≤ (vget Po.init s.fm.po po).fadeK →
      ∃ t, exec (.spliceFadeEnd id) s = .next t ∧ s.keeps t ∧ t.last = s.last ∧ t.follow.splices = [] ∧
        t.follow.done = Nat.min 65535 (s.follow.done + 1) ∧
        (vget Po.init t.fm.po po).source = some tgt) ∧
    (s.follow.splices = [sp] → sp.id = id → sp.stage = .armed → fieldBE sp.blk 6 6 ≤ s.last.pp →
      ∃ t, exec (.spliceExpiry id) s = .next t ∧ s.keeps t ∧ t.last = s.last ∧ t.follow.splices = [] ∧
        t.follow.offsets = s.follow.offsets ∧ t.fm.lanes = s.fm.lanes ∧
        (∀ i, i < 2 → (vget Po.init t.fm.po i).source = (vget Po.init s.fm.po i).source ∧
          (vget Po.init t.fm.po i).main = (vget Po.init s.fm.po i).main) ∧
        ∀ i, (t.lane i).delta = (s.lane i).delta ∧ (t.lane i).use = (s.lane i).use)

/-- The rows of DAB: a first null in SEARCH is remembered and a second one a frame later gives SYNC (R498,
R502); a missed null carries the count on, and the second in succession gives HOLDOVER (R502); ACQTIME ends an
acquisition (R500); an announced reconfiguration takes effect at its CIF (R505); raw data leave by the stream
port (R513); and a failed decoder is IDLE with its next epoch (R527). Where the spec leaves a point open it
states the choice of the model: log entry 39. -/
def Obligations.DabRowsComplete : Prop :=
  ∀ (s : State) (d : Fin 2) (anchor ago cif : Nat) (foff : Int) (fibs : List Fib) (c : CifSub),
    let x := s.decoder d
    let a := anchor - rxDelay (s.groupDelay (s.lane (100 + d.val))) 2880
    let t0 : Int := (a : Int) - (s.last.latched ago).1
    let fly := Nat.max 2 ((s.reg (0xD00 + 0x20 * d.val)).toNat / 16 % 16)
    (s.reception = true → x.mode = .search → foff.natAbs ≤ 25000 → x.lastNull = none →
      exec (.dabFrame d anchor ago foff fibs) s =
        .next (s.setDab d { x with lastNull := some t0, foff := foff })) ∧
    (∀ u, s.reception = true → x.mode = .search → foff.natAbs ≤ 25000 → x.lastNull = some u →
      t0 = u + 456 * 65536 → ∃ t, exec (.dabFrame d anchor ago foff []) s = .next t ∧ s.keeps t ∧
        t.last = s.last ∧ (t.decoder d).mode = .sync ∧ (t.decoder d).lastNull = some t0 ∧
        (t.decoder d).missed = 0 ∧ (t.decoder d).epoch = x.epoch) ∧
    (x.mode = .sync → x.missed = 0 → ∃ t, exec (.dabFrameMissed d) s = .next t ∧ s.keeps t ∧
      t.last.pp = s.last.pp ∧ (t.decoder d).mode = .sync ∧ (t.decoder d).missed = 1 ∧
      (t.decoder d).lastNull = x.lastNull.map fun u => u + 456 * 65536) ∧
    (x.mode = .sync → x.missed = 1 → 2 < fly → ∃ t, exec (.dabFrameMissed d) s = .next t ∧
      s.keeps t ∧ t.last.pp = s.last.pp ∧ (t.decoder d).mode = .holdover ∧ (t.decoder d).missed = 2) ∧
    (∀ id, x.startReq = some id →
      x.startEdge + Nat.max 8 ((s.reg 0xD40).toNat % 256) * 456 ≤ s.last.edge →
      ∃ t, exec (.acqtimeExpiry d) s = .next t ∧ s.keeps t ∧ t.last.pp = s.last.pp ∧
        (t.decoder d).mode = .idle ∧ (t.decoder d).startReq = none ∧ (t.decoder d).sels = []) ∧
    (s.reception = true → x.mode ≠ .idle → x.sels = [] → x.changeAt = some cif →
      ∃ t, exec (.cifBoundary d cif) s = .next t ∧
      s.keeps t ∧ t.last = s.last ∧
      t.decoder d = { x with mci := x.nextMci, nextMci := [], changeAt := none }) ∧
    (∀ q f, s.reception = true → x.mode ≠ .idle → x.sels = [q] → q.id = c.id → q.fromCif = some f →
      (cif + 5000 - f) % 5000 < 2500 → q.raw = true → q.super = false → q.packet = false →
      (s.reg 0x3C0).bit 0 = true → s.port.drop = none → s.bufUsed + 18 + c.data.length ≤ 262080 →
      ∃ t, exec (.cifDecoded d cif anchor [c]) s = .next t ∧ t.dab = s.dab ∧
        t = { s with dab := t.dab, port := t.port } ∧
        t.port.queue = s.port.queue ++ [⟨State.packetBytes 1 (d.val * 128 + q.id)
          ⟨s.last.epoch, anchor / 65536⟩ s.port.seq (bytesBE 2 cif ++ c.data)⟩] ∧
        t.port.seq = (s.port.seq + 1) % 65536) ∧
    (s.supply.dom[3] = .up → x.failed = false → ∃ t, exec (.dabDecoderFailed d) s = .next t ∧
      s.keeps t ∧ t.last.pp = s.last.pp ∧ (t.decoder d).failed = true ∧ (t.decoder d).mode = .idle ∧
      (t.decoder d).epoch = (x.epoch + 1) % 256 ∧ (t.decoder d).sels = [])

/-- The rows of infrared: the ambient loop (R585), mark edges and the burst's end (R587–R589, R598), flooding,
its hold and recovery (R590–R593), STUCK and its release (R594), RECENTRE (R596), the pair window (R599), the
raising of a decided code (R602), and the end of a transmitted code (R607, R608).  Where the spec leaves a
point open it states the choice of the model: log entry 40. -/
def Obligations.InfraredRowsComplete : Prop :=
  ∀ (s : State) (c : Fin 2) (y : Iq) (us at_ carrier peak lo hi cause n : Nat) (irin : List Nat)
      (blk : List Iq) (b : IrBurst) (out : Fin 4),
    let x := s.ir c
    let len := Nat.max 1 irin.length
    let off := ((irin.sum : Int) - 2048 * len).natAbs
    let z := x.block at_ irin blk
    let on : IrChan → Host.Outcome State Fault Refusal → Prop := fun y r => ∃ t, r = .next t ∧
      s.keeps t ∧ t.last = s.last ∧ t.ir c = y
    (s.clk.refOk = true → ∃ t, exec (.irAmbientStep irin) s = .next t ∧ t = { s with infra := t.infra } ∧
      t.infra.chan = s.infra.chan ∧
      (irin.sum % len = 0 → t.infra.mean = Nat.min 4095 (irin.sum / len)) ∧
      (off * 10 ≤ 4096 * len → t.infra.bias = s.infra.bias) ∧
      ((s.ir 0).mode ≠ .stuck → (s.ir 1).mode ≠ .stuck → 4096 * len < off * 10 → 2048 * len < irin.sum →
        t.infra.bias = Nat.min 1023 (s.infra.bias + 1)) ∧
      ((s.ir 0).mode ≠ .stuck → (s.ir 1).mode ≠ .stuck → 4096 * len < off * 10 → irin.sum < 2048 * len →
        t.infra.bias = s.infra.bias - 1) ∧
      ((s.ir 0).mode = .stuck → t.infra.bias = s.infra.bias) ∧
      t.infra.recentre = (s.infra.recentre || decide (4096 * len * 4 < off * 10))) ∧
    (s.reception = true → x.mode = .clear → s.irBlind c = false → x.inMark = false → x.burst = none →
      envelope y < x.on → x.endGap ≤ x.lead + us →
      on { x with
        inMark := true, marks := (at_ :: x.marks).take 4, lead := x.lead + us
        burst := some ⟨at_ - s.groupDelay (s.lane (94 + c.val)) * 19 / 7680, [], false, 0, 0, 255, 0⟩ }
        (exec (.irMarkEdge c y us at_ carrier peak) s)) ∧
    (s.reception = true → x.mode = .clear → s.irBlind c = false → x.inMark = true → x.burst = some b →
      b.durs = [] → x.off < envelope y → x.glitch ≤ us →
      on { x with
        inMark := false, spaceFrom := at_, lead := 0
        burst := some { b with
          durs := [us], cSum := b.cSum + carrier * (us - 200), cWt := b.cWt + (us - 200)
          peak := Nat.min b.peak peak } }
        (exec (.irMarkEdge c y us at_ carrier peak) s)) ∧
    (s.reception = true → x.burst = some b → x.inMark = false → s.irBlind c = false → b.cut = false →
      x.pair = false →
      on { x with burst := none, lead := b.tail, decided := x.decided ++
        [⟨some b.closed, none, stOk, 0, 0, [0], s.last.edge⟩] } (exec (.irBurstEnd c) s)) ∧
    (∀ f, s.reception = true → x.burst = some b → x.inMark = false → s.irBlind c = false → b.cut = false →
      x.pair = true → State.irPartner x b.start = some f → f.burst.cut = false →
      on { x with
          burst := none, lead := b.tail, firsts := x.firsts.filter fun g => g != f,
          decided := x.decided ++ [⟨some f.burst, some b.closed, stOk, 0, 0, [0, 1], s.last.edge⟩] }
        (exec (.irBurstEnd c) s)) ∧
    (s.reception = true → x.mode = .clear → z.criterion x.sat at_ = cause → cause ≠ 0 →
      ∃ t, exec (.irFloodBlock c at_ irin blk) s = .next t ∧ s.keeps t ∧
        t.last = s.last ∧ (t.ir c).mode = .flood ∧ (t.ir c).cause = cause ∧
        (t.ir c).critEdge = s.last.edge ∧ t.infra.floods = Nat.min 255 (s.infra.floods + 1)) ∧
    (s.reception = true → x.mode = .clear → z.criterion x.sat at_ = 0 →
      on z (exec (.irFloodBlock c at_ irin blk) s)) ∧
    (x.mode = .flood → x.critEdge + x.floodHold ≤ s.last.edge →
      on { x with mode := .recover, floor := x.env, recFrom := s.last.pp * 256 }
        (exec (.floodholdExpiry c) s)) ∧
    (s.reception = true → x.mode = .recover → x.inMark = false →
      Nat.max x.spaceFrom (x.recFrom + irUnits 1000) + irUnits x.endGap ≤ at_ →
      ∃ t, exec (.irRecoverEnd c at_) s = .next t ∧ s.keeps t ∧ t.last = s.last ∧
        (t.ir c).mode = .clear ∧ (t.ir c).cause = 0 ∧ (t.ir c).floor = x.floor) ∧
    (s.clk.refOk = true → hi ≤ lo + 4 → (s.ir 0).mode = .clear → (s.ir 1).mode = .off →
      ∃ t, exec (.irStuck lo hi) s = .next t ∧ s.keeps t ∧
        t.last = s.last ∧ (t.ir 0).mode = .stuck ∧ (t.ir 0).cause = 6 ∧ (t.ir 1).mode = .off) ∧
    (s.clk.refOk = true → lo + 16 < hi → ∃ t, exec (.irStuckRelease lo hi) s = .next t ∧ s.keeps t ∧
      t.last = s.last ∧ (t.ir c).mode = if x.mode = .stuck then .recover else x.mode) ∧
    (s.infra.recentre = true → s.clk.refOk = true → (s.ir 1).mode = .off → (s.ir 0).mode = .clear →
      (s.ir 0).inMark = false → (s.ir 0).burst = none → (s.ir 0).firsts = [] → s.irBlind 0 = false →
      (s.ir 0).spaceFrom + irUnits (s.ir 0).endGap ≤ s.last.pp * 256 →
      ∃ t, exec (.recentre n) s = .next t ∧ s.keeps t ∧ t.last = s.last ∧
        t.infra.bias = Nat.min 1023 n ∧ t.infra.recentre = false ∧
        (t.ir 0).holdOff = Nat.max (s.ir 0).holdOff (s.last.edge + 2)) ∧
    (∀ f rest, x.firsts = f :: rest → f.burst.start + x.pairMax ≤ s.last.pp * 256 → x.burst = none →
      f.burst.cut = false → f.unknown = false → f.blindWin = false → x.blindFrom = none →
      on { x with firsts := rest, decided := x.decided ++
        [⟨some f.burst, none, stNone, 9, 0, [0], s.last.edge⟩] } (exec (.pairWindowExpiry c) s)) ∧
    (∀ d, x.decided = [d] → d.edge < s.last.edge → ∃ t, exec (.irCode c) s = .next t ∧ s.keeps t ∧
      t.last = s.last ∧ t.ir c = { x with decided := [] } ∧
      t.infra.ok = if d.status = stOk then Nat.min 255 (s.infra.ok + 1) else s.infra.ok) ∧
    (∀ h, (s.irOut out).sending = some h → ∃ t, exec (.irTxCodeEnd out) s = .next t ∧ s.keeps t ∧
      t.last = s.last ∧ t.irOut out = ⟨(s.irOut out).waiting, none⟩ ∧
      t.infra.sent = Nat.min 255 (s.infra.sent + 1))

/-! ### The hearth link (chapter 13), the stream port and the audio ports (chapter 17) -/

/-- The rows of the hearth link: START completes at a superframe start and STOP at a slot start (R539); a live
slot hops HR (R543) and a DOWN slot takes the head of the queue (R545); LBT (R547, R565); a burst that no
check refuses is transmitted and its airtime counted (R288, R567), and one that a check refuses is not (R292);
its end (R289); MAXWAIT (R546); the buckets (R567); an uplink accepted (R559, R560); and a missed beacon
(R555, R737). Where the spec leaves a point open it states the choice of the model: log entry 42. -/
def Obligations.HearthRowsComplete : Prop :=
  ∀ (s : State) (p : Plan) (b : Burst) (f : HFrame) (rssi : Int) (handle : Word) (rx : HearthRx),
    let h := s.hearth
    let slot := h.slotStart / 19
    let role := p.roles.getD (slot % 24) 0
    let thr : Int := -((s.sealReg 0x623).toNat % 256 : Nat)
    let live : Prop := h.slotDue = true ∧ h.stopping = [] ∧ h.plan = some p ∧ h.mode = .running ∧
      h.deadSlot = false ∧ s.last.mode ≠ .stopped ∧ s.hrReady = true ∧ h.burst = none ∧ h.sched = []
    (h.mode = .starting → h.slotDue = true → s.last.pp % 456 = 0 → ∃ t, exec .hearthRunning s = .next t ∧
      s.keeps t ∧ t.last = s.last ∧ t.hearth = { h with mode := .running }) ∧
    (h.slotDue = true → h.stopping ≠ [] → ∃ t, exec .slotStart s = .next t ∧ s.keeps t ∧
      t.last = s.last ∧ t.hearth.mode = .stopped ∧ t.hearth.stopping = [] ∧ t.hearth.queue = [] ∧
      t.hearth.slotDue = false) ∧
    (live → role = 2 → ∃ t, exec .slotStart s = .next t ∧ s.keeps t ∧ t.last = s.last ∧
      t.hearth = { h with slotDue := false } ∧ (t.chain 2).lo = State.hopChannel p slot ∧
      (t.chain 2).mode = .rx ∧ t.radio.pinLnaen = true ∧ t.radio.pinPaen = false) ∧
    (∀ rest key, live → role = 1 → s.silent = false → h.queue = f :: rest →
      s.linkKey f.troupe = some key → ∃ t, exec .slotStart s = .next t ∧ s.keeps t ∧ t.last = s.last ∧
        t.hearth.queue = rest ∧ t.hearth.burst = some ⟨some f, false, slot, State.hopChannel p slot,
          frameBytes key (slot / 24 % 2 ^ 32) p.sync (f.troupe * 16 + f.type) f.seq false (slot % 24)
            f.payload, none, false⟩) ∧
    (h.burst = some b → b.onAir = false → b.lbt = none → s.lbtNeeded = true → rssi ≤ thr →
      exec (.lbtResult rssi) s = .next { s with hearth := { h with
        burst := some { b with lbt := some true } } }) ∧
    (h.burst = some b → b.onAir = false → b.lbt = none → s.lbtNeeded = true → thr < rssi →
      s.burstRefused b = none → b.frame = some f → b.isB = false → exec (.lbtResult rssi) s =
        .next { s with hearth := { h with
          burst := none, queue := { f with deferred := true } :: h.queue,
          lbtBusy := Nat.min 255 (h.lbtBusy + 1) } }) ∧
    (∀ a, h.burst = some b → b.onAir = false → s.hrReady = true → s.lbtNeeded = false →
      s.burstRefused b = none → s.subBand b.chan = some a → ∃ t, exec .burstTransmit s = .next t ∧
        t.last = s.last ∧ (t.chain 2).mode = .tx ∧ t.radio.pinPaen = true ∧ t.radio.pinTrsw = true ∧
        t.radio.pinLnaen = false ∧ t.radio.txCount = Nat.min 0xFFFFFFFF (s.radio.txCount + 1) ∧
        t.usedAirtime a = s.usedAirtime a + (b.bytes.length + 8) * 40 + 16) ∧
    (∀ k, h.burst = some b → b.onAir = false → s.hrReady = true → s.lbtNeeded = false →
      s.burstRefused b = some k → ∃ t, exec .burstTransmit s = .next t ∧ t.last = s.last ∧
        t.hearth.burst = none ∧ t.radio.chain = s.radio.chain ∧ t.radio.pinPaen = s.radio.pinPaen ∧
        t.radio.txCount = s.radio.txCount ∧ t.theSeal.buckets = s.theSeal.buckets) ∧
    (s.theSeal.sealed = false → s.burstRefused b = some 1) ∧
    (h.burst = some b → b.onAir = true → ∃ t, exec .burstEnd s = .next t ∧
      t = { s with radio := t.radio, hearth := t.hearth } ∧ t.hearth = { h with burst := none } ∧
      (t.chain 2).mode = .rx ∧ t.radio.pinPaen = false ∧ t.radio.pinParamp = 0 ∧
      t.radio.pinLnaen = true) ∧
    (h.plan = some p → h.queue = [f] → f.handle = handle → p.maxWait < f.starts →
      ∃ t, exec (.maxwaitTimeout handle) s = .next t ∧ s.keeps t ∧ t.last = s.last ∧
        t.hearth.queue = [] ∧ t.hearth.lost = Nat.min 255 (h.lost + 1) ∧
        t.tack.failHearth = Nat.min 255 (s.tack.failHearth + 1)) ∧
    (s.clk.refOk = true → s.supply.power = .run → exec .dutyBucketRoll s =
      .next { s with theSeal := { s.theSeal with
        dutySf := [], buckets := s.theSeal.buckets.map fun e => (e.1, e.2.drop 1 ++ [0]) } }) ∧
    (∀ key troupe, h.plan = some p → h.mode = .running → role = 2 → h.deadSlot = false →
      (s.chain 2).mode = .rx → rx.syncErrs ≤ 1 → (rx.offset - 500).natAbs ≤ 40 →
      fieldBE rx.bytes 4 1 ≤ 48 → 2 ≤ fieldBE rx.bytes 4 1 →
      rx.bytes.length = fieldBE rx.bytes 4 1 + 11 →
      fieldBE rx.bytes (fieldBE rx.bytes 4 1 + 9) 2 =
        (crc16 (rx.bytes.take (fieldBE rx.bytes 4 1 + 9))).toNat →
      fieldBE rx.bytes 0 1 = troupe * 16 + 1 → p.troupes.testBit troupe = true →
      s.linkKey troupe = some key →
      let payload := (rx.bytes.drop 5).take (fieldBE rx.bytes 4 1)
      let u : UpTriple := ⟨troupe, fieldBE payload 0 2 % 4096, fieldBE rx.bytes 1 2⟩
      hearthMac key (h.slotStart / 456 % 2 ^ 32) p.sync (troupe * 16 + 1) (fieldBE rx.bytes 1 2) payload =
        (rx.bytes.drop (fieldBE rx.bytes 4 1 + 5)).take 4 →
      h.triples.contains u = false → ∃ t, exec (.hearthFrameRx rx) s = .next t ∧ s.keeps t ∧
        t.last = s.last ∧ t.hearth.upOk = Nat.min 65535 (h.upOk + 1) ∧ t.hearth.acks.contains u = true ∧
        t.hearth.triples = (u :: h.triples).take 64) ∧
    (s.welt.role = .parted → exec (.beaconMissed true) s = .next { s with welt := { s.welt with
      arbitrating := true, absences := s.welt.absences + 1 } }) ∧
    ((s.reg 0x608).bit 8 = true → h.bcnQual = false → exec (.beaconMissed false) s =
      .next { s with hearth := { h with bcnMiss := Nat.min 3 (h.bcnMiss + 1), bcnRun := 0 } })

/-- The rows of the stream port and the audio ports: the head packet leaves unless STHOLD# holds it (R692,
R694); an audio frame sends the sample at its read point, or zeros where the port has none, and is counted
(R701, R702, R708), and its due markers are produced (R708); tracking corrects by at most 500 ppm, following a
slave clock (R704, R705); and a lost clock mutes the port until it returns and the port realigns (R707, R709).
Where the spec leaves a point open it states the choice of the model: log entry 44. -/
def Obligations.PortRowsComplete : Prop :=
  ∀ (s : State) (p : Fin 2) (sub : Nat) (clk : Int),
    let a := s.audio p
    let wide := (s.audCtrl p).bit 2
    let err := s.trackError p sub
    let sends : (Audio → Prop) → Prop := fun y => ∃ t, exec (.audioFrame p) s = .next t ∧ s.keeps t ∧
      t.last = s.last ∧ (t.audio p).frames = (a.frames + 1) % 2 ^ 32 ∧ y (t.audio p)
    (∀ k rest, (s.reg 0x3C0).bit 0 = true → s.supply.dom[0] = .up → s.clk.sckLock = true →
      s.port.queue = k :: rest → exec (.streamPacketSend true) s =
        .next { s with port := { s.port with stHold := true, queue := rest, sent := some k } }) ∧
    exec (.streamPacketSend false) s = .next { s with port := { s.port with stHold := false } } ∧
    (s.audSends p = true → a.markers = [] → sends fun y => y.markers = [] ∧ y.routed = a.routed) ∧
    (s.audSends p = true → s.audSample p = none → sends fun y => y.sentL = 0 ∧ y.sentR = 0 ∧
      y.markers = a.markers) ∧
    (∀ l r, s.audSends p = true → s.audSample p = some (l, r) → a.fading = 0 → sends fun y =>
      y.sentL = slotOf wide l ∧ y.sentR = slotOf wide r) ∧
    (∀ m v, s.audSends p = true → s.audSample p = some v → a.markers = [m] → m.due * 65536 ≤ a.read →
      sends fun y => y.markers = []) ∧
    (s.audSends p = true → err.natAbs ≤ s.alignMax p * 65536 →
      ∃ t, exec (.audioTrackMeasure p sub clk) s = .next t ∧
        t = { s with port := t.port, freeCtr := t.freeCtr } ∧ ∃ x : Int, -500 ≤ x ∧ x ≤ 500 ∧
          t.audio p = { a with
            err := roundDiv err 256, ratio := x, slave := if s.audSlaved p then -clk else 0 }) ∧
    (s.supply.dom[0] = .up → s.audOn p = true → s.audSlaved p = true → a.muted = false →
      ∃ t, exec (.audioClockLoss p) s = .next t ∧ s.keeps t ∧ t.last = s.last ∧
        t.audio p = { a with muted := true, lock := false }) ∧
    (s.supply.dom[0] = .up → s.audOn p = true → a.muted = true →
      ∃ t, exec (.audioClockReturn p sub) s = .next t ∧ s.keeps t ∧ t.last = s.last ∧
        t.audio p = { a with
          muted := false, lock := true, fading := 2 * s.fadeFrames p + 1
          shift := (s.wantedStamp p sub : Int) - a.read })

/-! ### Welt pairs (chapter 18) -/

/-- The rows of the welt link: heartbeats (R712, R716, R721), its loss (R716, R720), the resend (R713), the
role swap, the takeover (R738, R742) and the deadline of a link that does not come up (Table 18-4). Where the
spec leaves a point open it states the choice of the model: log entry 45. -/
def Obligations.WeltLinkRowsComplete : Prop :=
  ∀ (s : State) (hb : Heartbeat) (q : Pos), s.weltOn = true →
    let w := s.welt
    let parts : Instr → Prop := fun i => ∃ t, exec i s = .next t ∧ t.welt.role = .parted ∧
      t.welt.up = false ∧ t.welt.unacked = [] ∧ t.last.pp = s.last.pp ∧ t.theSeal = s.theSeal
    (w.role = .active → s.tack.lastDone = some q → s.weltHeld < 524288 →
      exec .heartbeatSend s = .next { s with welt := { w with
        conf := q, beat := some { s.heartbeat with conf := q.pp } } }) ∧
    (s.heartbeat.role = w.role ∧ s.heartbeat.digest = s.pairingDigest ∧ s.heartbeat.ack = w.rxSeq) ∧
    (w.up = true → w.role = .standby → w.deciding = false → hb.digest = s.pairingDigest →
      ∃ t, exec (.heartbeatRx hb) s = .next t ∧ t = { s with welt := t.welt } ∧ t.welt.role = .standby ∧
        t.welt.hbMiss = 0 ∧ t.welt.partner = hb.role ∧ t.welt.conf = ⟨hb.pos.epoch, hb.conf⟩ ∧
        t.welt.troupeSeq = hb.troupeSeq) ∧
    (w.up = false → w.hbRun = 3 → w.unacked = [] → w.role = .active → w.deciding = false →
      hb.digest = s.pairingDigest → hb.role = .standby → ∃ t, exec (.heartbeatRx hb) s = .next t ∧
        t = { s with welt := t.welt } ∧ t.welt.up = true ∧ t.welt.role = .active ∧ t.welt.txSeq = 1) ∧
    (w.hbMiss < 3 → exec .heartbeatMissed s =
      .next { s with welt := { w with hbMiss := w.hbMiss + 1, hbRun := 0 } }) ∧
    (w.hbMiss = 3 → w.up = true → w.role = .standby → parts .heartbeatMissed) ∧
    (w.partner = .active → w.up = true → w.role = .standby → parts .wlsyncEdgeLoss) ∧
    (w.up = true → w.role = .standby → parts .symbolLockLoss) ∧
    (w.unacked ≠ [] → exec .weltResend s =
      .next { s with welt := { w with resends := Nat.min 255 (w.resends + 1) } }) ∧
    (w.up = true → w.role = .active → w.yielding = true → ∃ t, exec .roleSwap s = .next t ∧
      t.welt.role = .standby ∧ t.welt.adopting = true ∧ t.last.pp = s.last.pp ∧
      t.theSeal = s.theSeal) ∧
    (w.up = true → w.role = .standby → w.partner = .active → ∃ t, exec .roleSwap s = .next t ∧
      t.welt.role = .active ∧ t.welt.partner = .standby ∧ t.last.pp = s.last.pp) ∧
    (s.mayTakeOver = true → ∃ t, exec .takeover s = .next t ∧ t.welt.role = .active ∧
      t.welt.take = s.last.pp % 2 ^ 32 ∧ t.welt.arbitrating = false ∧ t.last.pp = s.last.pp) ∧
    (w.deciding = true → ∃ t, exec .linkUpDeadline s = .next t ∧ t.welt.role = .parted ∧
      t.welt.deciding = false ∧ t.last.pp = s.last.pp)

/-- The frames of an active member as a STANDBY takes them, the next in order and with a good CRC (R713,
R724): the position is copied (R44), records, Last events, host rings and messages are queued to their benches
(R726), a decision waits in its block (R728), digests are compared (R735), pages are kept (R731); the adoption
is asked for, taken, or starts again (R732, R733). Where the spec leaves a point open it states the choice of
the model: log entry 45. -/
def Obligations.WeltFramesComplete : Prop :=
  ∀ (s : State) (h : WHead) (pos : Pos) (e : Event) (b i app : Nat) (blk page : List Byte)
      (rep : DigestRep) (a : Adopted),
    s.weltOn = true → h.crcOk = true → h.seq = (s.welt.rxSeq + 1) % 65536 →
    let got : State := { s.weltAck h.ack with welt := { (s.weltAck h.ack).welt with rxSeq := h.seq } }
    let takes : Prop := b < 5 ∧ (s.bench b).takes = true ∧ (s.bench b).queue.length < 1024 ∧
      (s.bench b).held = []
    let queued : Instr → Event → Prop := fun c e => ∃ t, exec c s = .next t ∧ t.welt.rxSeq = h.seq ∧
      t.last = s.last ∧ t.mail = s.mail ∧ (t.bench b).queue = insertEvent e (s.bench b).queue ∧
      (t.bench b).data = (s.bench b).data
    (s.welt.role = .standby →
      (∃ t, exec (.weltTickFrame h pos) s = .next t ∧ t.welt.rxSeq = h.seq ∧ t.last.pp = pos.pp ∧
        t.last.epoch = pos.epoch ∧ t.theSeal = s.theSeal) ∧
      (takes → b < 4 → queued (.weltRecordFrame h e (2 ^ b)) e) ∧
      (takes → queued (.weltLastevFrame h e) e.asPartner) ∧
      (takes → queued (.weltHostmsgFrame h (.ring b i pos)) (State.eyeletEvent i pos).fromPartner) ∧
      (takes → b < 4 → ∃ t, exec (.weltB4msgFrame h b e) s = .next t ∧ t.welt.rxSeq = h.seq ∧
        t.last = s.last ∧ (t.bench b).data = (s.bench b).data ∧ (t.bench b).queue = (s.bench b).queue ∧
        (t.bench b).inbox.length = (s.bench b).inbox.length + 1) ∧
      exec (.weltDecisionFrame h 13 blk app) s = .next { got with last := { got.last with
        govReqs := got.last.govReqs ++ [⟨0, blk, app, s.last.edge⟩] } } ∧
      (s.welt.inSync = true → s.welt.reports = [rep] → s.welt.theirs = [] → rep.void = false →
        ∃ t, exec (.weltDigestFrame h rep) s = .next t ∧ t = { s with welt := t.welt } ∧
          t.welt.role = .standby ∧ t.welt.matches_ = s.welt.matches_ + 1 ∧ t.welt.reports = [] ∧
          t.welt.theirs = []) ∧
      exec (.weltCkptFrame h i page) s = .next { got with welt := { got.welt with
        pages := kput got.welt.pages i page } } ∧
      (s.welt.adopting = true → ∃ t, exec (.adoptionComplete a) s = .next t ∧ t.welt.role = .standby ∧
        t.welt.adopting = false ∧ t.welt.inSync = true ∧ t.prog.ledger = canon 0 a.ckpt.ledger ∧
        t.tack.pending = a.tacks ∧ t.intake.streams = a.streams ∧ t.last.pp = a.pp ∧
        t.last.epoch = a.epoch ∧ t.theSeal = s.theSeal) ∧
      (s.welt.adopting = true → s.welt.adoptFails = 0 → ∃ t, exec .adoptionTimeout s = .next t ∧
        t.welt.role = .standby ∧ t.welt.adopting = true ∧ t.welt.adoptFails = 1 ∧ t.last = s.last) ∧
      (s.welt.adopting = true → s.welt.adoptFails = 1 → ∃ t, exec .adoptionTimeout s = .next t ∧
        t.welt.role = .parted ∧ t.welt.adopting = false)) ∧
    (s.welt.role = .active → exec (.weltAdoptFrame h) s =
      .next { got with welt := { got.welt with sendFull := true } })

/-! ### The register space (chapters 0, 21 and 22) -/

/-- A read returns what the register holds in the read part, followed by PEC when the host ACKs its last byte
(R619), and changes nothing besides where the register is
RO and leads no capture; a read of LAST_PP_LO captures its followers (R828), and RC registers are cleared by
their read. A write of an RO or RC register does nothing; one of a configuration register, or of a register
that bench 4 owns while bench 4 is OFF or HALTED, waits for the tick edge with the edge of the write; one of
an owned register is otherwise ignored; one of a plain register sets its writable bits alone (R823, R838,
Table 0-6); and a wrong PEC refuses the write (R620). Where the spec leaves a point open it states the choice
of the model: log entries 6, 51. -/
def Obligations.RegisterAccessFollowsTheMap : Prop :=
  ∀ (s : State) (a : Nat) (v : Word) (l : RegLine) (ack : Bool), s.answers = true →
    regLine a = some l → s.domainRefusal (regDomain a) = none → (0xF00 ≤ a → s.keeperBusy = false) →
    let reads : List Byte → List Byte := fun data => data ++ if ack then
      [pecOf (bytesBE 1 (2 * s.bus.addr) ++ bytesBE 1 0x10 ++ bytesBE 2 a ++
        bytesBE 1 (2 * s.bus.addr + 1) ++ data)] else []
    let gives : State → Word → Host.Outcome State Fault Refusal := fun t w =>
      .next { t with bus := { t.bus with out := reads (bytesBE 4 w.toNat) } }
    let chainReg : Prop := a = 0x500 ∨ a = 0x520 ∨ a = 0x600
    (∃ t, exec (.regRead a ack) s = .next t ∧ t.bus.out = reads (bytesBE 4 (s.readFull a).1.toNat)) ∧
    exec (.captureRead a ack) s = exec (.regRead a ack) s ∧
    exec (.readClear a ack) s = exec (.regRead a ack) s ∧
    (l.access = .ro → (∀ x ∈ [0x012, 0x104, 0x186, 0x202, 0x204, 0x304, 0x413, 0x506, 0x526, 0xC21, 0xC43,
        0xE02], a ≠ x) →
      ∃ t, exec (.regRead a ack) s = .next t ∧ t = { s with bus := t.bus, freeCtr := t.freeCtr }) ∧
    (a = 0x104 → exec (.captureRead a ack) s = gives { s with last := { s.last with
      latchHi := s.last.pp / 2 ^ 32, latchEpoch := s.last.epoch } } (BitVec.ofNat 32 s.last.pp)) ∧
    (a = 0x011 → exec (.readClear a ack) s =
      gives { s with flt := { s.flt with lost := 0 } } (BitVec.ofNat 32 s.flt.lost)) ∧
    (a = 0x184 → exec (.readClear a ack) s =
      gives { s with tack := { s.tack with disp := 0 } } (BitVec.ofNat 32 s.tack.disp)) ∧
    (a = 0x2A1 → exec (.readClear a ack) s =
      gives { s with intake := { s.intake with dups := 0 } } (BitVec.ofNat 32 s.intake.dups)) ∧
    (a = 0x604 → exec (.readClear a ack) s =
      gives { s with radio := { s.radio with txCount := 0 } } (BitVec.ofNat 32 s.radio.txCount)) ∧
    (l.access = .ro ∨ l.access = .rc → exec (.regWrite a v .good) s = .next s) ∧
    (l.cfg = true → a ≠ 0x100 → a ≠ 0x101 → a ≠ 0x608 → s.supply.dom[2] = .up →
      exec (.regWrite a v .good) s =
        .next { s with regWrites := s.regWrites ++ [⟨a, v, s.last.edge⟩] }) ∧
    (l.owned = true → s.hostOwns = true → s.supply.dom[2] = .up → ¬chainReg →
      exec (.regWrite a v .good) s =
        .next { s with regWrites := s.regWrites ++ [⟨a, v, s.last.edge⟩] }) ∧
    (l.owned = true → s.hostOwns = false → ¬chainReg → exec (.regWrite a v .good) s = .next s) ∧
    (regsWf s.regs = true → a ∈ [0x006, 0x303, 0x380, 0x383, 0x3C0, 0x412, 0x720, 0xC42] →
      ∃ t, exec (.regWrite a v .good) s = .next t ∧ t = { s with regs := t.regs } ∧
        t.reg a = v &&& l.mask ∧ ∀ b, b ≠ a → t.reg b = s.reg b) ∧
    exec (.regWrite a v .bad) s = .next (s.nack 0x11 6 2)

/-- The register rows of the radio, the lanes, the decoders and infrared: rows of owned registers wait for the
tick edge (R838), where EN assigns a lane or releases it (R850), FADE begins a cross-fade, BR_MODE takes the
mode (R840), STATE orders its chain (R269), RESET returns a decoder to service (R32), and TXRESET and RXRESET
end the codes of their outputs and begin new epochs of the IR lanes (R603, R610); RESET of a chain puts it to
SLEEP with its epoch incremented and back in service (R309); the lanes named return to service (R855); the
coefficient RAM is read and written at its index (R852); HR_PAEVT's bits are cleared by ones; a sweep and a
commit begin (R334, R794); a clock is let run again (R347); and STOP of HL_CTRL waits for the slot (R539). Where
the spec leaves a point open it states the choice of the model: log entries 6, 69. -/
def Obligations.RadioRegisterRowsComplete : Prop :=
  ∀ (s : State) (v : Word) (lane : Nat) (c : Fin 3) (d : Fin 2) (k : Fin 4), s.answers = true →
    s.supply.dom[2] = .up → s.supply.dom[3] = .up → s.supply.dom[4] = .up → s.tablesWf = true →
    let queued : Nat → Host.Outcome State Fault Refusal := fun a =>
      .next { s with regWrites := s.regWrites ++ [⟨a, v, s.last.edge⟩] }
    let idx := s.reg 0xB88
    let set := idx.toNat % 32
    let i := idx.toNat / 32 % 64
    (s.hostOwns = true → lane ≤ 101 → exec (.laneCtrlEnWrite lane v .good) s = queued (0x800 + 8 * lane)) ∧
    (s.hostOwns = true → lane ≤ 101 →
      exec (.laneFirFadeWrite lane v .good) s = queued (0x803 + 8 * lane)) ∧
    (s.hostOwns = true → exec (.brModeWrite v .good) s = queued 0x540 ∧
      exec (.dabDecoderReset d v .good) s = queued (0xD00 + 0x20 * d.val) ∧
      exec (.irTxreset v .good) s = queued 0x700 ∧ exec (.irRxreset v .good) s = queued 0x700) ∧
    (s.hostOwns = true → v.bit 3 = false → (c = 2 → s.hearth.mode = .stopped) →
      exec (.chainStateWrite c v .good) s = queued (chainCtrlReg c)) ∧
    (∀ (u : State) (e : Nat), u.lanes.reqs = [] → e < u.last.edge → u.tablesWf = true →
      let x := u.lane lane
      (u.regWrites = [⟨0x800 + 8 * lane, v, e⟩] → lane < 94 →
        (∀ z y, v.bit 0 = true → x.use = .free →
          (u.setLane lane { x with hold := v.bit 1, reson := v.bit 2 }).bindLane
            { x with hold := v.bit 1, reson := v.bit 2, preset := .custom } = some z →
          y = { z with centre := u.centreOf z } → u.stagesOk y = true → u.branchesOf y ≠ 0 →
          ∃ w, exec .laneApplyEdge u = .next w ∧ (w.lane lane).use = .run ∧ (w.lane lane).preset = .custom ∧
            (w.lane lane).centre = y.centre ∧ (w.lane lane).nco = z.nco ∧
            (w.lane lane).epoch = (z.epoch + 1) % 256) ∧
        (v.bit 0 = false → x.use = .run → ∃ w, exec .laneApplyEdge u = .next w ∧ (w.lane lane).use = .free)) ∧
      (u.regWrites = [⟨0x803 + 8 * lane, v, e⟩] → lane < 94 → v.bit 11 = true → x.use = .run →
        x.fading = false → u.stagesOk { x with setA := v.toNat % 32, setB := v.toNat / 32 % 32 } = true →
        0 < v.toNat / 65536 % 8192 → v.toNat / 65536 % 8192 ≤ 4096 →
        ∃ w, exec .laneApplyEdge u = .next w ∧ (w.lane lane).fading = true ∧
          (w.lane lane).xf = v.toNat / 65536 % 8192 ∧ (w.lane lane).setA = v.toNat % 32 ∧
          (w.lane lane).setB = v.toNat / 32 % 32)) ∧
    (∀ (u : State) (e : Nat), e < u.last.edge → u.tablesWf = true →
      (u.regWrites = [⟨0x540, v, e⟩] → (u.chain 0).tunes = [] → v.toNat % 4 < 2 → u.radio.mode ≠ 2 →
        ∃ w, exec (.chainTuneApply 0) u = .next w ∧ w.radio.mode = v.toNat % 4 ∧ w.regWrites = []) ∧
      (u.regWrites = [⟨chainCtrlReg c, v, e⟩] → (u.chain c).tunes = [] → v.toNat % 8 ≤ 3 →
        u.hrOwned c = false → (u.chain c).failed = false → u.chainBusy c = false →
        (u.chain c).mode ≠ State.modeOfCode (v.toNat % 8) →
        ∃ w x, exec (.chainTuneApply c) u = .next w ∧ (w.chain c).trans = some x ∧
          x.target = State.modeOfCode (v.toNat % 8) ∧ x.reqId = none ∧ (w.chain c).mode = (u.chain c).mode) ∧
      (u.regWrites = [⟨0xD00 + 0x20 * d.val, v, e⟩] → v.bit 0 = true →
        (u.edgeWrites.decoder d).failed = false ∧
        (u.edgeWrites.decoder d).epoch = ((u.decoder d).epoch + 1) % 256 ∧
        ((u.decoder d).mode ≠ .idle → (u.edgeWrites.decoder d).mode = .search)) ∧
      (u.regWrites = [⟨0x700, v, e⟩] →
        (∀ o, o < 4 → v.bit o = true → (u.edgeWrites.irOut o).sending = none ∧
          (u.edgeWrites.irOut o).waiting = none) ∧
        (v.bit 4 = true → (u.lane 94).use = .ir → ∀ n, n = 94 ∨ n = 95 →
          (u.edgeWrites.lane n).epoch = ((u.lane n).epoch + 1) % 256))) ∧
    (v.bit 3 = true → ∃ t, exec (.chainReset c v .good) s = .next t ∧ (t.chain c).mode = .sleep ∧
      (t.chain c).epoch = ((s.chain c).epoch + 1) % 256 ∧ (t.chain c).failed = false ∧
      (t.chain c).tunes = [] ∧ (t.chain c).gains = [] ∧ (t.chain c).trans = none ∧
      t.theSeal = s.theSeal ∧ t.store = s.store ∧ t.supply = s.supply) ∧
    (k.val < 3 → ∃ t, exec (.laneFailedWrite k v .good) s = .next t ∧ t = { s with lanes := t.lanes } ∧
      (∀ n, n < 32 → v.bit n = true → (t.lane (32 * k.val + n)).failed = false) ∧
      ∀ n, (∀ m, m < 32 → v.bit m = true → n ≠ 32 * k.val + m) → t.lane n = s.lane n) ∧
    (k = 3 → ∃ t, exec (.laneFailedWrite k v .good) s = .next t ∧ t = { s with lanes := t.lanes } ∧
      t.lanes.lane = s.lanes.lane ∧
      (∀ n : Fin 4, t.lanes.underFailed.get n = (s.lanes.underFailed.get n && !v.bit n.val)) ∧
      ∀ n : Fin 2, t.lanes.wideFailed.get n = (s.lanes.wideFailed.get n && !v.bit (4 + n.val))) ∧
    (v.toNat % 32 < 16 → ∃ t, exec (.laneCoefidxWrite v .good) s = .next t ∧ t = { s with regs := t.regs } ∧
      t.reg 0xB88 = v &&& 0x7FF) ∧
    (∃ t, exec (.laneCoefdatAccess none .absent) s = .next t ∧
      t = { s with bus := { s.bus with out := bytesBE 4 s.coefRead.toNat }, regs := t.regs } ∧
      (t.reg 0xB88).toNat / 32 % 64 = (if i = 48 ∨ i = 63 then 0 else i + 1)) ∧
    (i < 48 → s.coefNamed set = false → ∃ t, exec (.laneCoefdatAccess (some v) .good) s = .next t ∧
      t = { s with lanes := t.lanes, regs := t.regs } ∧
      sget 0 (t.coefSet set).taps i = BitVec.ofNat 32 (v.toNat % 2 ^ 18) ∧
      (t.coefSet set).ecc = (s.coefSet set).ecc ∧
      (t.coefSet set).len = (s.coefSet set).len ∧ ∀ n, n ≠ set → t.coefSet n = s.coefSet n) ∧
    (i = 48 → s.coefNamed set = false ∨ (s.coefSet set).ecc = true →
      ∃ t, exec (.laneCoefdatAccess (some v) .good) s = .next t ∧
        (t.coefSet set).len = State.coefLenOf v ∧ (t.coefSet set).ecc = false ∧
        (t.coefSet set).taps = (s.coefSet set).taps ∧ ∀ n, n ≠ set → t.coefSet n = s.coefSet n) ∧
    (i ≤ 48 → s.coefNamed set = true → (s.coefSet set).ecc = false →
      ∃ t, exec (.laneCoefdatAccess (some v) .good) s = .next t ∧
      t.lanes.coef = s.lanes.coef ∧ t.lanes.coefRef = Nat.min 65535 (s.lanes.coefRef + 1)) ∧
    exec (.hrPaevtClear v .good) s = .next { s with radio := { s.radio with
      paflt := s.radio.paflt && !v.bit 0, clamp := s.radio.clamp && !v.bit 1
      maskref := s.radio.maskref && !v.bit 2, noseal := s.radio.noseal && !v.bit 3 } } ∧
    (v.bit 17 = true → v.toNat / 2 ^ 18 % 8 ≠ 0 → s.sweepable (v.toNat / 2 ^ 18 % 8) = true →
      ∃ t, exec (.calSweep v .good) s = .next t ∧ t.clk.sweep = some ⟨v.toNat / 2 ^ 18 % 8, none, 0,
        (s.clk.table.filter fun e => (v.toNat / 2 ^ 18 % 8).testBit e.2.chain).map (·.1), 0, 0⟩ ∧
        t.clk.table = s.clk.table ∧ t.theSeal = s.theSeal) ∧
    (v.bit 17 = false → v.bit 16 = true → s.clk.sweep = none → s.store.commit = .idle →
      2040 ≤ s.energy → ∃ t, exec (.calCommit v .good) s = .next t ∧
        t = { s with regs := t.regs, store := { s.store with need := 2000, commit := .erase } }) ∧
    (v.bit 0 = true → v.bit 1 = false → s.clk.sysLock = false → exec (.sysrestart v .good) s =
      .next { s with clk := { s.clk with sysLost := false } }) ∧
    (v.bit 1 = true → v.bit 0 = false → s.clk.sckLock = false → exec (.sckrestart v .good) s =
      .next { s with clk := { s.clk with sckLost := false } }) ∧
    (v.bit 0 = true → s.hearth.mode ≠ .stopped → exec (.hlCtrlStop v .good) s =
      .next { s with hearth := { s.hearth with stopping := s.hearth.stopping ++ [0] },
                     regWrites := s.regWrites ++ [⟨0x608, v, s.last.edge⟩] })

/-- The register rows of the seal: before sealing, a write stages the view (R572) and the seal word with a
valid stage begins the programming (R573); after it, a tightening begins the programming of an amendment, and
a loosening changes nothing and reports LOOSE (R574). Where the spec leaves a point open it states the choice
of the model: log entry 64. -/
def Obligations.SealRowsComplete : Prop :=
  ∀ (s : State) (v : Word) (a : Nat), s.answers = true → s.supply.dom[1] = .up → s.store.op = none →
    440 ≤ s.energy → s.tablesWf = true →
    let put := v &&& State.sealMask a
    let x := s.theSeal
    (s.theSeal.sealed = false → s.hearth.mode = .stopped → s.sealOk = true → s.theSeal.tried < 2 →
      exec (.sealCmd 0x5EA1C0DE .good) s = .next { s with
        store := { s.store with need := 400, op := some .seal }
        theSeal := { s.theSeal with busy := true, tried := s.theSeal.tried + 1 } }) ∧
    (v ≠ 0x5EA1C0DE → exec (.sealCmd v .good) s = .next s) ∧
    (0x622 ≤ a → a ≤ 0x644 → (a = 0x62C → v = put) → x.sealed = false → ∃ t, exec (.sealWrite a v .good) s = .next t ∧
      t = { s with theSeal := { x with view := t.theSeal.view } } ∧ t.sealReg a = put ∧
      ∀ b, b ≠ a → t.sealReg b = s.sealReg b) ∧
    (0x622 ≤ a → a ≤ 0x644 → (a = 0x62C → v = put) → x.sealed = true → put ≠ s.sealReg a →
      State.tightens a (s.sealReg a) put = true → x.used < 8 → exec (.sealWrite a v .good) s =
        .next { s with
          store := { s.store with need := 400, op := some .sealWrite }
          theSeal := { x with busy := true, writing := some (a, put) } }) ∧
    (0x622 ≤ a → a ≤ 0x644 → (a = 0x62C → v = put) → x.sealed = true → put ≠ s.sealReg a →
      State.tightens a (s.sealReg a) put = false → ∃ t, exec (.sealWrite a v .good) s = .next t ∧
        t.theSeal = { x with result := .loosen } ∧ t.store = s.store)

/-- The register rows of the host side: HOSTRESET marks what the host left (R677); eyelet masks, the BOOT
values, the IVK, an on-demand Awl run, the domains of SYS_DOMCTRL, a capture, an audio port's control, and the
welt commands ADOPT and YIELD. Where the spec leaves a point open it states the choice of the model: log
entries 6, 65. -/
def Obligations.HostRegisterRowsComplete : Prop :=
  ∀ (s : State) (v : Word) (e : Fin 7) (p : Fin 2) (sub : Nat), s.answers = true →
    s.supply.dom[1] = .up → s.supply.dom[2] = .up → s.keeperBusy = false → s.tablesWf = true →
    (v.bit 0 = true → ∃ t, exec (.hostreset v .good) s = .next t ∧
      (∀ i : Fin 16, i.val < 12 → (t.mail.outb.get i).all (fun m => m.stale) = true ∧
        (t.mail.inb.get i).all (fun m => m.orphan) = true) ∧
      (∀ i : Fin 16, 12 ≤ i.val → t.mail.outb.get i = s.mail.outb.get i ∧
        t.mail.inb.get i = s.mail.inb.get i) ∧ t.mail.rung = s.mail.rung ∧ t.theSeal = s.theSeal) ∧
    (e = 0 → ∃ t, exec (.eyeMaskWrite e v .good) s = .next t ∧
      t = { s with mail := { s.mail with mask := t.mail.mask }, bus := t.bus } ∧ vget 0 t.mail.mask 0 = v ∧
      ∀ i, i ≠ 0 → vget 0 t.mail.mask i = vget 0 s.mail.mask i) ∧
    (1 ≤ e.val → e.val ≤ 5 → exec (.eyeMaskWrite e v .good) s =
      .next { s with regWrites := s.regWrites ++ [⟨0x328 + e.val, v, s.last.edge⟩] }) ∧
    (e = 6 → exec (.eyeMaskWrite e v .good) s = .next s) ∧
    (s.store.op = none → 80 ≤ s.energy → exec (.storeBootWrite v .good) s =
      .next { s with store := { s.store with need := 40, op := some (.boot (v.toNat % 4)) } }) ∧
    (s.supply.power = .hold → s.store.ivk = none → s.store.op = none → 440 ≤ s.energy →
      exec (.ivkProgram 0x1A7C .good) s =
        .next { s with store := { s.store with need := 400, op := some .ivk } }) ∧
    (v.bit 0 = true → s.awl.running = false → ∃ t, exec (.awlStart v .good) s = .next t ∧
      t.awl.running = true ∧ t.awl.powerUp = false ∧ t.awl.req = none ∧
      t.awl.mask = (s.reg 0xF11).toNat &&& s.awlRuns ∧ t.awl.pass = s.awl.pass ∧ t.theSeal = s.theSeal) ∧
    (s.supply.power = .run → s.supply.moving = false → s.supply.dom[3] = .up → v.bit 0 = true →
      v.bit 1 = false → s.supply.dom[4] ≠ .down → ∃ t, exec (.domctrlWrite v .good) s = .next t ∧
        t.supply.dom[4] = .down ∧ t.supply.dom[3] = .up ∧ t.supply.dom[2] = .up ∧
        t.hearth = Hearth.init ∧ t.store = s.store) ∧
    (s.supply.power = .run → s.supply.moving = false → s.supply.dom[3] = .up → v.bit 0 = true →
      v.bit 1 = true → s.supply.dom[4] = .down → ∃ t, exec (.domctrlWrite v .good) s = .next t ∧
        t = { s with regs := t.regs, supply := t.supply } ∧ t.supply.dom[4] = .powering ∧
        t.supply.dom[3] = .up) ∧
    (s.supply.power ≠ .run → ∃ t, exec (.domctrlWrite v .good) s = .next t ∧ t = { s with regs := t.regs } ∧
      t.reg 0x003 = v &&& 3) ∧
    (∃ t, exec (.strmCapWrite v .good) s = .next t ∧ t = { s with regs := t.regs, port := t.port } ∧
      t.reg 0x3C1 = v &&& 0x00FFFFFF ∧ t.port.capLeft = v.toNat / 256 % 65536 ∧ t.port.capWait = []) ∧
    (v.bit 6 = false → ∃ t, exec (.audCtrlWrite p sub v .good) s = .next t ∧
      t.reg (0x3C8 + 4 * p.val) = v &&& 0x007F7F7F ∧ (t.audio p).muted = false ∧ (t.audio p).lock = false ∧
      (t.audio p).markers = [] ∧ t.last = s.last) ∧
    (v.bit 6 = true → (s.audio p).muted = false → ∃ t, exec (.audCtrlWrite p sub v .good) s = .next t ∧
      t.reg (0x3C8 + 4 * p.val) = v &&& 0x007F7F7F ∧ (t.audio p).lock = true ∧
      (t.audio p).frames = (s.audio p).frames ∧ t.last = s.last ∧ t.theSeal = s.theSeal) ∧
    (v.bit 0 = (s.reg 0xE00).bit 0 → v.bit 8 = true → s.welt.role = .standby →
      ∃ t, exec (.weltAdopt v .good) s = .next t ∧ t = { s with regs := t.regs, welt := t.welt } ∧
        t.welt.role = .standby ∧ t.welt.adopting = true ∧ t.welt.inSync = false) ∧
    (v.bit 0 = (s.reg 0xE00).bit 0 → v.bit 9 = true → s.welt.role = .active →
      s.welt.up = true → s.welt.partner = .standby → ∃ t, exec (.weltYield v .good) s = .next t ∧
        t = { s with regs := t.regs, welt := { s.welt with yielding := true } })

/-! ### The Keeper: keys, installation, the store and the Awl (chapters 16 and 19) -/

/-- The provisioning commands: with the session, a good message in MB8, no store operation and the energy, the
command's store write begins (R684, R784), and so it does for the HAK of an INSTALL session (R679); when the
write is done, the key store is what Table 16-4 says; without the energy nothing of the key store changes
(R785). Where the spec leaves a point open it states the choice of the model: log entry 55. -/
def Obligations.KeyRowsComplete : Prop :=
  ∀ (s : State) (m : Msg) (cmd : List Byte),
    let k := s.mail.keys
    let n := fieldBE cmd 0 1
    let asked : Prop := s.store.op = none ∧ s.supply.dom[1] = .up ∧ s.mail.session.mode = .open_ ∧
      s.mail.session.kind = 2 ∧ vget none s.mail.inb 8 = some m ∧ s.secureBody 8 m.bytes = some cmd
    let begins : Instr → Prop := fun c => ∃ t, exec c s = .next t ∧
      t = { s with mail := t.mail, store := { s.store with need := 2000, op := some .key } } ∧
      t.mail.provCmd = some cmd ∧ vget none t.mail.inb 8 = none ∧ t.mail.keys = k ∧
      t.mail.session = { s.mail.session with rxCount := s.mail.session.rxCount + 1 }
    let done : Keys → Prop := fun x => s.store.op = some .key → s.supply.failing = false →
      s.mail.provCmd = some cmd → ∃ t, exec (.storeOpDone true) s = .next t ∧ t.mail.keys = x ∧
        t.mail.provCmd = none ∧ t.store.op = none ∧ t.theSeal = s.theSeal ∧ t.last = s.last
    (asked → 2040 ≤ s.energy →
      (n = 1 → cmd.length = 20 → fieldBE cmd 1 1 ≠ 0 → k.show_.length < 16 → begins .showSet) ∧
      (n = 2 → cmd.length = 2 → fieldBE cmd 1 1 ≠ 0 → begins .showDel) ∧
      (n = 3 → cmd.length = 17 → begins .siteSet) ∧
      (n = 4 → cmd.length = 18 → fieldBE cmd 1 1 ≤ 15 → begins .linkSet) ∧
      (n = 5 → cmd.length = 2 → fieldBE cmd 1 1 ≤ 15 → begins .linkDel) ∧
      (n = 6 → cmd.length = 17 → begins .hakSet)) ∧
    (asked → s.energy < 2040 → n = 3 → cmd.length = 17 → ∃ t, exec .siteSet s = .next t ∧
      t.mail.keys = k ∧ t.store.op = none ∧ t.store.evt = s.store.evt ||| 1 ∧
      t.store.journal = s.store.journal) ∧
    (s.store.op = none → s.supply.dom[1] = .up → s.mail.session.mode = .open_ →
      s.mail.session.kind = 3 → vget none s.mail.inb 8 = some m → m.bytes.length = 16 →
      2040 ≤ s.energy → exec .hakSet s = .next { s with
        store := { s.store with need := 2000, op := some .key }
        mail := { s.mail with inb := vset s.mail.inb 8 none, provCmd := some (6 :: m.bytes) } }) ∧
    (n = 1 → done { k with show_ := (k.show_.filter fun x => x.id != fieldBE cmd 1 1) ++
      [⟨fieldBE cmd 1 1, fieldBE cmd 2 2, (cmd.drop 4).take 16⟩] }) ∧
    (n = 2 → done { k with show_ := k.show_.filter fun x => x.id != fieldBE cmd 1 1 }) ∧
    (n = 3 → done { k with site := some ((cmd.drop 1).take 16) }) ∧
    (n = 4 → done { k with link := kput k.link (fieldBE cmd 1 1) ((cmd.drop 2).take 16) }) ∧
    (n = 5 → done { k with link := kdel k.link (fieldBE cmd 1 1) }) ∧
    (n = 6 → done { k with hak := some ((cmd.drop 1).take 16) })

/-- The install commands: BEGIN erases the bank that is not active and leaves the other as it is (R787), DATA
takes the next chunk alone (R788), END begins the verification of a whole image (R789), COMMIT and REVERT
begin their records (R792), ABORT ends an install not committed with its target INVALID; an erase ends in
PROGRAMMING (R790), and an image is taken only with a good signature and a good form (R791). Where the spec
leaves a point open it states the choice of the model: log entry 56. -/
def Obligations.InstallRowsComplete : Prop :=
  ∀ (s : State) (m : Msg) (cmd : List Byte) (key : List Word) (b : Bool),
    let x := s.store
    let asked : Nat → Prop := fun n => s.supply.dom[1] = .up ∧ s.mail.session.mode = .open_ ∧
      s.mail.session.kind = 2 ∧ vget none s.mail.inb 9 = some m ∧ s.secureBody 9 m.bytes = some cmd ∧
      fieldBE cmd 0 1 = n
    let free : Prop := x.op = none ∧ x.recheck = none
    let others : State → Prop := fun t => t.mail.keys = s.mail.keys ∧ t.theSeal = s.theSeal ∧
      t.last = s.last ∧ t.prog.image = s.prog.image ∧ t.store.active = x.active
    let n := fieldBE cmd 1 4
    let chunk := cmd.drop 4
    let image := (s.bank x.target).bytes
    (asked 0x10 → free → x.inst ≠ .erasing → x.inst ≠ .programming → x.inst ≠ .verifying →
      cmd.length = 5 → 128 ≤ n → n ≤ 1048576 → 240 ≤ s.energy → ∃ t, exec .instBegin s = .next t ∧
        others t ∧ t.store.inst = .erasing ∧ t.store.op = some .instErase ∧ t.store.imgLen = n ∧
        t.store.target = s.targetBank ∧ t.store.got = 0 ∧ t.store.chunk = [] ∧
        (t.bank s.targetBank).valid = false ∧ t.bank (!s.targetBank) = s.bank (!s.targetBank)) ∧
    (asked 0x11 → free → x.inst = .programming → 5 ≤ cmd.length → cmd.length ≤ 52 →
      fieldBE cmd 1 3 = s.instNext → s.instNext + chunk.length ≤ x.imgLen → 80 ≤ s.energy →
      ∃ t, exec .instData s = .next t ∧ others t ∧ t.store.inst = .programming ∧
        t.store.chunk = x.chunk ++ chunk ∧ t.store.op =
          if 256 ≤ (x.chunk ++ chunk).length then some .instPage else none) ∧
    (asked 0x11 → free → fieldBE cmd 1 3 ≠ s.instNext → ∃ t, exec .instData s = .next t ∧ others t ∧
      t.store = { x with chunksLost := x.chunksLost + 1 }) ∧
    (asked 0x12 → free → x.inst = .programming → x.imgLen ≤ s.instNext → x.ivk = some key →
      80 ≤ s.energy → ∃ t, exec .instEnd s = .next t ∧ others t ∧ t.store.inst = .verifying ∧
        t.store.op = some (.instRecord 3)) ∧
    (asked 0x13 → free → x.inst = .verified → 80 ≤ s.energy → ∃ t, exec .instCommit s = .next t ∧
      others t ∧ t.store.inst = .verified ∧ t.store.op = some (.instRecord 5)) ∧
    (asked 0x14 → free → x.previous = some b → (s.bank b).valid = true →
      imageDigest (s.bank b).bytes = (s.bank b).digest → 80 ≤ s.energy →
      ∃ t, exec .instRevert s = .next t ∧ others t ∧ t.store.op = some (.instRecord 6)) ∧
    (asked 0x15 → x.op = none ∨ x.op = some .instErase ∨ x.op = some .instPage → x.inst ≠ .none →
      x.inst ≠ .committed → ∃ t, exec .instAbort s = .next t ∧ others t ∧ t.store.inst = .none ∧
        t.store.op = none ∧ (t.bank x.target).valid = false ∧
        t.bank (!x.target) = s.bank (!x.target)) ∧
    (x.op = some .instErase → ∃ t, exec .instEraseDone s = .next t ∧ others t ∧
      t.store.inst = .programming ∧ t.store.op = none ∧ t.store.target = x.target) ∧
    (free → x.inst = .verifying → x.ivk = some key → signatureOk key image = true →
      imageOk image = true → 80 ≤ s.energy → ∃ t, exec .instVerifyDone s = .next t ∧ others t ∧
        t.store.inst = .verifying ∧ t.store.op = some (.instRecord 4)) ∧
    (free → x.inst = .verifying → x.ivk = some key → signatureOk key image = false →
      ∃ t, exec .instVerifyDone s = .next t ∧ others t ∧ t.store.inst = .failed ∧
        t.store.op = none ∧ (t.bank x.target).valid = false ∧
        t.bank (!x.target) = s.bank (!x.target)) ∧
    (∀ op i, x.recheck = some (op, i) → x.op = none → i < 99 → op.need + 40 ≤ s.energy →
      ∃ t, exec .energyRecheck s = .next t ∧ others t ∧ t.store.op = some op ∧
        t.store.recheck = none) ∧
    (∀ op i, x.recheck = some (op, i) → x.op = none → i < 99 → s.energy < op.need + 40 →
      ∃ t, exec .energyRecheck s = .next t ∧ others t ∧ t.store.op = none ∧
        t.store.recheck = some (op, i + 1) ∧ t.store.inst = x.inst)

/-- What the completion of the other store operations brings: the COMMITTED record makes the new bank active
and the other PREVIOUS, and REVERT the reverse (R792); a page, a VERIFIED record, the BOOT values, the IVK,
the seal and its amendments; and the steps of a calibration commit, each under its hold-up check (R573–R575,
R757, R794, R795). Where the spec leaves a point open it states the choice of the model: log entry 56. -/
def Obligations.StoreCompletionsFollowTheirKinds : Prop :=
  ∀ (s : State) (b : Bool) (v a : Nat) (w : Word), s.supply.failing = false →
    let x := s.store
    let done : StoreOp → (State → Prop) → Prop := fun op p => x.op = some op →
      ∃ t, exec (.storeOpDone true) s = .next t ∧ p t ∧ t.last = s.last ∧ t.mail.keys = s.mail.keys
    done (.instRecord 5) (fun t => t.store.inst = .committed ∧ t.store.active = some x.target ∧
      t.store.previous = x.active ∧ t.store.op = none) ∧
    (x.previous = some b → done (.instRecord 6) (fun t => t.store.inst = .committed ∧
      t.store.active = some b ∧ t.store.previous = x.active ∧ t.store.op = none)) ∧
    done (.instRecord 4) (fun t => t.store.inst = .verified ∧ (t.bank x.target).valid = true ∧
      (t.bank x.target).digest = imageDigest (s.bank x.target).bytes ∧
      (t.bank x.target).bytes = (s.bank x.target).bytes) ∧
    (x.chunk.length ≤ 256 → done .instPage (fun t => (t.bank x.target).bytes =
      (s.bank x.target).bytes ++ x.chunk ∧ t.store.got = x.got + x.chunk.length ∧ t.store.chunk = [] ∧
      t.store.op = none ∧ t.bank (!x.target) = s.bank (!x.target))) ∧
    done (.boot v) (fun t => t.store.boot = v ∧ t.store.op = none ∧ t.theSeal = s.theSeal) ∧
    done .ivk (fun t => t.store.ivk = some ((List.range 16).map fun i => sget 0 x.ivkView i) ∧
      t.theSeal = s.theSeal) ∧
    done .seal (fun t => t.theSeal = { s.theSeal with
      busy := false, sealed := true, otp := s.theSeal.view, result := .ok }) ∧
    (s.tablesWf = true → s.theSeal.writing = some (a, w) → s.theSeal.view = s.theSeal.otp →
      done .sealWrite (fun t => t.sealReg a = w ∧ (∀ c, c ≠ a → t.sealReg c = s.sealReg c) ∧
        t.theSeal.view = t.theSeal.otp ∧ t.theSeal.used =
          if 0x624 ≤ a ∧ a ≤ 0x62C then s.theSeal.used else s.theSeal.used + 1)) ∧
    (x.op = some .seal → ∃ t, exec (.storeOpDone false) s = .next t ∧
      t.theSeal = { s.theSeal with busy := false, result := .verify }) ∧
    (x.commit = .erase → 80 ≤ s.energy → exec (.calCommitStepDone true) s = .next { s with
      store := { x with need := 40, commit := .program,
                        calSlots := kput x.calSlots s.nextCalSlot s.clk.table } }) ∧
    (x.commit = .program → exec (.calCommitStepDone true) s =
      .next { s with store := { x with commit := .check } }) ∧
    (x.commit = .check → 80 ≤ s.energy → exec (.calCommitStepDone true) s =
      .next { s with store := { x with need := 40, commit := .record } }) ∧
    (x.commit = .record → ∃ t, exec (.calCommitStepDone true) s = .next t ∧
      (x.journal.length < 31 → t = { s with store := t.store }) ∧ t.clk = s.clk ∧
      t.theSeal = s.theSeal ∧ t.last = s.last ∧ t.store.commit = .idle ∧ t.store.calSlot = s.nextCalSlot ∧
      t.store.calPrev = x.calSlot ∧ t.store.calSlots = x.calSlots) ∧
    (x.commit ≠ .idle → exec (.calCommitStepDone false) s =
      .next { s with store := { x with commit := .idle, evt := x.evt ||| 8 } })

/-- The Awl: an on-demand run leaves its masks (R774, R775); RERUN and DETAIL are taken from MB0 in AWL_HOLD and
answered there (R771, Table 19-9); a loopback passes within 3 dB and with 30 dB of image rejection (R766), and a
lane within 0.5 dB with every residue check (R767); and the power-up Awl ends in AWL_HOLD with cause 1 where a
test failed, else, with a committed image, an IVK and no other cause, in IDLE, from where AUTORUN moves it to
RUN (R769, Table 19-8). Where the spec leaves a point open it states the choice of the model: log entries 57,
61. -/
def Obligations.AwlRowsComplete : Prop :=
  ∀ (s : State) (res : AwlResult) (m : Msg),
    let mask := s.awl.mask
    let hold : Prop := s.supply.power = .hold ∧ s.awl.running = false ∧ vget none s.mail.inb 0 = some m ∧
      vget none s.mail.outb 0 = none
    let answered : State → List Byte → Prop := fun t bytes => vget none t.mail.inb 0 = none ∧
      (∃ r, vget none t.mail.outb 0 = some r ∧ r.bytes = bytes ∧ r.sender = .keeper) ∧
      t.supply = s.supply ∧ t.theSeal = s.theSeal
    let run := fieldBE m.bytes 1 4 &&& 0x7FFFF
    let i := fieldBE m.bytes 1 1
    let ends : Prop := s.supply.power = .hold ∧ s.awl.running = true ∧ s.awl.powerUp = true
    let sound : Prop := ends ∧ res.fails = 0 ∧ s.committed = true ∧ s.store.ivk.isSome = true ∧
      s.awl.cause = 0
    (s.awl.running = true → s.awl.powerUp = false → s.loopbackWaits = false →
      (s.awlSeen res).fails &&& mask = 0 → mask.testBit 18 = false → ∃ t, exec (.awlRunEnd res) s = .next t ∧ s.keeps t ∧
        t.last = s.last ∧ t.awl.running = false ∧ t.awl.req = none ∧ t.awl.fail = 0 ∧
        t.awl.warn = res.warn &&& mask &&& 4 ∧ t.awl.pass = mask &&& (0x7FFFF ^^^ t.awl.warn)) ∧
    (hold → fieldBE m.bytes 0 1 = 1 → ∃ t, exec (.awlRerun res) s = .next t ∧
      t.awl.mask = run ∧ t.awl.fail = res.fails &&& run ∧
      answered t (1 :: (bytesBE 4 t.awl.pass ++ bytesBE 4 t.awl.fail ++ bytesBE 4 t.awl.warn))) ∧
    (hold → fieldBE m.bytes 0 1 = 2 → ∃ t, exec .awlDetail s = .next t ∧ t.awl = s.awl ∧
      answered t ([2, BitVec.ofNat 8 i, if s.awl.pass.testBit i then 0 else if s.awl.fail.testBit i then 1
        else if s.awl.warn.testBit i then 2 else 3] ++ ((kget s.awl.details i).getD []).take 60)) ∧
    (ends → res.fails ≠ 0 → ∃ t, exec (.powerUpAwlEnd res) s = .next t ∧
      t.supply.power = .hold ∧ t.awl.running = false ∧ t.awl.cause = 1 ∧ t.theSeal = s.theSeal) ∧
    (sound → s.store.boot % 2 = 0 → ∃ t, exec (.powerUpAwlEnd res) s = .next t ∧
      t.supply.power = .idle ∧ t.awl.running = false ∧ t.awl.cause = 0 ∧ t.mail.keys = s.mail.keys) ∧
    (sound → s.store.boot % 2 = 1 → s.supply.dom[0] = .up → s.supply.dom[1] = .up →
      ∃ t, exec (.powerUpAwlEnd res) s = .next t ∧ t.supply.power = .idle ∧ t.supply.moving = true ∧
        t.supply.dom[2] = .powering ∧ t.awl.running = false) ∧
    (∀ y : BrLoop, y.ok = true ↔ -630 ≤ y.level ∧ y.level ≤ -570 ∧ 300 ≤ y.image) ∧
    (∀ y : LaneTest, y.ok = true ↔ -50 ≤ y.level ∧ y.level ≤ 50 ∧ y.residueOk = true) ∧
    (res.fails.testBit 11 = !res.br0.ok ∧ res.fails.testBit 12 = !res.br1.ok)

/-! ### The two-wire bus, mailboxes and sessions (chapters 15 and 16) -/

/-- The reads of the bus give their bytes, most significant first, with PEC after them when the host ACKs the last
one (R619), and change nothing else: STATUS, DEVID,
REVID, LASTNACK (R2, R630, R829); LAST_SNAPSHOT is of one tick (R624); FAULT_READ gives at most 8 entries and
removes them only when it is complete (R806), and is EMPTY without any; a command code that Table 15-2 does
not list is refused UNKNOWN (R622). Where the spec leaves a point open it states the choice of the model: log
entry 51. -/
def Obligations.BusReadsComplete : Prop :=
  ∀ (s : State) (code : Byte) (ack : Bool), s.answers = true →
    let out : State → List Byte → State := fun t bytes => { t with bus := { t.bus with out := bytes } }
    let reads : Nat → Bool → List Byte → List Byte := fun c k data => data ++ if k then
      [pecOf (bytesBE 1 (2 * s.bus.addr) ++ bytesBE 1 c ++ bytesBE 1 (2 * s.bus.addr + 1) ++ data)] else []
    let entries := s.flt.entries.take 8
    let bytes := BitVec.ofNat 8 (8 * entries.length) :: entries.flatMap FaultEntry.bytes
    (∃ bytes, exec (.status ack) s = .next (out s (reads 0 ack bytes)) ∧ bytes.length = 4 ∧
      byteAt bytes 0 = BitVec.ofNat 8 s.powerCode ∧ (byteAt bytes 1).getLsbD 0 =
        ((s.causes &&& (s.reg 0x383).toNat % 65536) != 0) ∧
      (byteAt bytes 1).getLsbD 3 = (s.mail.session.mode == .open_) ∧
      byteAt bytes 2 = BitVec.ofNat 8 s.domainsUp ∧ byteAt bytes 3 = BitVec.ofNat 8 s.bus.addr) ∧
    exec (.devid ack) s = .next (out s (reads 1 ack [0, 0, 0x96, 0x96])) ∧
    exec (.revid ack) s = .next (out s (reads 2 ack [0, 0, 1, 1])) ∧
    exec (.lastnack ack) s = .next (out s (reads 3 ack (bytesBE 4 s.bus.lastNack.toNat))) ∧
    (s.supply.dom[2] = .up → exec (.lastSnapshot ack) s = .next (out s (reads 0x60 ack
      (bytesBE 6 s.last.pp ++ bytesBE 2 s.last.epoch ++ bytesBE 4 s.lastStatus.toNat)))) ∧
    (s.flt.entries ≠ [] → exec (.faultRead false ack) s = .next (out s bytes) ∧
      exec (.faultRead true ack) s = .next (out
        { s with flt := { s.flt with entries := s.flt.entries.drop 8 } } (reads 4 ack bytes))) ∧
    (s.flt.entries = [] → exec (.faultRead true ack) s = .next (s.nack 4 3 0)) ∧
    (busCodes.contains code.toNat = false →
      exec (.unknownCommand code) s = .next (s.nack code.toNat 4 0)) ∧
    (∀ cause phase, let t := s.nack code.toNat cause phase
      t.bus.lastNack = BitVec.ofNat 32 (cause + 256 * code.toNat + 65536 * phase) ∧
      t = { s with bus := { s.bus with lastNack := t.bus.lastNack, busy := t.bus.busy,
                                       pecErrs := t.bus.pecErrs, refusals := t.bus.refusals } })

/-- Mailboxes and eyelets of the host: a message lands in an EMPTY slot, MAIL following for a bench that runs
(R625, R659), the device moving to RUN for one that comes in IDLE with a committed image (R763), and never in
one that holds a message (R658); a complete read empties the outbound slot (R660); an eyelet newly rung and
enabled queues its event, and one already rung nothing (R668, R669); EYELET_TAKE clears what it returned
(R671); and a message that stays is reported once (R666). -/
def Obligations.MailboxRowsComplete : Prop :=
  ∀ (s : State) (mb count endpoint eyelet : Nat) (bytes : List Byte) (m : Msg) (slot : Fin 16) (ack : Bool),
    s.answers = true →
    let reads : Nat → List Byte → List Byte := fun c data => data ++ if ack then
      [pecOf (bytesBE 1 (2 * s.bus.addr) ++ bytesBE 1 c ++ bytesBE 1 (2 * s.bus.addr + 1) ++ data)] else []
    let size : Prop := count = bytes.length ∧ 1 ≤ count ∧ count ≤ 64
    let b := s.bindOf mb
    let runs : Prop := s.supply.dom[2] = .up ∧ (s.bench b).mode = .run ∧ s.welt.role ≠ .standby ∧ s.welt.role ≠ .active ∧
      (s.bench b).takes = true ∧ (s.bench b).queue.length < 1024 ∧ (s.bench b).held = []
    let awake : Prop := s.supply.power ≠ .idle ∨ s.committed = false ∨ s.supply.moving = true
    let put : Option Msg := some ⟨bytes, .host, s.now, 0, false, false, false, false⟩
    (mb < 8 → size → vget none s.mail.inb mb = none → runs → awake → ∃ t e,
      exec (.mbPost mb count bytes .good) s = .next t ∧ e.cls = .mail ∧ e.pos = s.now ∧
        (t.bench b).queue = insertEvent e (s.bench b).queue ∧
        (∃ x, vget none t.mail.inb mb = some x ∧ x.bytes = bytes ∧ x.sender = .host ∧ x.pos = s.now) ∧
        t.last = s.last ∧ t.mail.outb = s.mail.outb) ∧
    (mb < 8 → size → vget none s.mail.inb mb = none → ¬awake → s.supply.dom[1] = .up →
      s.supply.dom[2] = .down → ∃ t, exec (.mbPost mb count bytes .good) s = .next t ∧ t.supply.moving = true ∧
        t.supply.dom[2] = .powering ∧ (∃ x, vget none t.mail.inb mb = some x ∧ x.bytes = bytes)) ∧
    (mb < 8 → size → vget none s.mail.inb mb = some m →
      exec (.mbPost mb count bytes .good) s = .next (s.nack (0x20 + mb) 2 0)) ∧
    (8 ≤ mb → mb < 12 → size → s.keeperRefusal = none → s.secureOpen = true →
      vget none s.mail.inb mb = none → exec (.mbPost mb count bytes .good) s =
        .next { s with mail := { s.mail with inb := vset s.mail.inb mb put } }) ∧
    (mb < 8 → vget none s.mail.outb mb = some m → ∃ t, exec (.mbRead mb true ack) s = .next t ∧
      t = { s with bus := { s.bus with out := reads (0x30 + mb) (bytesBE 1 m.bytes.length ++ m.bytes) },
                   mail := { s.mail with outb := t.mail.outb } } ∧ vget none t.mail.outb mb = none ∧
      ∀ i, i ≠ mb → vget none t.mail.outb i = vget none s.mail.outb i) ∧
    (mb < 8 → vget none s.mail.outb mb = none →
      exec (.mbRead mb true ack) s = .next (s.nack (0x30 + mb) 3 0)) ∧
    (awake → endpoint < 5 → eyelet < 32 → (vget 0 s.mail.rung (endpoint + 1)).bit eyelet = true →
      exec (.eyeletRing endpoint eyelet .good) s = .next s) ∧
    (awake → endpoint < 5 → eyelet < 32 → (vget 0 s.mail.rung (endpoint + 1)).bit eyelet = false →
      ∃ t, exec (.eyeletRing endpoint eyelet .good) s = .next t ∧
        (vget 0 t.mail.rung (endpoint + 1)).bit eyelet = true ∧ t.mail.inb = s.mail.inb ∧
        t.mail.outb = s.mail.outb ∧ t.last = s.last ∧
        ((vget 0 s.mail.mask (endpoint + 1)).bit eyelet = false →
          t = { s with mail := { s.mail with rung := t.mail.rung } })) ∧
    exec (.eyeletTake false ack) s =
      .next { s with bus := { s.bus with out := bytesBE 4 s.hostEyelets.toNat } } ∧
    s.hostEyelets = vget 0 s.mail.rung 0 &&& vget 0 s.mail.mask 0 ∧
    (∃ t, exec (.eyeletTake true ack) s = .next t ∧
      t.bus.out = reads 0x41 (bytesBE 4 s.hostEyelets.toNat) ∧
      t = { s with bus := { s.bus with out := t.bus.out }, mail := { s.mail with rung := t.mail.rung } } ∧
      vget 0 t.mail.rung 0 = vget 0 s.mail.rung 0 &&& ~~~s.hostEyelets ∧
      ∀ i, i ≠ 0 → vget 0 t.mail.rung i = vget 0 s.mail.rung i) ∧
    (s.mail.inb.get slot = some m → m.timeout = false → ∃ t, exec (.mbTimeout slot) s = .next t ∧
      t.mail.inb.get slot = some { m with timeout := true } ∧
      t.mail.timeouts = Nat.min 255 (s.mail.timeouts + 1) ∧
      (m.sender ≠ .host → t = { s with mail := t.mail })) ∧
    (s.mail.inb.get slot = some m → m.timeout = true → exec (.mbTimeout slot) s = .next s)

/-- Sessions: SESS_OPEN has the Keeper draw a challenge (R678), or opens INSTALL at once in AWL_HOLD without a
HAK (R679); the challenge is read, and the response handed over; one that answers it under the HAK opens the
session with the derived key, and a fourth failure in succession locks SESS_OPEN until 10 s have passed (R678,
R682); SESS_CLOSE and idleness close the session and forget its key (R683). Where the spec leaves a point open
it states the choice of the model: log entry 55. -/
def Obligations.SessionRowsComplete : Prop :=
  ∀ (s : State) (kind : Nat) (bytes nonce hak : List Byte), s.answers = true → s.supply.dom[1] = .up →
    let x := s.mail.session
    let idle : Prop := s.keeperBusy = false
    let closed : State → Prop := fun t => t.mail.session.mode = .closed ∧ t.mail.session.key = [] ∧
      t.mail.session.step = none ∧ t.mail.keys = s.mail.keys ∧ t.mail.inb = s.mail.inb ∧
      t.theSeal = s.theSeal ∧ t.store = s.store
    let mac : Nat → List Byte := fun label => Crypto.cmac hak
      ([BitVec.ofNat 8 label] ++ x.nonce ++ bytes.take 8 ++ [BitVec.ofNat 8 x.kind])
    (idle → x.locked = false → kind = 1 ∨ kind = 2 → ∃ t, exec (.sessOpen kind .good) s = .next t ∧
      t.mail.session.step = some (.opening kind) ∧ t.mail.session.mode = .closed ∧
      t.mail.keys = s.mail.keys ∧ t.store = s.store) ∧
    (idle → x.locked = false → s.supply.power = .hold → s.mail.keys.hak = none →
      ∃ t, exec (.sessOpenInstall .good) s = .next t ∧ t.mail.session.mode = .open_ ∧
        t.mail.session.kind = 3 ∧ t.mail.keys = s.mail.keys) ∧
    (idle → x.locked = true → ∃ t, exec (.sessOpen kind .good) s = .next t ∧ t.mail = s.mail ∧
      t.bus.lastNack = BitVec.ofNat 32 (9 + 256 * 0x70)) ∧
    (idle → x.mode = .challenge → ∃ t, exec (.sessChal false) s = .next t ∧
      t.bus.out = 16 :: (x.nonce ++ bytesBE 4 x.number ++ [BitVec.ofNat 8 x.kind, 0, 0, 0]) ∧
      t.mail = { s.mail with session := { x with asked := true } }) ∧
    (idle → x.mode = .challenge → bytes.length = 16 → exec (.sessResp 16 bytes .good) s =
      .next { s with mail := { s.mail with session := { x with
        step := some (.response bytes), asked := true } } }) ∧
    (x.step = some (.opening kind) → nonce.length = 8 → ∃ t, exec (.sessionStepDone nonce) s = .next t ∧
      t.mail = { s.mail with session := { x with
        mode := .challenge, kind := kind, nonce := nonce, number := (x.number + 1) % 2 ^ 32
        step := none } } ∧ t.theSeal = s.theSeal) ∧
    (x.step = some (.response bytes) → s.mail.keys.hak = some hak → (mac 1).take 8 = bytes.drop 8 →
      ∃ t, exec (.sessionStepDone nonce) s = .next t ∧ t.mail = { s.mail with session := { x with
        mode := .open_, hostNonce := bytes.take 8, key := mac 2, rxCount := 0, txCount := 0
        failures := 0, step := none } }) ∧
    (x.step = some (.response bytes) → s.mail.keys.hak = some hak → (mac 1).take 8 ≠ bytes.drop 8 →
      ∃ t, exec (.sessionStepDone nonce) s = .next t ∧ closed t ∧
        t.mail.session.failures = x.failures + 1 ∧
        t.mail.session.locked = decide (4 ≤ x.failures + 1)) ∧
    (∃ t, exec (.sessClose 0 .good) s = .next t ∧ (x.mode ≠ .closed → closed t) ∧
      t.mail.session.mode = .closed) ∧
    (x.mode ≠ .closed → ∃ t, exec .sessidleExpiry s = .next t ∧ closed t ∧ t.last = s.last) ∧
    (x.locked = true → exec .sessionLockoutEnd s = .next { s with mail := { s.mail with
      session := { x with locked := false, failures := 0 } } })

/-- Alerts and lines: a complete ALERT_CAUSE clears the latched causes that it returned (R639, R646); the
winner of an Alert Response releases ALERT# and appends PEC when the host ACKs its byte (R640, R641); a Host
Notify carries the address and the causes (R642), is repeated and given up after 8 attempts
(R645); the address wakes a sleeping device (R632), and a stretch that runs out is NACKed (R637); a stuck line
is raised once and cleared (R647, R648); a recovery is tried three times (R650); and ALERT#'s own faults are
told (R651, R652). Where the spec leaves a point open it states the choice of the model: log entry 52. -/
def Obligations.AlertAndLineRowsComplete : Prop :=
  ∀ (s : State) (code : Byte) (refCount : Nat), s.answers = true →
    let x := s.bus
    let own := bytesBE 1 (2 * x.addr)
    let told := [0x10] ++ own ++ bytesBE 1 s.causes ++ bytesBE 1 (s.causes / 256)
    let bus : Bus → Host.Outcome State Fault Refusal := fun y => .next { s with bus := y }
    let noted : Instr → (Bus → Prop) → Prop := fun c p => ∃ t, exec c s = .next t ∧ p t.bus ∧
      s.keeps t ∧ t.last = s.last ∧ t.mail = s.mail
    exec (.alertCause false true) s = bus { x with out := bytesBE 4 s.causes } ∧
    exec (.alertCause true false) s = bus { x with
      out := bytesBE 4 s.causes, latched := x.latched &&& (0xFFFF ^^^ s.causes), released := false
      notifyFail := false, notifying := false, notifyTries := 0, notifyWait := false } ∧
    (s.alertDriven = true → exec (.alertResponse true false) s = bus { x with out := own, released := true } ∧
      exec (.alertResponse true true) s =
        bus { x with out := own ++ [pecOf (0x19 :: own)], released := true }) ∧
    (x.notifying = true → x.notifyWait = false → exec (.hostNotify true) s =
      bus { x with out := told, notifying := false, notifyTries := 0, notifyWait := false }) ∧
    (x.notifying = true → x.notifyWait = false → x.notifyTries < 7 → exec (.hostNotify false) s =
      bus { x with out := told, notifyTries := x.notifyTries + 1, notifyWait := true }) ∧
    (x.notifying = true → x.notifyWait = true → exec (.hostNotifyRetry true) s =
      bus { x with out := told, notifying := false, notifyTries := 0, notifyWait := false }) ∧
    (x.notifying = true → x.notifyWait = true → x.notifyTries = 7 →
      noted (.hostNotifyRetry false) fun y => y.notifyFail = true ∧ y.notifying = false ∧
        y.notifyTries = 0 ∧ y.evt = x.evt ||| 8 ∧ y.latched.testBit 9 = true) ∧
    ((s.causes &&& (s.reg 0x383).toNat % 65536) ≠ 0 → ∃ t, exec .rearmExpiry s = .next t ∧
      t = { s with bus := { x with released := false, notifying := t.bus.notifying } }) ∧
    exec .busTimeout s = bus { x with timeouts := Nat.min 255 (x.timeouts + 1) } ∧
    (noted (.busstuck false) fun y => y.sclStuck = true ∧ y.sdaStuck = x.sdaStuck ∧
      y.evt = x.evt ||| 1 ∧ y.latched.testBit 7 = true) ∧
    (noted (.busstuck true) fun y => y.sdaStuck = true ∧ y.sclStuck = x.sclStuck ∧
      y.evt = x.evt ||| 2 ∧ y.latched.testBit 7 = true) ∧
    (x.alertStuck = false → s.alertDriven = false → noted .alertstuck fun y => y.alertStuck = true ∧
      y.evt = x.evt ||| 4 ∧ y.latched.testBit 8 = true) ∧
    (s.alertDriven = true → noted .alertReadbackFault fun y => y.evt = x.evt ∧ y.addr = x.addr) ∧
    exec .alertstuckClear s = bus { x with alertStuck := false } ∧
    (∀ y : Bus, exec .busstuckClear { s with bus := y } =
      bus { y with sclStuck := false, sdaStuck := false, recoverTries := 0 }) ∧
    (∀ y : Bus, y.sdaStuck = true → y.sclStuck = false → y.notifying = true → y.recoverTries < 3 →
      exec (.busRecovery true) { s with bus := y } = bus { y with recoverTries := 0 } ∧
      (y.recoverTries < 2 → exec (.busRecovery false) { s with bus := y } =
        bus { y with recoverTries := y.recoverTries + 1 })) ∧
    (∀ u : State, u.supply.power = .sleep → ∃ t, exec (.busWakeMatch refCount) u = .next t ∧
      t.clk.refIn = (decide (3400 ≤ refCount) && decide (refCount ≤ 4300)) ∧ t.supply.power = .idle ∧
      t.supply.dom[0] = .powering ∧ t.bus.stretching = true ∧
      t.mail = u.mail ∧ t.theSeal = u.theSeal) ∧
    (∀ u : State, u.bus.stretching = true → ∃ t, exec (.wakeStretchExpiry code) u = .next t ∧
      t.bus.stretching = false ∧ t.bus.evt = u.bus.evt ||| 16 ∧
      t.bus.lastNack = BitVec.ofNat 32 (11 + 256 * code.toNat) ∧ t.mail = u.mail)

/-! ### Power and reset (chapters 1 and 19) -/

/-- The power commands: POWER moves between RUN and IDLE and, where Table 19-5 allows it, to SLEEP, the
domains of Table 1-2 removed with it (R758, R760, R761); RUN without a committed image is refused STATE;
HOLD_EXIT leaves AWL_HOLD for IDLE after a run without FAIL, or degraded where every FAIL has its partner
(Table 19-10, R772); and DEVICE_RESET, with its guard bytes and a good PEC, restarts the device into AWL_HOLD
with cause COMMAND, its keys and the seal kept, and is refused without a PEC (R627, R753, R754). Where the
spec leaves a point open it states the choice of the model: log entries 58, 67, 73. -/
def Obligations.PowerCommandsComplete : Prop :=
  ∀ (s : State), s.answers = true →
    let x := s.supply
    let kept : State → Prop := fun t => t.mail.keys = s.mail.keys ∧ t.theSeal.sealed = s.theSeal.sealed ∧
      t.theSeal.otp = s.theSeal.otp ∧ t.store.active = s.store.active ∧ t.pending = s.pending
    let toIdle : Instr → Prop := fun c => ∃ t, exec c s = .next t ∧ kept t ∧ t.supply.power = .idle ∧
      t.supply.dom[2] = .down ∧ t.supply.dom[3] = .down ∧ t.supply.dom[4] = .down ∧
      t.supply.dom[0] = x.dom[0] ∧ t.supply.dom[1] = x.dom[1] ∧ t.awl.running = false
    (x.power = .run → toIdle (.powerIdle .good)) ∧
    (x.power = .idle → exec (.powerIdle .good) s = .next s) ∧
    (x.power = .idle → s.committed = true → x.moving = false → x.dom[1] = .up → x.dom[2] = .down →
      ∃ t, exec (.powerRun .good) s = .next t ∧
      t = { s with supply := { x with moving := true, dom := t.supply.dom } } ∧ t.supply.dom[2] = .powering ∧
      t.supply.dom[0] = x.dom[0] ∧
      t.supply.dom[1] = x.dom[1] ∧ t.supply.dom[3] = x.dom[3] ∧ t.supply.dom[4] = x.dom[4]) ∧
    (x.power = .run ∨ x.power = .idle ∧ s.committed = true ∧ x.moving = true →
      exec (.powerRun .good) s = .next s) ∧
    (x.power = .idle → s.committed = false → exec (.powerRun .good) s = .next (s.nack 5 12 1)) ∧
    (s.sleepOk = true → ∃ t, exec (.powerSleep .good) s = .next t ∧ kept t ∧ t.supply.power = .sleep ∧
      t.supply.dom[0] = .down ∧ t.supply.dom[1] = .down ∧ t.mail.session.mode = .closed ∧
      t.bus.sleepAlert = s.alertDriven ∧ t.store.journal = s.store.journal) ∧
    (x.power = .hold → s.awl.running = false → s.awl.fail = 0 → toIdle (.holdExitNormal .good)) ∧
    (x.power = .hold → s.degradeOk = true → toIdle (.holdExitDegraded .good) ∧
      ∃ t, exec (.holdExitDegraded .good) s = .next t ∧ t.awl.degraded = true ∧ t.awl.cause = 0) ∧
    (∃ t, exec (.deviceReset 0x96 0x69 .good) s = .next t ∧ kept t ∧ t.supply.power = .hold ∧
      t.supply.rstCause % 256 = 8 ∧ t.supply.dom = #v[.up, .up, .up, .down, .down] ∧
      t.awl.running = true ∧ t.last = Last.init ∧ t.regs = [] ∧ t.hearth = Hearth.init ∧
      t.theSeal.buckets = s.theSeal.buckets ∧ t.mail.session = Session.init) ∧
    exec (.deviceReset 0x96 0x69 .absent) s = .next (s.nack 0xF0 6 3) ∧
    exec (.deviceReset 0x96 0x68 .good) s = .next (s.nack 0xF0 10 1)

/-- The supplies, the resets and the domains: the last of the two supplies and RESET# to come takes the device
from reset into AWL_HOLD (R748, R750, R755), but not with a TEST ball high (R861); a power failure removes every
domain, makes the outputs high-impedance and leaves its record, naming the operation in progress (R751); RESET#
keeps the Sole's storage (R753); a rising WAKE wakes a sleeping device, which chooses its reference anew (R312,
R762); readings are taken (R831); and a domain powered up lets the next follow (R18, R760), an image that does
not load leading to AWL_HOLD. Where the spec leaves a point open it states the choice of the model: log entries
57, 70, 73. -/
def Obligations.SupplyRowsComplete : Prop :=
  ∀ (s : State) (pins : Straps) (mv mh : Nat) (bytes : List Byte),
    let x := s.supply
    let kept : State → Prop := fun t => t.mail.keys = s.mail.keys ∧ t.theSeal.sealed = s.theSeal.sealed ∧
      t.theSeal.otp = s.theSeal.otp ∧ t.store.active = s.store.active ∧ t.pending = s.pending
    let enters : Instr → (State → Prop) → Prop := fun c p => ∃ t, exec c s = .next t ∧ kept t ∧ p t ∧
      t.supply.power = .hold ∧ t.supply.dom = #v[.up, .up, .up, .down, .down] ∧ t.awl.running = true ∧
      t.supply.hiZ = false ∧ t.bus.addr = 0x38 + 3 * t.bus.strap1 + t.bus.strap0
    let strapped : State → Prop := fun t => t.bus.strap0 = Nat.min 2 pins.addr0 ∧
      t.bus.strap1 = Nat.min 2 pins.addr1 ∧ t.welt.pri = pins.weltPri ∧
      t.clk.refIn = (decide (3400 ≤ pins.refCount) && decide (pins.refCount ≤ 4300))
    let dark : State → Prop := fun t => t.supply.power = .reset ∧ t.last = Last.init ∧
      t.supply.dom = #v[.down, .down, .down, .down, .down]
    (x.vsysGood = false → x.vioGood = true → x.resetPin = true → x.failing = false → x.power = .reset →
      pins.testHigh = false → enters (.vsysGood pins) fun t => strapped t ∧ t.supply.vio33 = pins.vio33 ∧
        t.supply.rstCause % 256 = if s.freshFail.isSome then 2 else 1) ∧
    (x.vsysGood = true → exec (.vsysGood pins) s = .next s) ∧
    (x.vsysGood = false → x.power = .reset → pins.testHigh = true → ∃ t, exec (.vsysGood pins) s = .next t ∧
      kept t ∧ t.supply.power = .reset ∧ t.supply.dom = x.dom) ∧
    (x.vsysGood = true → x.resetPin = true → x.failing = false → x.power = .reset → x.testHigh = false →
      enters .vioGood fun t => t.supply.rstCause % 256 = x.rstCause % 256) ∧
    (x.resetPin = false → x.vsysGood = true → x.vioGood = true → x.failing = false → x.power = .reset →
      pins.testHigh = false → enters (.resetRelease pins) fun t => strapped t ∧ t.supply.rstCause % 256 = x.rstCause % 256) ∧
    (x.resetPin = true → exec (.resetRelease pins) s = .next s) ∧
    (x.vsysGood = true → s.store.op = none ∨ s.store.op = some .instErase → s.store.commit ≠ .record →
      x.failing = false → s.store.journal.length < 32 → s.store.journalSeq + 1 < 2 ^ 32 →
      (∀ y ∈ s.store.journal.flatten.filterMap jrecOf, y.seq ≤ s.store.journalSeq) → ∃ t r,
      exec .powerfail s = .next t ∧ kept t ∧ dark t ∧ t.supply.vsysGood = false ∧ t.supply.hiZ = true ∧
        t.supply.failing = false ∧ t.standing .powerfail = some r ∧
        r.body = [BitVec.ofNat 8 s.opNamed.1, BitVec.ofNat 8 s.opNamed.2] ++ List.replicate 48 0) ∧
    (∀ op, x.vsysGood = true → s.store.op = some op → op ≠ .instErase → ∃ t,
      exec .powerfail s = .next t ∧ kept t ∧ t.supply.failing = true ∧ t.supply.vsysGood = false ∧
        t.supply.hiZ = true ∧ t.supply.power = .reset ∧ t.store.op = some op) ∧
    (x.vsysGood = false → ∃ t, exec .vholdFloor s = .next t ∧ kept t ∧ dark t ∧ t.store = s.store ∧
      t.supply.failing = false) ∧
    (x.failing = false → x.power ≠ .reset → ∃ t, exec .pinReset s = .next t ∧ kept t ∧ dark t ∧
      t.supply.resetPin = false ∧ t.supply.rstCause = 4 ∧ t.theSeal.buckets = s.theSeal.buckets ∧
      t.store = s.store) ∧
    (x.power = .reset → exec .pinReset s = .next { s with supply := { x with resetPin := false } }) ∧
    (x.wakePin = false → x.power = .sleep → ∃ t, exec (.wakePin true mv) s = .next t ∧ kept t ∧
      t.clk.refIn = (decide (3400 ≤ mv) && decide (mv ≤ 4300)) ∧
      t.supply.power = .idle ∧ t.supply.dom[0] = .powering ∧ t.supply.wakePin = true ∧
      t.mail = s.mail) ∧
    exec (.wakePin false mv) s = .next { s with supply := { x with wakePin := false } } ∧
    (s.powerCode ≠ 0 → exec (.supplySample mv mh) s = .next { s with store := { s.store with
      vsys := Nat.min 65535 mv, vhold := Nat.min 65535 mh } }) ∧
    (s.powerCode ≠ 0 → ∃ t, exec .vholdLow s = .next t ∧ s.keeps t ∧ t.last = s.last ∧
      t.mail = s.mail) ∧
    (x.dom[0] = .powering → x.dom[1] = .down → ∃ t, exec (.domainPowerUpDone .host) s = .next t ∧
      t = { s with bus := { s.bus with stretching := false }, supply := t.supply } ∧
      t.supply.dom[0] = .up ∧ t.supply.dom[1] = .powering ∧ t.supply.dom[2] = x.dom[2]) ∧
    (x.dom[1] = .powering → x.dom[0] = .up → ∃ t, exec (.domainPowerUpDone .keeper) s = .next t ∧
      t = { s with supply := t.supply } ∧ t.supply.dom[1] = .up ∧ t.supply.dom[0] = .up ∧
      t.supply.dom[2] = if x.moving = true ∧ x.dom[2] = .down then .powering else x.dom[2]) ∧
    (x.dom[2] = .powering → x.dom[0] = .up → x.dom[1] = .up → x.moving = true → (s.reg 0x003).toNat % 4 = 3 →
      s.loadable = some bytes → imageOk bytes = true → ∃ t, exec (.domainPowerUpDone .bench) s = .next t ∧
        t.prog.image = some (imageOf bytes) ∧ t.prog.ledger = (imageOf bytes).ledger ∧
        t.supply.dom[2] = .up ∧ t.supply.dom[3] = .powering ∧ t.supply.dom[4] = .powering ∧
        t.supply.moving = true ∧ kept t) ∧
    (x.dom[2] = .powering → x.dom[0] ≠ .up ∨ x.dom[1] ≠ .up →
      exec (.domainPowerUpDone .bench) s = .next s) ∧
    (x.dom[2] = .powering → x.dom[0] = .up → x.dom[1] = .up → x.moving = true → s.loadable = none → ∃ t,
      exec (.domainPowerUpDone .bench) s = .next t ∧ t.supply.power = .hold ∧ t.awl.cause = 5 ∧
        t.supply.moving = false ∧ kept t) ∧
    (∀ i, x.dom[4] = .powering → x.moving = true → x.dom[2] = .up → x.dom[3] = .up →
      (s.reg 0x003).toNat % 4 = 3 → s.prog.image = some i → i.config = [] →
      ∃ t, exec (.domainPowerUpDone .hearth) s = .next t ∧ t.supply.power = .run ∧
        t.supply.dom[4] = .up ∧ t.supply.moving = false ∧ t.supply.starting = true ∧
        t.prog = s.prog ∧ kept t)

/-! ### The whole machine -/

/-- A step carries out the command at the front of the queue on the state with the queue's rest; with an empty
queue the block idles (the model's own, log entry 15); and every command answers a next state, none faults or
is refused. -/
def Obligations.StepTakesTheFrontCommand : Prop :=
  ∀ (s : State) (c : Instr) (rest : List Instr),
    (s.pending = c :: rest → step s = exec c { s with pending := rest }) ∧
    step { s with pending := c :: s.pending } = exec c s ∧
    (s.pending = [] → step s = .next s) ∧ ∃ t, step s = .next t

/-- Right after reset the device is in AWL_HOLD with the power-up Awl running, HOST, KEEPER and BENCH up, no
command waits, its state is canonical, and the registers read their reset values of chapters 21 and 22. Where
the spec leaves a point open it states the choice of the model: log entries 1, 20. -/
def Obligations.ResetGivesTheSpecsValues : Prop :=
  State.reset.supply.power = .hold ∧ State.reset.awl.running = true ∧
    State.reset.supply.dom = #v[.up, .up, .up, .down, .down] ∧ State.reset.pending = [] ∧
    State.reset.answers = true ∧ State.reset.wf = true ∧ State.reset.logFits = true ∧
    State.reset.last.mode ≠ .stopped ∧ State.reset.welt.role = .solo ∧
    State.reset.theSeal.sealed = false ∧ State.reset.hearth.mode = .stopped ∧
    [0x000, 0x001, 0x003, 0x100, 0x102, 0x180, 0x280, 0x282, 0x293, 0x300, 0x301, 0x380, 0x383, 0x3C8, 0x410,
      0x505, 0x540, 0x600, 0x623, 0xC00, 0xC10, 0xC40, 0xD00, 0xE00, 0xF11].map State.reset.regRead =
    [0x00009696, 0x00000101, 0x00000003, 0x02710003, 0x0000000F, 0x0E000013, 0x27101007, 0x08000000,
      0x88888888, 0x001E0A00, 0x00444688, 0x000A6408, 0x000007FF, 0x00181800, 0x0000010A, 0x00000002,
      0x00000200, 0x00020810, 0x00002855, 0x00054442, 0x00000100, 0x000040A0, 0x00000080, 0x00000042,
      0x0007FFFF]

/-- Every step keeps what the state holds in sparse form canonical: the data memories, the ledger, checkpoints
and image, the configuration registers, the seal view and its OTP, the lanes and the coefficient sets. -/
def Obligations.StepKeepsTheStateCanonical : Prop :=
  ∀ s t : State, s.wf = true → step s = .next t → t.wf = true

/-- A bench instruction other than RADIO reaches only its own bench, messages, eyelets and tacks, and what
tells of its faults: the Last, record intake, the radio, the clocks, the lanes, the receivers, the decoders,
the hearth link, the seal, infrared and GPIO, the store, the Awl, the supplies, the registers and the other
benches' data memories, wakes and handlers stand; so does the ledger, unless the instruction ends the
position, which empties every bench's buffer into it (R146). -/
def Obligations.BenchInstructionsAreConfined : Prop :=
  ∀ (c : Instr) (b : Fin 5) (s t : State), benchOf c = some b → exec c s = .next t →
    t.last = s.last ∧ t.intake = s.intake ∧ t.radio = s.radio ∧ t.clk = s.clk ∧ t.lanes = s.lanes ∧
    t.fm = s.fm ∧ t.follow = s.follow ∧ t.dab = s.dab ∧ t.hearth = s.hearth ∧ t.theSeal = s.theSeal ∧
    t.infra = s.infra ∧ t.store = s.store ∧ t.awl = s.awl ∧ t.supply = s.supply ∧ t.regs = s.regs ∧
    t.regWrites = s.regWrites ∧ t.pending = s.pending ∧ t.prog.image = s.prog.image ∧
    (t.prog.ledger = s.prog.ledger ∨ ∀ d : Fin 5, (t.bench d).ledgerBuf = []) ∧
    t.prog.ckpt = s.prog.ckpt ∧ t.mail.keys = s.mail.keys ∧ t.mail.session = s.mail.session ∧
    ∀ d : Fin 5, d ≠ b → (t.bench d).data = (s.bench d).data ∧ (t.bench d).wakes = (s.bench d).wakes ∧
      (t.bench d).handler = (s.bench d).handler ∧ (t.bench d).mode = (s.bench d).mode
end

