-- ==== Sys2Proof/Laws/Memory.lean ====
section
/-! SUPPORT. Sparse memories, numbered lists and vectors: what a write does to every read, and that every
memory operation keeps the canonical form. -/

namespace Sys2Proof.Machine

open Sys2Proof

/-! ### Sparse memories -/

/-- Every listed address lies above `a`. -/
def Above {α : Type} (a : Nat) (m : List (Nat × α)) : Prop := ∀ e, e ∈ m → a < e.1

theorem above_cons {α : Type} {a k : Nat} {v : α} {m : List (Nat × α)} :
    Above a ((k, v) :: m) ↔ a < k ∧ Above a m := by simp [Above]

/-- The canonical form, one entry at a time. -/
theorem swf_cons {α : Type} [DecidableEq α] {d v : α} {k : Nat} {m : List (Nat × α)} :
    swf d ((k, v) :: m) = true ↔ v ≠ d ∧ Above k m ∧ swf d m = true := by
  induction m generalizing k v with
  | nil => simp [swf, Above]
  | cons e m ih =>
    obtain ⟨l, w⟩ := e
    have h : swf d ((k, v) :: (l, w) :: m) = true ↔ v ≠ d ∧ k < l ∧ swf d ((l, w) :: m) = true := by
      simp [swf, and_assoc]
    rw [h, above_cons]
    constructor
    · rintro ⟨hv, hk, hm⟩
      exact ⟨hv, ⟨hk, fun e he => Nat.lt_trans hk ((ih.mp hm).2.1 e he)⟩, hm⟩
    · rintro ⟨hv, ⟨hk, _⟩, hm⟩
      exact ⟨hv, hk, hm⟩

/-- An address below every listed one reads the default. -/
theorem sget_above {α : Type} {d : α} {a : Nat} {m : List (Nat × α)} (h : Above a m) : sget d m a = d := by
  induction m with
  | nil => rfl
  | cons e m ih =>
    obtain ⟨k, v⟩ := e
    rw [above_cons] at h
    rw [sget, if_neg (Nat.ne_of_lt h.1)]
    exact ih h.2

/-- A write leaves every other address as it reads. -/
theorem sget_sput_ne {α : Type} [DecidableEq α] {d v : α} {a b : Nat} {m : List (Nat × α)} (h : b ≠ a) :
    sget d (sput d m a v) b = sget d m b := by
  induction m with
  | nil => simp only [sput]; split <;> simp [sget, h]
  | cons e m ih =>
    obtain ⟨k, w⟩ := e
    simp only [sput]
    split
    · split <;> simp [sget, h]
    · split
      · rename_i hk; subst hk
        split <;> simp [sget, h]
      · simp only [sget, ih]

/-- In a canonical memory the address written reads what was written. -/
theorem sget_sput_self {α : Type} [DecidableEq α] {d v : α} {a : Nat} {m : List (Nat × α)}
    (h : swf d m = true) : sget d (sput d m a v) a = v := by
  induction m with
  | nil => simp only [sput]; split <;> simp_all [sget]
  | cons e m ih =>
    obtain ⟨k, w⟩ := e
    obtain ⟨_, hk, hm⟩ := swf_cons.mp h
    simp only [sput]
    split
    · rename_i ha
      split
      · rename_i hv
        rw [hv, sget, if_neg (Nat.ne_of_lt ha)]
        exact sget_above fun e he => Nat.lt_trans ha (hk e he)
      · simp [sget]
    · split
      · rename_i ha; subst ha
        split
        · rename_i hv; rw [hv]; exact sget_above hk
        · simp [sget]
      · rename_i ha; simp only [sget, if_neg ha, ih hm]

/-- A write of another value than the default reads back whatever the memory. -/
theorem sget_sput_ne_default {α : Type} [DecidableEq α] {d v : α} {a : Nat} {m : List (Nat × α)}
    (h : v ≠ d) : sget d (sput d m a v) a = v := by
  induction m with
  | nil => simp [sput, h, sget]
  | cons e m ih =>
    obtain ⟨k, w⟩ := e
    simp only [sput, if_neg h]
    split
    · simp [sget]
    · split
      · rename_i ha; simp [sget, ha]
      · rename_i ha; simp only [sget, if_neg ha, ih]

theorem above_sput {α : Type} [DecidableEq α] {d v : α} {a b : Nat} {m : List (Nat × α)} (hb : b < a)
    (h : Above b m) : Above b (sput d m a v) := by
  induction m with
  | nil => simp only [sput]; split <;> simp_all [Above]
  | cons e m ih =>
    obtain ⟨k, w⟩ := e
    rw [above_cons] at h
    have hm := ih h.2
    simp only [sput]
    split
    · split
      · exact above_cons.mpr h
      · exact above_cons.mpr ⟨hb, above_cons.mpr h⟩
    · split
      · split
        · exact h.2
        · exact above_cons.mpr h
      · exact above_cons.mpr ⟨h.1, hm⟩

/-- A write keeps the canonical form. -/
theorem swf_sput {α : Type} [DecidableEq α] {d v : α} {a : Nat} {m : List (Nat × α)} (h : swf d m = true) :
    swf d (sput d m a v) = true := by
  induction m with
  | nil => simp only [sput]; split <;> simp_all [swf]
  | cons e m ih =>
    obtain ⟨k, w⟩ := e
    obtain ⟨hw, hk, hm⟩ := swf_cons.mp h
    simp only [sput]
    split
    · rename_i ha
      split
      · exact h
      · rename_i hv
        exact swf_cons.mpr ⟨hv, above_cons.mpr ⟨ha, fun e he => Nat.lt_trans ha (hk e he)⟩, h⟩
    · split
      · split
        · exact hm
        · rename_i hv; exact swf_cons.mpr ⟨hv, hk, hm⟩
      · exact swf_cons.mpr ⟨hw, above_sput (by omega) hk, ih hm⟩

theorem swf_writeBytes {m : List Host.Cell} {a : Nat} {xs : List Byte} (h : swf 0 m = true) :
    swf 0 (writeBytes m a xs) = true := by
  induction xs generalizing m a with
  | nil => exact h
  | cons x xs ih => exact ih (swf_sput h)

/-- Bytes outside those written read as before. -/
theorem sget_writeBytes_ne {m : List Host.Cell} {a b : Nat} {xs : List Byte}
    (h : b < a ∨ a + xs.length ≤ b) : sget 0 (writeBytes m a xs) b = sget 0 m b := by
  induction xs generalizing m a with
  | nil => rfl
  | cons x xs ih =>
    rw [List.length_cons] at h
    rw [writeBytes, ih (by omega), sget_sput_ne (by omega)]

/-- The bytes written read back. -/
theorem sget_writeBytes {m : List Host.Cell} {a i : Nat} {xs : List Byte} (hm : swf 0 m = true)
    (h : i < xs.length) : sget 0 (writeBytes m a xs) (a + i) = xs[i] := by
  induction xs generalizing m a i with
  | nil => simp at h
  | cons x xs ih =>
    rw [writeBytes]
    cases i with
    | zero => rw [sget_writeBytes_ne (by omega)]; exact sget_sput_self hm
    | succ i =>
      rw [show a + (i + 1) = a + 1 + i by omega, ih (swf_sput hm) (by simpa using h)]
      rfl

theorem swf_canon {α : Type} [DecidableEq α] {d : α} {m : List (Nat × α)} : swf d (canon d m) = true := by
  unfold canon
  have h : ∀ r : List (Nat × α), swf d r = true →
      swf d (m.foldl (fun r e => sput d r e.1 e.2) r) = true := by
    induction m with
    | nil => exact fun _ h => h
    | cons e m ih => exact fun r h => ih _ (swf_sput h)
  exact h [] rfl

theorem above_cellsOf {a b : Nat} {xs : List Byte} (h : b < a) : Above b (cellsOf a xs) := by
  induction xs generalizing a with
  | nil => simp [cellsOf, Above]
  | cons x xs ih =>
    rw [cellsOf]
    split
    · exact ih (by omega)
    · exact above_cons.mpr ⟨h, ih (by omega)⟩

theorem swf_cellsOf {a : Nat} {xs : List Byte} : swf 0 (cellsOf a xs) = true := by
  induction xs generalizing a with
  | nil => rfl
  | cons x xs ih =>
    rw [cellsOf]
    split
    · exact ih
    · rename_i h; exact swf_cons.mpr ⟨h, above_cellsOf (by omega), ih⟩

/-- Entries taken out of a canonical memory leave one. -/
theorem swf_filter {α : Type} [DecidableEq α] {d : α} {m : List (Nat × α)} (p : Nat × α → Bool)
    (h : swf d m = true) : swf d (m.filter p) = true := by
  induction m with
  | nil => rfl
  | cons e m ih =>
    obtain ⟨k, v⟩ := e
    obtain ⟨hv, hk, hm⟩ := swf_cons.mp h
    rw [List.filter_cons]
    split
    · exact swf_cons.mpr ⟨hv, fun e he => hk e (List.mem_filter.mp he).1, ih hm⟩
    · exact ih hm

@[simp] theorem length_readBytes (m : List Host.Cell) (a n : Nat) : (readBytes m a n).length = n := by
  induction n generalizing a with
  | zero => rfl
  | succ n ih => simp [readBytes, ih]

/-! ### Configuration registers -/

theorem regsWf_cons {k : Nat} {v : Word} {m : List (Nat × Word)} :
    regsWf ((k, v) :: m) = true ↔ v ≠ regReset k ∧ Above k m ∧ regsWf m = true := by
  induction m generalizing k v with
  | nil => simp [regsWf, Above]
  | cons e m ih =>
    obtain ⟨l, w⟩ := e
    have h : regsWf ((k, v) :: (l, w) :: m) = true ↔
        v ≠ regReset k ∧ k < l ∧ regsWf ((l, w) :: m) = true := by simp [regsWf, and_assoc]
    rw [h, above_cons]
    constructor
    · rintro ⟨hv, hk, hm⟩
      exact ⟨hv, ⟨hk, fun e he => Nat.lt_trans hk ((ih.mp hm).2.1 e he)⟩, hm⟩
    · rintro ⟨hv, ⟨hk, _⟩, hm⟩
      exact ⟨hv, hk, hm⟩

/-- A register written keeps the canonical form of the registers. -/
theorem regsWf_sput {a : Nat} {v : Word} {m : List (Nat × Word)} (h : regsWf m = true) :
    regsWf (sput (regReset a) m a v) = true := by
  induction m with
  | nil => simp only [sput]; split <;> simp_all [regsWf]
  | cons e m ih =>
    obtain ⟨k, w⟩ := e
    obtain ⟨hw, hk, hm⟩ := regsWf_cons.mp h
    simp only [sput]
    split
    · rename_i ha
      split
      · exact h
      · rename_i hv
        exact regsWf_cons.mpr ⟨hv, above_cons.mpr ⟨ha, fun e he => Nat.lt_trans ha (hk e he)⟩, h⟩
    · split
      · rename_i ha; subst ha
        split
        · exact hm
        · rename_i hv; exact regsWf_cons.mpr ⟨hv, hk, hm⟩
      · exact regsWf_cons.mpr ⟨hw, above_sput (by omega) hk, ih hm⟩

theorem regsWf_filter {m : List (Nat × Word)} (p : Nat × Word → Bool) (h : regsWf m = true) :
    regsWf (m.filter p) = true := by
  induction m with
  | nil => rfl
  | cons e m ih =>
    obtain ⟨k, v⟩ := e
    obtain ⟨hv, hk, hm⟩ := regsWf_cons.mp h
    rw [List.filter_cons]
    split
    · exact regsWf_cons.mpr ⟨hv, fun e he => hk e (List.mem_filter.mp he).1, ih hm⟩
    · exact ih hm

theorem State.regsWf_setReg {s : State} {a : Nat} {v : Word} (h : regsWf s.regs = true) :
    regsWf (s.setReg a v).regs = true := regsWf_sput h

theorem State.regsWf_clearRegs {s : State} {lo hi : Nat} (h : regsWf s.regs = true) :
    regsWf (s.clearRegs lo hi).regs = true := regsWf_filter _ h

/-- A register set leaves every other as it reads. -/
theorem State.reg_setReg_ne {s : State} {a b : Nat} {v : Word} (h : b ≠ a) : (s.setReg a v).reg b = s.reg b := by
  show sget (regReset b) (sput (regReset a) s.regs a v) b = sget (regReset b) s.regs b
  generalize regReset b = d
  induction s.regs with
  | nil => simp only [sput]; split <;> simp [sget, h]
  | cons e m ih =>
    obtain ⟨k, w⟩ := e
    simp only [sput]
    split
    · split <;> simp [sget, h]
    · split
      · rename_i hk; subst hk
        split <;> simp [sget, h]
      · simp only [sget, ih]

/-! ### Numbered lists -/

@[simp] theorem kget_nil {α : Type} (k : Nat) : kget ([] : List (Nat × α)) k = none := rfl

theorem kget_cons {α : Type} (l k : Nat) (w : α) (m : List (Nat × α)) :
    kget ((l, w) :: m) k = if l = k then some w else kget m k := by
  simp only [kget, List.find?_cons]
  by_cases h : l = k
  · simp [h]
  · rw [if_neg h, beq_eq_false_iff_ne.mpr h]

@[simp] theorem kget_kput_self {α : Type} (m : List (Nat × α)) (k : Nat) (v : α) :
    kget (kput m k v) k = some v := by
  induction m with
  | nil => simp [kput, kget_cons]
  | cons e m ih =>
    obtain ⟨l, w⟩ := e
    simp only [kput]
    split
    · simp [kget_cons]
    · split
      · simp [kget_cons]
      · rename_i h; rw [kget_cons, if_neg (fun h' => h h'.symm), ih]

theorem kget_kput_ne {α : Type} {m : List (Nat × α)} {k l : Nat} {v : α} (h : l ≠ k) :
    kget (kput m k v) l = kget m l := by
  induction m with
  | nil => simp [kput, kget_cons, h.symm]
  | cons e m ih =>
    obtain ⟨j, w⟩ := e
    simp only [kput]
    split
    · rw [kget_cons, if_neg h.symm]
    · split
      · rename_i hk; subst hk; simp [kget_cons, h.symm]
      · simp only [kget_cons, ih]

/-! ### Vectors -/

theorem vget_vset_self {α : Type} {n : Nat} {d x : α} {v : Vector α n} {i : Nat} (h : i < n) :
    vget d (vset v i x) i = x := by simp [vget, vset, h]

theorem vget_vset_ne {α : Type} {n : Nat} {d x : α} {v : Vector α n} {i j : Nat} (h : j ≠ i) :
    vget d (vset v i x) j = vget d v j := by
  simp only [vget, vset]
  split
  · split
    · exact Vector.getElem_set_ne _ _ h.symm
    · rfl
  · rfl

@[simp] theorem State.bench_setBench_self (s : State) (b : Fin 5) (n : Bench) : (s.setBench b n).bench b = n :=
  vget_vset_self b.isLt

theorem State.bench_setBench_ne {s : State} {b d : Nat} {n : Bench} (h : d ≠ b) :
    (s.setBench b n).bench d = s.bench d := vget_vset_ne h

/-- The last of two writes of one bench stands. -/
@[simp] theorem State.setBench_setBench (s : State) (b : Nat) (m n : Bench) :
    (s.setBench b m).setBench b n = s.setBench b n := by
  simp only [State.setBench, vset]
  split <;> simp

end Sys2Proof.Machine
end

