-- ==== Sys2Proof/Laws/State.lean ====
section
/-! SUPPORT. The updates of the state that the families share: what each leaves alone, one lemma a field. -/

namespace Sys2Proof.Machine

open Sys2Proof

/-! ### Updates of one block -/

@[simp] theorem State.setBench_last (s : State) (b : Nat) (n : Bench) :
    (s.setBench b n).last = s.last := rfl
@[simp] theorem State.setBench_intake (s : State) (b : Nat) (n : Bench) :
    (s.setBench b n).intake = s.intake := rfl
@[simp] theorem State.setBench_tack (s : State) (b : Nat) (n : Bench) :
    (s.setBench b n).tack = s.tack := rfl
@[simp] theorem State.setBench_radio (s : State) (b : Nat) (n : Bench) :
    (s.setBench b n).radio = s.radio := rfl
@[simp] theorem State.setBench_clk (s : State) (b : Nat) (n : Bench) : (s.setBench b n).clk = s.clk := rfl
@[simp] theorem State.setBench_lanes (s : State) (b : Nat) (n : Bench) :
    (s.setBench b n).lanes = s.lanes := rfl
@[simp] theorem State.setBench_fm (s : State) (b : Nat) (n : Bench) : (s.setBench b n).fm = s.fm := rfl
@[simp] theorem State.setBench_follow (s : State) (b : Nat) (n : Bench) :
    (s.setBench b n).follow = s.follow := rfl
@[simp] theorem State.setBench_dab (s : State) (b : Nat) (n : Bench) : (s.setBench b n).dab = s.dab := rfl
@[simp] theorem State.setBench_hearth (s : State) (b : Nat) (n : Bench) :
    (s.setBench b n).hearth = s.hearth := rfl
@[simp] theorem State.setBench_theSeal (s : State) (b : Nat) (n : Bench) :
    (s.setBench b n).theSeal = s.theSeal := rfl
@[simp] theorem State.setBench_infra (s : State) (b : Nat) (n : Bench) :
    (s.setBench b n).infra = s.infra := rfl
@[simp] theorem State.setBench_bus (s : State) (b : Nat) (n : Bench) : (s.setBench b n).bus = s.bus := rfl
@[simp] theorem State.setBench_mail (s : State) (b : Nat) (n : Bench) :
    (s.setBench b n).mail = s.mail := rfl
@[simp] theorem State.setBench_port (s : State) (b : Nat) (n : Bench) :
    (s.setBench b n).port = s.port := rfl
@[simp] theorem State.setBench_welt (s : State) (b : Nat) (n : Bench) :
    (s.setBench b n).welt = s.welt := rfl
@[simp] theorem State.setBench_store (s : State) (b : Nat) (n : Bench) :
    (s.setBench b n).store = s.store := rfl
@[simp] theorem State.setBench_awl (s : State) (b : Nat) (n : Bench) : (s.setBench b n).awl = s.awl := rfl
@[simp] theorem State.setBench_supply (s : State) (b : Nat) (n : Bench) :
    (s.setBench b n).supply = s.supply := rfl
@[simp] theorem State.setBench_flt (s : State) (b : Nat) (n : Bench) : (s.setBench b n).flt = s.flt := rfl
@[simp] theorem State.setBench_regs (s : State) (b : Nat) (n : Bench) :
    (s.setBench b n).regs = s.regs := rfl
@[simp] theorem State.setBench_regWrites (s : State) (b : Nat) (n : Bench) :
    (s.setBench b n).regWrites = s.regWrites := rfl
@[simp] theorem State.setBench_freeCtr (s : State) (b : Nat) (n : Bench) :
    (s.setBench b n).freeCtr = s.freeCtr := rfl
@[simp] theorem State.setBench_pending (s : State) (b : Nat) (n : Bench) :
    (s.setBench b n).pending = s.pending := rfl

@[simp] theorem State.dropEvent_last (s : State) : (s.dropEvent).last = s.last := rfl
@[simp] theorem State.dropEvent_intake (s : State) : (s.dropEvent).intake = s.intake := rfl
@[simp] theorem State.dropEvent_tack (s : State) : (s.dropEvent).tack = s.tack := rfl
@[simp] theorem State.dropEvent_radio (s : State) : (s.dropEvent).radio = s.radio := rfl
@[simp] theorem State.dropEvent_clk (s : State) : (s.dropEvent).clk = s.clk := rfl
@[simp] theorem State.dropEvent_lanes (s : State) : (s.dropEvent).lanes = s.lanes := rfl
@[simp] theorem State.dropEvent_fm (s : State) : (s.dropEvent).fm = s.fm := rfl
@[simp] theorem State.dropEvent_follow (s : State) : (s.dropEvent).follow = s.follow := rfl
@[simp] theorem State.dropEvent_dab (s : State) : (s.dropEvent).dab = s.dab := rfl
@[simp] theorem State.dropEvent_hearth (s : State) : (s.dropEvent).hearth = s.hearth := rfl
@[simp] theorem State.dropEvent_theSeal (s : State) : (s.dropEvent).theSeal = s.theSeal := rfl
@[simp] theorem State.dropEvent_infra (s : State) : (s.dropEvent).infra = s.infra := rfl
@[simp] theorem State.dropEvent_bus (s : State) : (s.dropEvent).bus = s.bus := rfl
@[simp] theorem State.dropEvent_mail (s : State) : (s.dropEvent).mail = s.mail := rfl
@[simp] theorem State.dropEvent_port (s : State) : (s.dropEvent).port = s.port := rfl
@[simp] theorem State.dropEvent_welt (s : State) : (s.dropEvent).welt = s.welt := rfl
@[simp] theorem State.dropEvent_store (s : State) : (s.dropEvent).store = s.store := rfl
@[simp] theorem State.dropEvent_awl (s : State) : (s.dropEvent).awl = s.awl := rfl
@[simp] theorem State.dropEvent_supply (s : State) : (s.dropEvent).supply = s.supply := rfl
@[simp] theorem State.dropEvent_flt (s : State) : (s.dropEvent).flt = s.flt := rfl
@[simp] theorem State.dropEvent_regs (s : State) : (s.dropEvent).regs = s.regs := rfl
@[simp] theorem State.dropEvent_regWrites (s : State) : (s.dropEvent).regWrites = s.regWrites := rfl
@[simp] theorem State.dropEvent_freeCtr (s : State) : (s.dropEvent).freeCtr = s.freeCtr := rfl
@[simp] theorem State.dropEvent_pending (s : State) : (s.dropEvent).pending = s.pending := rfl

@[simp] theorem State.voidFrom_last (s : State) (p : Pos) : (s.voidFrom p).last = s.last := rfl
@[simp] theorem State.voidFrom_intake (s : State) (p : Pos) : (s.voidFrom p).intake = s.intake := rfl
@[simp] theorem State.voidFrom_tack (s : State) (p : Pos) : (s.voidFrom p).tack = s.tack := rfl
@[simp] theorem State.voidFrom_radio (s : State) (p : Pos) : (s.voidFrom p).radio = s.radio := rfl
@[simp] theorem State.voidFrom_clk (s : State) (p : Pos) : (s.voidFrom p).clk = s.clk := rfl
@[simp] theorem State.voidFrom_lanes (s : State) (p : Pos) : (s.voidFrom p).lanes = s.lanes := rfl
@[simp] theorem State.voidFrom_fm (s : State) (p : Pos) : (s.voidFrom p).fm = s.fm := rfl
@[simp] theorem State.voidFrom_follow (s : State) (p : Pos) : (s.voidFrom p).follow = s.follow := rfl
@[simp] theorem State.voidFrom_dab (s : State) (p : Pos) : (s.voidFrom p).dab = s.dab := rfl
@[simp] theorem State.voidFrom_hearth (s : State) (p : Pos) : (s.voidFrom p).hearth = s.hearth := rfl
@[simp] theorem State.voidFrom_theSeal (s : State) (p : Pos) : (s.voidFrom p).theSeal = s.theSeal := rfl
@[simp] theorem State.voidFrom_infra (s : State) (p : Pos) : (s.voidFrom p).infra = s.infra := rfl
@[simp] theorem State.voidFrom_bus (s : State) (p : Pos) : (s.voidFrom p).bus = s.bus := rfl
@[simp] theorem State.voidFrom_mail (s : State) (p : Pos) : (s.voidFrom p).mail = s.mail := rfl
@[simp] theorem State.voidFrom_port (s : State) (p : Pos) : (s.voidFrom p).port = s.port := rfl
@[simp] theorem State.voidFrom_welt (s : State) (p : Pos) : (s.voidFrom p).welt = s.welt := rfl
@[simp] theorem State.voidFrom_store (s : State) (p : Pos) : (s.voidFrom p).store = s.store := rfl
@[simp] theorem State.voidFrom_awl (s : State) (p : Pos) : (s.voidFrom p).awl = s.awl := rfl
@[simp] theorem State.voidFrom_supply (s : State) (p : Pos) : (s.voidFrom p).supply = s.supply := rfl
@[simp] theorem State.voidFrom_flt (s : State) (p : Pos) : (s.voidFrom p).flt = s.flt := rfl
@[simp] theorem State.voidFrom_regs (s : State) (p : Pos) : (s.voidFrom p).regs = s.regs := rfl
@[simp] theorem State.voidFrom_regWrites (s : State) (p : Pos) :
    (s.voidFrom p).regWrites = s.regWrites := rfl
@[simp] theorem State.voidFrom_freeCtr (s : State) (p : Pos) : (s.voidFrom p).freeCtr = s.freeCtr := rfl
@[simp] theorem State.voidFrom_pending (s : State) (p : Pos) : (s.voidFrom p).pending = s.pending := rfl

@[simp] theorem State.writeData_last (s : State) (b a : Nat) (xs : List Byte) :
    (s.writeData b a xs).last = s.last := rfl
@[simp] theorem State.writeData_intake (s : State) (b a : Nat) (xs : List Byte) :
    (s.writeData b a xs).intake = s.intake := rfl
@[simp] theorem State.writeData_tack (s : State) (b a : Nat) (xs : List Byte) :
    (s.writeData b a xs).tack = s.tack := rfl
@[simp] theorem State.writeData_radio (s : State) (b a : Nat) (xs : List Byte) :
    (s.writeData b a xs).radio = s.radio := rfl
@[simp] theorem State.writeData_clk (s : State) (b a : Nat) (xs : List Byte) :
    (s.writeData b a xs).clk = s.clk := rfl
@[simp] theorem State.writeData_lanes (s : State) (b a : Nat) (xs : List Byte) :
    (s.writeData b a xs).lanes = s.lanes := rfl
@[simp] theorem State.writeData_fm (s : State) (b a : Nat) (xs : List Byte) :
    (s.writeData b a xs).fm = s.fm := rfl
@[simp] theorem State.writeData_follow (s : State) (b a : Nat) (xs : List Byte) :
    (s.writeData b a xs).follow = s.follow := rfl
@[simp] theorem State.writeData_dab (s : State) (b a : Nat) (xs : List Byte) :
    (s.writeData b a xs).dab = s.dab := rfl
@[simp] theorem State.writeData_hearth (s : State) (b a : Nat) (xs : List Byte) :
    (s.writeData b a xs).hearth = s.hearth := rfl
@[simp] theorem State.writeData_theSeal (s : State) (b a : Nat) (xs : List Byte) :
    (s.writeData b a xs).theSeal = s.theSeal := rfl
@[simp] theorem State.writeData_infra (s : State) (b a : Nat) (xs : List Byte) :
    (s.writeData b a xs).infra = s.infra := rfl
@[simp] theorem State.writeData_bus (s : State) (b a : Nat) (xs : List Byte) :
    (s.writeData b a xs).bus = s.bus := rfl
@[simp] theorem State.writeData_mail (s : State) (b a : Nat) (xs : List Byte) :
    (s.writeData b a xs).mail = s.mail := rfl
@[simp] theorem State.writeData_port (s : State) (b a : Nat) (xs : List Byte) :
    (s.writeData b a xs).port = s.port := rfl
@[simp] theorem State.writeData_welt (s : State) (b a : Nat) (xs : List Byte) :
    (s.writeData b a xs).welt = s.welt := rfl
@[simp] theorem State.writeData_store (s : State) (b a : Nat) (xs : List Byte) :
    (s.writeData b a xs).store = s.store := rfl
@[simp] theorem State.writeData_awl (s : State) (b a : Nat) (xs : List Byte) :
    (s.writeData b a xs).awl = s.awl := rfl
@[simp] theorem State.writeData_supply (s : State) (b a : Nat) (xs : List Byte) :
    (s.writeData b a xs).supply = s.supply := rfl
@[simp] theorem State.writeData_flt (s : State) (b a : Nat) (xs : List Byte) :
    (s.writeData b a xs).flt = s.flt := rfl
@[simp] theorem State.writeData_regs (s : State) (b a : Nat) (xs : List Byte) :
    (s.writeData b a xs).regs = s.regs := rfl
@[simp] theorem State.writeData_regWrites (s : State) (b a : Nat) (xs : List Byte) :
    (s.writeData b a xs).regWrites = s.regWrites := rfl
@[simp] theorem State.writeData_freeCtr (s : State) (b a : Nat) (xs : List Byte) :
    (s.writeData b a xs).freeCtr = s.freeCtr := rfl
@[simp] theorem State.writeData_pending (s : State) (b a : Nat) (xs : List Byte) :
    (s.writeData b a xs).pending = s.pending := rfl

@[simp] theorem State.putHandler_last (s : State) (b : Nat) (h : Handler) :
    (s.putHandler b h).last = s.last := rfl
@[simp] theorem State.putHandler_intake (s : State) (b : Nat) (h : Handler) :
    (s.putHandler b h).intake = s.intake := rfl
@[simp] theorem State.putHandler_tack (s : State) (b : Nat) (h : Handler) :
    (s.putHandler b h).tack = s.tack := rfl
@[simp] theorem State.putHandler_radio (s : State) (b : Nat) (h : Handler) :
    (s.putHandler b h).radio = s.radio := rfl
@[simp] theorem State.putHandler_clk (s : State) (b : Nat) (h : Handler) :
    (s.putHandler b h).clk = s.clk := rfl
@[simp] theorem State.putHandler_lanes (s : State) (b : Nat) (h : Handler) :
    (s.putHandler b h).lanes = s.lanes := rfl
@[simp] theorem State.putHandler_fm (s : State) (b : Nat) (h : Handler) :
    (s.putHandler b h).fm = s.fm := rfl
@[simp] theorem State.putHandler_follow (s : State) (b : Nat) (h : Handler) :
    (s.putHandler b h).follow = s.follow := rfl
@[simp] theorem State.putHandler_dab (s : State) (b : Nat) (h : Handler) :
    (s.putHandler b h).dab = s.dab := rfl
@[simp] theorem State.putHandler_hearth (s : State) (b : Nat) (h : Handler) :
    (s.putHandler b h).hearth = s.hearth := rfl
@[simp] theorem State.putHandler_theSeal (s : State) (b : Nat) (h : Handler) :
    (s.putHandler b h).theSeal = s.theSeal := rfl
@[simp] theorem State.putHandler_infra (s : State) (b : Nat) (h : Handler) :
    (s.putHandler b h).infra = s.infra := rfl
@[simp] theorem State.putHandler_bus (s : State) (b : Nat) (h : Handler) :
    (s.putHandler b h).bus = s.bus := rfl
@[simp] theorem State.putHandler_mail (s : State) (b : Nat) (h : Handler) :
    (s.putHandler b h).mail = s.mail := rfl
@[simp] theorem State.putHandler_port (s : State) (b : Nat) (h : Handler) :
    (s.putHandler b h).port = s.port := rfl
@[simp] theorem State.putHandler_welt (s : State) (b : Nat) (h : Handler) :
    (s.putHandler b h).welt = s.welt := rfl
@[simp] theorem State.putHandler_store (s : State) (b : Nat) (h : Handler) :
    (s.putHandler b h).store = s.store := rfl
@[simp] theorem State.putHandler_awl (s : State) (b : Nat) (h : Handler) :
    (s.putHandler b h).awl = s.awl := rfl
@[simp] theorem State.putHandler_supply (s : State) (b : Nat) (h : Handler) :
    (s.putHandler b h).supply = s.supply := rfl
@[simp] theorem State.putHandler_flt (s : State) (b : Nat) (h : Handler) :
    (s.putHandler b h).flt = s.flt := rfl
@[simp] theorem State.putHandler_regs (s : State) (b : Nat) (h : Handler) :
    (s.putHandler b h).regs = s.regs := rfl
@[simp] theorem State.putHandler_regWrites (s : State) (b : Nat) (h : Handler) :
    (s.putHandler b h).regWrites = s.regWrites := rfl
@[simp] theorem State.putHandler_freeCtr (s : State) (b : Nat) (h : Handler) :
    (s.putHandler b h).freeCtr = s.freeCtr := rfl
@[simp] theorem State.putHandler_pending (s : State) (b : Nat) (h : Handler) :
    (s.putHandler b h).pending = s.pending := rfl

@[simp] theorem State.at_last (s : State) (b : Fin 5) (h : Handler) (c pc : Nat) :
    (s.at_ b h c pc).last = s.last := rfl
@[simp] theorem State.at_intake (s : State) (b : Fin 5) (h : Handler) (c pc : Nat) :
    (s.at_ b h c pc).intake = s.intake := rfl
@[simp] theorem State.at_tack (s : State) (b : Fin 5) (h : Handler) (c pc : Nat) :
    (s.at_ b h c pc).tack = s.tack := rfl
@[simp] theorem State.at_radio (s : State) (b : Fin 5) (h : Handler) (c pc : Nat) :
    (s.at_ b h c pc).radio = s.radio := rfl
@[simp] theorem State.at_clk (s : State) (b : Fin 5) (h : Handler) (c pc : Nat) :
    (s.at_ b h c pc).clk = s.clk := rfl
@[simp] theorem State.at_lanes (s : State) (b : Fin 5) (h : Handler) (c pc : Nat) :
    (s.at_ b h c pc).lanes = s.lanes := rfl
@[simp] theorem State.at_fm (s : State) (b : Fin 5) (h : Handler) (c pc : Nat) :
    (s.at_ b h c pc).fm = s.fm := rfl
@[simp] theorem State.at_follow (s : State) (b : Fin 5) (h : Handler) (c pc : Nat) :
    (s.at_ b h c pc).follow = s.follow := rfl
@[simp] theorem State.at_dab (s : State) (b : Fin 5) (h : Handler) (c pc : Nat) :
    (s.at_ b h c pc).dab = s.dab := rfl
@[simp] theorem State.at_hearth (s : State) (b : Fin 5) (h : Handler) (c pc : Nat) :
    (s.at_ b h c pc).hearth = s.hearth := rfl
@[simp] theorem State.at_theSeal (s : State) (b : Fin 5) (h : Handler) (c pc : Nat) :
    (s.at_ b h c pc).theSeal = s.theSeal := rfl
@[simp] theorem State.at_infra (s : State) (b : Fin 5) (h : Handler) (c pc : Nat) :
    (s.at_ b h c pc).infra = s.infra := rfl
@[simp] theorem State.at_bus (s : State) (b : Fin 5) (h : Handler) (c pc : Nat) :
    (s.at_ b h c pc).bus = s.bus := rfl
@[simp] theorem State.at_mail (s : State) (b : Fin 5) (h : Handler) (c pc : Nat) :
    (s.at_ b h c pc).mail = s.mail := rfl
@[simp] theorem State.at_port (s : State) (b : Fin 5) (h : Handler) (c pc : Nat) :
    (s.at_ b h c pc).port = s.port := rfl
@[simp] theorem State.at_welt (s : State) (b : Fin 5) (h : Handler) (c pc : Nat) :
    (s.at_ b h c pc).welt = s.welt := rfl
@[simp] theorem State.at_store (s : State) (b : Fin 5) (h : Handler) (c pc : Nat) :
    (s.at_ b h c pc).store = s.store := rfl
@[simp] theorem State.at_awl (s : State) (b : Fin 5) (h : Handler) (c pc : Nat) :
    (s.at_ b h c pc).awl = s.awl := rfl
@[simp] theorem State.at_supply (s : State) (b : Fin 5) (h : Handler) (c pc : Nat) :
    (s.at_ b h c pc).supply = s.supply := rfl
@[simp] theorem State.at_flt (s : State) (b : Fin 5) (h : Handler) (c pc : Nat) :
    (s.at_ b h c pc).flt = s.flt := rfl
@[simp] theorem State.at_regs (s : State) (b : Fin 5) (h : Handler) (c pc : Nat) :
    (s.at_ b h c pc).regs = s.regs := rfl
@[simp] theorem State.at_regWrites (s : State) (b : Fin 5) (h : Handler) (c pc : Nat) :
    (s.at_ b h c pc).regWrites = s.regWrites := rfl
@[simp] theorem State.at_freeCtr (s : State) (b : Fin 5) (h : Handler) (c pc : Nat) :
    (s.at_ b h c pc).freeCtr = s.freeCtr := rfl
@[simp] theorem State.at_pending (s : State) (b : Fin 5) (h : Handler) (c pc : Nat) :
    (s.at_ b h c pc).pending = s.pending := rfl

@[simp] theorem State.goesOn_last (s : State) (b : Fin 5) (h : Handler) (c : Nat) :
    (s.goesOn b h c).last = s.last := rfl
@[simp] theorem State.goesOn_intake (s : State) (b : Fin 5) (h : Handler) (c : Nat) :
    (s.goesOn b h c).intake = s.intake := rfl
@[simp] theorem State.goesOn_tack (s : State) (b : Fin 5) (h : Handler) (c : Nat) :
    (s.goesOn b h c).tack = s.tack := rfl
@[simp] theorem State.goesOn_radio (s : State) (b : Fin 5) (h : Handler) (c : Nat) :
    (s.goesOn b h c).radio = s.radio := rfl
@[simp] theorem State.goesOn_clk (s : State) (b : Fin 5) (h : Handler) (c : Nat) :
    (s.goesOn b h c).clk = s.clk := rfl
@[simp] theorem State.goesOn_lanes (s : State) (b : Fin 5) (h : Handler) (c : Nat) :
    (s.goesOn b h c).lanes = s.lanes := rfl
@[simp] theorem State.goesOn_fm (s : State) (b : Fin 5) (h : Handler) (c : Nat) :
    (s.goesOn b h c).fm = s.fm := rfl
@[simp] theorem State.goesOn_follow (s : State) (b : Fin 5) (h : Handler) (c : Nat) :
    (s.goesOn b h c).follow = s.follow := rfl
@[simp] theorem State.goesOn_dab (s : State) (b : Fin 5) (h : Handler) (c : Nat) :
    (s.goesOn b h c).dab = s.dab := rfl
@[simp] theorem State.goesOn_hearth (s : State) (b : Fin 5) (h : Handler) (c : Nat) :
    (s.goesOn b h c).hearth = s.hearth := rfl
@[simp] theorem State.goesOn_theSeal (s : State) (b : Fin 5) (h : Handler) (c : Nat) :
    (s.goesOn b h c).theSeal = s.theSeal := rfl
@[simp] theorem State.goesOn_infra (s : State) (b : Fin 5) (h : Handler) (c : Nat) :
    (s.goesOn b h c).infra = s.infra := rfl
@[simp] theorem State.goesOn_bus (s : State) (b : Fin 5) (h : Handler) (c : Nat) :
    (s.goesOn b h c).bus = s.bus := rfl
@[simp] theorem State.goesOn_mail (s : State) (b : Fin 5) (h : Handler) (c : Nat) :
    (s.goesOn b h c).mail = s.mail := rfl
@[simp] theorem State.goesOn_port (s : State) (b : Fin 5) (h : Handler) (c : Nat) :
    (s.goesOn b h c).port = s.port := rfl
@[simp] theorem State.goesOn_welt (s : State) (b : Fin 5) (h : Handler) (c : Nat) :
    (s.goesOn b h c).welt = s.welt := rfl
@[simp] theorem State.goesOn_store (s : State) (b : Fin 5) (h : Handler) (c : Nat) :
    (s.goesOn b h c).store = s.store := rfl
@[simp] theorem State.goesOn_awl (s : State) (b : Fin 5) (h : Handler) (c : Nat) :
    (s.goesOn b h c).awl = s.awl := rfl
@[simp] theorem State.goesOn_supply (s : State) (b : Fin 5) (h : Handler) (c : Nat) :
    (s.goesOn b h c).supply = s.supply := rfl
@[simp] theorem State.goesOn_flt (s : State) (b : Fin 5) (h : Handler) (c : Nat) :
    (s.goesOn b h c).flt = s.flt := rfl
@[simp] theorem State.goesOn_regs (s : State) (b : Fin 5) (h : Handler) (c : Nat) :
    (s.goesOn b h c).regs = s.regs := rfl
@[simp] theorem State.goesOn_regWrites (s : State) (b : Fin 5) (h : Handler) (c : Nat) :
    (s.goesOn b h c).regWrites = s.regWrites := rfl
@[simp] theorem State.goesOn_freeCtr (s : State) (b : Fin 5) (h : Handler) (c : Nat) :
    (s.goesOn b h c).freeCtr = s.freeCtr := rfl
@[simp] theorem State.goesOn_pending (s : State) (b : Fin 5) (h : Handler) (c : Nat) :
    (s.goesOn b h c).pending = s.pending := rfl

@[simp] theorem State.setReg_last (s : State) (a : Nat) (v : Word) : (s.setReg a v).last = s.last := rfl
@[simp] theorem State.setReg_intake (s : State) (a : Nat) (v : Word) :
    (s.setReg a v).intake = s.intake := rfl
@[simp] theorem State.setReg_prog (s : State) (a : Nat) (v : Word) : (s.setReg a v).prog = s.prog := rfl
@[simp] theorem State.setReg_tack (s : State) (a : Nat) (v : Word) : (s.setReg a v).tack = s.tack := rfl
@[simp] theorem State.setReg_radio (s : State) (a : Nat) (v : Word) : (s.setReg a v).radio = s.radio := rfl
@[simp] theorem State.setReg_clk (s : State) (a : Nat) (v : Word) : (s.setReg a v).clk = s.clk := rfl
@[simp] theorem State.setReg_lanes (s : State) (a : Nat) (v : Word) : (s.setReg a v).lanes = s.lanes := rfl
@[simp] theorem State.setReg_fm (s : State) (a : Nat) (v : Word) : (s.setReg a v).fm = s.fm := rfl
@[simp] theorem State.setReg_follow (s : State) (a : Nat) (v : Word) :
    (s.setReg a v).follow = s.follow := rfl
@[simp] theorem State.setReg_dab (s : State) (a : Nat) (v : Word) : (s.setReg a v).dab = s.dab := rfl
@[simp] theorem State.setReg_hearth (s : State) (a : Nat) (v : Word) :
    (s.setReg a v).hearth = s.hearth := rfl
@[simp] theorem State.setReg_theSeal (s : State) (a : Nat) (v : Word) :
    (s.setReg a v).theSeal = s.theSeal := rfl
@[simp] theorem State.setReg_infra (s : State) (a : Nat) (v : Word) : (s.setReg a v).infra = s.infra := rfl
@[simp] theorem State.setReg_bus (s : State) (a : Nat) (v : Word) : (s.setReg a v).bus = s.bus := rfl
@[simp] theorem State.setReg_mail (s : State) (a : Nat) (v : Word) : (s.setReg a v).mail = s.mail := rfl
@[simp] theorem State.setReg_port (s : State) (a : Nat) (v : Word) : (s.setReg a v).port = s.port := rfl
@[simp] theorem State.setReg_welt (s : State) (a : Nat) (v : Word) : (s.setReg a v).welt = s.welt := rfl
@[simp] theorem State.setReg_store (s : State) (a : Nat) (v : Word) : (s.setReg a v).store = s.store := rfl
@[simp] theorem State.setReg_awl (s : State) (a : Nat) (v : Word) : (s.setReg a v).awl = s.awl := rfl
@[simp] theorem State.setReg_supply (s : State) (a : Nat) (v : Word) :
    (s.setReg a v).supply = s.supply := rfl
@[simp] theorem State.setReg_flt (s : State) (a : Nat) (v : Word) : (s.setReg a v).flt = s.flt := rfl
@[simp] theorem State.setReg_regWrites (s : State) (a : Nat) (v : Word) :
    (s.setReg a v).regWrites = s.regWrites := rfl
@[simp] theorem State.setReg_freeCtr (s : State) (a : Nat) (v : Word) :
    (s.setReg a v).freeCtr = s.freeCtr := rfl
@[simp] theorem State.setReg_pending (s : State) (a : Nat) (v : Word) :
    (s.setReg a v).pending = s.pending := rfl

@[simp] theorem State.clearRegs_last (s : State) (lo hi : Nat) : (s.clearRegs lo hi).last = s.last := rfl
@[simp] theorem State.clearRegs_intake (s : State) (lo hi : Nat) :
    (s.clearRegs lo hi).intake = s.intake := rfl
@[simp] theorem State.clearRegs_prog (s : State) (lo hi : Nat) : (s.clearRegs lo hi).prog = s.prog := rfl
@[simp] theorem State.clearRegs_tack (s : State) (lo hi : Nat) : (s.clearRegs lo hi).tack = s.tack := rfl
@[simp] theorem State.clearRegs_radio (s : State) (lo hi : Nat) : (s.clearRegs lo hi).radio = s.radio := rfl
@[simp] theorem State.clearRegs_clk (s : State) (lo hi : Nat) : (s.clearRegs lo hi).clk = s.clk := rfl
@[simp] theorem State.clearRegs_lanes (s : State) (lo hi : Nat) : (s.clearRegs lo hi).lanes = s.lanes := rfl
@[simp] theorem State.clearRegs_fm (s : State) (lo hi : Nat) : (s.clearRegs lo hi).fm = s.fm := rfl
@[simp] theorem State.clearRegs_follow (s : State) (lo hi : Nat) :
    (s.clearRegs lo hi).follow = s.follow := rfl
@[simp] theorem State.clearRegs_dab (s : State) (lo hi : Nat) : (s.clearRegs lo hi).dab = s.dab := rfl
@[simp] theorem State.clearRegs_hearth (s : State) (lo hi : Nat) :
    (s.clearRegs lo hi).hearth = s.hearth := rfl
@[simp] theorem State.clearRegs_theSeal (s : State) (lo hi : Nat) :
    (s.clearRegs lo hi).theSeal = s.theSeal := rfl
@[simp] theorem State.clearRegs_infra (s : State) (lo hi : Nat) : (s.clearRegs lo hi).infra = s.infra := rfl
@[simp] theorem State.clearRegs_bus (s : State) (lo hi : Nat) : (s.clearRegs lo hi).bus = s.bus := rfl
@[simp] theorem State.clearRegs_mail (s : State) (lo hi : Nat) : (s.clearRegs lo hi).mail = s.mail := rfl
@[simp] theorem State.clearRegs_port (s : State) (lo hi : Nat) : (s.clearRegs lo hi).port = s.port := rfl
@[simp] theorem State.clearRegs_welt (s : State) (lo hi : Nat) : (s.clearRegs lo hi).welt = s.welt := rfl
@[simp] theorem State.clearRegs_store (s : State) (lo hi : Nat) : (s.clearRegs lo hi).store = s.store := rfl
@[simp] theorem State.clearRegs_awl (s : State) (lo hi : Nat) : (s.clearRegs lo hi).awl = s.awl := rfl
@[simp] theorem State.clearRegs_supply (s : State) (lo hi : Nat) :
    (s.clearRegs lo hi).supply = s.supply := rfl
@[simp] theorem State.clearRegs_flt (s : State) (lo hi : Nat) : (s.clearRegs lo hi).flt = s.flt := rfl
@[simp] theorem State.clearRegs_freeCtr (s : State) (lo hi : Nat) :
    (s.clearRegs lo hi).freeCtr = s.freeCtr := rfl
@[simp] theorem State.clearRegs_pending (s : State) (lo hi : Nat) :
    (s.clearRegs lo hi).pending = s.pending := rfl

@[simp] theorem State.appendPacket_last (s : State) (ty sub : Nat) (pos : Pos) (xs : List Byte) :
    (s.appendPacket ty sub pos xs).last = s.last := rfl
@[simp] theorem State.appendPacket_intake (s : State) (ty sub : Nat) (pos : Pos) (xs : List Byte) :
    (s.appendPacket ty sub pos xs).intake = s.intake := rfl
@[simp] theorem State.appendPacket_prog (s : State) (ty sub : Nat) (pos : Pos) (xs : List Byte) :
    (s.appendPacket ty sub pos xs).prog = s.prog := rfl
@[simp] theorem State.appendPacket_tack (s : State) (ty sub : Nat) (pos : Pos) (xs : List Byte) :
    (s.appendPacket ty sub pos xs).tack = s.tack := rfl
@[simp] theorem State.appendPacket_radio (s : State) (ty sub : Nat) (pos : Pos) (xs : List Byte) :
    (s.appendPacket ty sub pos xs).radio = s.radio := rfl
@[simp] theorem State.appendPacket_clk (s : State) (ty sub : Nat) (pos : Pos) (xs : List Byte) :
    (s.appendPacket ty sub pos xs).clk = s.clk := rfl
@[simp] theorem State.appendPacket_lanes (s : State) (ty sub : Nat) (pos : Pos) (xs : List Byte) :
    (s.appendPacket ty sub pos xs).lanes = s.lanes := rfl
@[simp] theorem State.appendPacket_fm (s : State) (ty sub : Nat) (pos : Pos) (xs : List Byte) :
    (s.appendPacket ty sub pos xs).fm = s.fm := rfl
@[simp] theorem State.appendPacket_follow (s : State) (ty sub : Nat) (pos : Pos) (xs : List Byte) :
    (s.appendPacket ty sub pos xs).follow = s.follow := rfl
@[simp] theorem State.appendPacket_dab (s : State) (ty sub : Nat) (pos : Pos) (xs : List Byte) :
    (s.appendPacket ty sub pos xs).dab = s.dab := rfl
@[simp] theorem State.appendPacket_hearth (s : State) (ty sub : Nat) (pos : Pos) (xs : List Byte) :
    (s.appendPacket ty sub pos xs).hearth = s.hearth := rfl
@[simp] theorem State.appendPacket_theSeal (s : State) (ty sub : Nat) (pos : Pos) (xs : List Byte) :
    (s.appendPacket ty sub pos xs).theSeal = s.theSeal := rfl
@[simp] theorem State.appendPacket_infra (s : State) (ty sub : Nat) (pos : Pos) (xs : List Byte) :
    (s.appendPacket ty sub pos xs).infra = s.infra := rfl
@[simp] theorem State.appendPacket_bus (s : State) (ty sub : Nat) (pos : Pos) (xs : List Byte) :
    (s.appendPacket ty sub pos xs).bus = s.bus := rfl
@[simp] theorem State.appendPacket_mail (s : State) (ty sub : Nat) (pos : Pos) (xs : List Byte) :
    (s.appendPacket ty sub pos xs).mail = s.mail := rfl
@[simp] theorem State.appendPacket_welt (s : State) (ty sub : Nat) (pos : Pos) (xs : List Byte) :
    (s.appendPacket ty sub pos xs).welt = s.welt := rfl
@[simp] theorem State.appendPacket_store (s : State) (ty sub : Nat) (pos : Pos) (xs : List Byte) :
    (s.appendPacket ty sub pos xs).store = s.store := rfl
@[simp] theorem State.appendPacket_awl (s : State) (ty sub : Nat) (pos : Pos) (xs : List Byte) :
    (s.appendPacket ty sub pos xs).awl = s.awl := rfl
@[simp] theorem State.appendPacket_supply (s : State) (ty sub : Nat) (pos : Pos) (xs : List Byte) :
    (s.appendPacket ty sub pos xs).supply = s.supply := rfl
@[simp] theorem State.appendPacket_flt (s : State) (ty sub : Nat) (pos : Pos) (xs : List Byte) :
    (s.appendPacket ty sub pos xs).flt = s.flt := rfl
@[simp] theorem State.appendPacket_regs (s : State) (ty sub : Nat) (pos : Pos) (xs : List Byte) :
    (s.appendPacket ty sub pos xs).regs = s.regs := rfl
@[simp] theorem State.appendPacket_regWrites (s : State) (ty sub : Nat) (pos : Pos) (xs : List Byte) :
    (s.appendPacket ty sub pos xs).regWrites = s.regWrites := rfl
@[simp] theorem State.appendPacket_freeCtr (s : State) (ty sub : Nat) (pos : Pos) (xs : List Byte) :
    (s.appendPacket ty sub pos xs).freeCtr = s.freeCtr := rfl
@[simp] theorem State.appendPacket_pending (s : State) (ty sub : Nat) (pos : Pos) (xs : List Byte) :
    (s.appendPacket ty sub pos xs).pending = s.pending := rfl

@[simp] theorem State.weltSend_last (s : State) (p : WPayload) : (s.weltSend p).last = s.last := rfl
@[simp] theorem State.weltSend_intake (s : State) (p : WPayload) : (s.weltSend p).intake = s.intake := rfl
@[simp] theorem State.weltSend_prog (s : State) (p : WPayload) : (s.weltSend p).prog = s.prog := rfl
@[simp] theorem State.weltSend_tack (s : State) (p : WPayload) : (s.weltSend p).tack = s.tack := rfl
@[simp] theorem State.weltSend_radio (s : State) (p : WPayload) : (s.weltSend p).radio = s.radio := rfl
@[simp] theorem State.weltSend_clk (s : State) (p : WPayload) : (s.weltSend p).clk = s.clk := rfl
@[simp] theorem State.weltSend_lanes (s : State) (p : WPayload) : (s.weltSend p).lanes = s.lanes := rfl
@[simp] theorem State.weltSend_fm (s : State) (p : WPayload) : (s.weltSend p).fm = s.fm := rfl
@[simp] theorem State.weltSend_follow (s : State) (p : WPayload) : (s.weltSend p).follow = s.follow := rfl
@[simp] theorem State.weltSend_dab (s : State) (p : WPayload) : (s.weltSend p).dab = s.dab := rfl
@[simp] theorem State.weltSend_hearth (s : State) (p : WPayload) : (s.weltSend p).hearth = s.hearth := rfl
@[simp] theorem State.weltSend_theSeal (s : State) (p : WPayload) :
    (s.weltSend p).theSeal = s.theSeal := rfl
@[simp] theorem State.weltSend_infra (s : State) (p : WPayload) : (s.weltSend p).infra = s.infra := rfl
@[simp] theorem State.weltSend_bus (s : State) (p : WPayload) : (s.weltSend p).bus = s.bus := rfl
@[simp] theorem State.weltSend_mail (s : State) (p : WPayload) : (s.weltSend p).mail = s.mail := rfl
@[simp] theorem State.weltSend_port (s : State) (p : WPayload) : (s.weltSend p).port = s.port := rfl
@[simp] theorem State.weltSend_store (s : State) (p : WPayload) : (s.weltSend p).store = s.store := rfl
@[simp] theorem State.weltSend_awl (s : State) (p : WPayload) : (s.weltSend p).awl = s.awl := rfl
@[simp] theorem State.weltSend_supply (s : State) (p : WPayload) : (s.weltSend p).supply = s.supply := rfl
@[simp] theorem State.weltSend_flt (s : State) (p : WPayload) : (s.weltSend p).flt = s.flt := rfl
@[simp] theorem State.weltSend_regs (s : State) (p : WPayload) : (s.weltSend p).regs = s.regs := rfl
@[simp] theorem State.weltSend_regWrites (s : State) (p : WPayload) :
    (s.weltSend p).regWrites = s.regWrites := rfl
@[simp] theorem State.weltSend_freeCtr (s : State) (p : WPayload) :
    (s.weltSend p).freeCtr = s.freeCtr := rfl
@[simp] theorem State.weltSend_pending (s : State) (p : WPayload) :
    (s.weltSend p).pending = s.pending := rfl

/-! ### Operations that touch some blocks at most -/

/-- `deliver` changes nothing but: prog. -/
theorem State.deliver_frame (s : State) (b : Nat) (e : Event) :
    ∃ x0, s.deliver b e = { s with prog := x0 } := by
  unfold State.deliver; repeat' split
  all_goals first | exact ⟨_, rfl⟩

@[simp] theorem State.deliver_last (s : State) (b : Nat) (e : Event) :
    (s.deliver b e).last = s.last := by
  obtain ⟨_, h⟩ := State.deliver_frame s b e; rw [h]
@[simp] theorem State.deliver_intake (s : State) (b : Nat) (e : Event) :
    (s.deliver b e).intake = s.intake := by
  obtain ⟨_, h⟩ := State.deliver_frame s b e; rw [h]
@[simp] theorem State.deliver_tack (s : State) (b : Nat) (e : Event) :
    (s.deliver b e).tack = s.tack := by
  obtain ⟨_, h⟩ := State.deliver_frame s b e; rw [h]
@[simp] theorem State.deliver_radio (s : State) (b : Nat) (e : Event) :
    (s.deliver b e).radio = s.radio := by
  obtain ⟨_, h⟩ := State.deliver_frame s b e; rw [h]
@[simp] theorem State.deliver_clk (s : State) (b : Nat) (e : Event) :
    (s.deliver b e).clk = s.clk := by
  obtain ⟨_, h⟩ := State.deliver_frame s b e; rw [h]
@[simp] theorem State.deliver_lanes (s : State) (b : Nat) (e : Event) :
    (s.deliver b e).lanes = s.lanes := by
  obtain ⟨_, h⟩ := State.deliver_frame s b e; rw [h]
@[simp] theorem State.deliver_fm (s : State) (b : Nat) (e : Event) :
    (s.deliver b e).fm = s.fm := by
  obtain ⟨_, h⟩ := State.deliver_frame s b e; rw [h]
@[simp] theorem State.deliver_follow (s : State) (b : Nat) (e : Event) :
    (s.deliver b e).follow = s.follow := by
  obtain ⟨_, h⟩ := State.deliver_frame s b e; rw [h]
@[simp] theorem State.deliver_dab (s : State) (b : Nat) (e : Event) :
    (s.deliver b e).dab = s.dab := by
  obtain ⟨_, h⟩ := State.deliver_frame s b e; rw [h]
@[simp] theorem State.deliver_hearth (s : State) (b : Nat) (e : Event) :
    (s.deliver b e).hearth = s.hearth := by
  obtain ⟨_, h⟩ := State.deliver_frame s b e; rw [h]
@[simp] theorem State.deliver_theSeal (s : State) (b : Nat) (e : Event) :
    (s.deliver b e).theSeal = s.theSeal := by
  obtain ⟨_, h⟩ := State.deliver_frame s b e; rw [h]
@[simp] theorem State.deliver_infra (s : State) (b : Nat) (e : Event) :
    (s.deliver b e).infra = s.infra := by
  obtain ⟨_, h⟩ := State.deliver_frame s b e; rw [h]
@[simp] theorem State.deliver_bus (s : State) (b : Nat) (e : Event) :
    (s.deliver b e).bus = s.bus := by
  obtain ⟨_, h⟩ := State.deliver_frame s b e; rw [h]
@[simp] theorem State.deliver_mail (s : State) (b : Nat) (e : Event) :
    (s.deliver b e).mail = s.mail := by
  obtain ⟨_, h⟩ := State.deliver_frame s b e; rw [h]
@[simp] theorem State.deliver_port (s : State) (b : Nat) (e : Event) :
    (s.deliver b e).port = s.port := by
  obtain ⟨_, h⟩ := State.deliver_frame s b e; rw [h]
@[simp] theorem State.deliver_welt (s : State) (b : Nat) (e : Event) :
    (s.deliver b e).welt = s.welt := by
  obtain ⟨_, h⟩ := State.deliver_frame s b e; rw [h]
@[simp] theorem State.deliver_store (s : State) (b : Nat) (e : Event) :
    (s.deliver b e).store = s.store := by
  obtain ⟨_, h⟩ := State.deliver_frame s b e; rw [h]
@[simp] theorem State.deliver_awl (s : State) (b : Nat) (e : Event) :
    (s.deliver b e).awl = s.awl := by
  obtain ⟨_, h⟩ := State.deliver_frame s b e; rw [h]
@[simp] theorem State.deliver_supply (s : State) (b : Nat) (e : Event) :
    (s.deliver b e).supply = s.supply := by
  obtain ⟨_, h⟩ := State.deliver_frame s b e; rw [h]
@[simp] theorem State.deliver_flt (s : State) (b : Nat) (e : Event) :
    (s.deliver b e).flt = s.flt := by
  obtain ⟨_, h⟩ := State.deliver_frame s b e; rw [h]
@[simp] theorem State.deliver_regs (s : State) (b : Nat) (e : Event) :
    (s.deliver b e).regs = s.regs := by
  obtain ⟨_, h⟩ := State.deliver_frame s b e; rw [h]
@[simp] theorem State.deliver_regWrites (s : State) (b : Nat) (e : Event) :
    (s.deliver b e).regWrites = s.regWrites := by
  obtain ⟨_, h⟩ := State.deliver_frame s b e; rw [h]
@[simp] theorem State.deliver_freeCtr (s : State) (b : Nat) (e : Event) :
    (s.deliver b e).freeCtr = s.freeCtr := by
  obtain ⟨_, h⟩ := State.deliver_frame s b e; rw [h]
@[simp] theorem State.deliver_pending (s : State) (b : Nat) (e : Event) :
    (s.deliver b e).pending = s.pending := by
  obtain ⟨_, h⟩ := State.deliver_frame s b e; rw [h]

/-- `arise` changes nothing but: bus. -/
theorem State.arise_frame (s : State) (i : Nat) :
    ∃ x0, s.arise i = { s with bus := x0 } := by
  unfold State.arise; split <;> exact ⟨_, rfl⟩

@[simp] theorem State.arise_last (s : State) (i : Nat) :
    (s.arise i).last = s.last := by
  obtain ⟨_, h⟩ := State.arise_frame s i; rw [h]
@[simp] theorem State.arise_intake (s : State) (i : Nat) :
    (s.arise i).intake = s.intake := by
  obtain ⟨_, h⟩ := State.arise_frame s i; rw [h]
@[simp] theorem State.arise_prog (s : State) (i : Nat) :
    (s.arise i).prog = s.prog := by
  obtain ⟨_, h⟩ := State.arise_frame s i; rw [h]
@[simp] theorem State.arise_tack (s : State) (i : Nat) :
    (s.arise i).tack = s.tack := by
  obtain ⟨_, h⟩ := State.arise_frame s i; rw [h]
@[simp] theorem State.arise_radio (s : State) (i : Nat) :
    (s.arise i).radio = s.radio := by
  obtain ⟨_, h⟩ := State.arise_frame s i; rw [h]
@[simp] theorem State.arise_clk (s : State) (i : Nat) :
    (s.arise i).clk = s.clk := by
  obtain ⟨_, h⟩ := State.arise_frame s i; rw [h]
@[simp] theorem State.arise_lanes (s : State) (i : Nat) :
    (s.arise i).lanes = s.lanes := by
  obtain ⟨_, h⟩ := State.arise_frame s i; rw [h]
@[simp] theorem State.arise_fm (s : State) (i : Nat) :
    (s.arise i).fm = s.fm := by
  obtain ⟨_, h⟩ := State.arise_frame s i; rw [h]
@[simp] theorem State.arise_follow (s : State) (i : Nat) :
    (s.arise i).follow = s.follow := by
  obtain ⟨_, h⟩ := State.arise_frame s i; rw [h]
@[simp] theorem State.arise_dab (s : State) (i : Nat) :
    (s.arise i).dab = s.dab := by
  obtain ⟨_, h⟩ := State.arise_frame s i; rw [h]
@[simp] theorem State.arise_hearth (s : State) (i : Nat) :
    (s.arise i).hearth = s.hearth := by
  obtain ⟨_, h⟩ := State.arise_frame s i; rw [h]
@[simp] theorem State.arise_theSeal (s : State) (i : Nat) :
    (s.arise i).theSeal = s.theSeal := by
  obtain ⟨_, h⟩ := State.arise_frame s i; rw [h]
@[simp] theorem State.arise_infra (s : State) (i : Nat) :
    (s.arise i).infra = s.infra := by
  obtain ⟨_, h⟩ := State.arise_frame s i; rw [h]
@[simp] theorem State.arise_mail (s : State) (i : Nat) :
    (s.arise i).mail = s.mail := by
  obtain ⟨_, h⟩ := State.arise_frame s i; rw [h]
@[simp] theorem State.arise_port (s : State) (i : Nat) :
    (s.arise i).port = s.port := by
  obtain ⟨_, h⟩ := State.arise_frame s i; rw [h]
@[simp] theorem State.arise_welt (s : State) (i : Nat) :
    (s.arise i).welt = s.welt := by
  obtain ⟨_, h⟩ := State.arise_frame s i; rw [h]
@[simp] theorem State.arise_store (s : State) (i : Nat) :
    (s.arise i).store = s.store := by
  obtain ⟨_, h⟩ := State.arise_frame s i; rw [h]
@[simp] theorem State.arise_awl (s : State) (i : Nat) :
    (s.arise i).awl = s.awl := by
  obtain ⟨_, h⟩ := State.arise_frame s i; rw [h]
@[simp] theorem State.arise_supply (s : State) (i : Nat) :
    (s.arise i).supply = s.supply := by
  obtain ⟨_, h⟩ := State.arise_frame s i; rw [h]
@[simp] theorem State.arise_flt (s : State) (i : Nat) :
    (s.arise i).flt = s.flt := by
  obtain ⟨_, h⟩ := State.arise_frame s i; rw [h]
@[simp] theorem State.arise_regs (s : State) (i : Nat) :
    (s.arise i).regs = s.regs := by
  obtain ⟨_, h⟩ := State.arise_frame s i; rw [h]
@[simp] theorem State.arise_regWrites (s : State) (i : Nat) :
    (s.arise i).regWrites = s.regWrites := by
  obtain ⟨_, h⟩ := State.arise_frame s i; rw [h]
@[simp] theorem State.arise_freeCtr (s : State) (i : Nat) :
    (s.arise i).freeCtr = s.freeCtr := by
  obtain ⟨_, h⟩ := State.arise_frame s i; rw [h]
@[simp] theorem State.arise_pending (s : State) (i : Nat) :
    (s.arise i).pending = s.pending := by
  obtain ⟨_, h⟩ := State.arise_frame s i; rw [h]

/-- `mirror` changes nothing but: welt. -/
theorem State.mirror_frame (s : State) (p : WPayload) :
    ∃ x0, s.mirror p = { s with welt := x0 } := by
  unfold State.mirror; split <;> exact ⟨_, rfl⟩

@[simp] theorem State.mirror_last (s : State) (p : WPayload) :
    (s.mirror p).last = s.last := by
  obtain ⟨_, h⟩ := State.mirror_frame s p; rw [h]
@[simp] theorem State.mirror_intake (s : State) (p : WPayload) :
    (s.mirror p).intake = s.intake := by
  obtain ⟨_, h⟩ := State.mirror_frame s p; rw [h]
@[simp] theorem State.mirror_prog (s : State) (p : WPayload) :
    (s.mirror p).prog = s.prog := by
  obtain ⟨_, h⟩ := State.mirror_frame s p; rw [h]
@[simp] theorem State.mirror_tack (s : State) (p : WPayload) :
    (s.mirror p).tack = s.tack := by
  obtain ⟨_, h⟩ := State.mirror_frame s p; rw [h]
@[simp] theorem State.mirror_radio (s : State) (p : WPayload) :
    (s.mirror p).radio = s.radio := by
  obtain ⟨_, h⟩ := State.mirror_frame s p; rw [h]
@[simp] theorem State.mirror_clk (s : State) (p : WPayload) :
    (s.mirror p).clk = s.clk := by
  obtain ⟨_, h⟩ := State.mirror_frame s p; rw [h]
@[simp] theorem State.mirror_lanes (s : State) (p : WPayload) :
    (s.mirror p).lanes = s.lanes := by
  obtain ⟨_, h⟩ := State.mirror_frame s p; rw [h]
@[simp] theorem State.mirror_fm (s : State) (p : WPayload) :
    (s.mirror p).fm = s.fm := by
  obtain ⟨_, h⟩ := State.mirror_frame s p; rw [h]
@[simp] theorem State.mirror_follow (s : State) (p : WPayload) :
    (s.mirror p).follow = s.follow := by
  obtain ⟨_, h⟩ := State.mirror_frame s p; rw [h]
@[simp] theorem State.mirror_dab (s : State) (p : WPayload) :
    (s.mirror p).dab = s.dab := by
  obtain ⟨_, h⟩ := State.mirror_frame s p; rw [h]
@[simp] theorem State.mirror_hearth (s : State) (p : WPayload) :
    (s.mirror p).hearth = s.hearth := by
  obtain ⟨_, h⟩ := State.mirror_frame s p; rw [h]
@[simp] theorem State.mirror_theSeal (s : State) (p : WPayload) :
    (s.mirror p).theSeal = s.theSeal := by
  obtain ⟨_, h⟩ := State.mirror_frame s p; rw [h]
@[simp] theorem State.mirror_infra (s : State) (p : WPayload) :
    (s.mirror p).infra = s.infra := by
  obtain ⟨_, h⟩ := State.mirror_frame s p; rw [h]
@[simp] theorem State.mirror_bus (s : State) (p : WPayload) :
    (s.mirror p).bus = s.bus := by
  obtain ⟨_, h⟩ := State.mirror_frame s p; rw [h]
@[simp] theorem State.mirror_mail (s : State) (p : WPayload) :
    (s.mirror p).mail = s.mail := by
  obtain ⟨_, h⟩ := State.mirror_frame s p; rw [h]
@[simp] theorem State.mirror_port (s : State) (p : WPayload) :
    (s.mirror p).port = s.port := by
  obtain ⟨_, h⟩ := State.mirror_frame s p; rw [h]
@[simp] theorem State.mirror_store (s : State) (p : WPayload) :
    (s.mirror p).store = s.store := by
  obtain ⟨_, h⟩ := State.mirror_frame s p; rw [h]
@[simp] theorem State.mirror_awl (s : State) (p : WPayload) :
    (s.mirror p).awl = s.awl := by
  obtain ⟨_, h⟩ := State.mirror_frame s p; rw [h]
@[simp] theorem State.mirror_supply (s : State) (p : WPayload) :
    (s.mirror p).supply = s.supply := by
  obtain ⟨_, h⟩ := State.mirror_frame s p; rw [h]
@[simp] theorem State.mirror_flt (s : State) (p : WPayload) :
    (s.mirror p).flt = s.flt := by
  obtain ⟨_, h⟩ := State.mirror_frame s p; rw [h]
@[simp] theorem State.mirror_regs (s : State) (p : WPayload) :
    (s.mirror p).regs = s.regs := by
  obtain ⟨_, h⟩ := State.mirror_frame s p; rw [h]
@[simp] theorem State.mirror_regWrites (s : State) (p : WPayload) :
    (s.mirror p).regWrites = s.regWrites := by
  obtain ⟨_, h⟩ := State.mirror_frame s p; rw [h]
@[simp] theorem State.mirror_freeCtr (s : State) (p : WPayload) :
    (s.mirror p).freeCtr = s.freeCtr := by
  obtain ⟨_, h⟩ := State.mirror_frame s p; rw [h]
@[simp] theorem State.mirror_pending (s : State) (p : WPayload) :
    (s.mirror p).pending = s.pending := by
  obtain ⟨_, h⟩ := State.mirror_frame s p; rw [h]

/-- `ringHost` changes nothing but: bus, mail. -/
theorem State.ringHost_frame (s : State) (e : Nat) :
    ∃ x0 x1, s.ringHost e = { s with bus := x0, mail := x1 } := by
  unfold State.ringHost State.arise; repeat' split
  all_goals exact ⟨_, _, rfl⟩

@[simp] theorem State.ringHost_last (s : State) (e : Nat) :
    (s.ringHost e).last = s.last := by
  obtain ⟨_, _, h⟩ := State.ringHost_frame s e; rw [h]
@[simp] theorem State.ringHost_intake (s : State) (e : Nat) :
    (s.ringHost e).intake = s.intake := by
  obtain ⟨_, _, h⟩ := State.ringHost_frame s e; rw [h]
@[simp] theorem State.ringHost_prog (s : State) (e : Nat) :
    (s.ringHost e).prog = s.prog := by
  obtain ⟨_, _, h⟩ := State.ringHost_frame s e; rw [h]
@[simp] theorem State.ringHost_tack (s : State) (e : Nat) :
    (s.ringHost e).tack = s.tack := by
  obtain ⟨_, _, h⟩ := State.ringHost_frame s e; rw [h]
@[simp] theorem State.ringHost_radio (s : State) (e : Nat) :
    (s.ringHost e).radio = s.radio := by
  obtain ⟨_, _, h⟩ := State.ringHost_frame s e; rw [h]
@[simp] theorem State.ringHost_clk (s : State) (e : Nat) :
    (s.ringHost e).clk = s.clk := by
  obtain ⟨_, _, h⟩ := State.ringHost_frame s e; rw [h]
@[simp] theorem State.ringHost_lanes (s : State) (e : Nat) :
    (s.ringHost e).lanes = s.lanes := by
  obtain ⟨_, _, h⟩ := State.ringHost_frame s e; rw [h]
@[simp] theorem State.ringHost_fm (s : State) (e : Nat) :
    (s.ringHost e).fm = s.fm := by
  obtain ⟨_, _, h⟩ := State.ringHost_frame s e; rw [h]
@[simp] theorem State.ringHost_follow (s : State) (e : Nat) :
    (s.ringHost e).follow = s.follow := by
  obtain ⟨_, _, h⟩ := State.ringHost_frame s e; rw [h]
@[simp] theorem State.ringHost_dab (s : State) (e : Nat) :
    (s.ringHost e).dab = s.dab := by
  obtain ⟨_, _, h⟩ := State.ringHost_frame s e; rw [h]
@[simp] theorem State.ringHost_hearth (s : State) (e : Nat) :
    (s.ringHost e).hearth = s.hearth := by
  obtain ⟨_, _, h⟩ := State.ringHost_frame s e; rw [h]
@[simp] theorem State.ringHost_theSeal (s : State) (e : Nat) :
    (s.ringHost e).theSeal = s.theSeal := by
  obtain ⟨_, _, h⟩ := State.ringHost_frame s e; rw [h]
@[simp] theorem State.ringHost_infra (s : State) (e : Nat) :
    (s.ringHost e).infra = s.infra := by
  obtain ⟨_, _, h⟩ := State.ringHost_frame s e; rw [h]
@[simp] theorem State.ringHost_port (s : State) (e : Nat) :
    (s.ringHost e).port = s.port := by
  obtain ⟨_, _, h⟩ := State.ringHost_frame s e; rw [h]
@[simp] theorem State.ringHost_welt (s : State) (e : Nat) :
    (s.ringHost e).welt = s.welt := by
  obtain ⟨_, _, h⟩ := State.ringHost_frame s e; rw [h]
@[simp] theorem State.ringHost_store (s : State) (e : Nat) :
    (s.ringHost e).store = s.store := by
  obtain ⟨_, _, h⟩ := State.ringHost_frame s e; rw [h]
@[simp] theorem State.ringHost_awl (s : State) (e : Nat) :
    (s.ringHost e).awl = s.awl := by
  obtain ⟨_, _, h⟩ := State.ringHost_frame s e; rw [h]
@[simp] theorem State.ringHost_supply (s : State) (e : Nat) :
    (s.ringHost e).supply = s.supply := by
  obtain ⟨_, _, h⟩ := State.ringHost_frame s e; rw [h]
@[simp] theorem State.ringHost_flt (s : State) (e : Nat) :
    (s.ringHost e).flt = s.flt := by
  obtain ⟨_, _, h⟩ := State.ringHost_frame s e; rw [h]
@[simp] theorem State.ringHost_regs (s : State) (e : Nat) :
    (s.ringHost e).regs = s.regs := by
  obtain ⟨_, _, h⟩ := State.ringHost_frame s e; rw [h]
@[simp] theorem State.ringHost_regWrites (s : State) (e : Nat) :
    (s.ringHost e).regWrites = s.regWrites := by
  obtain ⟨_, _, h⟩ := State.ringHost_frame s e; rw [h]
@[simp] theorem State.ringHost_freeCtr (s : State) (e : Nat) :
    (s.ringHost e).freeCtr = s.freeCtr := by
  obtain ⟨_, _, h⟩ := State.ringHost_frame s e; rw [h]
@[simp] theorem State.ringHost_pending (s : State) (e : Nat) :
    (s.ringHost e).pending = s.pending := by
  obtain ⟨_, _, h⟩ := State.ringHost_frame s e; rw [h]

/-- `alert` changes nothing but: bus. -/
theorem State.alert_frame (s : State) (i : Nat) :
    ∃ x0, s.alert i = { s with bus := x0 } := by
  simp only [State.alert, State.arise]
  split
  · exact ⟨_, rfl⟩
  · split <;> exact ⟨_, rfl⟩

@[simp] theorem State.alert_last (s : State) (i : Nat) :
    (s.alert i).last = s.last := by
  obtain ⟨_, h⟩ := State.alert_frame s i; rw [h]
@[simp] theorem State.alert_intake (s : State) (i : Nat) :
    (s.alert i).intake = s.intake := by
  obtain ⟨_, h⟩ := State.alert_frame s i; rw [h]
@[simp] theorem State.alert_prog (s : State) (i : Nat) :
    (s.alert i).prog = s.prog := by
  obtain ⟨_, h⟩ := State.alert_frame s i; rw [h]
@[simp] theorem State.alert_tack (s : State) (i : Nat) :
    (s.alert i).tack = s.tack := by
  obtain ⟨_, h⟩ := State.alert_frame s i; rw [h]
@[simp] theorem State.alert_radio (s : State) (i : Nat) :
    (s.alert i).radio = s.radio := by
  obtain ⟨_, h⟩ := State.alert_frame s i; rw [h]
@[simp] theorem State.alert_clk (s : State) (i : Nat) :
    (s.alert i).clk = s.clk := by
  obtain ⟨_, h⟩ := State.alert_frame s i; rw [h]
@[simp] theorem State.alert_lanes (s : State) (i : Nat) :
    (s.alert i).lanes = s.lanes := by
  obtain ⟨_, h⟩ := State.alert_frame s i; rw [h]
@[simp] theorem State.alert_fm (s : State) (i : Nat) :
    (s.alert i).fm = s.fm := by
  obtain ⟨_, h⟩ := State.alert_frame s i; rw [h]
@[simp] theorem State.alert_follow (s : State) (i : Nat) :
    (s.alert i).follow = s.follow := by
  obtain ⟨_, h⟩ := State.alert_frame s i; rw [h]
@[simp] theorem State.alert_dab (s : State) (i : Nat) :
    (s.alert i).dab = s.dab := by
  obtain ⟨_, h⟩ := State.alert_frame s i; rw [h]
@[simp] theorem State.alert_hearth (s : State) (i : Nat) :
    (s.alert i).hearth = s.hearth := by
  obtain ⟨_, h⟩ := State.alert_frame s i; rw [h]
@[simp] theorem State.alert_theSeal (s : State) (i : Nat) :
    (s.alert i).theSeal = s.theSeal := by
  obtain ⟨_, h⟩ := State.alert_frame s i; rw [h]
@[simp] theorem State.alert_infra (s : State) (i : Nat) :
    (s.alert i).infra = s.infra := by
  obtain ⟨_, h⟩ := State.alert_frame s i; rw [h]
@[simp] theorem State.alert_mail (s : State) (i : Nat) :
    (s.alert i).mail = s.mail := by
  obtain ⟨_, h⟩ := State.alert_frame s i; rw [h]
@[simp] theorem State.alert_port (s : State) (i : Nat) :
    (s.alert i).port = s.port := by
  obtain ⟨_, h⟩ := State.alert_frame s i; rw [h]
@[simp] theorem State.alert_welt (s : State) (i : Nat) :
    (s.alert i).welt = s.welt := by
  obtain ⟨_, h⟩ := State.alert_frame s i; rw [h]
@[simp] theorem State.alert_store (s : State) (i : Nat) :
    (s.alert i).store = s.store := by
  obtain ⟨_, h⟩ := State.alert_frame s i; rw [h]
@[simp] theorem State.alert_awl (s : State) (i : Nat) :
    (s.alert i).awl = s.awl := by
  obtain ⟨_, h⟩ := State.alert_frame s i; rw [h]
@[simp] theorem State.alert_supply (s : State) (i : Nat) :
    (s.alert i).supply = s.supply := by
  obtain ⟨_, h⟩ := State.alert_frame s i; rw [h]
@[simp] theorem State.alert_flt (s : State) (i : Nat) :
    (s.alert i).flt = s.flt := by
  obtain ⟨_, h⟩ := State.alert_frame s i; rw [h]
@[simp] theorem State.alert_regs (s : State) (i : Nat) :
    (s.alert i).regs = s.regs := by
  obtain ⟨_, h⟩ := State.alert_frame s i; rw [h]
@[simp] theorem State.alert_regWrites (s : State) (i : Nat) :
    (s.alert i).regWrites = s.regWrites := by
  obtain ⟨_, h⟩ := State.alert_frame s i; rw [h]
@[simp] theorem State.alert_freeCtr (s : State) (i : Nat) :
    (s.alert i).freeCtr = s.freeCtr := by
  obtain ⟨_, h⟩ := State.alert_frame s i; rw [h]
@[simp] theorem State.alert_pending (s : State) (i : Nat) :
    (s.alert i).pending = s.pending := by
  obtain ⟨_, h⟩ := State.alert_frame s i; rw [h]

/-- `radioEvent` changes nothing but: prog. -/
theorem State.radioEvent_frame (s : State) (c : Nat) (w : List Byte) (fs : List (Nat × Word)) :
    ∃ x0, s.radioEvent c w fs = { s with prog := x0 } := by
  exact State.deliver_frame s _ _

@[simp] theorem State.radioEvent_last (s : State) (c : Nat) (w : List Byte) (fs : List (Nat × Word)) :
    (s.radioEvent c w fs).last = s.last := by
  obtain ⟨_, h⟩ := State.radioEvent_frame s c w fs; rw [h]
@[simp] theorem State.radioEvent_intake (s : State) (c : Nat) (w : List Byte) (fs : List (Nat × Word)) :
    (s.radioEvent c w fs).intake = s.intake := by
  obtain ⟨_, h⟩ := State.radioEvent_frame s c w fs; rw [h]
@[simp] theorem State.radioEvent_tack (s : State) (c : Nat) (w : List Byte) (fs : List (Nat × Word)) :
    (s.radioEvent c w fs).tack = s.tack := by
  obtain ⟨_, h⟩ := State.radioEvent_frame s c w fs; rw [h]
@[simp] theorem State.radioEvent_radio (s : State) (c : Nat) (w : List Byte) (fs : List (Nat × Word)) :
    (s.radioEvent c w fs).radio = s.radio := by
  obtain ⟨_, h⟩ := State.radioEvent_frame s c w fs; rw [h]
@[simp] theorem State.radioEvent_clk (s : State) (c : Nat) (w : List Byte) (fs : List (Nat × Word)) :
    (s.radioEvent c w fs).clk = s.clk := by
  obtain ⟨_, h⟩ := State.radioEvent_frame s c w fs; rw [h]
@[simp] theorem State.radioEvent_lanes (s : State) (c : Nat) (w : List Byte) (fs : List (Nat × Word)) :
    (s.radioEvent c w fs).lanes = s.lanes := by
  obtain ⟨_, h⟩ := State.radioEvent_frame s c w fs; rw [h]
@[simp] theorem State.radioEvent_fm (s : State) (c : Nat) (w : List Byte) (fs : List (Nat × Word)) :
    (s.radioEvent c w fs).fm = s.fm := by
  obtain ⟨_, h⟩ := State.radioEvent_frame s c w fs; rw [h]
@[simp] theorem State.radioEvent_follow (s : State) (c : Nat) (w : List Byte) (fs : List (Nat × Word)) :
    (s.radioEvent c w fs).follow = s.follow := by
  obtain ⟨_, h⟩ := State.radioEvent_frame s c w fs; rw [h]
@[simp] theorem State.radioEvent_dab (s : State) (c : Nat) (w : List Byte) (fs : List (Nat × Word)) :
    (s.radioEvent c w fs).dab = s.dab := by
  obtain ⟨_, h⟩ := State.radioEvent_frame s c w fs; rw [h]
@[simp] theorem State.radioEvent_hearth (s : State) (c : Nat) (w : List Byte) (fs : List (Nat × Word)) :
    (s.radioEvent c w fs).hearth = s.hearth := by
  obtain ⟨_, h⟩ := State.radioEvent_frame s c w fs; rw [h]
@[simp] theorem State.radioEvent_theSeal (s : State) (c : Nat) (w : List Byte) (fs : List (Nat × Word)) :
    (s.radioEvent c w fs).theSeal = s.theSeal := by
  obtain ⟨_, h⟩ := State.radioEvent_frame s c w fs; rw [h]
@[simp] theorem State.radioEvent_infra (s : State) (c : Nat) (w : List Byte) (fs : List (Nat × Word)) :
    (s.radioEvent c w fs).infra = s.infra := by
  obtain ⟨_, h⟩ := State.radioEvent_frame s c w fs; rw [h]
@[simp] theorem State.radioEvent_bus (s : State) (c : Nat) (w : List Byte) (fs : List (Nat × Word)) :
    (s.radioEvent c w fs).bus = s.bus := by
  obtain ⟨_, h⟩ := State.radioEvent_frame s c w fs; rw [h]
@[simp] theorem State.radioEvent_mail (s : State) (c : Nat) (w : List Byte) (fs : List (Nat × Word)) :
    (s.radioEvent c w fs).mail = s.mail := by
  obtain ⟨_, h⟩ := State.radioEvent_frame s c w fs; rw [h]
@[simp] theorem State.radioEvent_port (s : State) (c : Nat) (w : List Byte) (fs : List (Nat × Word)) :
    (s.radioEvent c w fs).port = s.port := by
  obtain ⟨_, h⟩ := State.radioEvent_frame s c w fs; rw [h]
@[simp] theorem State.radioEvent_welt (s : State) (c : Nat) (w : List Byte) (fs : List (Nat × Word)) :
    (s.radioEvent c w fs).welt = s.welt := by
  obtain ⟨_, h⟩ := State.radioEvent_frame s c w fs; rw [h]
@[simp] theorem State.radioEvent_store (s : State) (c : Nat) (w : List Byte) (fs : List (Nat × Word)) :
    (s.radioEvent c w fs).store = s.store := by
  obtain ⟨_, h⟩ := State.radioEvent_frame s c w fs; rw [h]
@[simp] theorem State.radioEvent_awl (s : State) (c : Nat) (w : List Byte) (fs : List (Nat × Word)) :
    (s.radioEvent c w fs).awl = s.awl := by
  obtain ⟨_, h⟩ := State.radioEvent_frame s c w fs; rw [h]
@[simp] theorem State.radioEvent_supply (s : State) (c : Nat) (w : List Byte) (fs : List (Nat × Word)) :
    (s.radioEvent c w fs).supply = s.supply := by
  obtain ⟨_, h⟩ := State.radioEvent_frame s c w fs; rw [h]
@[simp] theorem State.radioEvent_flt (s : State) (c : Nat) (w : List Byte) (fs : List (Nat × Word)) :
    (s.radioEvent c w fs).flt = s.flt := by
  obtain ⟨_, h⟩ := State.radioEvent_frame s c w fs; rw [h]
@[simp] theorem State.radioEvent_regs (s : State) (c : Nat) (w : List Byte) (fs : List (Nat × Word)) :
    (s.radioEvent c w fs).regs = s.regs := by
  obtain ⟨_, h⟩ := State.radioEvent_frame s c w fs; rw [h]
@[simp] theorem State.radioEvent_regWrites (s : State) (c : Nat) (w : List Byte) (fs : List (Nat × Word)) :
    (s.radioEvent c w fs).regWrites = s.regWrites := by
  obtain ⟨_, h⟩ := State.radioEvent_frame s c w fs; rw [h]
@[simp] theorem State.radioEvent_freeCtr (s : State) (c : Nat) (w : List Byte) (fs : List (Nat × Word)) :
    (s.radioEvent c w fs).freeCtr = s.freeCtr := by
  obtain ⟨_, h⟩ := State.radioEvent_frame s c w fs; rw [h]
@[simp] theorem State.radioEvent_pending (s : State) (c : Nat) (w : List Byte) (fs : List (Nat × Word)) :
    (s.radioEvent c w fs).pending = s.pending := by
  obtain ⟨_, h⟩ := State.radioEvent_frame s c w fs; rw [h]

/-- `reply` changes nothing but: prog. -/
theorem State.reply_frame (s : State) (c id st : Nat) (w : List Byte) :
    ∃ x0, s.reply c id st w = { s with prog := x0 } := by
  exact State.deliver_frame s _ _

@[simp] theorem State.reply_last (s : State) (c id st : Nat) (w : List Byte) :
    (s.reply c id st w).last = s.last := by
  obtain ⟨_, h⟩ := State.reply_frame s c id st w; rw [h]
@[simp] theorem State.reply_intake (s : State) (c id st : Nat) (w : List Byte) :
    (s.reply c id st w).intake = s.intake := by
  obtain ⟨_, h⟩ := State.reply_frame s c id st w; rw [h]
@[simp] theorem State.reply_tack (s : State) (c id st : Nat) (w : List Byte) :
    (s.reply c id st w).tack = s.tack := by
  obtain ⟨_, h⟩ := State.reply_frame s c id st w; rw [h]
@[simp] theorem State.reply_radio (s : State) (c id st : Nat) (w : List Byte) :
    (s.reply c id st w).radio = s.radio := by
  obtain ⟨_, h⟩ := State.reply_frame s c id st w; rw [h]
@[simp] theorem State.reply_clk (s : State) (c id st : Nat) (w : List Byte) :
    (s.reply c id st w).clk = s.clk := by
  obtain ⟨_, h⟩ := State.reply_frame s c id st w; rw [h]
@[simp] theorem State.reply_lanes (s : State) (c id st : Nat) (w : List Byte) :
    (s.reply c id st w).lanes = s.lanes := by
  obtain ⟨_, h⟩ := State.reply_frame s c id st w; rw [h]
@[simp] theorem State.reply_fm (s : State) (c id st : Nat) (w : List Byte) :
    (s.reply c id st w).fm = s.fm := by
  obtain ⟨_, h⟩ := State.reply_frame s c id st w; rw [h]
@[simp] theorem State.reply_follow (s : State) (c id st : Nat) (w : List Byte) :
    (s.reply c id st w).follow = s.follow := by
  obtain ⟨_, h⟩ := State.reply_frame s c id st w; rw [h]
@[simp] theorem State.reply_dab (s : State) (c id st : Nat) (w : List Byte) :
    (s.reply c id st w).dab = s.dab := by
  obtain ⟨_, h⟩ := State.reply_frame s c id st w; rw [h]
@[simp] theorem State.reply_hearth (s : State) (c id st : Nat) (w : List Byte) :
    (s.reply c id st w).hearth = s.hearth := by
  obtain ⟨_, h⟩ := State.reply_frame s c id st w; rw [h]
@[simp] theorem State.reply_theSeal (s : State) (c id st : Nat) (w : List Byte) :
    (s.reply c id st w).theSeal = s.theSeal := by
  obtain ⟨_, h⟩ := State.reply_frame s c id st w; rw [h]
@[simp] theorem State.reply_infra (s : State) (c id st : Nat) (w : List Byte) :
    (s.reply c id st w).infra = s.infra := by
  obtain ⟨_, h⟩ := State.reply_frame s c id st w; rw [h]
@[simp] theorem State.reply_bus (s : State) (c id st : Nat) (w : List Byte) :
    (s.reply c id st w).bus = s.bus := by
  obtain ⟨_, h⟩ := State.reply_frame s c id st w; rw [h]
@[simp] theorem State.reply_mail (s : State) (c id st : Nat) (w : List Byte) :
    (s.reply c id st w).mail = s.mail := by
  obtain ⟨_, h⟩ := State.reply_frame s c id st w; rw [h]
@[simp] theorem State.reply_port (s : State) (c id st : Nat) (w : List Byte) :
    (s.reply c id st w).port = s.port := by
  obtain ⟨_, h⟩ := State.reply_frame s c id st w; rw [h]
@[simp] theorem State.reply_welt (s : State) (c id st : Nat) (w : List Byte) :
    (s.reply c id st w).welt = s.welt := by
  obtain ⟨_, h⟩ := State.reply_frame s c id st w; rw [h]
@[simp] theorem State.reply_store (s : State) (c id st : Nat) (w : List Byte) :
    (s.reply c id st w).store = s.store := by
  obtain ⟨_, h⟩ := State.reply_frame s c id st w; rw [h]
@[simp] theorem State.reply_awl (s : State) (c id st : Nat) (w : List Byte) :
    (s.reply c id st w).awl = s.awl := by
  obtain ⟨_, h⟩ := State.reply_frame s c id st w; rw [h]
@[simp] theorem State.reply_supply (s : State) (c id st : Nat) (w : List Byte) :
    (s.reply c id st w).supply = s.supply := by
  obtain ⟨_, h⟩ := State.reply_frame s c id st w; rw [h]
@[simp] theorem State.reply_flt (s : State) (c id st : Nat) (w : List Byte) :
    (s.reply c id st w).flt = s.flt := by
  obtain ⟨_, h⟩ := State.reply_frame s c id st w; rw [h]
@[simp] theorem State.reply_regs (s : State) (c id st : Nat) (w : List Byte) :
    (s.reply c id st w).regs = s.regs := by
  obtain ⟨_, h⟩ := State.reply_frame s c id st w; rw [h]
@[simp] theorem State.reply_regWrites (s : State) (c id st : Nat) (w : List Byte) :
    (s.reply c id st w).regWrites = s.regWrites := by
  obtain ⟨_, h⟩ := State.reply_frame s c id st w; rw [h]
@[simp] theorem State.reply_freeCtr (s : State) (c id st : Nat) (w : List Byte) :
    (s.reply c id st w).freeCtr = s.freeCtr := by
  obtain ⟨_, h⟩ := State.reply_frame s c id st w; rw [h]
@[simp] theorem State.reply_pending (s : State) (c id st : Nat) (w : List Byte) :
    (s.reply c id st w).pending = s.pending := by
  obtain ⟨_, h⟩ := State.reply_frame s c id st w; rw [h]

/-- `radioFor` changes nothing but: prog. -/
theorem State.radioFor_frame (s : State) (c id : Nat) (w : List Byte) :
    ∃ x0, s.radioFor c id w = { s with prog := x0 } := by
  exact State.deliver_frame s _ _

@[simp] theorem State.radioFor_last (s : State) (c id : Nat) (w : List Byte) :
    (s.radioFor c id w).last = s.last := by
  obtain ⟨_, h⟩ := State.radioFor_frame s c id w; rw [h]
@[simp] theorem State.radioFor_intake (s : State) (c id : Nat) (w : List Byte) :
    (s.radioFor c id w).intake = s.intake := by
  obtain ⟨_, h⟩ := State.radioFor_frame s c id w; rw [h]
@[simp] theorem State.radioFor_tack (s : State) (c id : Nat) (w : List Byte) :
    (s.radioFor c id w).tack = s.tack := by
  obtain ⟨_, h⟩ := State.radioFor_frame s c id w; rw [h]
@[simp] theorem State.radioFor_radio (s : State) (c id : Nat) (w : List Byte) :
    (s.radioFor c id w).radio = s.radio := by
  obtain ⟨_, h⟩ := State.radioFor_frame s c id w; rw [h]
@[simp] theorem State.radioFor_clk (s : State) (c id : Nat) (w : List Byte) :
    (s.radioFor c id w).clk = s.clk := by
  obtain ⟨_, h⟩ := State.radioFor_frame s c id w; rw [h]
@[simp] theorem State.radioFor_lanes (s : State) (c id : Nat) (w : List Byte) :
    (s.radioFor c id w).lanes = s.lanes := by
  obtain ⟨_, h⟩ := State.radioFor_frame s c id w; rw [h]
@[simp] theorem State.radioFor_fm (s : State) (c id : Nat) (w : List Byte) :
    (s.radioFor c id w).fm = s.fm := by
  obtain ⟨_, h⟩ := State.radioFor_frame s c id w; rw [h]
@[simp] theorem State.radioFor_follow (s : State) (c id : Nat) (w : List Byte) :
    (s.radioFor c id w).follow = s.follow := by
  obtain ⟨_, h⟩ := State.radioFor_frame s c id w; rw [h]
@[simp] theorem State.radioFor_dab (s : State) (c id : Nat) (w : List Byte) :
    (s.radioFor c id w).dab = s.dab := by
  obtain ⟨_, h⟩ := State.radioFor_frame s c id w; rw [h]
@[simp] theorem State.radioFor_hearth (s : State) (c id : Nat) (w : List Byte) :
    (s.radioFor c id w).hearth = s.hearth := by
  obtain ⟨_, h⟩ := State.radioFor_frame s c id w; rw [h]
@[simp] theorem State.radioFor_theSeal (s : State) (c id : Nat) (w : List Byte) :
    (s.radioFor c id w).theSeal = s.theSeal := by
  obtain ⟨_, h⟩ := State.radioFor_frame s c id w; rw [h]
@[simp] theorem State.radioFor_infra (s : State) (c id : Nat) (w : List Byte) :
    (s.radioFor c id w).infra = s.infra := by
  obtain ⟨_, h⟩ := State.radioFor_frame s c id w; rw [h]
@[simp] theorem State.radioFor_bus (s : State) (c id : Nat) (w : List Byte) :
    (s.radioFor c id w).bus = s.bus := by
  obtain ⟨_, h⟩ := State.radioFor_frame s c id w; rw [h]
@[simp] theorem State.radioFor_mail (s : State) (c id : Nat) (w : List Byte) :
    (s.radioFor c id w).mail = s.mail := by
  obtain ⟨_, h⟩ := State.radioFor_frame s c id w; rw [h]
@[simp] theorem State.radioFor_port (s : State) (c id : Nat) (w : List Byte) :
    (s.radioFor c id w).port = s.port := by
  obtain ⟨_, h⟩ := State.radioFor_frame s c id w; rw [h]
@[simp] theorem State.radioFor_welt (s : State) (c id : Nat) (w : List Byte) :
    (s.radioFor c id w).welt = s.welt := by
  obtain ⟨_, h⟩ := State.radioFor_frame s c id w; rw [h]
@[simp] theorem State.radioFor_store (s : State) (c id : Nat) (w : List Byte) :
    (s.radioFor c id w).store = s.store := by
  obtain ⟨_, h⟩ := State.radioFor_frame s c id w; rw [h]
@[simp] theorem State.radioFor_awl (s : State) (c id : Nat) (w : List Byte) :
    (s.radioFor c id w).awl = s.awl := by
  obtain ⟨_, h⟩ := State.radioFor_frame s c id w; rw [h]
@[simp] theorem State.radioFor_supply (s : State) (c id : Nat) (w : List Byte) :
    (s.radioFor c id w).supply = s.supply := by
  obtain ⟨_, h⟩ := State.radioFor_frame s c id w; rw [h]
@[simp] theorem State.radioFor_flt (s : State) (c id : Nat) (w : List Byte) :
    (s.radioFor c id w).flt = s.flt := by
  obtain ⟨_, h⟩ := State.radioFor_frame s c id w; rw [h]
@[simp] theorem State.radioFor_regs (s : State) (c id : Nat) (w : List Byte) :
    (s.radioFor c id w).regs = s.regs := by
  obtain ⟨_, h⟩ := State.radioFor_frame s c id w; rw [h]
@[simp] theorem State.radioFor_regWrites (s : State) (c id : Nat) (w : List Byte) :
    (s.radioFor c id w).regWrites = s.regWrites := by
  obtain ⟨_, h⟩ := State.radioFor_frame s c id w; rw [h]
@[simp] theorem State.radioFor_freeCtr (s : State) (c id : Nat) (w : List Byte) :
    (s.radioFor c id w).freeCtr = s.freeCtr := by
  obtain ⟨_, h⟩ := State.radioFor_frame s c id w; rw [h]
@[simp] theorem State.radioFor_pending (s : State) (c id : Nat) (w : List Byte) :
    (s.radioFor c id w).pending = s.pending := by
  obtain ⟨_, h⟩ := State.radioFor_frame s c id w; rw [h]

/-- `faultEvent` changes nothing but: prog. -/
theorem State.faultEvent_frame (s : State) (c u k : Nat) :
    ∃ x0, s.faultEvent c u k = { s with prog := x0 } := by
  exact State.deliver_frame s _ _

@[simp] theorem State.faultEvent_last (s : State) (c u k : Nat) :
    (s.faultEvent c u k).last = s.last := by
  obtain ⟨_, h⟩ := State.faultEvent_frame s c u k; rw [h]
@[simp] theorem State.faultEvent_intake (s : State) (c u k : Nat) :
    (s.faultEvent c u k).intake = s.intake := by
  obtain ⟨_, h⟩ := State.faultEvent_frame s c u k; rw [h]
@[simp] theorem State.faultEvent_tack (s : State) (c u k : Nat) :
    (s.faultEvent c u k).tack = s.tack := by
  obtain ⟨_, h⟩ := State.faultEvent_frame s c u k; rw [h]
@[simp] theorem State.faultEvent_radio (s : State) (c u k : Nat) :
    (s.faultEvent c u k).radio = s.radio := by
  obtain ⟨_, h⟩ := State.faultEvent_frame s c u k; rw [h]
@[simp] theorem State.faultEvent_clk (s : State) (c u k : Nat) :
    (s.faultEvent c u k).clk = s.clk := by
  obtain ⟨_, h⟩ := State.faultEvent_frame s c u k; rw [h]
@[simp] theorem State.faultEvent_lanes (s : State) (c u k : Nat) :
    (s.faultEvent c u k).lanes = s.lanes := by
  obtain ⟨_, h⟩ := State.faultEvent_frame s c u k; rw [h]
@[simp] theorem State.faultEvent_fm (s : State) (c u k : Nat) :
    (s.faultEvent c u k).fm = s.fm := by
  obtain ⟨_, h⟩ := State.faultEvent_frame s c u k; rw [h]
@[simp] theorem State.faultEvent_follow (s : State) (c u k : Nat) :
    (s.faultEvent c u k).follow = s.follow := by
  obtain ⟨_, h⟩ := State.faultEvent_frame s c u k; rw [h]
@[simp] theorem State.faultEvent_dab (s : State) (c u k : Nat) :
    (s.faultEvent c u k).dab = s.dab := by
  obtain ⟨_, h⟩ := State.faultEvent_frame s c u k; rw [h]
@[simp] theorem State.faultEvent_hearth (s : State) (c u k : Nat) :
    (s.faultEvent c u k).hearth = s.hearth := by
  obtain ⟨_, h⟩ := State.faultEvent_frame s c u k; rw [h]
@[simp] theorem State.faultEvent_theSeal (s : State) (c u k : Nat) :
    (s.faultEvent c u k).theSeal = s.theSeal := by
  obtain ⟨_, h⟩ := State.faultEvent_frame s c u k; rw [h]
@[simp] theorem State.faultEvent_infra (s : State) (c u k : Nat) :
    (s.faultEvent c u k).infra = s.infra := by
  obtain ⟨_, h⟩ := State.faultEvent_frame s c u k; rw [h]
@[simp] theorem State.faultEvent_bus (s : State) (c u k : Nat) :
    (s.faultEvent c u k).bus = s.bus := by
  obtain ⟨_, h⟩ := State.faultEvent_frame s c u k; rw [h]
@[simp] theorem State.faultEvent_mail (s : State) (c u k : Nat) :
    (s.faultEvent c u k).mail = s.mail := by
  obtain ⟨_, h⟩ := State.faultEvent_frame s c u k; rw [h]
@[simp] theorem State.faultEvent_port (s : State) (c u k : Nat) :
    (s.faultEvent c u k).port = s.port := by
  obtain ⟨_, h⟩ := State.faultEvent_frame s c u k; rw [h]
@[simp] theorem State.faultEvent_welt (s : State) (c u k : Nat) :
    (s.faultEvent c u k).welt = s.welt := by
  obtain ⟨_, h⟩ := State.faultEvent_frame s c u k; rw [h]
@[simp] theorem State.faultEvent_store (s : State) (c u k : Nat) :
    (s.faultEvent c u k).store = s.store := by
  obtain ⟨_, h⟩ := State.faultEvent_frame s c u k; rw [h]
@[simp] theorem State.faultEvent_awl (s : State) (c u k : Nat) :
    (s.faultEvent c u k).awl = s.awl := by
  obtain ⟨_, h⟩ := State.faultEvent_frame s c u k; rw [h]
@[simp] theorem State.faultEvent_supply (s : State) (c u k : Nat) :
    (s.faultEvent c u k).supply = s.supply := by
  obtain ⟨_, h⟩ := State.faultEvent_frame s c u k; rw [h]
@[simp] theorem State.faultEvent_flt (s : State) (c u k : Nat) :
    (s.faultEvent c u k).flt = s.flt := by
  obtain ⟨_, h⟩ := State.faultEvent_frame s c u k; rw [h]
@[simp] theorem State.faultEvent_regs (s : State) (c u k : Nat) :
    (s.faultEvent c u k).regs = s.regs := by
  obtain ⟨_, h⟩ := State.faultEvent_frame s c u k; rw [h]
@[simp] theorem State.faultEvent_regWrites (s : State) (c u k : Nat) :
    (s.faultEvent c u k).regWrites = s.regWrites := by
  obtain ⟨_, h⟩ := State.faultEvent_frame s c u k; rw [h]
@[simp] theorem State.faultEvent_freeCtr (s : State) (c u k : Nat) :
    (s.faultEvent c u k).freeCtr = s.freeCtr := by
  obtain ⟨_, h⟩ := State.faultEvent_frame s c u k; rw [h]
@[simp] theorem State.faultEvent_pending (s : State) (c u k : Nat) :
    (s.faultEvent c u k).pending = s.pending := by
  obtain ⟨_, h⟩ := State.faultEvent_frame s c u k; rw [h]

/-- `deliverAll` changes nothing but: prog. -/
theorem State.deliverAll_frame (s : State) (e : Event) :
    ∃ x0, s.deliverAll e = { s with prog := x0 } := by
  unfold State.deliverAll
  generalize [0, 1, 2, 3, 4] = l
  induction l generalizing s with
  | nil => exact ⟨s.prog, rfl⟩
  | cons b l ih =>
    obtain ⟨p, h⟩ := State.deliver_frame s b e
    obtain ⟨q, k⟩ := ih (s.deliver b e)
    exact ⟨q, by rw [List.foldl_cons, k, h]⟩

@[simp] theorem State.deliverAll_last (s : State) (e : Event) :
    (s.deliverAll e).last = s.last := by
  obtain ⟨_, h⟩ := State.deliverAll_frame s e; rw [h]
@[simp] theorem State.deliverAll_intake (s : State) (e : Event) :
    (s.deliverAll e).intake = s.intake := by
  obtain ⟨_, h⟩ := State.deliverAll_frame s e; rw [h]
@[simp] theorem State.deliverAll_tack (s : State) (e : Event) :
    (s.deliverAll e).tack = s.tack := by
  obtain ⟨_, h⟩ := State.deliverAll_frame s e; rw [h]
@[simp] theorem State.deliverAll_radio (s : State) (e : Event) :
    (s.deliverAll e).radio = s.radio := by
  obtain ⟨_, h⟩ := State.deliverAll_frame s e; rw [h]
@[simp] theorem State.deliverAll_clk (s : State) (e : Event) :
    (s.deliverAll e).clk = s.clk := by
  obtain ⟨_, h⟩ := State.deliverAll_frame s e; rw [h]
@[simp] theorem State.deliverAll_lanes (s : State) (e : Event) :
    (s.deliverAll e).lanes = s.lanes := by
  obtain ⟨_, h⟩ := State.deliverAll_frame s e; rw [h]
@[simp] theorem State.deliverAll_fm (s : State) (e : Event) :
    (s.deliverAll e).fm = s.fm := by
  obtain ⟨_, h⟩ := State.deliverAll_frame s e; rw [h]
@[simp] theorem State.deliverAll_follow (s : State) (e : Event) :
    (s.deliverAll e).follow = s.follow := by
  obtain ⟨_, h⟩ := State.deliverAll_frame s e; rw [h]
@[simp] theorem State.deliverAll_dab (s : State) (e : Event) :
    (s.deliverAll e).dab = s.dab := by
  obtain ⟨_, h⟩ := State.deliverAll_frame s e; rw [h]
@[simp] theorem State.deliverAll_hearth (s : State) (e : Event) :
    (s.deliverAll e).hearth = s.hearth := by
  obtain ⟨_, h⟩ := State.deliverAll_frame s e; rw [h]
@[simp] theorem State.deliverAll_theSeal (s : State) (e : Event) :
    (s.deliverAll e).theSeal = s.theSeal := by
  obtain ⟨_, h⟩ := State.deliverAll_frame s e; rw [h]
@[simp] theorem State.deliverAll_infra (s : State) (e : Event) :
    (s.deliverAll e).infra = s.infra := by
  obtain ⟨_, h⟩ := State.deliverAll_frame s e; rw [h]
@[simp] theorem State.deliverAll_bus (s : State) (e : Event) :
    (s.deliverAll e).bus = s.bus := by
  obtain ⟨_, h⟩ := State.deliverAll_frame s e; rw [h]
@[simp] theorem State.deliverAll_mail (s : State) (e : Event) :
    (s.deliverAll e).mail = s.mail := by
  obtain ⟨_, h⟩ := State.deliverAll_frame s e; rw [h]
@[simp] theorem State.deliverAll_port (s : State) (e : Event) :
    (s.deliverAll e).port = s.port := by
  obtain ⟨_, h⟩ := State.deliverAll_frame s e; rw [h]
@[simp] theorem State.deliverAll_welt (s : State) (e : Event) :
    (s.deliverAll e).welt = s.welt := by
  obtain ⟨_, h⟩ := State.deliverAll_frame s e; rw [h]
@[simp] theorem State.deliverAll_store (s : State) (e : Event) :
    (s.deliverAll e).store = s.store := by
  obtain ⟨_, h⟩ := State.deliverAll_frame s e; rw [h]
@[simp] theorem State.deliverAll_awl (s : State) (e : Event) :
    (s.deliverAll e).awl = s.awl := by
  obtain ⟨_, h⟩ := State.deliverAll_frame s e; rw [h]
@[simp] theorem State.deliverAll_supply (s : State) (e : Event) :
    (s.deliverAll e).supply = s.supply := by
  obtain ⟨_, h⟩ := State.deliverAll_frame s e; rw [h]
@[simp] theorem State.deliverAll_flt (s : State) (e : Event) :
    (s.deliverAll e).flt = s.flt := by
  obtain ⟨_, h⟩ := State.deliverAll_frame s e; rw [h]
@[simp] theorem State.deliverAll_regs (s : State) (e : Event) :
    (s.deliverAll e).regs = s.regs := by
  obtain ⟨_, h⟩ := State.deliverAll_frame s e; rw [h]
@[simp] theorem State.deliverAll_regWrites (s : State) (e : Event) :
    (s.deliverAll e).regWrites = s.regWrites := by
  obtain ⟨_, h⟩ := State.deliverAll_frame s e; rw [h]
@[simp] theorem State.deliverAll_freeCtr (s : State) (e : Event) :
    (s.deliverAll e).freeCtr = s.freeCtr := by
  obtain ⟨_, h⟩ := State.deliverAll_frame s e; rw [h]
@[simp] theorem State.deliverAll_pending (s : State) (e : Event) :
    (s.deliverAll e).pending = s.pending := by
  obtain ⟨_, h⟩ := State.deliverAll_frame s e; rw [h]

/-- `logFault` changes nothing but: bus, flt. -/
theorem State.logFault_frame (s : State) (c u k : Nat) :
    ∃ x0 x1, (s.logFault c u k).2 = { s with bus := x0, flt := x1 } := by
  have hs : ∃ b, (if s.flt.entries.isEmpty then s.arise 2 else s) = { s with bus := b } := by
    split
    · exact State.arise_frame s 2
    · exact ⟨_, rfl⟩
  obtain ⟨b, hs⟩ := hs
  simp only [State.logFault, hs]
  have hi : ∀ (c : Prop) [Decidable c] (p q : FaultEntry × State),
      (∃ x y, p.2 = { s with bus := x, flt := y }) → (∃ x y, q.2 = { s with bus := x, flt := y }) →
      ∃ x y, (if c then p else q).2 = { s with bus := x, flt := y } := by
    intro c _ p q hp hq
    split <;> assumption
  generalize s.flt.entries.getLast? = o
  cases o
  · exact hi _ _ _ ⟨_, _, rfl⟩ (hi _ _ _ ⟨_, _, rfl⟩ ⟨_, _, rfl⟩)
  · exact hi _ _ _ ⟨_, _, rfl⟩ (hi _ _ _ ⟨_, _, rfl⟩ (hi _ _ _ ⟨_, _, rfl⟩ ⟨_, _, rfl⟩))

@[simp] theorem State.logFault_last (s : State) (c u k : Nat) :
    ((s.logFault c u k).2).last = s.last := by
  obtain ⟨_, _, h⟩ := State.logFault_frame s c u k; rw [h]
@[simp] theorem State.logFault_intake (s : State) (c u k : Nat) :
    ((s.logFault c u k).2).intake = s.intake := by
  obtain ⟨_, _, h⟩ := State.logFault_frame s c u k; rw [h]
@[simp] theorem State.logFault_prog (s : State) (c u k : Nat) :
    ((s.logFault c u k).2).prog = s.prog := by
  obtain ⟨_, _, h⟩ := State.logFault_frame s c u k; rw [h]
@[simp] theorem State.logFault_tack (s : State) (c u k : Nat) :
    ((s.logFault c u k).2).tack = s.tack := by
  obtain ⟨_, _, h⟩ := State.logFault_frame s c u k; rw [h]
@[simp] theorem State.logFault_radio (s : State) (c u k : Nat) :
    ((s.logFault c u k).2).radio = s.radio := by
  obtain ⟨_, _, h⟩ := State.logFault_frame s c u k; rw [h]
@[simp] theorem State.logFault_clk (s : State) (c u k : Nat) :
    ((s.logFault c u k).2).clk = s.clk := by
  obtain ⟨_, _, h⟩ := State.logFault_frame s c u k; rw [h]
@[simp] theorem State.logFault_lanes (s : State) (c u k : Nat) :
    ((s.logFault c u k).2).lanes = s.lanes := by
  obtain ⟨_, _, h⟩ := State.logFault_frame s c u k; rw [h]
@[simp] theorem State.logFault_fm (s : State) (c u k : Nat) :
    ((s.logFault c u k).2).fm = s.fm := by
  obtain ⟨_, _, h⟩ := State.logFault_frame s c u k; rw [h]
@[simp] theorem State.logFault_follow (s : State) (c u k : Nat) :
    ((s.logFault c u k).2).follow = s.follow := by
  obtain ⟨_, _, h⟩ := State.logFault_frame s c u k; rw [h]
@[simp] theorem State.logFault_dab (s : State) (c u k : Nat) :
    ((s.logFault c u k).2).dab = s.dab := by
  obtain ⟨_, _, h⟩ := State.logFault_frame s c u k; rw [h]
@[simp] theorem State.logFault_hearth (s : State) (c u k : Nat) :
    ((s.logFault c u k).2).hearth = s.hearth := by
  obtain ⟨_, _, h⟩ := State.logFault_frame s c u k; rw [h]
@[simp] theorem State.logFault_theSeal (s : State) (c u k : Nat) :
    ((s.logFault c u k).2).theSeal = s.theSeal := by
  obtain ⟨_, _, h⟩ := State.logFault_frame s c u k; rw [h]
@[simp] theorem State.logFault_infra (s : State) (c u k : Nat) :
    ((s.logFault c u k).2).infra = s.infra := by
  obtain ⟨_, _, h⟩ := State.logFault_frame s c u k; rw [h]
@[simp] theorem State.logFault_mail (s : State) (c u k : Nat) :
    ((s.logFault c u k).2).mail = s.mail := by
  obtain ⟨_, _, h⟩ := State.logFault_frame s c u k; rw [h]
@[simp] theorem State.logFault_port (s : State) (c u k : Nat) :
    ((s.logFault c u k).2).port = s.port := by
  obtain ⟨_, _, h⟩ := State.logFault_frame s c u k; rw [h]
@[simp] theorem State.logFault_welt (s : State) (c u k : Nat) :
    ((s.logFault c u k).2).welt = s.welt := by
  obtain ⟨_, _, h⟩ := State.logFault_frame s c u k; rw [h]
@[simp] theorem State.logFault_store (s : State) (c u k : Nat) :
    ((s.logFault c u k).2).store = s.store := by
  obtain ⟨_, _, h⟩ := State.logFault_frame s c u k; rw [h]
@[simp] theorem State.logFault_awl (s : State) (c u k : Nat) :
    ((s.logFault c u k).2).awl = s.awl := by
  obtain ⟨_, _, h⟩ := State.logFault_frame s c u k; rw [h]
@[simp] theorem State.logFault_supply (s : State) (c u k : Nat) :
    ((s.logFault c u k).2).supply = s.supply := by
  obtain ⟨_, _, h⟩ := State.logFault_frame s c u k; rw [h]
@[simp] theorem State.logFault_regs (s : State) (c u k : Nat) :
    ((s.logFault c u k).2).regs = s.regs := by
  obtain ⟨_, _, h⟩ := State.logFault_frame s c u k; rw [h]
@[simp] theorem State.logFault_regWrites (s : State) (c u k : Nat) :
    ((s.logFault c u k).2).regWrites = s.regWrites := by
  obtain ⟨_, _, h⟩ := State.logFault_frame s c u k; rw [h]
@[simp] theorem State.logFault_freeCtr (s : State) (c u k : Nat) :
    ((s.logFault c u k).2).freeCtr = s.freeCtr := by
  obtain ⟨_, _, h⟩ := State.logFault_frame s c u k; rw [h]
@[simp] theorem State.logFault_pending (s : State) (c u k : Nat) :
    ((s.logFault c u k).2).pending = s.pending := by
  obtain ⟨_, _, h⟩ := State.logFault_frame s c u k; rw [h]

/-- `losePacket` changes nothing but: prog, tack, port. -/
theorem State.losePacket_frame (s : State) (m : Bool) (pos : Pos) (len : Nat) :
    ∃ x0 x1 x2, (s.losePacket m pos len).2 = { s with prog := x0, tack := x1, port := x2 } := by
  simp only [State.losePacket]
  split
  all_goals exact ⟨_, _, _, rfl⟩

@[simp] theorem State.losePacket_last (s : State) (m : Bool) (pos : Pos) (len : Nat) :
    ((s.losePacket m pos len).2).last = s.last := by
  obtain ⟨_, _, _, h⟩ := State.losePacket_frame s m pos len; rw [h]
@[simp] theorem State.losePacket_intake (s : State) (m : Bool) (pos : Pos) (len : Nat) :
    ((s.losePacket m pos len).2).intake = s.intake := by
  obtain ⟨_, _, _, h⟩ := State.losePacket_frame s m pos len; rw [h]
@[simp] theorem State.losePacket_radio (s : State) (m : Bool) (pos : Pos) (len : Nat) :
    ((s.losePacket m pos len).2).radio = s.radio := by
  obtain ⟨_, _, _, h⟩ := State.losePacket_frame s m pos len; rw [h]
@[simp] theorem State.losePacket_clk (s : State) (m : Bool) (pos : Pos) (len : Nat) :
    ((s.losePacket m pos len).2).clk = s.clk := by
  obtain ⟨_, _, _, h⟩ := State.losePacket_frame s m pos len; rw [h]
@[simp] theorem State.losePacket_lanes (s : State) (m : Bool) (pos : Pos) (len : Nat) :
    ((s.losePacket m pos len).2).lanes = s.lanes := by
  obtain ⟨_, _, _, h⟩ := State.losePacket_frame s m pos len; rw [h]
@[simp] theorem State.losePacket_fm (s : State) (m : Bool) (pos : Pos) (len : Nat) :
    ((s.losePacket m pos len).2).fm = s.fm := by
  obtain ⟨_, _, _, h⟩ := State.losePacket_frame s m pos len; rw [h]
@[simp] theorem State.losePacket_follow (s : State) (m : Bool) (pos : Pos) (len : Nat) :
    ((s.losePacket m pos len).2).follow = s.follow := by
  obtain ⟨_, _, _, h⟩ := State.losePacket_frame s m pos len; rw [h]
@[simp] theorem State.losePacket_dab (s : State) (m : Bool) (pos : Pos) (len : Nat) :
    ((s.losePacket m pos len).2).dab = s.dab := by
  obtain ⟨_, _, _, h⟩ := State.losePacket_frame s m pos len; rw [h]
@[simp] theorem State.losePacket_hearth (s : State) (m : Bool) (pos : Pos) (len : Nat) :
    ((s.losePacket m pos len).2).hearth = s.hearth := by
  obtain ⟨_, _, _, h⟩ := State.losePacket_frame s m pos len; rw [h]
@[simp] theorem State.losePacket_theSeal (s : State) (m : Bool) (pos : Pos) (len : Nat) :
    ((s.losePacket m pos len).2).theSeal = s.theSeal := by
  obtain ⟨_, _, _, h⟩ := State.losePacket_frame s m pos len; rw [h]
@[simp] theorem State.losePacket_infra (s : State) (m : Bool) (pos : Pos) (len : Nat) :
    ((s.losePacket m pos len).2).infra = s.infra := by
  obtain ⟨_, _, _, h⟩ := State.losePacket_frame s m pos len; rw [h]
@[simp] theorem State.losePacket_bus (s : State) (m : Bool) (pos : Pos) (len : Nat) :
    ((s.losePacket m pos len).2).bus = s.bus := by
  obtain ⟨_, _, _, h⟩ := State.losePacket_frame s m pos len; rw [h]
@[simp] theorem State.losePacket_mail (s : State) (m : Bool) (pos : Pos) (len : Nat) :
    ((s.losePacket m pos len).2).mail = s.mail := by
  obtain ⟨_, _, _, h⟩ := State.losePacket_frame s m pos len; rw [h]
@[simp] theorem State.losePacket_welt (s : State) (m : Bool) (pos : Pos) (len : Nat) :
    ((s.losePacket m pos len).2).welt = s.welt := by
  obtain ⟨_, _, _, h⟩ := State.losePacket_frame s m pos len; rw [h]
@[simp] theorem State.losePacket_store (s : State) (m : Bool) (pos : Pos) (len : Nat) :
    ((s.losePacket m pos len).2).store = s.store := by
  obtain ⟨_, _, _, h⟩ := State.losePacket_frame s m pos len; rw [h]
@[simp] theorem State.losePacket_awl (s : State) (m : Bool) (pos : Pos) (len : Nat) :
    ((s.losePacket m pos len).2).awl = s.awl := by
  obtain ⟨_, _, _, h⟩ := State.losePacket_frame s m pos len; rw [h]
@[simp] theorem State.losePacket_supply (s : State) (m : Bool) (pos : Pos) (len : Nat) :
    ((s.losePacket m pos len).2).supply = s.supply := by
  obtain ⟨_, _, _, h⟩ := State.losePacket_frame s m pos len; rw [h]
@[simp] theorem State.losePacket_flt (s : State) (m : Bool) (pos : Pos) (len : Nat) :
    ((s.losePacket m pos len).2).flt = s.flt := by
  obtain ⟨_, _, _, h⟩ := State.losePacket_frame s m pos len; rw [h]
@[simp] theorem State.losePacket_regs (s : State) (m : Bool) (pos : Pos) (len : Nat) :
    ((s.losePacket m pos len).2).regs = s.regs := by
  obtain ⟨_, _, _, h⟩ := State.losePacket_frame s m pos len; rw [h]
@[simp] theorem State.losePacket_regWrites (s : State) (m : Bool) (pos : Pos) (len : Nat) :
    ((s.losePacket m pos len).2).regWrites = s.regWrites := by
  obtain ⟨_, _, _, h⟩ := State.losePacket_frame s m pos len; rw [h]
@[simp] theorem State.losePacket_freeCtr (s : State) (m : Bool) (pos : Pos) (len : Nat) :
    ((s.losePacket m pos len).2).freeCtr = s.freeCtr := by
  obtain ⟨_, _, _, h⟩ := State.losePacket_frame s m pos len; rw [h]
@[simp] theorem State.losePacket_pending (s : State) (m : Bool) (pos : Pos) (len : Nat) :
    ((s.losePacket m pos len).2).pending = s.pending := by
  obtain ⟨_, _, _, h⟩ := State.losePacket_frame s m pos len; rw [h]

/-- `tryPacket` changes nothing but: prog, tack, port. -/
theorem State.tryPacket_frame (s : State) (ty sub : Nat) (pos : Pos) (xs : List Byte) :
    ∃ x0 x1 x2, (s.tryPacket ty sub pos xs).2 = { s with prog := x0, tack := x1, port := x2 } := by
  simp only [State.tryPacket]
  split
  · split
    · exact ⟨_, _, _, rfl⟩
    · exact ⟨_, _, _, rfl⟩
  · exact State.losePacket_frame s _ _ _

@[simp] theorem State.tryPacket_last (s : State) (ty sub : Nat) (pos : Pos) (xs : List Byte) :
    ((s.tryPacket ty sub pos xs).2).last = s.last := by
  obtain ⟨_, _, _, h⟩ := State.tryPacket_frame s ty sub pos xs; rw [h]
@[simp] theorem State.tryPacket_intake (s : State) (ty sub : Nat) (pos : Pos) (xs : List Byte) :
    ((s.tryPacket ty sub pos xs).2).intake = s.intake := by
  obtain ⟨_, _, _, h⟩ := State.tryPacket_frame s ty sub pos xs; rw [h]
@[simp] theorem State.tryPacket_radio (s : State) (ty sub : Nat) (pos : Pos) (xs : List Byte) :
    ((s.tryPacket ty sub pos xs).2).radio = s.radio := by
  obtain ⟨_, _, _, h⟩ := State.tryPacket_frame s ty sub pos xs; rw [h]
@[simp] theorem State.tryPacket_clk (s : State) (ty sub : Nat) (pos : Pos) (xs : List Byte) :
    ((s.tryPacket ty sub pos xs).2).clk = s.clk := by
  obtain ⟨_, _, _, h⟩ := State.tryPacket_frame s ty sub pos xs; rw [h]
@[simp] theorem State.tryPacket_lanes (s : State) (ty sub : Nat) (pos : Pos) (xs : List Byte) :
    ((s.tryPacket ty sub pos xs).2).lanes = s.lanes := by
  obtain ⟨_, _, _, h⟩ := State.tryPacket_frame s ty sub pos xs; rw [h]
@[simp] theorem State.tryPacket_fm (s : State) (ty sub : Nat) (pos : Pos) (xs : List Byte) :
    ((s.tryPacket ty sub pos xs).2).fm = s.fm := by
  obtain ⟨_, _, _, h⟩ := State.tryPacket_frame s ty sub pos xs; rw [h]
@[simp] theorem State.tryPacket_follow (s : State) (ty sub : Nat) (pos : Pos) (xs : List Byte) :
    ((s.tryPacket ty sub pos xs).2).follow = s.follow := by
  obtain ⟨_, _, _, h⟩ := State.tryPacket_frame s ty sub pos xs; rw [h]
@[simp] theorem State.tryPacket_dab (s : State) (ty sub : Nat) (pos : Pos) (xs : List Byte) :
    ((s.tryPacket ty sub pos xs).2).dab = s.dab := by
  obtain ⟨_, _, _, h⟩ := State.tryPacket_frame s ty sub pos xs; rw [h]
@[simp] theorem State.tryPacket_hearth (s : State) (ty sub : Nat) (pos : Pos) (xs : List Byte) :
    ((s.tryPacket ty sub pos xs).2).hearth = s.hearth := by
  obtain ⟨_, _, _, h⟩ := State.tryPacket_frame s ty sub pos xs; rw [h]
@[simp] theorem State.tryPacket_theSeal (s : State) (ty sub : Nat) (pos : Pos) (xs : List Byte) :
    ((s.tryPacket ty sub pos xs).2).theSeal = s.theSeal := by
  obtain ⟨_, _, _, h⟩ := State.tryPacket_frame s ty sub pos xs; rw [h]
@[simp] theorem State.tryPacket_infra (s : State) (ty sub : Nat) (pos : Pos) (xs : List Byte) :
    ((s.tryPacket ty sub pos xs).2).infra = s.infra := by
  obtain ⟨_, _, _, h⟩ := State.tryPacket_frame s ty sub pos xs; rw [h]
@[simp] theorem State.tryPacket_bus (s : State) (ty sub : Nat) (pos : Pos) (xs : List Byte) :
    ((s.tryPacket ty sub pos xs).2).bus = s.bus := by
  obtain ⟨_, _, _, h⟩ := State.tryPacket_frame s ty sub pos xs; rw [h]
@[simp] theorem State.tryPacket_mail (s : State) (ty sub : Nat) (pos : Pos) (xs : List Byte) :
    ((s.tryPacket ty sub pos xs).2).mail = s.mail := by
  obtain ⟨_, _, _, h⟩ := State.tryPacket_frame s ty sub pos xs; rw [h]
@[simp] theorem State.tryPacket_welt (s : State) (ty sub : Nat) (pos : Pos) (xs : List Byte) :
    ((s.tryPacket ty sub pos xs).2).welt = s.welt := by
  obtain ⟨_, _, _, h⟩ := State.tryPacket_frame s ty sub pos xs; rw [h]
@[simp] theorem State.tryPacket_store (s : State) (ty sub : Nat) (pos : Pos) (xs : List Byte) :
    ((s.tryPacket ty sub pos xs).2).store = s.store := by
  obtain ⟨_, _, _, h⟩ := State.tryPacket_frame s ty sub pos xs; rw [h]
@[simp] theorem State.tryPacket_awl (s : State) (ty sub : Nat) (pos : Pos) (xs : List Byte) :
    ((s.tryPacket ty sub pos xs).2).awl = s.awl := by
  obtain ⟨_, _, _, h⟩ := State.tryPacket_frame s ty sub pos xs; rw [h]
@[simp] theorem State.tryPacket_supply (s : State) (ty sub : Nat) (pos : Pos) (xs : List Byte) :
    ((s.tryPacket ty sub pos xs).2).supply = s.supply := by
  obtain ⟨_, _, _, h⟩ := State.tryPacket_frame s ty sub pos xs; rw [h]
@[simp] theorem State.tryPacket_flt (s : State) (ty sub : Nat) (pos : Pos) (xs : List Byte) :
    ((s.tryPacket ty sub pos xs).2).flt = s.flt := by
  obtain ⟨_, _, _, h⟩ := State.tryPacket_frame s ty sub pos xs; rw [h]
@[simp] theorem State.tryPacket_regs (s : State) (ty sub : Nat) (pos : Pos) (xs : List Byte) :
    ((s.tryPacket ty sub pos xs).2).regs = s.regs := by
  obtain ⟨_, _, _, h⟩ := State.tryPacket_frame s ty sub pos xs; rw [h]
@[simp] theorem State.tryPacket_regWrites (s : State) (ty sub : Nat) (pos : Pos) (xs : List Byte) :
    ((s.tryPacket ty sub pos xs).2).regWrites = s.regWrites := by
  obtain ⟨_, _, _, h⟩ := State.tryPacket_frame s ty sub pos xs; rw [h]
@[simp] theorem State.tryPacket_freeCtr (s : State) (ty sub : Nat) (pos : Pos) (xs : List Byte) :
    ((s.tryPacket ty sub pos xs).2).freeCtr = s.freeCtr := by
  obtain ⟨_, _, _, h⟩ := State.tryPacket_frame s ty sub pos xs; rw [h]
@[simp] theorem State.tryPacket_pending (s : State) (ty sub : Nat) (pos : Pos) (xs : List Byte) :
    ((s.tryPacket ty sub pos xs).2).pending = s.pending := by
  obtain ⟨_, _, _, h⟩ := State.tryPacket_frame s ty sub pos xs; rw [h]

/-- `streamFault` changes nothing but: prog, tack, port. -/
theorem State.streamFault_frame (s : State) (e : FaultEntry) :
    ∃ x0 x1 x2, (s.streamFault e).2 = { s with prog := x0, tack := x1, port := x2 } := by
  unfold State.streamFault
  split
  · exact State.tryPacket_frame s _ _ _ _
  · exact ⟨_, _, _, rfl⟩

@[simp] theorem State.streamFault_last (s : State) (e : FaultEntry) :
    ((s.streamFault e).2).last = s.last := by
  obtain ⟨_, _, _, h⟩ := State.streamFault_frame s e; rw [h]
@[simp] theorem State.streamFault_intake (s : State) (e : FaultEntry) :
    ((s.streamFault e).2).intake = s.intake := by
  obtain ⟨_, _, _, h⟩ := State.streamFault_frame s e; rw [h]
@[simp] theorem State.streamFault_radio (s : State) (e : FaultEntry) :
    ((s.streamFault e).2).radio = s.radio := by
  obtain ⟨_, _, _, h⟩ := State.streamFault_frame s e; rw [h]
@[simp] theorem State.streamFault_clk (s : State) (e : FaultEntry) :
    ((s.streamFault e).2).clk = s.clk := by
  obtain ⟨_, _, _, h⟩ := State.streamFault_frame s e; rw [h]
@[simp] theorem State.streamFault_lanes (s : State) (e : FaultEntry) :
    ((s.streamFault e).2).lanes = s.lanes := by
  obtain ⟨_, _, _, h⟩ := State.streamFault_frame s e; rw [h]
@[simp] theorem State.streamFault_fm (s : State) (e : FaultEntry) :
    ((s.streamFault e).2).fm = s.fm := by
  obtain ⟨_, _, _, h⟩ := State.streamFault_frame s e; rw [h]
@[simp] theorem State.streamFault_follow (s : State) (e : FaultEntry) :
    ((s.streamFault e).2).follow = s.follow := by
  obtain ⟨_, _, _, h⟩ := State.streamFault_frame s e; rw [h]
@[simp] theorem State.streamFault_dab (s : State) (e : FaultEntry) :
    ((s.streamFault e).2).dab = s.dab := by
  obtain ⟨_, _, _, h⟩ := State.streamFault_frame s e; rw [h]
@[simp] theorem State.streamFault_hearth (s : State) (e : FaultEntry) :
    ((s.streamFault e).2).hearth = s.hearth := by
  obtain ⟨_, _, _, h⟩ := State.streamFault_frame s e; rw [h]
@[simp] theorem State.streamFault_theSeal (s : State) (e : FaultEntry) :
    ((s.streamFault e).2).theSeal = s.theSeal := by
  obtain ⟨_, _, _, h⟩ := State.streamFault_frame s e; rw [h]
@[simp] theorem State.streamFault_infra (s : State) (e : FaultEntry) :
    ((s.streamFault e).2).infra = s.infra := by
  obtain ⟨_, _, _, h⟩ := State.streamFault_frame s e; rw [h]
@[simp] theorem State.streamFault_bus (s : State) (e : FaultEntry) :
    ((s.streamFault e).2).bus = s.bus := by
  obtain ⟨_, _, _, h⟩ := State.streamFault_frame s e; rw [h]
@[simp] theorem State.streamFault_mail (s : State) (e : FaultEntry) :
    ((s.streamFault e).2).mail = s.mail := by
  obtain ⟨_, _, _, h⟩ := State.streamFault_frame s e; rw [h]
@[simp] theorem State.streamFault_welt (s : State) (e : FaultEntry) :
    ((s.streamFault e).2).welt = s.welt := by
  obtain ⟨_, _, _, h⟩ := State.streamFault_frame s e; rw [h]
@[simp] theorem State.streamFault_store (s : State) (e : FaultEntry) :
    ((s.streamFault e).2).store = s.store := by
  obtain ⟨_, _, _, h⟩ := State.streamFault_frame s e; rw [h]
@[simp] theorem State.streamFault_awl (s : State) (e : FaultEntry) :
    ((s.streamFault e).2).awl = s.awl := by
  obtain ⟨_, _, _, h⟩ := State.streamFault_frame s e; rw [h]
@[simp] theorem State.streamFault_supply (s : State) (e : FaultEntry) :
    ((s.streamFault e).2).supply = s.supply := by
  obtain ⟨_, _, _, h⟩ := State.streamFault_frame s e; rw [h]
@[simp] theorem State.streamFault_flt (s : State) (e : FaultEntry) :
    ((s.streamFault e).2).flt = s.flt := by
  obtain ⟨_, _, _, h⟩ := State.streamFault_frame s e; rw [h]
@[simp] theorem State.streamFault_regs (s : State) (e : FaultEntry) :
    ((s.streamFault e).2).regs = s.regs := by
  obtain ⟨_, _, _, h⟩ := State.streamFault_frame s e; rw [h]
@[simp] theorem State.streamFault_regWrites (s : State) (e : FaultEntry) :
    ((s.streamFault e).2).regWrites = s.regWrites := by
  obtain ⟨_, _, _, h⟩ := State.streamFault_frame s e; rw [h]
@[simp] theorem State.streamFault_freeCtr (s : State) (e : FaultEntry) :
    ((s.streamFault e).2).freeCtr = s.freeCtr := by
  obtain ⟨_, _, _, h⟩ := State.streamFault_frame s e; rw [h]
@[simp] theorem State.streamFault_pending (s : State) (e : FaultEntry) :
    ((s.streamFault e).2).pending = s.pending := by
  obtain ⟨_, _, _, h⟩ := State.streamFault_frame s e; rw [h]

/-- `dropBegins` changes nothing but: prog, tack, bus, port, flt. -/
theorem State.dropBegins_frame (s : State) :
    ∃ x0 x1 x2 x3 x4, s.dropBegins = { s with prog := x0, tack := x1, bus := x2, port := x3, flt := x4 } := by
  simp only [State.dropBegins]
  generalize hr : s.logFault _ _ _ = r
  obtain ⟨b, f, h⟩ := State.logFault_frame s 0x9301 0xFF (if s.relyStream then clsVoid else clsNote)
  rw [hr] at h
  obtain ⟨p, h1⟩ := State.faultEvent_frame r.2 0x9301 0xFF (if s.relyStream then clsVoid else clsNote)
  generalize r.2.faultEvent _ _ _ = t at h1
  obtain ⟨p2, k, o, h2⟩ := State.streamFault_frame t r.1
  generalize (t.streamFault r.1).2 = v at h2
  obtain ⟨p3, h3⟩ := State.radioFor_frame v 0x0B21 0 []
  exact ⟨p3, k, b, o, f, by rw [h3, h2, h1, h]⟩

@[simp] theorem State.dropBegins_last (s : State) :
    (s.dropBegins).last = s.last := by
  obtain ⟨_, _, _, _, _, h⟩ := State.dropBegins_frame s; rw [h]
@[simp] theorem State.dropBegins_intake (s : State) :
    (s.dropBegins).intake = s.intake := by
  obtain ⟨_, _, _, _, _, h⟩ := State.dropBegins_frame s; rw [h]
@[simp] theorem State.dropBegins_radio (s : State) :
    (s.dropBegins).radio = s.radio := by
  obtain ⟨_, _, _, _, _, h⟩ := State.dropBegins_frame s; rw [h]
@[simp] theorem State.dropBegins_clk (s : State) :
    (s.dropBegins).clk = s.clk := by
  obtain ⟨_, _, _, _, _, h⟩ := State.dropBegins_frame s; rw [h]
@[simp] theorem State.dropBegins_lanes (s : State) :
    (s.dropBegins).lanes = s.lanes := by
  obtain ⟨_, _, _, _, _, h⟩ := State.dropBegins_frame s; rw [h]
@[simp] theorem State.dropBegins_fm (s : State) :
    (s.dropBegins).fm = s.fm := by
  obtain ⟨_, _, _, _, _, h⟩ := State.dropBegins_frame s; rw [h]
@[simp] theorem State.dropBegins_follow (s : State) :
    (s.dropBegins).follow = s.follow := by
  obtain ⟨_, _, _, _, _, h⟩ := State.dropBegins_frame s; rw [h]
@[simp] theorem State.dropBegins_dab (s : State) :
    (s.dropBegins).dab = s.dab := by
  obtain ⟨_, _, _, _, _, h⟩ := State.dropBegins_frame s; rw [h]
@[simp] theorem State.dropBegins_hearth (s : State) :
    (s.dropBegins).hearth = s.hearth := by
  obtain ⟨_, _, _, _, _, h⟩ := State.dropBegins_frame s; rw [h]
@[simp] theorem State.dropBegins_theSeal (s : State) :
    (s.dropBegins).theSeal = s.theSeal := by
  obtain ⟨_, _, _, _, _, h⟩ := State.dropBegins_frame s; rw [h]
@[simp] theorem State.dropBegins_infra (s : State) :
    (s.dropBegins).infra = s.infra := by
  obtain ⟨_, _, _, _, _, h⟩ := State.dropBegins_frame s; rw [h]
@[simp] theorem State.dropBegins_mail (s : State) :
    (s.dropBegins).mail = s.mail := by
  obtain ⟨_, _, _, _, _, h⟩ := State.dropBegins_frame s; rw [h]
@[simp] theorem State.dropBegins_welt (s : State) :
    (s.dropBegins).welt = s.welt := by
  obtain ⟨_, _, _, _, _, h⟩ := State.dropBegins_frame s; rw [h]
@[simp] theorem State.dropBegins_store (s : State) :
    (s.dropBegins).store = s.store := by
  obtain ⟨_, _, _, _, _, h⟩ := State.dropBegins_frame s; rw [h]
@[simp] theorem State.dropBegins_awl (s : State) :
    (s.dropBegins).awl = s.awl := by
  obtain ⟨_, _, _, _, _, h⟩ := State.dropBegins_frame s; rw [h]
@[simp] theorem State.dropBegins_supply (s : State) :
    (s.dropBegins).supply = s.supply := by
  obtain ⟨_, _, _, _, _, h⟩ := State.dropBegins_frame s; rw [h]
@[simp] theorem State.dropBegins_regs (s : State) :
    (s.dropBegins).regs = s.regs := by
  obtain ⟨_, _, _, _, _, h⟩ := State.dropBegins_frame s; rw [h]
@[simp] theorem State.dropBegins_regWrites (s : State) :
    (s.dropBegins).regWrites = s.regWrites := by
  obtain ⟨_, _, _, _, _, h⟩ := State.dropBegins_frame s; rw [h]
@[simp] theorem State.dropBegins_freeCtr (s : State) :
    (s.dropBegins).freeCtr = s.freeCtr := by
  obtain ⟨_, _, _, _, _, h⟩ := State.dropBegins_frame s; rw [h]
@[simp] theorem State.dropBegins_pending (s : State) :
    (s.dropBegins).pending = s.pending := by
  obtain ⟨_, _, _, _, _, h⟩ := State.dropBegins_frame s; rw [h]

/-- `packet` changes nothing but: prog, tack, bus, port, flt. -/
theorem State.packet_frame (s : State) (ty sub : Nat) (pos : Pos) (xs : List Byte) :
    ∃ x0 x1 x2 x3 x4, s.packet ty sub pos xs = { s with prog := x0, tack := x1, bus := x2, port := x3, flt := x4 } := by
  obtain ⟨p, k, o, h⟩ := State.tryPacket_frame s ty sub pos xs
  simp only [State.packet]
  generalize s.tryPacket ty sub pos xs = r at h
  split
  · obtain ⟨p1, k1, b1, o1, f1, h1⟩ := State.dropBegins_frame r.2
    exact ⟨p1, k1, b1, o1, f1, by rw [h1, h]⟩
  · exact ⟨p, k, s.bus, o, s.flt, by rw [h]⟩

@[simp] theorem State.packet_last (s : State) (ty sub : Nat) (pos : Pos) (xs : List Byte) :
    (s.packet ty sub pos xs).last = s.last := by
  obtain ⟨_, _, _, _, _, h⟩ := State.packet_frame s ty sub pos xs; rw [h]
@[simp] theorem State.packet_intake (s : State) (ty sub : Nat) (pos : Pos) (xs : List Byte) :
    (s.packet ty sub pos xs).intake = s.intake := by
  obtain ⟨_, _, _, _, _, h⟩ := State.packet_frame s ty sub pos xs; rw [h]
@[simp] theorem State.packet_radio (s : State) (ty sub : Nat) (pos : Pos) (xs : List Byte) :
    (s.packet ty sub pos xs).radio = s.radio := by
  obtain ⟨_, _, _, _, _, h⟩ := State.packet_frame s ty sub pos xs; rw [h]
@[simp] theorem State.packet_clk (s : State) (ty sub : Nat) (pos : Pos) (xs : List Byte) :
    (s.packet ty sub pos xs).clk = s.clk := by
  obtain ⟨_, _, _, _, _, h⟩ := State.packet_frame s ty sub pos xs; rw [h]
@[simp] theorem State.packet_lanes (s : State) (ty sub : Nat) (pos : Pos) (xs : List Byte) :
    (s.packet ty sub pos xs).lanes = s.lanes := by
  obtain ⟨_, _, _, _, _, h⟩ := State.packet_frame s ty sub pos xs; rw [h]
@[simp] theorem State.packet_fm (s : State) (ty sub : Nat) (pos : Pos) (xs : List Byte) :
    (s.packet ty sub pos xs).fm = s.fm := by
  obtain ⟨_, _, _, _, _, h⟩ := State.packet_frame s ty sub pos xs; rw [h]
@[simp] theorem State.packet_follow (s : State) (ty sub : Nat) (pos : Pos) (xs : List Byte) :
    (s.packet ty sub pos xs).follow = s.follow := by
  obtain ⟨_, _, _, _, _, h⟩ := State.packet_frame s ty sub pos xs; rw [h]
@[simp] theorem State.packet_dab (s : State) (ty sub : Nat) (pos : Pos) (xs : List Byte) :
    (s.packet ty sub pos xs).dab = s.dab := by
  obtain ⟨_, _, _, _, _, h⟩ := State.packet_frame s ty sub pos xs; rw [h]
@[simp] theorem State.packet_hearth (s : State) (ty sub : Nat) (pos : Pos) (xs : List Byte) :
    (s.packet ty sub pos xs).hearth = s.hearth := by
  obtain ⟨_, _, _, _, _, h⟩ := State.packet_frame s ty sub pos xs; rw [h]
@[simp] theorem State.packet_theSeal (s : State) (ty sub : Nat) (pos : Pos) (xs : List Byte) :
    (s.packet ty sub pos xs).theSeal = s.theSeal := by
  obtain ⟨_, _, _, _, _, h⟩ := State.packet_frame s ty sub pos xs; rw [h]
@[simp] theorem State.packet_infra (s : State) (ty sub : Nat) (pos : Pos) (xs : List Byte) :
    (s.packet ty sub pos xs).infra = s.infra := by
  obtain ⟨_, _, _, _, _, h⟩ := State.packet_frame s ty sub pos xs; rw [h]
@[simp] theorem State.packet_mail (s : State) (ty sub : Nat) (pos : Pos) (xs : List Byte) :
    (s.packet ty sub pos xs).mail = s.mail := by
  obtain ⟨_, _, _, _, _, h⟩ := State.packet_frame s ty sub pos xs; rw [h]
@[simp] theorem State.packet_welt (s : State) (ty sub : Nat) (pos : Pos) (xs : List Byte) :
    (s.packet ty sub pos xs).welt = s.welt := by
  obtain ⟨_, _, _, _, _, h⟩ := State.packet_frame s ty sub pos xs; rw [h]
@[simp] theorem State.packet_store (s : State) (ty sub : Nat) (pos : Pos) (xs : List Byte) :
    (s.packet ty sub pos xs).store = s.store := by
  obtain ⟨_, _, _, _, _, h⟩ := State.packet_frame s ty sub pos xs; rw [h]
@[simp] theorem State.packet_awl (s : State) (ty sub : Nat) (pos : Pos) (xs : List Byte) :
    (s.packet ty sub pos xs).awl = s.awl := by
  obtain ⟨_, _, _, _, _, h⟩ := State.packet_frame s ty sub pos xs; rw [h]
@[simp] theorem State.packet_supply (s : State) (ty sub : Nat) (pos : Pos) (xs : List Byte) :
    (s.packet ty sub pos xs).supply = s.supply := by
  obtain ⟨_, _, _, _, _, h⟩ := State.packet_frame s ty sub pos xs; rw [h]
@[simp] theorem State.packet_regs (s : State) (ty sub : Nat) (pos : Pos) (xs : List Byte) :
    (s.packet ty sub pos xs).regs = s.regs := by
  obtain ⟨_, _, _, _, _, h⟩ := State.packet_frame s ty sub pos xs; rw [h]
@[simp] theorem State.packet_regWrites (s : State) (ty sub : Nat) (pos : Pos) (xs : List Byte) :
    (s.packet ty sub pos xs).regWrites = s.regWrites := by
  obtain ⟨_, _, _, _, _, h⟩ := State.packet_frame s ty sub pos xs; rw [h]
@[simp] theorem State.packet_freeCtr (s : State) (ty sub : Nat) (pos : Pos) (xs : List Byte) :
    (s.packet ty sub pos xs).freeCtr = s.freeCtr := by
  obtain ⟨_, _, _, _, _, h⟩ := State.packet_frame s ty sub pos xs; rw [h]
@[simp] theorem State.packet_pending (s : State) (ty sub : Nat) (pos : Pos) (xs : List Byte) :
    (s.packet ty sub pos xs).pending = s.pending := by
  obtain ⟨_, _, _, _, _, h⟩ := State.packet_frame s ty sub pos xs; rw [h]

/-- `raise` changes nothing but: prog, tack, bus, port, flt. -/
theorem State.raise_frame (s : State) (c u k : Nat) :
    ∃ x0 x1 x2 x3 x4, s.raise c u k = { s with prog := x0, tack := x1, bus := x2, port := x3, flt := x4 } := by
  obtain ⟨b, f, h⟩ := State.logFault_frame s c u k
  simp only [State.raise]
  generalize s.logFault c u k = r at h
  obtain ⟨p, h1⟩ := State.faultEvent_frame r.2 c u k
  generalize r.2.faultEvent c u k = t at h1
  obtain ⟨p2, k2, o, h2⟩ := State.streamFault_frame t r.1
  generalize t.streamFault r.1 = v at h2
  split
  · obtain ⟨p3, k3, b3, o3, f3, h3⟩ := State.dropBegins_frame v.2
    exact ⟨p3, k3, b3, o3, f3, by rw [h3, h2, h1, h]⟩
  · exact ⟨p2, k2, b, o, f, by rw [h2, h1, h]⟩

@[simp] theorem State.raise_last (s : State) (c u k : Nat) :
    (s.raise c u k).last = s.last := by
  obtain ⟨_, _, _, _, _, h⟩ := State.raise_frame s c u k; rw [h]
@[simp] theorem State.raise_intake (s : State) (c u k : Nat) :
    (s.raise c u k).intake = s.intake := by
  obtain ⟨_, _, _, _, _, h⟩ := State.raise_frame s c u k; rw [h]
@[simp] theorem State.raise_radio (s : State) (c u k : Nat) :
    (s.raise c u k).radio = s.radio := by
  obtain ⟨_, _, _, _, _, h⟩ := State.raise_frame s c u k; rw [h]
@[simp] theorem State.raise_clk (s : State) (c u k : Nat) :
    (s.raise c u k).clk = s.clk := by
  obtain ⟨_, _, _, _, _, h⟩ := State.raise_frame s c u k; rw [h]
@[simp] theorem State.raise_lanes (s : State) (c u k : Nat) :
    (s.raise c u k).lanes = s.lanes := by
  obtain ⟨_, _, _, _, _, h⟩ := State.raise_frame s c u k; rw [h]
@[simp] theorem State.raise_fm (s : State) (c u k : Nat) :
    (s.raise c u k).fm = s.fm := by
  obtain ⟨_, _, _, _, _, h⟩ := State.raise_frame s c u k; rw [h]
@[simp] theorem State.raise_follow (s : State) (c u k : Nat) :
    (s.raise c u k).follow = s.follow := by
  obtain ⟨_, _, _, _, _, h⟩ := State.raise_frame s c u k; rw [h]
@[simp] theorem State.raise_dab (s : State) (c u k : Nat) :
    (s.raise c u k).dab = s.dab := by
  obtain ⟨_, _, _, _, _, h⟩ := State.raise_frame s c u k; rw [h]
@[simp] theorem State.raise_hearth (s : State) (c u k : Nat) :
    (s.raise c u k).hearth = s.hearth := by
  obtain ⟨_, _, _, _, _, h⟩ := State.raise_frame s c u k; rw [h]
@[simp] theorem State.raise_theSeal (s : State) (c u k : Nat) :
    (s.raise c u k).theSeal = s.theSeal := by
  obtain ⟨_, _, _, _, _, h⟩ := State.raise_frame s c u k; rw [h]
@[simp] theorem State.raise_infra (s : State) (c u k : Nat) :
    (s.raise c u k).infra = s.infra := by
  obtain ⟨_, _, _, _, _, h⟩ := State.raise_frame s c u k; rw [h]
@[simp] theorem State.raise_mail (s : State) (c u k : Nat) :
    (s.raise c u k).mail = s.mail := by
  obtain ⟨_, _, _, _, _, h⟩ := State.raise_frame s c u k; rw [h]
@[simp] theorem State.raise_welt (s : State) (c u k : Nat) :
    (s.raise c u k).welt = s.welt := by
  obtain ⟨_, _, _, _, _, h⟩ := State.raise_frame s c u k; rw [h]
@[simp] theorem State.raise_store (s : State) (c u k : Nat) :
    (s.raise c u k).store = s.store := by
  obtain ⟨_, _, _, _, _, h⟩ := State.raise_frame s c u k; rw [h]
@[simp] theorem State.raise_awl (s : State) (c u k : Nat) :
    (s.raise c u k).awl = s.awl := by
  obtain ⟨_, _, _, _, _, h⟩ := State.raise_frame s c u k; rw [h]
@[simp] theorem State.raise_supply (s : State) (c u k : Nat) :
    (s.raise c u k).supply = s.supply := by
  obtain ⟨_, _, _, _, _, h⟩ := State.raise_frame s c u k; rw [h]
@[simp] theorem State.raise_regs (s : State) (c u k : Nat) :
    (s.raise c u k).regs = s.regs := by
  obtain ⟨_, _, _, _, _, h⟩ := State.raise_frame s c u k; rw [h]
@[simp] theorem State.raise_regWrites (s : State) (c u k : Nat) :
    (s.raise c u k).regWrites = s.regWrites := by
  obtain ⟨_, _, _, _, _, h⟩ := State.raise_frame s c u k; rw [h]
@[simp] theorem State.raise_freeCtr (s : State) (c u k : Nat) :
    (s.raise c u k).freeCtr = s.freeCtr := by
  obtain ⟨_, _, _, _, _, h⟩ := State.raise_frame s c u k; rw [h]
@[simp] theorem State.raise_pending (s : State) (c u k : Nat) :
    (s.raise c u k).pending = s.pending := by
  obtain ⟨_, _, _, _, _, h⟩ := State.raise_frame s c u k; rw [h]

/-- `note` changes nothing but: prog, tack, bus, port, flt. -/
theorem State.note_frame (s : State) (c : Nat) :
    ∃ x0 x1 x2 x3 x4, s.note c = { s with prog := x0, tack := x1, bus := x2, port := x3, flt := x4 } := by
  exact State.raise_frame s c 0xFF clsNote

@[simp] theorem State.note_last (s : State) (c : Nat) :
    (s.note c).last = s.last := by
  obtain ⟨_, _, _, _, _, h⟩ := State.note_frame s c; rw [h]
@[simp] theorem State.note_intake (s : State) (c : Nat) :
    (s.note c).intake = s.intake := by
  obtain ⟨_, _, _, _, _, h⟩ := State.note_frame s c; rw [h]
@[simp] theorem State.note_radio (s : State) (c : Nat) :
    (s.note c).radio = s.radio := by
  obtain ⟨_, _, _, _, _, h⟩ := State.note_frame s c; rw [h]
@[simp] theorem State.note_clk (s : State) (c : Nat) :
    (s.note c).clk = s.clk := by
  obtain ⟨_, _, _, _, _, h⟩ := State.note_frame s c; rw [h]
@[simp] theorem State.note_lanes (s : State) (c : Nat) :
    (s.note c).lanes = s.lanes := by
  obtain ⟨_, _, _, _, _, h⟩ := State.note_frame s c; rw [h]
@[simp] theorem State.note_fm (s : State) (c : Nat) :
    (s.note c).fm = s.fm := by
  obtain ⟨_, _, _, _, _, h⟩ := State.note_frame s c; rw [h]
@[simp] theorem State.note_follow (s : State) (c : Nat) :
    (s.note c).follow = s.follow := by
  obtain ⟨_, _, _, _, _, h⟩ := State.note_frame s c; rw [h]
@[simp] theorem State.note_dab (s : State) (c : Nat) :
    (s.note c).dab = s.dab := by
  obtain ⟨_, _, _, _, _, h⟩ := State.note_frame s c; rw [h]
@[simp] theorem State.note_hearth (s : State) (c : Nat) :
    (s.note c).hearth = s.hearth := by
  obtain ⟨_, _, _, _, _, h⟩ := State.note_frame s c; rw [h]
@[simp] theorem State.note_theSeal (s : State) (c : Nat) :
    (s.note c).theSeal = s.theSeal := by
  obtain ⟨_, _, _, _, _, h⟩ := State.note_frame s c; rw [h]
@[simp] theorem State.note_infra (s : State) (c : Nat) :
    (s.note c).infra = s.infra := by
  obtain ⟨_, _, _, _, _, h⟩ := State.note_frame s c; rw [h]
@[simp] theorem State.note_mail (s : State) (c : Nat) :
    (s.note c).mail = s.mail := by
  obtain ⟨_, _, _, _, _, h⟩ := State.note_frame s c; rw [h]
@[simp] theorem State.note_welt (s : State) (c : Nat) :
    (s.note c).welt = s.welt := by
  obtain ⟨_, _, _, _, _, h⟩ := State.note_frame s c; rw [h]
@[simp] theorem State.note_store (s : State) (c : Nat) :
    (s.note c).store = s.store := by
  obtain ⟨_, _, _, _, _, h⟩ := State.note_frame s c; rw [h]
@[simp] theorem State.note_awl (s : State) (c : Nat) :
    (s.note c).awl = s.awl := by
  obtain ⟨_, _, _, _, _, h⟩ := State.note_frame s c; rw [h]
@[simp] theorem State.note_supply (s : State) (c : Nat) :
    (s.note c).supply = s.supply := by
  obtain ⟨_, _, _, _, _, h⟩ := State.note_frame s c; rw [h]
@[simp] theorem State.note_regs (s : State) (c : Nat) :
    (s.note c).regs = s.regs := by
  obtain ⟨_, _, _, _, _, h⟩ := State.note_frame s c; rw [h]
@[simp] theorem State.note_regWrites (s : State) (c : Nat) :
    (s.note c).regWrites = s.regWrites := by
  obtain ⟨_, _, _, _, _, h⟩ := State.note_frame s c; rw [h]
@[simp] theorem State.note_freeCtr (s : State) (c : Nat) :
    (s.note c).freeCtr = s.freeCtr := by
  obtain ⟨_, _, _, _, _, h⟩ := State.note_frame s c; rw [h]
@[simp] theorem State.note_pending (s : State) (c : Nat) :
    (s.note c).pending = s.pending := by
  obtain ⟨_, _, _, _, _, h⟩ := State.note_frame s c; rw [h]

/-- `raiseBench` changes nothing but: prog, tack, bus, port, flt. -/
theorem State.raiseBench_frame (s : State) (c b k : Nat) :
    ∃ x0 x1 x2 x3 x4, s.raiseBench c b k = { s with prog := x0, tack := x1, bus := x2, port := x3, flt := x4 } := by
  obtain ⟨x, f, h⟩ := State.logFault_frame s c b k
  simp only [State.raiseBench]
  generalize s.logFault c b k = r at h
  obtain ⟨p2, k2, o, h2⟩ := State.streamFault_frame r.2 r.1
  generalize r.2.streamFault r.1 = v at h2
  split
  · obtain ⟨p3, k3, b3, o3, f3, h3⟩ := State.dropBegins_frame v.2
    exact ⟨p3, k3, b3, o3, f3, by rw [h3, h2, h]⟩
  · exact ⟨p2, k2, x, o, f, by rw [h2, h]⟩

@[simp] theorem State.raiseBench_last (s : State) (c b k : Nat) :
    (s.raiseBench c b k).last = s.last := by
  obtain ⟨_, _, _, _, _, h⟩ := State.raiseBench_frame s c b k; rw [h]
@[simp] theorem State.raiseBench_intake (s : State) (c b k : Nat) :
    (s.raiseBench c b k).intake = s.intake := by
  obtain ⟨_, _, _, _, _, h⟩ := State.raiseBench_frame s c b k; rw [h]
@[simp] theorem State.raiseBench_radio (s : State) (c b k : Nat) :
    (s.raiseBench c b k).radio = s.radio := by
  obtain ⟨_, _, _, _, _, h⟩ := State.raiseBench_frame s c b k; rw [h]
@[simp] theorem State.raiseBench_clk (s : State) (c b k : Nat) :
    (s.raiseBench c b k).clk = s.clk := by
  obtain ⟨_, _, _, _, _, h⟩ := State.raiseBench_frame s c b k; rw [h]
@[simp] theorem State.raiseBench_lanes (s : State) (c b k : Nat) :
    (s.raiseBench c b k).lanes = s.lanes := by
  obtain ⟨_, _, _, _, _, h⟩ := State.raiseBench_frame s c b k; rw [h]
@[simp] theorem State.raiseBench_fm (s : State) (c b k : Nat) :
    (s.raiseBench c b k).fm = s.fm := by
  obtain ⟨_, _, _, _, _, h⟩ := State.raiseBench_frame s c b k; rw [h]
@[simp] theorem State.raiseBench_follow (s : State) (c b k : Nat) :
    (s.raiseBench c b k).follow = s.follow := by
  obtain ⟨_, _, _, _, _, h⟩ := State.raiseBench_frame s c b k; rw [h]
@[simp] theorem State.raiseBench_dab (s : State) (c b k : Nat) :
    (s.raiseBench c b k).dab = s.dab := by
  obtain ⟨_, _, _, _, _, h⟩ := State.raiseBench_frame s c b k; rw [h]
@[simp] theorem State.raiseBench_hearth (s : State) (c b k : Nat) :
    (s.raiseBench c b k).hearth = s.hearth := by
  obtain ⟨_, _, _, _, _, h⟩ := State.raiseBench_frame s c b k; rw [h]
@[simp] theorem State.raiseBench_theSeal (s : State) (c b k : Nat) :
    (s.raiseBench c b k).theSeal = s.theSeal := by
  obtain ⟨_, _, _, _, _, h⟩ := State.raiseBench_frame s c b k; rw [h]
@[simp] theorem State.raiseBench_infra (s : State) (c b k : Nat) :
    (s.raiseBench c b k).infra = s.infra := by
  obtain ⟨_, _, _, _, _, h⟩ := State.raiseBench_frame s c b k; rw [h]
@[simp] theorem State.raiseBench_mail (s : State) (c b k : Nat) :
    (s.raiseBench c b k).mail = s.mail := by
  obtain ⟨_, _, _, _, _, h⟩ := State.raiseBench_frame s c b k; rw [h]
@[simp] theorem State.raiseBench_welt (s : State) (c b k : Nat) :
    (s.raiseBench c b k).welt = s.welt := by
  obtain ⟨_, _, _, _, _, h⟩ := State.raiseBench_frame s c b k; rw [h]
@[simp] theorem State.raiseBench_store (s : State) (c b k : Nat) :
    (s.raiseBench c b k).store = s.store := by
  obtain ⟨_, _, _, _, _, h⟩ := State.raiseBench_frame s c b k; rw [h]
@[simp] theorem State.raiseBench_awl (s : State) (c b k : Nat) :
    (s.raiseBench c b k).awl = s.awl := by
  obtain ⟨_, _, _, _, _, h⟩ := State.raiseBench_frame s c b k; rw [h]
@[simp] theorem State.raiseBench_supply (s : State) (c b k : Nat) :
    (s.raiseBench c b k).supply = s.supply := by
  obtain ⟨_, _, _, _, _, h⟩ := State.raiseBench_frame s c b k; rw [h]
@[simp] theorem State.raiseBench_regs (s : State) (c b k : Nat) :
    (s.raiseBench c b k).regs = s.regs := by
  obtain ⟨_, _, _, _, _, h⟩ := State.raiseBench_frame s c b k; rw [h]
@[simp] theorem State.raiseBench_regWrites (s : State) (c b k : Nat) :
    (s.raiseBench c b k).regWrites = s.regWrites := by
  obtain ⟨_, _, _, _, _, h⟩ := State.raiseBench_frame s c b k; rw [h]
@[simp] theorem State.raiseBench_freeCtr (s : State) (c b k : Nat) :
    (s.raiseBench c b k).freeCtr = s.freeCtr := by
  obtain ⟨_, _, _, _, _, h⟩ := State.raiseBench_frame s c b k; rw [h]
@[simp] theorem State.raiseBench_pending (s : State) (c b k : Nat) :
    (s.raiseBench c b k).pending = s.pending := by
  obtain ⟨_, _, _, _, _, h⟩ := State.raiseBench_frame s c b k; rw [h]

/-! ### Blocks of one number put back: nothing else of the state moves -/
@[simp] theorem State.setChainAt_last (s : State) (t c : Nat) (x : Chain) :
    (s.setChainAt t c x).last = s.last := rfl
@[simp] theorem State.setChainAt_intake (s : State) (t c : Nat) (x : Chain) :
    (s.setChainAt t c x).intake = s.intake := rfl
@[simp] theorem State.setChainAt_prog (s : State) (t c : Nat) (x : Chain) :
    (s.setChainAt t c x).prog = s.prog := rfl
@[simp] theorem State.setChainAt_tack (s : State) (t c : Nat) (x : Chain) :
    (s.setChainAt t c x).tack = s.tack := rfl
@[simp] theorem State.setChainAt_clk (s : State) (t c : Nat) (x : Chain) : (s.setChainAt t c x).clk = s.clk := rfl
@[simp] theorem State.setChainAt_lanes (s : State) (t c : Nat) (x : Chain) :
    (s.setChainAt t c x).lanes = s.lanes := rfl
@[simp] theorem State.setChainAt_fm (s : State) (t c : Nat) (x : Chain) : (s.setChainAt t c x).fm = s.fm := rfl
@[simp] theorem State.setChainAt_follow (s : State) (t c : Nat) (x : Chain) :
    (s.setChainAt t c x).follow = s.follow := rfl
@[simp] theorem State.setChainAt_dab (s : State) (t c : Nat) (x : Chain) : (s.setChainAt t c x).dab = s.dab := rfl
@[simp] theorem State.setChainAt_hearth (s : State) (t c : Nat) (x : Chain) :
    (s.setChainAt t c x).hearth = s.hearth := rfl
@[simp] theorem State.setChainAt_theSeal (s : State) (t c : Nat) (x : Chain) :
    (s.setChainAt t c x).theSeal = s.theSeal := rfl
@[simp] theorem State.setChainAt_infra (s : State) (t c : Nat) (x : Chain) :
    (s.setChainAt t c x).infra = s.infra := rfl
@[simp] theorem State.setChainAt_bus (s : State) (t c : Nat) (x : Chain) : (s.setChainAt t c x).bus = s.bus := rfl
@[simp] theorem State.setChainAt_mail (s : State) (t c : Nat) (x : Chain) :
    (s.setChainAt t c x).mail = s.mail := rfl
@[simp] theorem State.setChainAt_port (s : State) (t c : Nat) (x : Chain) :
    (s.setChainAt t c x).port = s.port := rfl
@[simp] theorem State.setChainAt_welt (s : State) (t c : Nat) (x : Chain) :
    (s.setChainAt t c x).welt = s.welt := rfl
@[simp] theorem State.setChainAt_store (s : State) (t c : Nat) (x : Chain) :
    (s.setChainAt t c x).store = s.store := rfl
@[simp] theorem State.setChainAt_awl (s : State) (t c : Nat) (x : Chain) : (s.setChainAt t c x).awl = s.awl := rfl
@[simp] theorem State.setChainAt_supply (s : State) (t c : Nat) (x : Chain) :
    (s.setChainAt t c x).supply = s.supply := rfl
@[simp] theorem State.setChainAt_flt (s : State) (t c : Nat) (x : Chain) : (s.setChainAt t c x).flt = s.flt := rfl
@[simp] theorem State.setChainAt_regs (s : State) (t c : Nat) (x : Chain) :
    (s.setChainAt t c x).regs = s.regs := rfl
@[simp] theorem State.setChainAt_regWrites (s : State) (t c : Nat) (x : Chain) :
    (s.setChainAt t c x).regWrites = s.regWrites := rfl
@[simp] theorem State.setChainAt_freeCtr (s : State) (t c : Nat) (x : Chain) :
    (s.setChainAt t c x).freeCtr = s.freeCtr := rfl
@[simp] theorem State.setChainAt_pending (s : State) (t c : Nat) (x : Chain) :
    (s.setChainAt t c x).pending = s.pending := rfl

@[simp] theorem State.setChain_last (s : State) (c : Nat) (x : Chain) : (s.setChain c x).last = s.last := rfl
@[simp] theorem State.setChain_intake (s : State) (c : Nat) (x : Chain) : (s.setChain c x).intake = s.intake := rfl
@[simp] theorem State.setChain_prog (s : State) (c : Nat) (x : Chain) : (s.setChain c x).prog = s.prog := rfl
@[simp] theorem State.setChain_tack (s : State) (c : Nat) (x : Chain) : (s.setChain c x).tack = s.tack := rfl
@[simp] theorem State.setChain_clk (s : State) (c : Nat) (x : Chain) : (s.setChain c x).clk = s.clk := rfl
@[simp] theorem State.setChain_lanes (s : State) (c : Nat) (x : Chain) : (s.setChain c x).lanes = s.lanes := rfl
@[simp] theorem State.setChain_fm (s : State) (c : Nat) (x : Chain) : (s.setChain c x).fm = s.fm := rfl
@[simp] theorem State.setChain_follow (s : State) (c : Nat) (x : Chain) : (s.setChain c x).follow = s.follow := rfl
@[simp] theorem State.setChain_dab (s : State) (c : Nat) (x : Chain) : (s.setChain c x).dab = s.dab := rfl
@[simp] theorem State.setChain_hearth (s : State) (c : Nat) (x : Chain) : (s.setChain c x).hearth = s.hearth := rfl
@[simp] theorem State.setChain_theSeal (s : State) (c : Nat) (x : Chain) :
    (s.setChain c x).theSeal = s.theSeal := rfl
@[simp] theorem State.setChain_infra (s : State) (c : Nat) (x : Chain) : (s.setChain c x).infra = s.infra := rfl
@[simp] theorem State.setChain_bus (s : State) (c : Nat) (x : Chain) : (s.setChain c x).bus = s.bus := rfl
@[simp] theorem State.setChain_mail (s : State) (c : Nat) (x : Chain) : (s.setChain c x).mail = s.mail := rfl
@[simp] theorem State.setChain_port (s : State) (c : Nat) (x : Chain) : (s.setChain c x).port = s.port := rfl
@[simp] theorem State.setChain_welt (s : State) (c : Nat) (x : Chain) : (s.setChain c x).welt = s.welt := rfl
@[simp] theorem State.setChain_store (s : State) (c : Nat) (x : Chain) : (s.setChain c x).store = s.store := rfl
@[simp] theorem State.setChain_awl (s : State) (c : Nat) (x : Chain) : (s.setChain c x).awl = s.awl := rfl
@[simp] theorem State.setChain_supply (s : State) (c : Nat) (x : Chain) : (s.setChain c x).supply = s.supply := rfl
@[simp] theorem State.setChain_flt (s : State) (c : Nat) (x : Chain) : (s.setChain c x).flt = s.flt := rfl
@[simp] theorem State.setChain_regs (s : State) (c : Nat) (x : Chain) : (s.setChain c x).regs = s.regs := rfl
@[simp] theorem State.setChain_regWrites (s : State) (c : Nat) (x : Chain) :
    (s.setChain c x).regWrites = s.regWrites := rfl
@[simp] theorem State.setChain_freeCtr (s : State) (c : Nat) (x : Chain) :
    (s.setChain c x).freeCtr = s.freeCtr := rfl
@[simp] theorem State.setChain_pending (s : State) (c : Nat) (x : Chain) :
    (s.setChain c x).pending = s.pending := rfl

@[simp] theorem State.setLane_last (s : State) (n : Nat) (x : Lane) : (s.setLane n x).last = s.last := rfl
@[simp] theorem State.setLane_intake (s : State) (n : Nat) (x : Lane) : (s.setLane n x).intake = s.intake := rfl
@[simp] theorem State.setLane_prog (s : State) (n : Nat) (x : Lane) : (s.setLane n x).prog = s.prog := rfl
@[simp] theorem State.setLane_tack (s : State) (n : Nat) (x : Lane) : (s.setLane n x).tack = s.tack := rfl
@[simp] theorem State.setLane_radio (s : State) (n : Nat) (x : Lane) : (s.setLane n x).radio = s.radio := rfl
@[simp] theorem State.setLane_clk (s : State) (n : Nat) (x : Lane) : (s.setLane n x).clk = s.clk := rfl
@[simp] theorem State.setLane_fm (s : State) (n : Nat) (x : Lane) : (s.setLane n x).fm = s.fm := rfl
@[simp] theorem State.setLane_follow (s : State) (n : Nat) (x : Lane) : (s.setLane n x).follow = s.follow := rfl
@[simp] theorem State.setLane_dab (s : State) (n : Nat) (x : Lane) : (s.setLane n x).dab = s.dab := rfl
@[simp] theorem State.setLane_hearth (s : State) (n : Nat) (x : Lane) : (s.setLane n x).hearth = s.hearth := rfl
@[simp] theorem State.setLane_theSeal (s : State) (n : Nat) (x : Lane) : (s.setLane n x).theSeal = s.theSeal := rfl
@[simp] theorem State.setLane_infra (s : State) (n : Nat) (x : Lane) : (s.setLane n x).infra = s.infra := rfl
@[simp] theorem State.setLane_bus (s : State) (n : Nat) (x : Lane) : (s.setLane n x).bus = s.bus := rfl
@[simp] theorem State.setLane_mail (s : State) (n : Nat) (x : Lane) : (s.setLane n x).mail = s.mail := rfl
@[simp] theorem State.setLane_port (s : State) (n : Nat) (x : Lane) : (s.setLane n x).port = s.port := rfl
@[simp] theorem State.setLane_welt (s : State) (n : Nat) (x : Lane) : (s.setLane n x).welt = s.welt := rfl
@[simp] theorem State.setLane_store (s : State) (n : Nat) (x : Lane) : (s.setLane n x).store = s.store := rfl
@[simp] theorem State.setLane_awl (s : State) (n : Nat) (x : Lane) : (s.setLane n x).awl = s.awl := rfl
@[simp] theorem State.setLane_supply (s : State) (n : Nat) (x : Lane) : (s.setLane n x).supply = s.supply := rfl
@[simp] theorem State.setLane_flt (s : State) (n : Nat) (x : Lane) : (s.setLane n x).flt = s.flt := rfl
@[simp] theorem State.setLane_regs (s : State) (n : Nat) (x : Lane) : (s.setLane n x).regs = s.regs := rfl
@[simp] theorem State.setLane_regWrites (s : State) (n : Nat) (x : Lane) :
    (s.setLane n x).regWrites = s.regWrites := rfl
@[simp] theorem State.setLane_freeCtr (s : State) (n : Nat) (x : Lane) : (s.setLane n x).freeCtr = s.freeCtr := rfl
@[simp] theorem State.setLane_pending (s : State) (n : Nat) (x : Lane) : (s.setLane n x).pending = s.pending := rfl

@[simp] theorem State.setFm_last (s : State) (n : Nat) (x : FmLane) : (s.setFm n x).last = s.last := rfl
@[simp] theorem State.setFm_intake (s : State) (n : Nat) (x : FmLane) : (s.setFm n x).intake = s.intake := rfl
@[simp] theorem State.setFm_prog (s : State) (n : Nat) (x : FmLane) : (s.setFm n x).prog = s.prog := rfl
@[simp] theorem State.setFm_tack (s : State) (n : Nat) (x : FmLane) : (s.setFm n x).tack = s.tack := rfl
@[simp] theorem State.setFm_radio (s : State) (n : Nat) (x : FmLane) : (s.setFm n x).radio = s.radio := rfl
@[simp] theorem State.setFm_clk (s : State) (n : Nat) (x : FmLane) : (s.setFm n x).clk = s.clk := rfl
@[simp] theorem State.setFm_lanes (s : State) (n : Nat) (x : FmLane) : (s.setFm n x).lanes = s.lanes := rfl
@[simp] theorem State.setFm_follow (s : State) (n : Nat) (x : FmLane) : (s.setFm n x).follow = s.follow := rfl
@[simp] theorem State.setFm_dab (s : State) (n : Nat) (x : FmLane) : (s.setFm n x).dab = s.dab := rfl
@[simp] theorem State.setFm_hearth (s : State) (n : Nat) (x : FmLane) : (s.setFm n x).hearth = s.hearth := rfl
@[simp] theorem State.setFm_theSeal (s : State) (n : Nat) (x : FmLane) : (s.setFm n x).theSeal = s.theSeal := rfl
@[simp] theorem State.setFm_infra (s : State) (n : Nat) (x : FmLane) : (s.setFm n x).infra = s.infra := rfl
@[simp] theorem State.setFm_bus (s : State) (n : Nat) (x : FmLane) : (s.setFm n x).bus = s.bus := rfl
@[simp] theorem State.setFm_mail (s : State) (n : Nat) (x : FmLane) : (s.setFm n x).mail = s.mail := rfl
@[simp] theorem State.setFm_port (s : State) (n : Nat) (x : FmLane) : (s.setFm n x).port = s.port := rfl
@[simp] theorem State.setFm_welt (s : State) (n : Nat) (x : FmLane) : (s.setFm n x).welt = s.welt := rfl
@[simp] theorem State.setFm_store (s : State) (n : Nat) (x : FmLane) : (s.setFm n x).store = s.store := rfl
@[simp] theorem State.setFm_awl (s : State) (n : Nat) (x : FmLane) : (s.setFm n x).awl = s.awl := rfl
@[simp] theorem State.setFm_supply (s : State) (n : Nat) (x : FmLane) : (s.setFm n x).supply = s.supply := rfl
@[simp] theorem State.setFm_flt (s : State) (n : Nat) (x : FmLane) : (s.setFm n x).flt = s.flt := rfl
@[simp] theorem State.setFm_regs (s : State) (n : Nat) (x : FmLane) : (s.setFm n x).regs = s.regs := rfl
@[simp] theorem State.setFm_regWrites (s : State) (n : Nat) (x : FmLane) :
    (s.setFm n x).regWrites = s.regWrites := rfl
@[simp] theorem State.setFm_freeCtr (s : State) (n : Nat) (x : FmLane) : (s.setFm n x).freeCtr = s.freeCtr := rfl
@[simp] theorem State.setFm_pending (s : State) (n : Nat) (x : FmLane) : (s.setFm n x).pending = s.pending := rfl

@[simp] theorem State.setDab_last (s : State) (d : Nat) (x : Decoder) : (s.setDab d x).last = s.last := rfl
@[simp] theorem State.setDab_intake (s : State) (d : Nat) (x : Decoder) : (s.setDab d x).intake = s.intake := rfl
@[simp] theorem State.setDab_prog (s : State) (d : Nat) (x : Decoder) : (s.setDab d x).prog = s.prog := rfl
@[simp] theorem State.setDab_tack (s : State) (d : Nat) (x : Decoder) : (s.setDab d x).tack = s.tack := rfl
@[simp] theorem State.setDab_radio (s : State) (d : Nat) (x : Decoder) : (s.setDab d x).radio = s.radio := rfl
@[simp] theorem State.setDab_clk (s : State) (d : Nat) (x : Decoder) : (s.setDab d x).clk = s.clk := rfl
@[simp] theorem State.setDab_lanes (s : State) (d : Nat) (x : Decoder) : (s.setDab d x).lanes = s.lanes := rfl
@[simp] theorem State.setDab_fm (s : State) (d : Nat) (x : Decoder) : (s.setDab d x).fm = s.fm := rfl
@[simp] theorem State.setDab_follow (s : State) (d : Nat) (x : Decoder) : (s.setDab d x).follow = s.follow := rfl
@[simp] theorem State.setDab_hearth (s : State) (d : Nat) (x : Decoder) : (s.setDab d x).hearth = s.hearth := rfl
@[simp] theorem State.setDab_theSeal (s : State) (d : Nat) (x : Decoder) :
    (s.setDab d x).theSeal = s.theSeal := rfl
@[simp] theorem State.setDab_infra (s : State) (d : Nat) (x : Decoder) : (s.setDab d x).infra = s.infra := rfl
@[simp] theorem State.setDab_bus (s : State) (d : Nat) (x : Decoder) : (s.setDab d x).bus = s.bus := rfl
@[simp] theorem State.setDab_mail (s : State) (d : Nat) (x : Decoder) : (s.setDab d x).mail = s.mail := rfl
@[simp] theorem State.setDab_port (s : State) (d : Nat) (x : Decoder) : (s.setDab d x).port = s.port := rfl
@[simp] theorem State.setDab_welt (s : State) (d : Nat) (x : Decoder) : (s.setDab d x).welt = s.welt := rfl
@[simp] theorem State.setDab_store (s : State) (d : Nat) (x : Decoder) : (s.setDab d x).store = s.store := rfl
@[simp] theorem State.setDab_awl (s : State) (d : Nat) (x : Decoder) : (s.setDab d x).awl = s.awl := rfl
@[simp] theorem State.setDab_supply (s : State) (d : Nat) (x : Decoder) : (s.setDab d x).supply = s.supply := rfl
@[simp] theorem State.setDab_flt (s : State) (d : Nat) (x : Decoder) : (s.setDab d x).flt = s.flt := rfl
@[simp] theorem State.setDab_regs (s : State) (d : Nat) (x : Decoder) : (s.setDab d x).regs = s.regs := rfl
@[simp] theorem State.setDab_regWrites (s : State) (d : Nat) (x : Decoder) :
    (s.setDab d x).regWrites = s.regWrites := rfl
@[simp] theorem State.setDab_freeCtr (s : State) (d : Nat) (x : Decoder) :
    (s.setDab d x).freeCtr = s.freeCtr := rfl
@[simp] theorem State.setDab_pending (s : State) (d : Nat) (x : Decoder) :
    (s.setDab d x).pending = s.pending := rfl

@[simp] theorem State.setIr_last (s : State) (c : Nat) (x : IrChan) : (s.setIr c x).last = s.last := rfl
@[simp] theorem State.setIr_intake (s : State) (c : Nat) (x : IrChan) : (s.setIr c x).intake = s.intake := rfl
@[simp] theorem State.setIr_prog (s : State) (c : Nat) (x : IrChan) : (s.setIr c x).prog = s.prog := rfl
@[simp] theorem State.setIr_tack (s : State) (c : Nat) (x : IrChan) : (s.setIr c x).tack = s.tack := rfl
@[simp] theorem State.setIr_radio (s : State) (c : Nat) (x : IrChan) : (s.setIr c x).radio = s.radio := rfl
@[simp] theorem State.setIr_clk (s : State) (c : Nat) (x : IrChan) : (s.setIr c x).clk = s.clk := rfl
@[simp] theorem State.setIr_lanes (s : State) (c : Nat) (x : IrChan) : (s.setIr c x).lanes = s.lanes := rfl
@[simp] theorem State.setIr_fm (s : State) (c : Nat) (x : IrChan) : (s.setIr c x).fm = s.fm := rfl
@[simp] theorem State.setIr_follow (s : State) (c : Nat) (x : IrChan) : (s.setIr c x).follow = s.follow := rfl
@[simp] theorem State.setIr_dab (s : State) (c : Nat) (x : IrChan) : (s.setIr c x).dab = s.dab := rfl
@[simp] theorem State.setIr_hearth (s : State) (c : Nat) (x : IrChan) : (s.setIr c x).hearth = s.hearth := rfl
@[simp] theorem State.setIr_theSeal (s : State) (c : Nat) (x : IrChan) : (s.setIr c x).theSeal = s.theSeal := rfl
@[simp] theorem State.setIr_bus (s : State) (c : Nat) (x : IrChan) : (s.setIr c x).bus = s.bus := rfl
@[simp] theorem State.setIr_mail (s : State) (c : Nat) (x : IrChan) : (s.setIr c x).mail = s.mail := rfl
@[simp] theorem State.setIr_port (s : State) (c : Nat) (x : IrChan) : (s.setIr c x).port = s.port := rfl
@[simp] theorem State.setIr_welt (s : State) (c : Nat) (x : IrChan) : (s.setIr c x).welt = s.welt := rfl
@[simp] theorem State.setIr_store (s : State) (c : Nat) (x : IrChan) : (s.setIr c x).store = s.store := rfl
@[simp] theorem State.setIr_awl (s : State) (c : Nat) (x : IrChan) : (s.setIr c x).awl = s.awl := rfl
@[simp] theorem State.setIr_supply (s : State) (c : Nat) (x : IrChan) : (s.setIr c x).supply = s.supply := rfl
@[simp] theorem State.setIr_flt (s : State) (c : Nat) (x : IrChan) : (s.setIr c x).flt = s.flt := rfl
@[simp] theorem State.setIr_regs (s : State) (c : Nat) (x : IrChan) : (s.setIr c x).regs = s.regs := rfl
@[simp] theorem State.setIr_regWrites (s : State) (c : Nat) (x : IrChan) :
    (s.setIr c x).regWrites = s.regWrites := rfl
@[simp] theorem State.setIr_freeCtr (s : State) (c : Nat) (x : IrChan) : (s.setIr c x).freeCtr = s.freeCtr := rfl
@[simp] theorem State.setIr_pending (s : State) (c : Nat) (x : IrChan) : (s.setIr c x).pending = s.pending := rfl

@[simp] theorem State.setAudio_last (s : State) (p : Nat) (a : Audio) : (s.setAudio p a).last = s.last := rfl
@[simp] theorem State.setAudio_intake (s : State) (p : Nat) (a : Audio) : (s.setAudio p a).intake = s.intake := rfl
@[simp] theorem State.setAudio_prog (s : State) (p : Nat) (a : Audio) : (s.setAudio p a).prog = s.prog := rfl
@[simp] theorem State.setAudio_tack (s : State) (p : Nat) (a : Audio) : (s.setAudio p a).tack = s.tack := rfl
@[simp] theorem State.setAudio_radio (s : State) (p : Nat) (a : Audio) : (s.setAudio p a).radio = s.radio := rfl
@[simp] theorem State.setAudio_clk (s : State) (p : Nat) (a : Audio) : (s.setAudio p a).clk = s.clk := rfl
@[simp] theorem State.setAudio_lanes (s : State) (p : Nat) (a : Audio) : (s.setAudio p a).lanes = s.lanes := rfl
@[simp] theorem State.setAudio_fm (s : State) (p : Nat) (a : Audio) : (s.setAudio p a).fm = s.fm := rfl
@[simp] theorem State.setAudio_follow (s : State) (p : Nat) (a : Audio) : (s.setAudio p a).follow = s.follow := rfl
@[simp] theorem State.setAudio_dab (s : State) (p : Nat) (a : Audio) : (s.setAudio p a).dab = s.dab := rfl
@[simp] theorem State.setAudio_hearth (s : State) (p : Nat) (a : Audio) : (s.setAudio p a).hearth = s.hearth := rfl
@[simp] theorem State.setAudio_theSeal (s : State) (p : Nat) (a : Audio) :
    (s.setAudio p a).theSeal = s.theSeal := rfl
@[simp] theorem State.setAudio_infra (s : State) (p : Nat) (a : Audio) : (s.setAudio p a).infra = s.infra := rfl
@[simp] theorem State.setAudio_bus (s : State) (p : Nat) (a : Audio) : (s.setAudio p a).bus = s.bus := rfl
@[simp] theorem State.setAudio_mail (s : State) (p : Nat) (a : Audio) : (s.setAudio p a).mail = s.mail := rfl
@[simp] theorem State.setAudio_welt (s : State) (p : Nat) (a : Audio) : (s.setAudio p a).welt = s.welt := rfl
@[simp] theorem State.setAudio_store (s : State) (p : Nat) (a : Audio) : (s.setAudio p a).store = s.store := rfl
@[simp] theorem State.setAudio_awl (s : State) (p : Nat) (a : Audio) : (s.setAudio p a).awl = s.awl := rfl
@[simp] theorem State.setAudio_supply (s : State) (p : Nat) (a : Audio) : (s.setAudio p a).supply = s.supply := rfl
@[simp] theorem State.setAudio_flt (s : State) (p : Nat) (a : Audio) : (s.setAudio p a).flt = s.flt := rfl
@[simp] theorem State.setAudio_regs (s : State) (p : Nat) (a : Audio) : (s.setAudio p a).regs = s.regs := rfl
@[simp] theorem State.setAudio_regWrites (s : State) (p : Nat) (a : Audio) :
    (s.setAudio p a).regWrites = s.regWrites := rfl
@[simp] theorem State.setAudio_freeCtr (s : State) (p : Nat) (a : Audio) :
    (s.setAudio p a).freeCtr = s.freeCtr := rfl
@[simp] theorem State.setAudio_pending (s : State) (p : Nat) (a : Audio) :
    (s.setAudio p a).pending = s.pending := rfl

@[simp] theorem State.setDom_last (s : State) (d : Domain) (m : DomMode) : (s.setDom d m).last = s.last := rfl
@[simp] theorem State.setDom_intake (s : State) (d : Domain) (m : DomMode) :
    (s.setDom d m).intake = s.intake := rfl
@[simp] theorem State.setDom_prog (s : State) (d : Domain) (m : DomMode) : (s.setDom d m).prog = s.prog := rfl
@[simp] theorem State.setDom_tack (s : State) (d : Domain) (m : DomMode) : (s.setDom d m).tack = s.tack := rfl
@[simp] theorem State.setDom_radio (s : State) (d : Domain) (m : DomMode) : (s.setDom d m).radio = s.radio := rfl
@[simp] theorem State.setDom_clk (s : State) (d : Domain) (m : DomMode) : (s.setDom d m).clk = s.clk := rfl
@[simp] theorem State.setDom_lanes (s : State) (d : Domain) (m : DomMode) : (s.setDom d m).lanes = s.lanes := rfl
@[simp] theorem State.setDom_fm (s : State) (d : Domain) (m : DomMode) : (s.setDom d m).fm = s.fm := rfl
@[simp] theorem State.setDom_follow (s : State) (d : Domain) (m : DomMode) :
    (s.setDom d m).follow = s.follow := rfl
@[simp] theorem State.setDom_dab (s : State) (d : Domain) (m : DomMode) : (s.setDom d m).dab = s.dab := rfl
@[simp] theorem State.setDom_hearth (s : State) (d : Domain) (m : DomMode) :
    (s.setDom d m).hearth = s.hearth := rfl
@[simp] theorem State.setDom_theSeal (s : State) (d : Domain) (m : DomMode) :
    (s.setDom d m).theSeal = s.theSeal := rfl
@[simp] theorem State.setDom_infra (s : State) (d : Domain) (m : DomMode) : (s.setDom d m).infra = s.infra := rfl
@[simp] theorem State.setDom_bus (s : State) (d : Domain) (m : DomMode) : (s.setDom d m).bus = s.bus := rfl
@[simp] theorem State.setDom_mail (s : State) (d : Domain) (m : DomMode) : (s.setDom d m).mail = s.mail := rfl
@[simp] theorem State.setDom_port (s : State) (d : Domain) (m : DomMode) : (s.setDom d m).port = s.port := rfl
@[simp] theorem State.setDom_welt (s : State) (d : Domain) (m : DomMode) : (s.setDom d m).welt = s.welt := rfl
@[simp] theorem State.setDom_store (s : State) (d : Domain) (m : DomMode) : (s.setDom d m).store = s.store := rfl
@[simp] theorem State.setDom_awl (s : State) (d : Domain) (m : DomMode) : (s.setDom d m).awl = s.awl := rfl
@[simp] theorem State.setDom_flt (s : State) (d : Domain) (m : DomMode) : (s.setDom d m).flt = s.flt := rfl
@[simp] theorem State.setDom_regs (s : State) (d : Domain) (m : DomMode) : (s.setDom d m).regs = s.regs := rfl
@[simp] theorem State.setDom_regWrites (s : State) (d : Domain) (m : DomMode) :
    (s.setDom d m).regWrites = s.regWrites := rfl
@[simp] theorem State.setDom_freeCtr (s : State) (d : Domain) (m : DomMode) :
    (s.setDom d m).freeCtr = s.freeCtr := rfl
@[simp] theorem State.setDom_pending (s : State) (d : Domain) (m : DomMode) :
    (s.setDom d m).pending = s.pending := rfl

end Sys2Proof.Machine
end

