-- ==== Sys2Proof/Laws/Benches.lean ====
section
/-! SUPPORT. What executing one instruction does, and what delivering events and raising faults leave of the
benches. -/

namespace Sys2Proof.Machine

open Sys2Proof

/-! ### Registers of a handler -/

@[simp] theorem Handler.put_used (h : Handler) (r : Fin 16) (v : Word) : (h.put r v).used = h.used := by
  unfold Handler.put; split <;> rfl
@[simp] theorem Handler.put_budget (h : Handler) (r : Fin 16) (v : Word) :
    (h.put r v).budget = h.budget := by
  unfold Handler.put; split <;> rfl
@[simp] theorem Handler.put_pc (h : Handler) (r : Fin 16) (v : Word) : (h.put r v).pc = h.pc := by
  unfold Handler.put; split <;> rfl
@[simp] theorem Handler.put_stack (h : Handler) (r : Fin 16) (v : Word) : (h.put r v).stack = h.stack := by
  unfold Handler.put; split <;> rfl
@[simp] theorem Handler.put_script (h : Handler) (r : Fin 16) (v : Word) : (h.put r v).script = h.script := by
  unfold Handler.put; split <;> rfl
@[simp] theorem Handler.put_ev (h : Handler) (r : Fin 16) (v : Word) : (h.put r v).ev = h.ev := by
  unfold Handler.put; split <;> rfl
@[simp] theorem Handler.put_items (h : Handler) (r : Fin 16) (v : Word) : (h.put r v).items = h.items := by
  unfold Handler.put; split <;> rfl
@[simp] theorem Handler.put_ledger (h : Handler) (r : Fin 16) (v : Word) : (h.put r v).ledger = h.ledger := by
  unfold Handler.put; split <;> rfl

/-- Writing a register commutes with paying and moving the PC. -/
theorem Handler.put_with (h : Handler) (r : Fin 16) (v : Word) (u p : Nat) :
    { ({ h with used := u } : Handler).put r v with pc := p } = { h.put r v with used := u, pc := p } := by
  unfold Handler.put; split <;> rfl

@[simp] theorem Handler.get_used (h : Handler) (u : Nat) (r : Fin 16) :
    ({ h with used := u } : Handler).get r = h.get r := rfl

/-! ### One instruction -/

@[simp] theorem State.codeWords_setBench (s : State) (b : Nat) (n : Bench) :
    (s.setBench b n).codeWords = s.codeWords := rfl

theorem State.paying.mono {s : State} {b : Fin 5} {h : Handler} {c d : Nat} (hp : s.paying b h c)
    (hd : d ≤ c) : s.paying b h d := ⟨hp.1, Nat.le_trans (Nat.add_le_add_left hd _) hp.2⟩

theorem State.running.mono {s : State} {b : Fin 5} {h : Handler} {c d : Nat} (hr : s.running b h c)
    (hd : d ≤ c) : s.running b h d := ⟨hr.1.mono hd, hr.2⟩

/-- A bench that runs no handler executes nothing. -/
theorem State.instruct_idle {s : State} {b c : Nat} {f : State → Handler → Exec}
    (h : (s.bench b).handler = none) : s.instruct b c f = s := by
  simp only [State.instruct, h, Option.filter_none]

/-- While the Last is stopped no handler executes anything (R132). -/
theorem State.instruct_stopped {s : State} {b c : Nat} {f : State → Handler → Exec}
    (h : s.last.mode = .stopped) : s.instruct b c f = s := by
  have hs : s.stopped = true := by simp [State.stopped, h]
  simp only [State.instruct, hs]
  cases (s.bench b).handler <;> rfl

/-- The handler that an instruction finds. -/
theorem State.inHandler.found {s : State} {b : Fin 5} {h : Handler} (hh : s.inHandler b h) :
    (s.bench b).handler.filter (fun _ => !s.stopped) = some h := by
  have hs : s.stopped = false := by simp [State.stopped, hh.2]
  rw [hs, hh.1]; rfl

/-- An instruction that the handler cannot pay is not executed (R136). -/
theorem State.instruct_overrun {s : State} {b : Fin 5} {c : Nat} {f : State → Handler → Exec}
    {h : Handler} (hh : s.inHandler b h) (hc : h.budget < h.used + c) :
    s.instruct b c f = s.benchFault b h 0x8101 0 := by
  simp only [State.instruct, hh.found, if_pos hc]

/-- An instruction that the handler can pay, by what it answers (R136, R183, R187). -/
theorem State.instruct_paid {s : State} {b : Fin 5} {c : Nat} {f : State → Handler → Exec} {h : Handler}
    (hp : s.paying b h c) :
    s.instruct b c f = match f s { h with used := h.used + c } with
      | .cont t k =>
        if t.codeWords ≤ k.pc + 1 then (t.putHandler b k).benchFault b k 0x8103 t.codeWords
        else t.putHandler b { k with pc := k.pc + 1 }
      | .goto t k a =>
        if t.codeWords ≤ a then s.benchFault b { h with used := h.used + c } 0x8103 a
        else t.putHandler b { k with pc := a }
      | .finish t k => t.endHandler b k
      | .fault code arg => s.benchFault b { h with used := h.used + c } code arg := by
  simp only [State.instruct, hp.1.found]
  exact if_neg (Nat.not_lt.mpr hp.2)

/-- An instruction that writes one register and goes on (Tables 5-5 to 5-7). -/
theorem State.compute_running {s : State} {b : Fin 5} {c : Nat} {rd : Fin 16} {f : Handler → Word}
    {h : Handler} (hr : s.running b h c) :
    s.compute b c rd f = s.goesOn b (h.put rd (f { h with used := h.used + c })) c := by
  rw [State.compute, State.instruct_paid hr.1]
  simp only [Handler.put_pc]
  rw [if_neg (Nat.not_le.mpr hr.2)]
  generalize f { h with used := h.used + c } = v
  have hp := Handler.put_with h rd v (h.used + c) (h.pc + 1)
  simp only [State.goesOn, State.at_, State.putHandler] at hp ⊢
  rw [hp]
  simp only [Handler.put_used, Handler.put_pc]

/-! ### Events -/

@[simp] theorem Bench.enqueue_data (n : Bench) (e : Event) : (n.enqueue e).data = n.data := by
  unfold Bench.enqueue; split <;> rfl
@[simp] theorem Bench.enqueue_handler (n : Bench) (e : Event) : (n.enqueue e).handler = n.handler := by
  unfold Bench.enqueue; split <;> rfl
@[simp] theorem Bench.enqueue_mode (n : Bench) (e : Event) : (n.enqueue e).mode = n.mode := by
  unfold Bench.enqueue; split <;> rfl
@[simp] theorem Bench.enqueue_wakes (n : Bench) (e : Event) : (n.enqueue e).wakes = n.wakes := by
  unfold Bench.enqueue; split <;> rfl
@[simp] theorem Bench.enqueue_log (n : Bench) (e : Event) : (n.enqueue e).log = n.log := by
  unfold Bench.enqueue; split <;> rfl
@[simp] theorem Bench.enqueue_ledgerBuf (n : Bench) (e : Event) :
    (n.enqueue e).ledgerBuf = n.ledgerBuf := by
  unfold Bench.enqueue; split <;> rfl
@[simp] theorem Bench.enqueue_inbox (n : Bench) (e : Event) : (n.enqueue e).inbox = n.inbox := by
  unfold Bench.enqueue; split <;> rfl

theorem State.bench_setBench (s : State) (b d : Nat) (n : Bench) :
    (s.setBench b n).bench d = if d = b ∧ d < 5 then n else s.bench d := by
  split
  · rename_i h; obtain ⟨rfl, h⟩ := h; exact vget_vset_self h
  · rename_i h
    by_cases hd : d = b
    · subst hd
      have h5 : ¬ d < 5 := fun h5 => h ⟨rfl, h5⟩
      simp [State.bench, vget, h5]
    · exact vget_vset_ne hd

/-- All that delivering an event can do (R132, R141, R165). -/
theorem State.deliver_cases (s : State) (b : Nat) (e : Event) :
    s.deliver b e = s ∨ s.deliver b e = s.dropEvent ∨
      s.deliver b e = s.setBench b ((s.bench b).enqueue e) := by
  unfold State.deliver
  repeat' split
  all_goals simp

@[simp] theorem State.sameBench_refl (s : State) (b : Fin 5) : s.sameBench s b := by
  simp [State.sameBench]

theorem State.sameBench.trans {s t u : State} {b : Fin 5} (h : s.sameBench t b) (k : t.sameBench u b) :
    s.sameBench u b := by
  unfold State.sameBench at *
  simp only [k, h, and_self]

@[simp] theorem State.keeps_refl (s : State) : s.keeps s := by simp [State.keeps]

theorem State.keeps.trans {s t u : State} (h : s.keeps t) (k : t.keeps u) : s.keeps u := by
  have hb := fun b : Fin 5 => State.sameBench.trans (h.2.2.2.2.2.2.2 b) (k.2.2.2.2.2.2.2 b)
  unfold State.keeps at *
  simp only [k, h, hb, and_self, implies_true]

/-- `keeps` for states that differ in the program plane at most. -/
theorem State.keeps_of_bench {s t : State} (h : ∃ p, t = { s with prog := p }) (h1 : t.prog.image = s.prog.image)
    (h2 : t.prog.ledger = s.prog.ledger) (h3 : t.prog.ckpt = s.prog.ckpt)
    (h4 : ∀ b : Fin 5, s.sameBench t b) : s.keeps t := by
  obtain ⟨p, rfl⟩ := h
  exact ⟨rfl, rfl, rfl, rfl, h1, h2, h3, h4⟩

/-- Nothing of what `keeps` names differs when the program plane is the same and the other four blocks are. -/
theorem State.keeps_of_prog {s t : State} (h1 : t.theSeal = s.theSeal) (h2 : t.store = s.store)
    (h3 : t.supply = s.supply) (h4 : t.pending = s.pending) (h5 : t.prog = s.prog) : s.keeps t := by
  refine ⟨h1, h2, h3, h4, by rw [h5], by rw [h5], by rw [h5], fun b => ?_⟩
  simp only [State.sameBench, State.bench, h5, and_self]

theorem State.deliver_keeps (s : State) (b : Nat) (e : Event) : s.keeps (s.deliver b e) := by
  obtain h | h | h := s.deliver_cases b e
  · rw [h]; exact s.keeps_refl
  · rw [h]; exact State.keeps_of_bench ⟨_, rfl⟩ rfl rfl rfl fun _ => State.sameBench_refl _ _
  · rw [h]
    refine State.keeps_of_bench ⟨_, rfl⟩ rfl rfl rfl fun d => ?_
    rw [State.sameBench, State.bench_setBench]
    split
    · rename_i hd; rw [hd.1]; simp
    · simp

theorem State.radioEvent_keeps (s : State) (c : Nat) (w : List Byte) (fs : List (Nat × Word)) :
    s.keeps (s.radioEvent c w fs) := s.deliver_keeps _ _

theorem State.reply_keeps (s : State) (c id st : Nat) (w : List Byte) : s.keeps (s.reply c id st w) :=
  s.deliver_keeps _ _

theorem State.radioFor_keeps (s : State) (c id : Nat) (w : List Byte) : s.keeps (s.radioFor c id w) :=
  s.deliver_keeps _ _

theorem State.voidFrom_keeps (s : State) (p : Pos) : s.keeps (s.voidFrom p) :=
  State.keeps_of_bench ⟨_, rfl⟩ rfl rfl rfl fun _ => State.sameBench_refl _ _

theorem State.logFault_keeps (s : State) (c u k : Nat) : s.keeps (s.logFault c u k).2 := by
  obtain ⟨b, f, h⟩ := s.logFault_frame c u k
  rw [h]; exact State.keeps_of_prog rfl rfl rfl rfl rfl

theorem State.losePacket_keeps (s : State) (m : Bool) (p : Pos) (n : Nat) :
    s.keeps (s.losePacket m p n).2 := by
  simp only [State.losePacket]
  split
  all_goals exact ⟨rfl, rfl, rfl, rfl, rfl, rfl, rfl, fun _ => State.sameBench_refl _ _⟩

theorem State.tryPacket_keeps (s : State) (ty sub : Nat) (p : Pos) (xs : List Byte) :
    s.keeps (s.tryPacket ty sub p xs).2 := by
  simp only [State.tryPacket]
  split
  · split <;> exact State.keeps_of_prog rfl rfl rfl rfl rfl
  · exact s.losePacket_keeps _ _ _

theorem State.streamFault_keeps (s : State) (e : FaultEntry) : s.keeps (s.streamFault e).2 := by
  unfold State.streamFault
  split
  · exact s.tryPacket_keeps _ _ _ _
  · exact s.keeps_refl

theorem State.dropBegins_keeps (s : State) : s.keeps s.dropBegins :=
  (((s.logFault_keeps _ _ _).trans (State.deliver_keeps _ _ _)).trans (State.streamFault_keeps _ _)).trans
    (State.deliver_keeps _ _ _)

theorem State.packet_keeps (s : State) (ty sub : Nat) (p : Pos) (xs : List Byte) :
    s.keeps (s.packet ty sub p xs) := by
  have h := s.tryPacket_keeps ty sub p xs
  simp only [State.packet]
  split
  · exact h.trans (State.dropBegins_keeps _)
  · exact h

theorem State.raise_keeps (s : State) (c u k : Nat) : s.keeps (s.raise c u k) := by
  have h := ((s.logFault_keeps c u k).trans (State.deliver_keeps _ 4 _)).trans
    (State.streamFault_keeps ((s.logFault c u k).2.faultEvent c u k) (s.logFault c u k).1)
  simp only [State.raise]
  split
  · exact h.trans (State.dropBegins_keeps _)
  · exact h

theorem State.note_keeps (s : State) (c : Nat) : s.keeps (s.note c) := s.raise_keeps c _ _

theorem State.raiseBench_keeps (s : State) (c b k : Nat) : s.keeps (s.raiseBench c b k) := by
  have h := (s.logFault_keeps c b k).trans
    (State.streamFault_keeps (s.logFault c b k).2 (s.logFault c b k).1)
  simp only [State.raiseBench]
  split
  · exact h.trans (State.dropBegins_keeps _)
  · exact h

theorem State.mirror_keeps (s : State) (p : WPayload) : s.keeps (s.mirror p) := by
  unfold State.mirror
  split
  · exact State.keeps_of_prog rfl rfl rfl rfl rfl
  · exact s.keeps_refl

theorem State.setReg_keeps (s : State) (a : Nat) (v : Word) : s.keeps (s.setReg a v) :=
  State.keeps_of_prog rfl rfl rfl rfl rfl

/-! ### The end of a position -/

/-- What a fold leaves, when each of its steps leaves it. -/
theorem foldl_leaves {α : Type} {R : State → State → Prop} (f : State → α → State) (l : List α)
    (hr : ∀ s, R s s) (ht : ∀ {s t u}, R s t → R t u → R s u) (hf : ∀ s a, R s (f s a)) (s : State) :
    R s (l.foldl f s) := by
  induction l generalizing s with
  | nil => exact hr s
  | cons a l ih => exact ht (hf s a) (ih (f s a))

/-- Nothing differs but what `keeps` leaves open, and of that only the benches' queues, the tack store's and the
ports' counts, the fault log, the alert causes and the mailboxes. -/
def State.settles (s t : State) : Prop :=
  s.keeps t ∧ t.mail.keys = s.mail.keys ∧ t.mail.session = s.mail.session ∧
    ∃ p k b o f m, t = { s with prog := p, tack := k, bus := b, port := o, flt := f, mail := m }

theorem State.settles_refl (s : State) : s.settles s := ⟨s.keeps_refl, rfl, rfl, _, _, _, _, _, _, rfl⟩

theorem State.settles.trans {s t u : State} (h : s.settles t) (k : t.settles u) : s.settles u := by
  obtain ⟨h1, h2, h3, _, _, _, _, _, _, rfl⟩ := h
  obtain ⟨k1, k2, k3, _, _, _, _, _, _, rfl⟩ := k
  exact ⟨h1.trans k1, k2.trans h2, k3.trans h3, _, _, _, _, _, _, rfl⟩

theorem State.postOut_settles {s t : State} {mb : Nat} {f : Sender} {xs : List Byte} {p : Pos}
    (h : s.postOut mb f xs p = some t) : s.settles t := by
  unfold State.postOut at h
  split at h
  · cases h
  · cases h
    split
    · obtain ⟨b, h⟩ := s.arise_frame 0
      rw [h]
      exact ⟨State.keeps_of_prog rfl rfl rfl rfl rfl, rfl, rfl, _, _, _, _, _, _, rfl⟩
    · exact ⟨State.keeps_of_prog rfl rfl rfl rfl rfl, rfl, rfl, _, _, _, _, _, _, rfl⟩

theorem State.postRefused_settles (s : State) (mb : Nat) : s.settles (s.postRefused mb) := by
  simp only [State.postRefused]
  generalize List.cons _ _ = l
  have h : s.settles { s with mail := { s.mail with refused := satAdd 255 s.mail.refused 1, refusedSf := l } } :=
    ⟨State.keeps_of_prog rfl rfl rfl rfl rfl, rfl, rfl, _, _, _, _, _, _, rfl⟩
  generalize { s with mail := { s.mail with refused := satAdd 255 s.mail.refused 1, refusedSf := l } } = t at h
  split
  · exact h
  · obtain ⟨p, k, b, o, f, hr⟩ := t.raise_frame 0x9202 mb clsNote
    exact h.trans ⟨t.raise_keeps _ _ _, by simp, by simp, p, k, b, o, f, _, hr⟩

/-- The held MPOSTs that land change no data memory, ledger, handler or mode (R663). -/
theorem State.applyPosts_settles (s : State) : s.settles s.applyPosts := by
  unfold State.applyPosts
  generalize s.mail.heldPosts = posts
  have h : s.settles { s with mail := { s.mail with heldPosts := [] } } :=
    ⟨State.keeps_of_prog rfl rfl rfl rfl rfl, rfl, rfl, _, _, _, _, _, _, rfl⟩
  refine h.trans (foldl_leaves _ _ State.settles_refl State.settles.trans (fun s b => ?_) _)
  refine foldl_leaves _ _ State.settles_refl State.settles.trans (fun s p => ?_) s
  split
  · exact State.postOut_settles ‹_›
  · exact s.postRefused_settles _

/-- A bench once the ledger writes are applied: only its buffers are emptied (R146). -/
theorem State.applyLedger_bench (s : State) (d : Fin 5) : s.applyLedger.bench d =
    { s.bench d with ledgerBuf := [], lsws := 0, sent := Vector.replicate 5 0 } := by
  simp [State.applyLedger, State.bench, vget]

/-- The state with a high-water of the lag and its condition. -/
def State.withLag (s : State) (x : Nat) (b : Bool) : State :=
  { s with prog := { s.prog with lagHigh := x, lagged := b } }

/-- All that watching the lag does (R161). -/
theorem State.watchLag_cases (s : State) :
    ∃ x b, s.watchLag = s.withLag x b ∨ s.watchLag = (s.withLag x b).note 0x8120 := by
  simp only [State.watchLag]
  split
  · split
    · exact ⟨_, _, .inl rfl⟩
    · exact ⟨_, _, .inr rfl⟩
  · split
    · exact ⟨_, _, .inl rfl⟩
    · exact ⟨_, _, .inl rfl⟩

theorem State.withLag_settles (s : State) (x : Nat) (b : Bool) : s.settles (s.withLag x b) :=
  ⟨State.keeps_of_bench ⟨_, rfl⟩ rfl rfl rfl fun _ => State.sameBench_refl _ _, rfl, rfl,
    _, _, _, _, _, _, rfl⟩

theorem State.watchLag_settles (s : State) : s.settles s.watchLag := by
  obtain ⟨x, b, h | h⟩ := s.watchLag_cases
  · rw [h]; exact s.withLag_settles x b
  · rw [h]
    refine (s.withLag_settles x b).trans ?_
    generalize s.withLag x b = t
    obtain ⟨p, k, b, o, f, hr⟩ := t.raise_frame 0x8120 0xFF clsNote
    exact ⟨t.note_keeps _, by simp [State.note], by simp [State.note], p, k, b, o, f, _, hr⟩

/-- What the end of a position leaves of every bench, and of the rest of the state. -/
theorem State.settle_leaves (s : State) : (∀ d : Fin 5,
      (s.settle.bench d).data = (s.bench d).data ∧ (s.settle.bench d).wakes = (s.bench d).wakes ∧
      (s.settle.bench d).handler = (s.bench d).handler ∧ (s.settle.bench d).mode = (s.bench d).mode) ∧
    s.settle.prog.image = s.prog.image ∧ s.settle.prog.ckpt = s.prog.ckpt ∧
    s.settle.mail.keys = s.mail.keys ∧ s.settle.mail.session = s.mail.session ∧
    (s.settle.prog.ledger = s.prog.ledger ∨ ∀ d : Fin 5, (s.settle.bench d).ledgerBuf = []) ∧
    ∃ p k b o f m, s.settle = { s with prog := p, tack := k, bus := b, port := o, flt := f, mail := m } := by
  unfold State.settle
  split
  · have ha := s.applyPosts_settles
    have hw := s.applyPosts.applyLedger.watchLag_settles
    have hb : ∀ d : Fin 5, _ := fun d => State.applyLedger_bench s.applyPosts d
    generalize s.applyPosts.applyLedger.watchLag = w at hw
    have hl : s.applyPosts.applyLedger = { s.applyPosts with prog := s.applyPosts.applyLedger.prog } := rfl
    obtain ⟨⟨_, _, _, _, h1, _, h2, h3⟩, h4, h5, _, _, _, _, _, _, h⟩ := ha
    obtain ⟨⟨_, _, _, _, k1, _, k2, k3⟩, k4, k5, _, _, _, _, _, _, k⟩ := hw
    refine ⟨fun d => ?_, k1.trans h1, k2.trans h2, k4.trans h4, k5.trans h5, .inr fun d => ?_, ?_⟩
    · obtain ⟨a1, a2, a3, a4, _⟩ := k3 d
      obtain ⟨b1, b2, b3, b4, _⟩ := h3 d
      rw [hb d] at a1 a2 a3 a4
      exact ⟨a1.trans b1, a2.trans b2, a3.trans b3, a4.trans b4⟩
    · rw [(k3 d).2.2.2.2, hb d]
    · rw [k, hl, h]; exact ⟨_, _, _, _, _, _, rfl⟩
  · exact ⟨fun _ => ⟨rfl, rfl, rfl, rfl⟩, rfl, rfl, rfl, rfl, .inl rfl, _, _, _, _, _, _, rfl⟩

/-! ### Canonical memories -/

/-- The sparse tables are those of the registers, the seal and the lanes. -/
theorem State.tablesWf_of {s t : State} (h1 : t.regs = s.regs) (h2 : t.theSeal = s.theSeal)
    (h3 : t.lanes = s.lanes) (hs : s.tablesWf = true) : t.tablesWf = true := by
  simpa only [State.tablesWf, h1, h2, h3] using hs

/-- The memories stay canonical when the benches' data, the ledger, the checkpoints and the image stay. -/
theorem State.keeps.memWf {s t : State} (h : s.keeps t) (hp : t.prog.ckptPrev = s.prog.ckptPrev)
    (hs : s.memWf = true) : t.memWf = true := by
  obtain ⟨_, _, _, _, h1, h2, h3, h4⟩ := h
  have hb : t.prog.bench.toList.all (fun n => swf 0 n.data) =
      s.prog.bench.toList.all (fun n => swf 0 n.data) := by
    rw [Bool.eq_iff_iff]
    simp only [List.all_eq_true, Vector.mem_toList_iff, Vector.mem_iff_getElem]
    have hd : ∀ i (hi : i < 5), (t.prog.bench[i]).data = (s.prog.bench[i]).data := by
      intro i hi
      have := (h4 ⟨i, hi⟩).1
      simpa [State.bench, vget, hi] using this
    constructor
    · rintro k n ⟨i, hi, rfl⟩; rw [← hd i hi]; exact k _ ⟨i, hi, rfl⟩
    · rintro k n ⟨i, hi, rfl⟩; rw [hd i hi]; exact k _ ⟨i, hi, rfl⟩
  simpa only [State.memWf, Program.memWf, h1, h2, h3, hp, hb] using hs

/-- A bench replaced by one with canonical data keeps the memories canonical. -/
theorem State.memWf_setBench {s : State} {b : Nat} {n : Bench} (hs : s.memWf = true)
    (hn : swf 0 n.data = true) : (s.setBench b n).memWf = true := by
  simp only [State.memWf, Program.memWf, Bool.and_eq_true] at hs ⊢
  obtain ⟨⟨⟨⟨h1, h2⟩, h3⟩, h4⟩, h5⟩ := hs
  refine ⟨⟨⟨⟨h1, ?_⟩, h3⟩, h4⟩, h5⟩
  simp only [List.all_eq_true, Vector.mem_toList_iff, Vector.mem_iff_getElem] at h2 ⊢
  rintro m ⟨i, hi, rfl⟩
  simp only [State.setBench, vset]
  split
  · rw [Vector.getElem_set]
    split
    · exact hn
    · exact h2 _ ⟨i, hi, rfl⟩
  · exact h2 _ ⟨i, hi, rfl⟩

theorem State.memWf_bench {s : State} (hs : s.memWf = true) (b : Fin 5) : swf 0 (s.bench b).data = true := by
  simp only [State.memWf, Program.memWf, Bool.and_eq_true, List.all_eq_true, Vector.mem_toList_iff,
    Vector.mem_iff_getElem] at hs
  refine hs.1.1.1.2 _ ⟨b, b.isLt, ?_⟩
  simp [State.bench, vget]

/-- A store keeps the memories canonical. -/
theorem State.memWf_writeData {s : State} {b : Fin 5} {a : Nat} {xs : List Byte} (hs : s.memWf = true) :
    (s.writeData b a xs).memWf = true :=
  State.memWf_setBench hs (swf_writeBytes (State.memWf_bench hs b))

end Sys2Proof.Machine
end

