-- ==== Sys2Proof/Laws/Crypto.lean ====
section
/-! SUPPORT. The lengths of what the cryptographic functions give, and numbers read back from their bytes. -/

namespace Sys2Proof

@[simp] theorem length_bytesBE (n v : Nat) : (bytesBE n v).length = n := by
  induction n with
  | zero => rfl
  | succ n ih => simp [bytesBE, ih]

/-- Two bytes spell the number they were made from. -/
theorem natBE_bytesBE_two {v : Nat} (h : v < 65536) : natBE (bytesBE 2 v) = v := by
  simp [natBE, bytesBE]
  omega

namespace Machine.Crypto

@[simp] theorem length_xorBytes (a b : List Byte) : (xorBytes a b).length = min a.length b.length := by
  simp [xorBytes]

@[simp] theorem length_subShift (s : List Byte) : (subShift s).length = 16 := by simp [subShift]

@[simp] theorem length_mixColumns (s : List Byte) : (mixColumns s).length = 16 := by
  simp [mixColumns, mixColumn]

@[simp] theorem length_nextKey {k : List Byte} {r : Byte} (h : k.length = 16) : (nextKey k r).length = 16 := by
  simp [nextKey, h]

theorem length_rounds {n : Nat} {s k : List Byte} {r : Byte} (hs : s.length = 16) (hk : k.length = 16) :
    (rounds n s k r).length = 16 := by
  induction n generalizing s k r with
  | zero => exact hs
  | succ n ih =>
    refine ih ?_ (length_nextKey hk)
    split <;> simp [hk]

theorem length_aes {key x : List Byte} (hk : key.length = 16) (hx : x.length = 16) :
    (aes key x).length = 16 := length_rounds (by simp [hk, hx]) hk

/-- The CBC chain over whole blocks keeps the length of its block. -/
theorem length_cbc {n : Nat} {key c m : List Byte} (hk : key.length = 16) (hc : c.length = 16)
    (hm : 16 ∣ m.length) : (cbc n key c m).length = 16 := by
  induction n generalizing c m with
  | zero => exact hc
  | succ n ih =>
    rw [cbc]
    split
    · exact hc
    · rename_i hne
      obtain ⟨j, hj⟩ := hm
      have hm0 : m.length ≠ 0 := by
        intro h0
        exact hne (by simpa using List.length_eq_zero_iff.mp h0)
      have hj0 : 0 < j := Nat.pos_of_ne_zero (by rintro rfl; exact hm0 (by omega))
      refine ih (length_aes hk ?_) ⟨j - 1, ?_⟩
      · simp only [length_xorBytes, List.length_take]; omega
      · simp only [List.length_drop]; omega

/-- A CMAC under a 16-byte key has 16 bytes. -/
@[simp] theorem length_cmac {key : List Byte} (msg : List Byte) (hk : key.length = 16) :
    (cmac key msg).length = 16 := by
  unfold cmac
  refine length_cbc hk (by simp) ?_
  have hd : ∀ x, (dbl x).length = 16 := fun x => by simp [dbl]
  have hl : (msg.drop ((msg.length - 1) / 16 * 16)).length ≤ 16 := by
    simp only [List.length_drop]; omega
  generalize hf : (msg.length - 1) / 16 * 16 = f at hl
  have ht : (msg.take f).length = f := by simp only [List.length_take]; omega
  simp only [List.length_append, ht]
  refine (Nat.dvd_add_right ⟨(msg.length - 1) / 16, by omega⟩).mpr ?_
  split
  · rename_i h; simp [hd, h]
  · rename_i h
    simp only [length_xorBytes, List.length_append, List.length_cons, List.length_replicate, hd]
    refine ⟨1, ?_⟩
    omega

end Machine.Crypto

namespace Machine

/-- A tag of a secure message has 8 bytes. -/
@[simp] theorem State.length_secureTag (s : State) (dir mb n : Nat) (p : List Byte)
    (hk : s.mail.session.key.length = 16) : (s.secureTag dir mb n p).length = 8 := by
  simp [State.secureTag, hk]

/-- A frame's MAC has 4 bytes. -/
@[simp] theorem length_hearthMac {key : List Byte} (sf sync h0 seq : Nat) (p : List Byte)
    (hk : key.length = 16) : (hearthMac key sf sync h0 seq p).length = 4 := by
  simp [hearthMac, hk]

/-- A message made as the host makes it is taken: its counter, its payload and the tag over them (R680). -/
theorem State.secureBody_of {s : State} {mb n : Nat} {p : List Byte} (hk : s.mail.session.key.length = 16)
    (hp : p ≠ []) (hn : fieldBE (bytesBE 4 n ++ p ++ s.secureTag 0 mb n p) 0 4 = n)
    (hc : n = s.mail.session.rxCount + 1) :
    s.secureBody mb (bytesBE 4 n ++ p ++ s.secureTag 0 mb n p) = some p := by
  have hp1 : 1 ≤ p.length := List.length_pos_iff.mpr hp
  have hl : (bytesBE 4 n ++ p ++ s.secureTag 0 mb n p).length = p.length + 12 := by
    simp [s.length_secureTag 0 mb n p hk]; omega
  have h1 : ((bytesBE 4 n ++ p ++ s.secureTag 0 mb n p).drop 4).take (p.length + 12 - 12) = p := by
    rw [List.append_assoc, List.drop_append_of_le_length (by simp)]
    rw [List.drop_of_length_le (by simp), List.nil_append, Nat.add_sub_cancel, List.take_left]
  have h2 : (bytesBE 4 n ++ p ++ s.secureTag 0 mb n p).drop (p.length + 12 - 8) = s.secureTag 0 mb n p := by
    rw [show p.length + 12 - 8 = (bytesBE 4 n ++ p).length by simp; omega, List.drop_left]
  simp only [State.secureBody, hl, hn, h1, h2]
  rw [if_pos ⟨by omega, hc, trivial⟩]

end Machine

end Sys2Proof
end

