-- ==== Sys2Proof/WellFormed.lean ====
section
/-! DEFINITION. The well-formed commands: operands within what the spec's commands can carry. -/

namespace Sys2Proof

/-- A PP of 48 bits and an epoch of 16 (R34, R67). -/
def Pos.ok (p : Pos) : Bool := p.pp < 2 ^ 48 && p.epoch < 65536

end Sys2Proof

namespace Sys2Proof.Machine

open Sys2Proof

/-- An event's position and window: LEN is at most 255 (R195). -/
def Event.ok (e : Event) : Bool := e.pos.pp < 2 ^ 48 && e.pos.epoch < 65536 && e.win.length < 256

/-- One of the Last events of Table 2-6. -/
def Event.isLast (e : Event) : Bool := match e.cls with
  | .stamp | .rewind | .skip | .lastloss => true
  | _ => false

/-- An ADC sample has 16 bits of I and Q (chapter 9, Ground). -/
def Iq.ok (v : Iq) : Bool := -32768 ≤ v.i && v.i < 32768 && -32768 ≤ v.q && v.q < 32768

/-- A welt frame has its TYPE, SEQ, ACK and LEN, and up to 1024 bytes of payload (Table 18-1). -/
def WHead.ok (h : WHead) : Bool := 7 ≤ h.bytes.length && h.bytes.length ≤ 1031

/-- The fields of a heartbeat in their sizes (Table 18-2). -/
def Heartbeat.ok (h : Heartbeat) : Bool :=
  h.pos.pp < 2 ^ 48 && h.pos.epoch < 65536 && h.conf < 2 ^ 48 && h.troupeSeq.length == 16 &&
    h.troupeSeq.all (fun n => n < 65536) && h.beaconSeq < 65536 && h.ack < 65536 && h.digest.length == 8

/-- A mirrored message of MB0–MB7, or a ring of a bench's eyelet (Table 18-2). -/
def HostMirror.ok : HostMirror → Bool
  | .post mb bytes p => mb < 8 && bytes.length < 256 && p.pp < 2 ^ 48 && p.epoch < 65536
  | .ring b i p => b < 5 && i < 32 && p.pp < 2 ^ 48 && p.epoch < 65536

end Sys2Proof.Machine

namespace Sys2Proof

open Sys2Proof.Machine

/-- A well-formed command.  What a type cannot hold out of range needs no check.
DESIGN CHOICE, safe: log entry 5. -/
def wellFormed (i : Instr) : Bool :=
  match i with
  | .govern blk | .measureSubscribe blk | .measureUnsubscribe blk | .measureOnce blk | .laneAssign blk
  | .laneModify blk | .laneFade blk | .laneRelease blk | .chainTune blk | .chainState blk | .gain blk
  | .protectSet blk | .protectClear blk | .calibrateCurrent blk | .calibrateKey blk | .calibrateStale blk
  | .calibrateAll blk | .calibrateSweep blk | .ensembleStart blk | .ensembleStop blk
  | .subchannelSelect blk | .subchannelDeselect blk | .correlateMpx blk | .correlateStamp blk
  | .spliceAt blk | .spliceArmed blk | .hearthPlan blk | .hearthStart blk | .hearthStop blk | .irRxSet blk
  | .irRxOff blk | .irTxProfile blk | .awl blk | .audioRouteSource blk | .audioRouteNosource blk
  | .audioRoutePorts blk =>
    blk.length == 32
  | .rdsBlockDelivery lane syms _ _ ago =>
    lane ≤ 101 && syms.length == 27 && ago ≤ 1024
  | .pilotTickJudge lane _ _ | .detectorBlock lane | .fadeDone lane | .laneSettled lane
  | .laneSubstitution lane | .laneCtrlEnWrite lane _ _ | .laneFirFadeWrite lane _ _ =>
    lane ≤ 101
  | .fmQuality carrier _ _ =>
    carrier < 96 || carrier == 0x80 || carrier == 0x81
  | .laneOutputBlock lane inp =>
    lane ≤ 101 && inp.input.all fun e => e.1.ok && e.2.ok
  | .irAmbientStep irin =>
    irin.length == 960 && irin.all (· < 4096)
  | .irMarkEdge _ y _ _ _ peak =>
    y.ok && peak ≤ 255
  | .irFloodBlock _ _ irin out =>
    irin.length == 96 && irin.all (· < 4096) && out.length == 24 && out.all fun y => y.ok
  | .irStuck lo hi | .irStuckRelease lo hi =>
    lo ≤ hi && hi < 4096
  | .audioTrackMeasure _ sub clk =>
    sub < 65536 && -20000 ≤ clk && clk ≤ 20000
  | .audioClockReturn _ sub | .audCtrlWrite _ sub _ _ =>
    sub < 65536
  | .dabFrame _ _ ago _ fibs =>
    ago ≤ 1024 && fibs.length ≤ 12 && fibs.all fun f => f.bytes.length == 32
  | .cifBoundary _ cif =>
    cif < 5000
  | .cifDecoded _ cif _ subs =>
    cif < 5000 && subs.all fun x => x.id < 64
  | .hearthFrameRx rx =>
    rx.bytes.length ≤ 511
  | .sealWrite addr _ _ | .regRead addr _ | .regWrite addr _ _ | .captureRead addr _ | .readClear addr _ =>
    addr < 65536
  | .mbPost mb count bytes _ =>
    mb < 16 && count < 256 && bytes.length < 256
  | .mbRead mb _ _ =>
    mb < 16
  | .eyeletRing endpoint eyelet _ =>
    endpoint < 8 && eyelet < 32
  | .sessOpen kind _ =>
    kind < 256
  | .sessResp count bytes _ =>
    count < 256 && bytes.length < 256
  | .sessionStepDone nonce =>
    nonce.length == 8
  | .heartbeatRx hb =>
    hb.ok
  | .weltTickFrame h pos =>
    h.ok && pos.ok
  | .weltRecordFrame h ev mask =>
    h.ok && ev.ok && ev.cls == .record && mask < 16
  | .weltLastevFrame h ev =>
    h.ok && ev.ok && ev.isLast
  | .weltHostmsgFrame h m =>
    h.ok && m.ok
  | .weltB4msgFrame h dest ev =>
    h.ok && ev.ok && ev.cls == .mail && dest < 4
  | .weltDecisionFrame h code blk app =>
    h.ok && 1 ≤ code && code ≤ 18 && blk.length == 32 && app < 2 ^ 48
  | .weltDigestFrame h rep =>
    h.ok && rep.sf < 2 ^ 32 && rep.epoch < 65536
  | .weltCkptFrame h _ page =>
    h.ok && page.length == 256
  | .weltAdoptFrame h =>
    h.ok
  | .adoptionComplete a =>
    a.ckpt.benches.length == 5 && a.ckpt.pos.ok && a.pp < 2 ^ 48 && a.epoch < 65536
  | .add .. | .sub .. | .adds .. | .subs .. | .addus .. | .subus .. | .and .. | .or .. | .xor .. | .shl ..
  | .shr .. | .sar .. | .rol .. | .slt .. | .sltu .. | .seq .. | .sne .. | .min .. | .max .. | .minu ..
  | .maxu .. | .clz .. | .popc .. | .mul .. | .mulh .. | .mulhu .. | .div .. | .divu .. | .rem ..
  | .remu .. | .addi .. | .addis .. | .andi .. | .ori .. | .xori .. | .shli .. | .shri .. | .sari ..
  | .slti .. | .sltiu .. | .lui .. | .beq .. | .bne .. | .blt .. | .bge .. | .bltu .. | .bgeu .. | .jmp ..
  | .call .. | .jr .. | .callr .. | .ret .. | .endHandler .. | .nop .. | .trap .. | .srem ..
  | .undefinedInstruction .. | .ldw .. | .ldh .. | .ldhu .. | .ldb .. | .ldbu .. | .stw .. | .sth ..
  | .stb .. | .llw .. | .lsw .. | .ldc .. | .evb .. | .evh .. | .evw .. | .evf .. | .evcpy .. | .tpost ..
  | .tcan .. | .tcank .. | .msend .. | .mpost .. | .ring .. | .radio .. | .wake .. | .wcan .. | .crcb ..
  | .crcw .. | .crcd .. | .replayDone .. | .handlerEntry .. | .positionClose | .eventHoldRelease ..
  | .wakeatFire .. | .benchCtrlRun .. | .benchRunEffect .. | .benchCtrlRestart .. | .benchRestartEffect ..
  | .tickEdge | .tackDispatch | .holdEnd | .slewEnd | .sourceQualify | .trimMeasure .. | .frlimitReached
  | .governApply | .lastGovWrite .. | .bleedCorrection | .intakeRelease | .uvwaitExpiry | .gaptimeLoss
  | .streamEntryIdle | .poTick .. | .laneApplyEdge | .poolGrantRound | .coefEccError ..
  | .laneFailedWrite .. | .laneCoefdatAccess .. | .laneCoefidxWrite .. | .chainTuneApply ..
  | .chainTransitionDone .. | .protectWindowEnd .. | .gainAutoTick .. | .dcLoopLimit .. | .bubbleStart ..
  | .bubbleDone .. | .pafaultAssert .. | .hrPaevtClear .. | .chainReset .. | .chainStateWrite ..
  | .brModeWrite .. | .adcStuckFail .. | .tempReading .. | .calSweep .. | .sweepDone .. | .calCommit ..
  | .calCommitStepDone .. | .pllLockLoss .. | .referenceLoss | .referenceBack | .sysrestart ..
  | .sckrestart .. | .pllRelock .. | .limpMeasure .. | .dabFrameMissed .. | .acqtimeExpiry ..
  | .dabDecoderReset .. | .dabDecoderFailed .. | .correlateReply .. | .spliceAlignEnd .. | .spliceEdge ..
  | .spliceFadeEnd .. | .spliceExpiry .. | .hlCtrlStop .. | .hearthRunning | .slotStart | .lbtResult ..
  | .burstTransmit | .burstEnd | .beaconMissed .. | .maxwaitTimeout .. | .dutyBucketRoll | .sealCmd ..
  | .irBurstEnd .. | .floodholdExpiry .. | .irRecoverEnd .. | .recentre .. | .pairWindowExpiry ..
  | .irCode .. | .irTxCodeEnd .. | .irTxreset .. | .irRxreset .. | .status .. | .devid .. | .revid ..
  | .lastnack .. | .faultRead ..
  | .powerIdle .. | .powerRun .. | .powerSleep .. | .holdExitNormal .. | .holdExitDegraded ..
  | .eyeletTake .. | .alertCause .. | .lastSnapshot .. | .sessOpenInstall .. | .sessChal .. | .sessClose ..
  | .sessidleExpiry | .sessionLockoutEnd | .deviceReset .. | .unknownCommand .. | .alertResponse ..
  | .hostNotify .. | .hostNotifyRetry .. | .rearmExpiry | .busWakeMatch .. | .wakeStretchExpiry ..
  | .busTimeout | .busstuck .. | .busstuckClear | .busRecovery .. | .alertstuck | .alertstuckClear
  | .alertReadbackFault | .mbTimeout .. | .hostreset .. | .eyeMaskWrite .. | .showSet | .showDel | .siteSet
  | .linkSet | .linkDel | .hakSet | .instBegin | .instData | .instEnd | .instCommit | .instRevert
  | .instAbort | .instEraseDone | .instVerifyDone | .energyRecheck | .storeBootWrite .. | .ivkProgram ..
  | .storeOpDone .. | .awlStart .. | .awlRunEnd .. | .awlRerun .. | .awlDetail | .powerUpAwlEnd ..
  | .vsysGood .. | .powerfail | .vholdFloor | .vioGood | .pinReset | .wakePin .. | .supplySample ..
  | .vholdLow | .domctrlWrite .. | .strmCapWrite .. | .streamPacketSend .. | .audioFrame ..
  | .audioClockLoss .. | .heartbeatSend
  | .heartbeatMissed | .wlsyncEdgeLoss | .symbolLockLoss | .weltResend | .adoptionTimeout | .weltAdopt ..
  | .weltYield .. | .roleSwap | .takeover | .resetRelease .. | .domainPowerUpDone .. | .linkUpDeadline => true

end Sys2Proof
end

