-- ==== Sys2Proof/Tests/Slice0.lean ====
section
/-! SUPPORT. Tests: ill-formed commands are refused, single commands on small states against what the spec
says, and for every statement with hypotheses a state and operands that meet them, clause by clause. -/

namespace Sys2Proof.Tests

open Sys2Proof Sys2Proof.Machine

-- Each test waits for the kernel: one after another, or a thread of its own would wait for each.
set_option Elab.async false

/-! ### Ill-formed commands: one for every check of WellFormed -/

/-- A block of `n` zero bytes. -/
def zeros (n : Nat) : List Byte := List.replicate n 0

/-- A welt frame with no payload, SEQ 0 and ACK 0, and one whose CRC fails. -/
def head0 : WHead := ⟨zeros 7, crc32c (zeros 7)⟩
def headX : WHead := ⟨zeros 7, crc32c (zeros 7) ^^^ 1⟩
def ev0 : Event := ⟨.record, ⟨3, 77⟩, 0, 0, 5, [1, 2, 3, 4, 5, 6, 7, 8, 9, 0x80], [(12, 9)]⟩

theorem wf_block_length : wellFormed (.govern (zeros 32)) = true ∧ wellFormed (.govern (zeros 31)) = false ∧
    wellFormed (.laneAssign (zeros 33)) = false ∧ wellFormed (.audioRoutePorts []) = false := by decide +kernel
theorem wf_lane : wellFormed (.fadeDone 101) = true ∧ wellFormed (.fadeDone 102) = false ∧
    wellFormed (.pilotTickJudge 102 true 0) = false ∧ wellFormed (.laneSettled 102) = false ∧
    wellFormed (.detectorBlock 102) = false ∧ wellFormed (.fmQuality 0x81 false []) = true ∧
    wellFormed (.fmQuality 102 false []) = false := by decide +kernel
theorem wf_bytes : wellFormed (.mbPost 8 4 (zeros 4) .absent) = true ∧ wellFormed (.mbPost 16 4 (zeros 4) .absent) = false ∧
    wellFormed (.mbPost 8 256 (zeros 4) .absent) = false ∧ wellFormed (.mbPost 8 4 (zeros 256) .absent) = false ∧
    wellFormed (.mbRead 16 false true) = false ∧ wellFormed (.eyeletRing 8 0 .absent) = false ∧
    wellFormed (.eyeletRing 0 32 .absent) = false := by decide +kernel
theorem wf_address : wellFormed (.regRead 0xFFFF true) = true ∧ wellFormed (.regRead 0x10000 true) = false ∧
    wellFormed (.regWrite 0x10000 0 .absent) = false ∧ wellFormed (.sealWrite 0x10000 0 .absent) = false ∧
    wellFormed (.captureRead 0x10000 true) = false ∧ wellFormed (.readClear 0x10000 false) = false := by decide +kernel
theorem wf_session : wellFormed (.sessOpen 256 .absent) = false ∧ wellFormed (.sessResp 256 [] .absent) = false ∧
    wellFormed (.sessResp 3 (zeros 256) .absent) = false ∧ wellFormed (.sessionStepDone (zeros 8)) = true ∧
    wellFormed (.sessionStepDone (zeros 16)) = false := by decide +kernel
theorem wf_cif : wellFormed (.cifBoundary 0 4999) = true ∧ wellFormed (.cifBoundary 0 5000) = false := by
  decide +kernel
theorem wf_welt : wellFormed (.weltTickFrame head0 ⟨1, 5⟩) = true ∧
    wellFormed (.weltTickFrame ⟨zeros 6, 0⟩ ⟨1, 5⟩) = false ∧
    wellFormed (.weltTickFrame ⟨zeros 1032, 0⟩ ⟨1, 5⟩) = false ∧
    wellFormed (.weltTickFrame head0 ⟨65536, 5⟩) = false ∧
    wellFormed (.weltTickFrame head0 ⟨1, 2 ^ 48⟩) = false := by decide +kernel
theorem wf_welt_events : wellFormed (.weltRecordFrame head0 ev0 15) = true ∧
    wellFormed (.weltRecordFrame head0 ev0 16) = false ∧
    wellFormed (.weltRecordFrame head0 { ev0 with cls := .stamp } 1) = false ∧
    wellFormed (.weltRecordFrame head0 { ev0 with win := zeros 256 } 1) = false ∧
    wellFormed (.weltLastevFrame head0 ev0) = false ∧
    wellFormed (.weltLastevFrame head0 { ev0 with cls := .rewind }) = true ∧
    wellFormed (.weltB4msgFrame head0 0 ev0) = false ∧
    wellFormed (.weltB4msgFrame head0 4 { ev0 with cls := .mail }) = false := by decide +kernel
theorem wf_welt_payloads : wellFormed (.weltHostmsgFrame head0 (.post 8 [] ⟨0, 0⟩)) = false ∧
    wellFormed (.weltHostmsgFrame head0 (.ring 5 0 ⟨0, 0⟩)) = false ∧
    wellFormed (.weltHostmsgFrame head0 (.ring 4 32 ⟨0, 0⟩)) = false ∧
    wellFormed (.weltDecisionFrame head0 0 (zeros 32) 0) = false ∧
    wellFormed (.weltDecisionFrame head0 19 (zeros 32) 0) = false ∧
    wellFormed (.weltDecisionFrame head0 18 (zeros 31) 0) = false ∧
    wellFormed (.weltDecisionFrame head0 18 (zeros 32) (2 ^ 48)) = false := by decide +kernel
theorem wf_blocks :
    wellFormed (.laneOutputBlock 0 ⟨0, [(⟨-32768, 0⟩, ⟨32767, 0⟩)], true, 0⟩) = true ∧
    wellFormed (.laneOutputBlock 0 ⟨0, [(⟨0, 32768⟩, ⟨0, 0⟩)], true, 0⟩) = false ∧
    wellFormed (.laneOutputBlock 102 ⟨0, [], true, 0⟩) = false ∧
    wellFormed (.dabFrame 0 0 0 0 [⟨zeros 31, []⟩]) = false ∧
    wellFormed (.dabFrame 0 0 0 0 (List.replicate 13 ⟨zeros 32, []⟩)) = false ∧
    wellFormed (.cifDecoded 0 5000 0 []) = false ∧ wellFormed (.cifDecoded 0 0 0 [⟨64, []⟩]) = false ∧
    wellFormed (.hearthFrameRx ⟨zeros 511, 0, 0, 0, 0, 0, 0, 0⟩) = true ∧
    wellFormed (.hearthFrameRx ⟨zeros 512, 0, 0, 0, 0, 0, 0, 0⟩) = false := by decide +kernel
theorem wf_signals :
    wellFormed (.rdsBlockDelivery 7 (List.replicate 27 ⟨0, 0, 0, 0, false⟩) 0 0 1024) = true ∧
    wellFormed (.rdsBlockDelivery 7 [] 0 0 0) = false ∧
    wellFormed (.irAmbientStep (List.replicate 960 4095)) = true ∧
    wellFormed (.irAmbientStep (List.replicate 960 4096)) = false ∧
    wellFormed (.irMarkEdge 0 ⟨0, 0⟩ 0 0 0 256) = false ∧
    wellFormed (.irFloodBlock 0 0 (List.replicate 95 0) (List.replicate 24 ⟨0, 0⟩)) = false ∧
    wellFormed (.irStuck 5 4) = false ∧ wellFormed (.irStuckRelease 0 4096) = false ∧
    wellFormed (.audioTrackMeasure 0 0 20001) = false ∧ wellFormed (.audioClockReturn 0 65536) = false := by
  decide +kernel

/-- A heartbeat whose fields all fit. -/
def hb0 : Heartbeat := ⟨.active, true, zeros 8, ⟨1, 0⟩, 0, List.replicate 16 0, 0, 0⟩

theorem wf_heartbeat : wellFormed (.heartbeatRx hb0) = true ∧
    wellFormed (.heartbeatRx { hb0 with pos := ⟨1, 2 ^ 48⟩ }) = false ∧
    wellFormed (.heartbeatRx { hb0 with pos := ⟨65536, 0⟩ }) = false ∧
    wellFormed (.heartbeatRx { hb0 with conf := 2 ^ 48 }) = false ∧
    wellFormed (.heartbeatRx { hb0 with digest := zeros 7 }) = false ∧
    wellFormed (.heartbeatRx { hb0 with troupeSeq := [] }) = false ∧
    wellFormed (.heartbeatRx { hb0 with troupeSeq := List.replicate 16 65536 }) = false ∧
    wellFormed (.heartbeatRx { hb0 with beaconSeq := 65536 }) = false ∧
    wellFormed (.heartbeatRx { hb0 with ack := 65536 }) = false := by decide +kernel

/-- A state of the partner whose fields all fit. -/
def ad0 : Adopted :=
  ⟨⟨⟨1, 0⟩, List.replicate 5 (Bench.init.ckpt ⟨1, 0⟩), []⟩, [], [], 0, 0, [], 0, 0⟩

theorem wf_welt_state : wellFormed (.weltDigestFrame head0 ⟨2 ^ 32, 0, 0, 0, false⟩) = false ∧
    wellFormed (.weltDigestFrame head0 ⟨0, 65536, 0, 0, false⟩) = false ∧
    wellFormed (.weltCkptFrame head0 0 (zeros 256)) = true ∧
    wellFormed (.weltCkptFrame head0 0 (zeros 255)) = false ∧
    wellFormed (.weltAdoptFrame ⟨zeros 1032, 0⟩) = false ∧ wellFormed (.adoptionComplete ad0) = true ∧
    wellFormed (.adoptionComplete { ad0 with pp := 2 ^ 48 }) = false ∧
    wellFormed (.adoptionComplete { ad0 with epoch := 65536 }) = false ∧
    wellFormed (.adoptionComplete { ad0 with ckpt := ⟨⟨65536, 0⟩, ad0.ckpt.benches, []⟩ }) = false ∧
    wellFormed (.adoptionComplete { ad0 with ckpt := ⟨⟨1, 0⟩, [], []⟩ }) = false := by decide +kernel

/-! ### States for the tests -/

/-- An image of 64 code words whose table starts every handler at word 8. -/
def img0 : Image :=
  { ver := 1, relyStream := false, relyLanes := [], present := [0, 1, 2, 3, 4], codeLen := 256
    code := [(0, 0x12), (1, 0x34), (4, 0xAB)], table := List.replicate 90 (some ⟨8, 0⟩), ledger := []
    data := List.replicate 5 [], pageMap := 0x15555555, config := [] }

/-- A device in RUN with every domain up, the image loaded and every bench running. -/
def base : State :=
  { State.reset with
    supply := { Supply.init with power := .run, dom := #v[.up, .up, .up, .up, .up] }
    awl := { Awl.init with running := false, powerUp := false }
    prog := { Program.init with
      image := some img0, bench := Vector.replicate 5 { Bench.init with mode := .run } } }

/-- A handler with registers as listed, 10 of its 4096 steps used, at word 4. -/
def hnd (r : List Nat) : Handler :=
  { ev := ev0, pc := 4, regs := Vector.ofFn fun i => BitVec.ofNat 32 (r.getD i.val 0), stack := [], used := 10
    budget := 4096, items := [], logBytes := 0, ledger := [], lsws := 0, script := none }

/-- The device with bench `b` running a handler over a data memory of three bytes. -/
def onB (b : Fin 5) (h : Handler) : State :=
  base.setBench b { base.bench b with
    handler := some h, data := [(0x100, 1), (0x101, 0x82), (0x7FFF, 9)] }

/-- Register `r` of the handler that bench 1 runs after a command, with its PC and the steps used. -/
def after (i : Instr) (s : State) (r : Fin 16) : Option (Word × Nat × Nat) := match exec i s with
  | .next t => (t.bench 1).handler.map fun h => (h.get r, h.pc, h.used)
  | _ => none

/-- What a command leaves, as `f` sees it. -/
def sees {α : Type} (i : Instr) (s : State) (f : State → α) : Option α := match exec i s with
  | .next t => some (f t)
  | _ => none

/-- Bench 1 with the registers listed. -/
def r1 (r : List Nat) : State := onB 1 (hnd r)

/-! ### Alnomal: single instructions (chapter 5) -/

theorem test_add_wraps : after (.add 1 3 1 2) (r1 [0, 0xFFFFFFFF, 2]) 3 = some (1, 5, 11) := by decide +kernel
theorem test_write_of_w0_is_discarded : after (.add 1 0 1 2) (r1 [0, 5, 2]) 0 = some (0, 5, 11) := by
  decide +kernel
theorem test_adds_saturates : after (.adds 1 3 1 2) (r1 [0, 0x7FFFFFFF, 1]) 3 = some (0x7FFFFFFF, 5, 11) := by
  decide +kernel
theorem test_subs_saturates : after (.subs 1 3 1 2) (r1 [0, 0x80000000, 1]) 3 = some (0x80000000, 5, 11) := by
  decide +kernel
theorem test_subus_stops_at_0 : after (.subus 1 3 1 2) (r1 [0, 1, 2]) 3 = some (0, 5, 11) := by decide +kernel
theorem test_shift_takes_five_bits : after (.shl 1 3 1 2) (r1 [0, 1, 33]) 3 = some (2, 5, 11) := by
  decide +kernel
theorem test_sar_fills_the_sign :
    after (.sari 1 3 1 4) (r1 [0, 0x80000000]) 3 = some (0xF8000000, 5, 11) := by decide +kernel
theorem test_rol : after (.rol 1 3 1 2) (r1 [0, 0x80000001, 4]) 3 = some (0x18, 5, 11) := by decide +kernel
theorem test_slt_is_signed : after (.slt 1 3 1 2) (r1 [0, 0xFFFFFFFF, 0]) 3 = some (1, 5, 11) := by
  decide +kernel
theorem test_sltu_is_unsigned : after (.sltu 1 3 1 2) (r1 [0, 0xFFFFFFFF, 0]) 3 = some (0, 5, 11) := by
  decide +kernel
theorem test_clz_of_0 : after (.clz 1 3 1) (r1 [0, 0]) 3 = some (32, 5, 11) := by decide +kernel
theorem test_popc : after (.popc 1 3 1) (r1 [0, 0xF0F0]) 3 = some (8, 5, 11) := by decide +kernel
theorem test_mulh_is_signed :
    after (.mulh 1 3 1 2) (r1 [0, 0xFFFFFFFF, 2]) 3 = some (0xFFFFFFFF, 5, 12) := by decide +kernel
theorem test_mulhu : after (.mulhu 1 3 1 2) (r1 [0, 0xFFFFFFFF, 2]) 3 = some (1, 5, 12) := by decide +kernel
theorem test_div_truncates : after (.div 1 3 1 2) (r1 [0, 0xFFFFFFF9, 2]) 3 = some (0xFFFFFFFD, 5, 44) := by
  decide +kernel
theorem test_div_by_0 : after (.div 1 3 1 2) (r1 [0, 7, 0]) 3 = some (0xFFFFFFFF, 5, 44) := by decide +kernel
theorem test_rem_by_0 : after (.rem 1 3 1 2) (r1 [0, 7, 0]) 3 = some (7, 5, 44) := by decide +kernel
theorem test_andi_extends_by_zeros :
    after (.andi 1 3 1 0x3FFFF) (r1 [0, 0xFFFFFFFF]) 3 = some (0x3FFFF, 5, 11) := by decide +kernel
theorem test_addi_extends_the_sign : after (.addi 1 3 1 0x3FFFF) (r1 [0, 5]) 3 = some (4, 5, 11) := by
  decide +kernel
theorem test_lui : after (.lui 1 3 0xABCD) (r1 []) 3 = some (0xABCD0000, 5, 11) := by decide +kernel
theorem test_srem_counts_itself : after (.srem 1 3) (r1 []) 3 = some (4085, 5, 11) := by decide +kernel
theorem test_branch_is_relative_to_its_own_word :
    after (.beq 1 0 0 0x3FFFF) (r1 []) 0 = some (0, 3, 12) := by decide +kernel
theorem test_call_links : after (.call 1 20) (r1 []) 15 = some (5, 20, 13) := by decide +kernel
theorem test_ret_pops :
    after (.ret 1) (onB 1 { hnd [0, 0, 0, 0, 0, 0, 0, 0, 0, 0, 0, 0, 0, 0, 0, 9] with stack := [7] }) 15 =
      some (7, 9, 13) := by decide +kernel
theorem test_ldh_extends_the_sign :
    after (.ldh 1 3 1 0) (onB 1 (hnd [0, 0x100])) 3 = some (0x182, 5, 12) := by decide +kernel
theorem test_ldb_extends_the_sign :
    after (.ldb 1 3 1 1) (onB 1 (hnd [0, 0x100])) 3 = some (0xFFFFFF82, 5, 12) := by decide +kernel
theorem test_stw_is_big_endian :
    sees (.stw 1 2 1 4) (r1 [0, 0x100, 0x11223344]) (fun t => readBytes (t.bench 1).data 0x104 4) =
      some [0x11, 0x22, 0x33, 0x44] := by decide +kernel
theorem test_stb_of_zero_keeps_the_form :
    sees (.stb 1 0 1 0) (r1 [0, 0x100]) (fun t => (t.bench 1).data) =
      some [(0x101, 0x82), (0x7FFF, 9)] := by decide +kernel
theorem test_misaligned_load_faults :
    sees (.ldw 1 2 1 1) (r1 [0, 0x100]) (fun t => (t.prog.lastFault, (t.bench 1).mode)) =
      some (0x8110, .replay) := by decide +kernel
theorem test_window_reads_0_past_its_end :
    after (.evw 1 3 1 0) (r1 [0, 8]) 3 = some (0x09800000, 5, 12) := by decide +kernel
theorem test_evf_reads_the_class : after (.evf 1 3 0) (r1 []) 3 = some (1, 5, 12) := by decide +kernel

/-- The check value of CRC-32C: the digits 1 to 9, with the standard's initial value and final inversion. -/
theorem test_crc32c_check_value :
    crc32c [0x31, 0x32, 0x33, 0x34, 0x35, 0x36, 0x37, 0x38, 0x39] = 0xE3069283 := by decide +kernel
theorem test_crc16_check_value :
    crc16 [0x31, 0x32, 0x33, 0x34, 0x35, 0x36, 0x37, 0x38, 0x39] = 0x29B1 := by decide +kernel
theorem test_crc8_check_value :
    pecOf [0x31, 0x32, 0x33, 0x34, 0x35, 0x36, 0x37, 0x38, 0x39] = 0xF4 := by decide +kernel

/-! ### Witnesses: Alnomal and the benches -/

/-- Words of the handler of Table 5-21, and one with an unused field that is not 0. -/
theorem test_words_of_the_worked_handler :
    [0x12000100, 0xC1400100, 0x95600000, 0x3A400105, 0xD2E00000, 0x07718019, 0xF4338000, 0x60000300,
      0x60000301].map (decodeWord 1) =
      [.addi 1 8 0 0x100, .evh 1 5 0 0, .stw 1 5 8 0, .lui 1 9 0x105, .tpost 1 11 8, .sltu 1 13 12 6,
        .wake 1 12 14 0, .endHandler 1, .undefinedInstruction 1] := by decide +kernel
def h1 : Handler := hnd [0, 0x100, 0xFFFFFFFC, 0x80000000, 0x7FFC, 0x7FFF, 2, 0xFFFC, 0x7FE0, 0x7FC0]
def h2 : Handler := { hnd [0, 8, 200, 63] with stack := [7] }
def h3 : Handler := { hnd [0, 8, 200, 63] with script := some [] }
def h4 : Handler := { hnd [0, 8, 200, 63] with stack := List.replicate 16 1, pc := 63 }
def h5 : Handler := { h1 with used := 4096 }

theorem witness_RegisterArithmeticCompletes : (onB 1 h1).running 1 h1 2 := by
  unfold State.running State.paying State.inHandler; decide +kernel
theorem witness_SaturationAndBitCounts : (onB 1 h1).running 1 h1 1 := by unfold State.running State.paying State.inHandler; decide +kernel
/-- At the boundary: the handler has exactly the steps a division costs. -/
theorem witness_DivisionNeverFaults :
    (onB 1 { h1 with used := 4062 }).running 1 { h1 with used := 4062 } 34 := by
  unfold State.running State.paying State.inHandler; decide +kernel
theorem witness_ImmediateArithmeticCompletes :
    (onB 1 { h1 with used := 4095 }).running 1 { h1 with used := 4095 } 1 := by
  unfold State.running State.paying State.inHandler; decide +kernel
theorem witness_TransfersOfControlComplete :
    let s := onB 1 h2
    let t := onB 1 h4
    s.running 1 h2 2 ∧ (BitVec.ofNat 32 h2.pc + (59 : BitVec 18).signExtend 32).toNat < s.codeWords ∧
    (63 : BitVec 16).toNat < s.codeWords ∧ (h2.get 3).toNat < s.codeWords ∧
    s.paying 1 h2 3 ∧ h2.stack.length < 16 ∧ h2.stack = 7 :: [] ∧ (h2.get 15).toNat < s.codeWords ∧
    t.paying 1 h4 3 ∧ 16 ≤ h4.stack.length ∧ (onB 1 h3).paying 1 h3 3 ∧ h3.stack = [] := by
  unfold State.running State.paying State.inHandler; decide +kernel
theorem test_end_of_a_position_lands_posts :
    sees (.endHandler 1) { onB 1 h1 with mail.heldPosts := [⟨1, 3, [0x55], ⟨3, 77⟩⟩] }
      (fun t => (t.mail.heldPosts.length, (vget none t.mail.outb 3).map fun m => m.bytes)) =
      some (0, some [0x55]) := by decide +kernel
theorem witness_EndFinishesTheHandler :
    (onB 1 h1).paying 1 h1 1 ∧ h1.stack = [] ∧ h1.script = none ∧ (onB 1 h3).paying 1 h3 1 ∧ h3.stack = [] ∧
    h3.script = some [] ∧ (onB 1 h2).paying 1 h2 1 ∧ h2.stack ≠ [] := by
  unfold State.paying State.inHandler; decide +kernel
theorem witness_InstructionsFaultAsTheSpecSays :
    (onB 1 h1).paying 1 h1 1 ∧ ((onB 1 h5).bench 1).handler = some h5 ∧ h5.budget < h5.used + 1 ∧
    (onB 1 h4).paying 1 h4 2 ∧ (onB 1 h4).codeWords ≤ h4.pc + 1 ∧
    (onB 1 h4).codeWords ≤ (64 : BitVec 16).toNat := by
  unfold State.paying State.inHandler; decide +kernel
theorem witness_LoadsReadDataMemory :
    (onB 1 h1).running 1 h1 2 ∧
    (h1.get 4 + (0 : BitVec 18).signExtend 32).toNat % 4 = 0 ∧
    (h1.get 4 + (0 : BitVec 18).signExtend 32).toNat + 4 ≤ 0x8000 ∧
    (h1.get 4 + (2 : BitVec 18).signExtend 32).toNat % 2 = 0 ∧
    (h1.get 4 + (2 : BitVec 18).signExtend 32).toNat + 2 ≤ 0x8000 ∧
    (h1.get 5 + (0 : BitVec 18).signExtend 32).toNat + 1 ≤ 0x8000 := by
  unfold State.running State.paying State.inHandler; decide +kernel
theorem witness_StoresChangeTheirBytesOnly :
    swf 0 ((onB 1 h1).bench 1).data = true ∧ (onB 1 h1).running 1 h1 16 ∧
    (h1.get 4 + (0 : BitVec 18).signExtend 32).toNat % 4 = 0 ∧
    (h1.get 4 + (0 : BitVec 18).signExtend 32).toNat + 4 ≤ 0x8000 ∧
    (h1.get 4 + (2 : BitVec 18).signExtend 32).toNat % 2 = 0 ∧
    (h1.get 4 + (2 : BitVec 18).signExtend 32).toNat + 2 ≤ 0x8000 ∧
    (h1.get 5 + (0 : BitVec 18).signExtend 32).toNat + 1 ≤ 0x8000 ∧
    (h1.get 9).toNat % 4 = 0 ∧ (h1.get 9).toNat + 64 ≤ 0x8000 := by
  unfold State.running State.paying State.inHandler; decide +kernel
theorem witness_BadAddressesFault :
    (onB 1 h1).paying 1 h1 3 ∧ (h1.get 1 + (2 : BitVec 18).signExtend 32).toNat % 4 ≠ 0 ∧
    (h1.get 1 + (1 : BitVec 18).signExtend 32).toNat % 2 ≠ 0 ∧
    (h1.get 4 + (4 : BitVec 18).signExtend 32).toNat % 4 = 0 ∧
    0x8000 < (h1.get 4 + (4 : BitVec 18).signExtend 32).toNat + 4 ∧
    (h1.get 7 + (4 : BitVec 18).signExtend 32).toNat % 4 = 0 ∧
    0x10000 < (h1.get 7 + (4 : BitVec 18).signExtend 32).toNat + 4 ∧
    0x8000 < (h1.get 5 + (1 : BitVec 18).signExtend 32).toNat + 1 := by
  unfold State.paying State.inHandler; decide +kernel

/-- Bench 1 with a ledger, `l` writes counted in the position, and an image. -/
def led (h : Handler) (i : Image) (l : Nat) : State :=
  let s := onB 1 h
  { s with prog := { s.prog with
      image := some i, ledger := [(4, 7), (0x104, 9)]
      bench := s.prog.bench.set 1 { s.bench 1 with lsws := l, ledgerBuf := [(4, 0x33)], logBytes := 7 } } }
def img1 : Image := { img0 with pageMap := 0, codeLen := 300 }

theorem witness_LedgerAccessesComplete :
    (led h1 img0 511).running 1 h1 3 ∧ h1.script = none ∧ (led h1 img0 511).prog.image = some img0 ∧
    ((led h1 img0 511).bench 1).logBytes + h1.logBytes + 8 ≤ 65536 ∧
    (h1.get 7 + (0 : BitVec 18).signExtend 32).toNat % 4 = 0 ∧
    (h1.get 7 + (0 : BitVec 18).signExtend 32).toNat + 4 ≤ 0x10000 ∧
    img0.pageMap.getLsbD (2 * 15) = false ∧ img0.pageMap.getLsbD (2 * (0x100 / 0x1000)) = true ∧
    ((led h1 img0 511).bench 1).lsws + h1.lsws < 512 ∧ (led h1 img1 0).running 1 h1 3 ∧
    img1.pageMap.getLsbD (2 * (0x100 / 0x1000)) = false ∧ (led h1 img0 512).running 1 h1 3 ∧
    512 ≤ ((led h1 img0 512).bench 1).lsws + h1.lsws := by
  unfold State.running State.paying State.inHandler; decide +kernel
theorem witness_EventAndDigestInstructionsComplete :
    (onB 1 h1).running 1 h1 3 ∧ (onB 1 h1).prog.image = some img0 ∧
    (h1.get 0 + (63 : BitVec 8).setWidth 32).toNat + 1 ≤ 64 ∧
    (h1.get 0 + (62 : BitVec 8).setWidth 32).toNat + 2 ≤ 64 ∧
    (h1.get 0 + (60 : BitVec 8).setWidth 32).toNat + 4 ≤ 64 ∧
    64 < (h1.get 0 + (61 : BitVec 8).setWidth 32).toNat + 4 ∧ (19 : BitVec 8).toNat ≤ 19 ∧
    19 < (20 : BitVec 8).toNat ∧ (h1.get 0 + (252 : BitVec 18).signExtend 32).toNat % 4 = 0 ∧
    (h1.get 0 + (252 : BitVec 18).signExtend 32).toNat + 4 ≤ img0.codeLen ∧ (onB 1 h1).running 1 h1 8 ∧
    (h1.get 8).toNat % 4 = 0 ∧ (h1.get 8).toNat + 32 ≤ 0x8000 := by
  unfold State.running State.paying State.inHandler; decide +kernel

/-- A descriptor at 0x100: due 100, target 6, payload AA 55. -/
def desc : List Host.Cell :=
  [(0x107, 100), (0x108, 6), (0x10C, 2), (0x10D, 0xFF), (0x110, 0xAA), (0x111, 0x55)]
def tk (b : Fin 5) (h : Handler) (snt : Nat) : State :=
  (onB b h).setBench b { (onB b h).bench b with data := desc, seq := 3, sent := Vector.replicate 5 snt }
def h6 : Handler := hnd [0, 0x100, 0x90000005, 2, 0xA0000005, 32, 64, 0x7FF0]

theorem witness_TackInstructionsComplete :
    (tk 1 h6 0).running 1 h6 12 ∧ h6.script = none ∧
    ((tk 1 h6 0).bench 1).logBytes + h6.logBytes + 68 ≤ 65536 ∧ (h6.get 1).toNat % 4 = 0 ∧
    (h6.get 1).toNat + 64 ≤ 0x8000 ∧ descFault (readBytes ((tk 1 h6 0).bench 1).data 0x100 64) = none ∧
    (h6.get 2).bits 29 28 = 1 ∧ (h6.get 4).bits 29 28 ≠ 1 ∧ (tk 4 h6 0).running 4 h6 12 ∧
    ((tk 4 h6 0).bench 4).logBytes + h6.logBytes + 68 ≤ 65536 := by
  unfold State.running State.paying State.inHandler; decide +kernel
theorem witness_MessageAndWakeInstructionsComplete :
    (tk 1 h6 15).running 1 h6 20 ∧ h6.script = none ∧
    ((tk 1 h6 15).bench 1).logBytes + h6.logBytes + 68 ≤ 65536 ∧ 1 ≤ (h6.get 5).toNat ∧
    (h6.get 1).toNat + (h6.get 5).toNat ≤ 0x8000 ∧ (h6.get 5).toNat ≤ 32 ∧ (2 : BitVec 8).toNat ≠ 1 ∧
    vget 0 ((tk 1 h6 15).bench 1).sent 2 < 16 ∧ ((tk 1 h6 15).bench 2).takes = true ∧
    (tk 1 h6 16).running 1 h6 20 ∧ 16 ≤ vget 0 ((tk 1 h6 16).bench 1).sent 2 ∧
    (h6.get 1).toNat + (h6.get 6).toNat ≤ 0x8000 ∧ (h6.get 6).toNat ≤ 64 ∧ (7 : BitVec 8).toNat < 8 ∧
    (tk 1 h6 15).silent = false ∧ (31 : BitVec 8).toNat < 32 ∧ (tk 1 h6 0).running 1 h6 3 ∧
    (15 : BitVec 8).toNat < 16 ∧ 16 ≤ (16 : BitVec 8).toNat := by
  unfold State.running State.paying State.inHandler; decide +kernel

def bc0 : BenchCkpt :=
  { data := [(4, 9)], wakes := Vector.replicate 16 (some ⟨5, ⟨0, 1⟩, false⟩), queue := [], inbox := []
    faultSfs := [], seq := 8 }
def ck0 : Ckpt := { pos := ⟨3, 70⟩, benches := List.replicate 5 bc0, ledger := [(8, 1)] }
def evWake : Event := { ev0 with cls := .wakeat, sub := 2, win := [] }

/-- Bench 1 at barrier position (3, 77), two positions opened behind it, under a checkpoint. -/
def atBar (h : Option Handler) (f : Bench → Bench) : State :=
  let s := { base with
    last := { base.last with pp := 80, epoch := 3, edge := 50 }
    prog := { base.prog with
      barrier := some ⟨3, 77⟩, opened := [⟨3, 78⟩, ⟨3, 79⟩], ckpt := some ck0, sfs := 5, runWant := 0x1F
      restartWant := 2 } }
  s.setBench 1 (f { s.bench 1 with handler := h, data := [(0x100, 1)], log := [⟨ev0, [], true⟩] })

theorem test_fault_takes_the_checkpoint_back :
    sees (.trap 1 7) (atBar (some h1) id) (fun t => ((t.bench 1).data, (t.bench 1).mode, t.prog.lastFault)) =
      some ([(4, 9)], .replay, 0x811F) := by decide +kernel
theorem test_fourth_fault_halts :
    sees (.trap 1 7) (atBar (some h1) fun n => { n with faultSfs := [4, 4, 1] })
      (fun t => ((t.bench 1).data, (t.bench 1).mode)) = some ([(0x100, 1)], .halted) := by decide +kernel
theorem test_w1_at_handler_entry :
    sees (.handlerEntry 1) (atBar none fun n => { n with queue := [evWake] })
      (fun t => (t.bench 1).handler.map fun h => (h.get 1, h.pc, h.budget)) =
      some (some (0x0003002A, 8, 4096)) := by decide +kernel

theorem witness_BenchFaultsRestartThenHalt :
    ((atBar (some h1) fun n => { n with faultSfs := [5, 5] }).bench 1).mode = .run ∧
    (atBar (some h1) fun n => { n with faultSfs := [5, 5] }).prog.ckpt = some ck0 ∧
    ck0.benches[1]? = some bc0 ∧
    (((atBar (some h1) fun n => { n with faultSfs := [5, 5] }).bench 1).faultSfs.filter
      fun x => decide (5 < x + 16)).length < 3 ∧
    ((atBar (some h1) fun n => { n with faultSfs := [4, 4, 1] }).bench 1).mode = .run ∧
    3 ≤ (((atBar (some h1) fun n => { n with faultSfs := [4, 4, 1] }).bench 1).faultSfs.filter
      fun x => decide (5 < x + 16)).length := by decide +kernel
theorem witness_HandlersStartAsTheTableSays :
    let s := atBar none fun n => { n with queue := [evWake] }
    let t := atBar none fun n => { n with mode := .replay }
    s.supply.power = .run ∧ s.last.mode ≠ .stopped ∧ (s.bench 1).mode = .run ∧ (s.bench 1).handler = none ∧
    s.prog.barrier = some ⟨3, 77⟩ ∧ (s.bench 1).nextEvent ⟨3, 77⟩ = some evWake ∧
    s.prog.image = some img0 ∧ img0.handler 1 evWake = some ⟨8, 0⟩ ∧
    (s.bench 1).logBytes + entrySize evWake ≤ 65536 ∧ (t.bench 1).mode = .replay ∧ (t.bench 1).replay = [] ∧
    (t.bench 1).handler = none := by decide +kernel

/-! ### Witnesses: positions, the Last, intake and tacks -/

theorem witness_PositionsAndEventsAreBegunInOrder :
    let s := atBar none id
    let t := atBar none fun n => { n with queue := List.replicate 1023 ev0, held := [ev0, evWake] }
    let u := atBar none fun n => { n with
      queue := List.replicate 1023 ev0, wakes := n.wakes.set 15 (some ⟨77, ⟨3, 60⟩, false⟩) }
    s.prog.opened = ⟨3, 78⟩ :: ⟨3, 79⟩ :: [] ∧ s.supply.power = .run ∧ s.last.mode ≠ .stopped ∧
    s.barrierDone = true ∧ (∀ d ∈ s.tack.due, d.pos ≠ ⟨3, 78⟩) ∧ (t.bench 1).queue.length ≤ 1024 ∧
    u.supply.dom[2] = .up ∧ (u.bench 1).mode = .run ∧ u.last.mode ≠ .stopped ∧
    u.prog.barrier = some ⟨3, 77⟩ ∧ (u.bench 1).wakes.get 15 = some ⟨77, ⟨3, 60⟩, false⟩ ∧
    (⟨3, 60⟩ : Pos) ≠ ⟨3, 77⟩ ∧ 77 ≤ 77 ∧ (u.bench 1).queue.length < 1024 ∧ (u.bench 1).held = [] := by
  decide +kernel
theorem witness_BenchControlStartsAndRestarts :
    let s := atBar none fun n => { n with mode := .off }
    let t := atBar none fun n => { n with mode := .halted }
    let u := { atBar none id with prog := { (atBar none id).prog with runBits := 0x1F, runWant := 0x1D } }
    s.answers = true ∧ s.up .bench = true ∧ (0x21F : Word).toNat / 256 % 32 ≠ 0 ∧ s.supply.power = .run ∧
    s.prog.runBits.testBit 1 = false ∧ s.prog.runWant.testBit 1 = true ∧ s.prog.runEdge < s.last.edge ∧
    (s.bench 1).mode = .off ∧ s.prog.image = some img0 ∧ img0.present.contains 1 = true ∧
    u.prog.runBits.testBit 1 = true ∧ u.prog.runWant.testBit 1 = false ∧ u.prog.runEdge < u.last.edge ∧
    u.supply.power = .run ∧ (u.bench 1).mode = .run ∧
    t.prog.restartWant.testBit 1 = true ∧ t.prog.restartEdge < t.last.edge ∧ (t.bench 1).mode = .halted := by
  decide +kernel

/-- The Last stamped, at (5, 1000), changed by `f`. -/
def la (f : Last → Last) : State :=
  { base with last := f { base.last with pp := 1000, epoch := 5, edge := 5000, stamped := true } }

/-- The position and the mode after a command. -/
def pub (t : State) : Nat × LastMode := (t.last.pp, t.last.mode)

theorem test_track_counts : sees .tickEdge (la id) pub = some (1001, .track) := by decide +kernel
theorem test_hold_of_a_tick_publishes_nothing :
    sees .tickEdge (la fun l => { l with mode := .hold, rem := 65536 }) pub = some (1000, .hold) := by
  decide +kernel
theorem test_end_of_a_hold_publishes :
    sees .tickEdge (la fun l => { l with mode := .hold, rem := 32768, frac := 32768 }) pub =
      some (1001, .track) := by
  decide +kernel
theorem test_stopped_publishes_nothing :
    sees .tickEdge (la fun l => { l with mode := .stopped }) pub = some (1000, .stopped) := by decide +kernel

theorem witness_TickEdgesPublishAsTheModeSays :
    let s := la fun l => { l with mode := .stopped }
    (la id).supply.dom[2] = .up ∧ (la id).last.mode ≠ .stopped ∧ s.last.mode = .stopped ∧
    (la id).last.mode = .track ∧ (la fun l => { l with mode := .hold, rem := 65536 }).last.mode = .hold ∧
    65536 ≤ (la fun l => { l with mode := .hold, rem := 65536 }).last.rem ∧
    (la fun l => { l with mode := .hold, rem := 65535 }).last.rem < 65536 ∧
    0 < (la fun l => { l with mode := .hold, rem := 65535 }).last.rem ∧
    (la id).last.pp < 2 ^ 48 - 3 ∧ (la id).last.frac < 65536 ∧
    (la fun l => { l with mode := .slew, rem := 1024, rate := 64 }).last.mode = .slew ∧
    64 ≤ (la fun l => { l with mode := .slew, rem := 1024, rate := 64 }).last.rate ∧
    65536 / (la fun l => { l with mode := .slew, rem := 1024, rate := 64 }).last.rate ≤
      (la fun l => { l with mode := .slew, rem := 1024, rate := 64 }).last.rem := by decide +kernel
/-- A slew that makes a whole tick publishes two PPs at one edge. -/
theorem test_slew_gains_a_position :
    sees .tickEdge (la fun l => { l with mode := .slew, rem := 1024, rate := 64, frac := 64512 }) pub =
      some (1002, .slew) := by decide +kernel
theorem witness_StampErrorsAreAnsweredByTable :
    (la fun l => { l with stamped := false }).last.stamped = false ∧ (la id).last.stamped = true ∧
    ((-4095 : Int)).natAbs < 4096 ∧ 4096 ≤ ((-4096 : Int)).natAbs ∧
    ((-4096 : Int)).natAbs ≤ (la id).tol * 65536 ∧ (4096 : Int).natAbs ≤ (la id).tol * 65536 ∧
    (la id).tol * 65536 < (((la id).tol * 65536 + 1 : Nat) : Int).natAbs ∧ (la id).last.pendErrs = [] ∧
    1 ≤ ({ la id with regs := [(0x100, 0x02710103)] } : State).fld 0x100 9 8 := by decide +kernel
theorem witness_LastRowsComplete :
    let s := la fun l => { l with mode := .stopped, resume := .hold }
    let t := la fun l => { l with frEdges := 456 * 625, trimEdges := 7296 }
    (la fun l => { l with mode := .hold, rem := 65535 }).last.mode = .hold ∧
    (la fun l => { l with mode := .slew, rem := 65535 }).last.mode = .slew ∧ (la id).last.mode ≠ .stopped ∧
    (la id).supply.dom[2] = .up ∧ s.last.mode = .stopped ∧ s.supply.dom[2] = .up ∧ s.clk.refOk = true ∧
    7296 ≤ t.last.trimEdges ∧ t.last.src = .localRef ∧ t.last.frRaised = false ∧
    (Nat.max 1 ((t.reg 0x100).toNat / 65536)) * 456 ≤ t.last.frEdges := by decide +kernel

/-- A GOVERN request for stream 7 at PP 1000, issued at edge 4999. -/
def rq7 : Req := ⟨9, [0, 7, 0, 0], 1000, 4999⟩
def off7 : Offset := ⟨7, 65536, true⟩
def bleed7 : State :=
  { la (fun l => { l with src := .welt, govCarrier := some 7 }) with
    follow := { Follow.init with bleed := true, offsets := [off7] } }

theorem witness_GoverningRowsComplete :
    let s := la fun l => { l with govReqs := [rq7] }
    regsWf s.regs = true ∧ s.last.govReqs = [rq7] ∧ rq7.edge < s.last.edge ∧ rq7.app ≤ s.last.pp ∧
    State.governBad rq7.blk = false ∧ s.answers = true ∧ s.supply.dom[2] = .up ∧
    bleed7.follow.bleed = true ∧ bleed7.last.mode = .track ∧ bleed7.last.pendErrs = [] ∧
    bleed7.last.src ≠ .localRef ∧
    bleed7.follow.bleedEdge + (bleed7.reg 0xC40).toNat / 256 % 1024 ≤ bleed7.last.edge ∧
    bleed7.last.govCarrier = some 7 ∧ bleed7.follow.offsets = [off7] ∧ off7.valid = true ∧
    65536 ≤ off7.off := by decide +kernel

/-- A batch of stream 9, GEN 1, with one record of type 0x80 and three bytes. -/
def bat : Batch :=
  { carrier := 7
    bytes := [0x10, 1, 0, 23, 0, 9, 0, 11, 1, 1, 0x80, 3, 0xA, 0xB, 0xC, 0, 0, 0, 0, 0, 0, 0, 0]
    anchors := [⟨900 * 65536, 0, 5⟩], verdict := .unknown, edge := 4999, heldTo := none }
def str9 : Stream :=
  { id := bat.stream, gen := 1, high := 10, seen := [9, 10], missing := [(8, 4999)], key := none
    nextKey := none, fromSeq := 0, lastEdge := 4000 }
def inI (f : Intake → Intake) (r : List (Nat × Word)) : State := { la id with intake := f Intake.init, regs := r }

theorem witness_IntakeRowsComplete :
    let s := inI (fun i => { i with batches := [bat] }) []
    let t := inI (fun i => { i with batches := [bat] }) [(0x280, 0x27111007), (0x282, 0x08000400)]
    let v := inI (fun i => { i with batches := [{ bat with verdict := .verified }], streams := [str9] }) []
    let w := inI (fun i => { i with batches := [{ bat with heldTo := some 5000 }], streams := [str9] }) []
    s.intake.batches = [bat] ∧ bat.heldTo = none ∧ bat.edge < s.last.edge ∧ bat.verdict ≠ .verified ∧
    (s.routeOf bat.stream).2 = false ∧ (t.routeOf bat.stream).2 = true ∧
    t.last.edge < bat.edge + (t.reg 0x282).toNat % 2048 ∧
    bat.records = some [(10, 0x80, [0xA, 0xB, 0xC])] ∧
    State.recordBad 7 0x80 [0xA, 0xB, 0xC] = false ∧
    v.streamOf bat.stream = some str9 ∧ str9.gen = bat.gen ∧ str9.judge (bat.seq0 % 65536) = .fresh ∧
    (str9.mark (bat.seq0 % 65536) v.last.edge).2 = [] ∧ v.supply.dom[2] = .up ∧ v.welt.role = .solo ∧
    v.governing ≠ bat.stream ∧ (v.routeOf bat.stream).1 = 1 ∧ (v.bench 0).mode = .run ∧
    (v.bench 0).queue.length < 1024 ∧ (v.bench 0).held = [] ∧
    w.streamOf bat.stream = some str9 ∧ 5000 ≤ w.last.edge ∧ w.intake.streams = [str9] ∧
    (∀ m ∈ str9.missing, w.last.edge < m.2 + Nat.max 1 ((w.reg 0x282).toNat / 65536 % 4096)) := by
  decide +kernel

def tack6 : Tack :=
  { handle := 0x40000001, bench := 0, seq := 1, due := 1000, target := 6, flags := 0, order := 0, plen := 2
    tparam := 0xF, payload := [0xA5, 0], entry := ⟨5, 990⟩, late := false }
def due6 : Due := ⟨⟨5, 1000⟩, 4999, [], true, true⟩
def tackAt (pp : Nat) : State :=
  let s := la id
  { s with
    tack := { s.tack with pending := [tack6], due := [{ due6 with pos := ⟨5, pp⟩ }] }
    infra := { s.infra with gpioLevel := 0x33 } }

theorem test_gpio_tack_moves_its_mask : sees .tackDispatch (tackAt 1000) (fun t => t.infra.gpioLevel) =
    some 0x35 := by decide +kernel
theorem witness_DispatchAndLateness :
    (tackAt 1000).tack.due = [due6] ∧ due6.stepped = true ∧ due6.entered = true ∧
    (tackAt 1000).last.mode ≠ .stopped ∧ (tackAt 1000).tack.pending = [tack6] ∧ tack6.late = false ∧
    tack6.due = due6.pos.pp ∧ tack6.target = 6 ∧ tack6.flags.testBit 3 = false ∧
    (tackAt 1000).silent = false ∧ (tackAt 1000).welt.role ≠ .standby ∧ tack6.due ≠ 999 ∧
    ({ tackAt 1000 with last := { Last.init with mode := .stopped } } : State).last.mode = .stopped := by
  decide +kernel

/-! ### Witnesses: radio requests -/

theorem witness_RequestsWaitForTheirEdge : (la id).supply.dom[2] = .up ∧ (la id).supply.dom[3] = .up ∧
    (la id).supply.dom[4] = .up ∧ (la id).welt.role = .solo := by decide +kernel

/-- A request block: four bytes, then fields of six bytes from bytes 4, 10 and 16. -/
def blk (h : List Nat) (f4 f10 app : Nat) : List Byte :=
  (h.map fun (n : Nat) => BitVec.ofNat 8 n) ++ bytesBE 6 f4 ++ bytesBE 6 f10 ++ bytesBE 6 app ++ zeros 10
def chs (f : Chain → Chain) (s : State) : State :=
  { s with radio := { s.radio with paflt := true, chain := Vector.ofFn fun i => f (s.radio.chain.get i) } }
def ce (c k : Nat) : CalEntry := ⟨c, k, 3, 4, false, 0, 0, 0⟩

/-- Every chain in STANDBY and tuned, with entries in the calibration table. -/
def calS : State :=
  { chs (fun c => { c with mode := .standby, tuned := true, lo := 98500000 }) (la id) with
    clk := { Clocks.init with
      table := [(0, ce 0 197), (1, ce 0 985), (2, { ce 0 98500000 with temp := 400 }), (7, ce 0 0x0700)] } }

theorem witness_ChainRequestsComplete :
    (la id).supply.dom[2] = .up ∧ (la id).welt.role = .solo ∧
    (la id).tuneRefused ⟨(la id).prog.nextReq, (List.range 32).map (byteAt (blk [0, 2, 3, 5]
      (98500000 * 65536) 0 2000)), fieldBE (blk [0, 2, 3, 5] (98500000 * 65536) 0 2000) 16 6,
      (la id).last.edge⟩ = none ∧
    calS.hrOwned 1 = false ∧ (calS.chain 1).failed = false ∧ calS.chainBusy 1 = false ∧
    (calS.chain 1).mode ≠ State.modeOfCode 3 ∧ calS.sweeping 1 = false ∧ calS.supply.dom[3] = .up ∧
    (14 : Nat) ≤ 14 ∧ fieldBE (blk [0, 15, 7, 0] 5000 5100 0) 4 6 < fieldBE (blk [0, 15, 7, 0] 5000 5100 0) 10 6 ∧
    (∀ d, d < 3 → (7 : Nat).testBit d = true →
      windowsOk ((vset (calS.chain d).windows 15 (some ⟨5000, 5100⟩)).toList.filterMap fun x => x) = true) := by
  decide +kernel
theorem witness_CalibrationAndAwlRequestsComplete :
    calS.supply.dom[2] = .up ∧ calS.welt.role = .solo ∧ calS.chainUp 0 = true ∧
    (calS.chain 0).failed = false ∧ calS.clk.sweep = none ∧ (calS.calInUse 0).toList ≠ [] ∧
    ((calS.calFind 0 0x0700).map fun e => e.1).toList ≠ [] ∧
    ((calS.clk.table.filter fun e => e.2.chain == 0 && calS.calStale e.2).map fun e => e.1) ≠ [] ∧
    ((calS.clk.table.filter fun e => e.2.chain == 0).map fun e => e.1) ≠ [] ∧ calS.hrOwned 0 = false ∧
    calS.store.commit = .idle ∧ (calS.chain 0).mode = .standby ∧ calS.chainBusy 0 = false ∧
    calS.awl.running = false := by decide +kernel
theorem witness_StandbyRequestsReachNoBlock :
    let s := { la id with welt := { Welt.init with role := .standby } }
    s.supply.dom[2] = .up ∧ s.welt.role = .standby := by decide +kernel
def h7 : Handler := hnd [0, 0x100, 3, 0x7FE0]
theorem witness_RadioInstructionIssuesRequests :
    (onB 4 h7).running 4 h7 8 ∧ 1 ≤ (18 : BitVec 8).toNat ∧ (18 : BitVec 8).toNat ≤ 18 ∧
    (h7.get 3).toNat % 4 = 0 ∧ (h7.get 3).toNat + 32 ≤ 0x8000 ∧ h7.script = none ∧
    ((onB 4 h7).bench 4).logBytes + h7.logBytes + 36 ≤ 65536 ∧ (onB 1 h7).running 1 h7 8 ∧
    18 < (19 : BitVec 8).toNat := by unfold State.running State.paying State.inHandler; decide +kernel

/-! ### Witnesses: chains, clocks, lanes and FM -/

/-- Every chain receiving at gain 7, changed by `f`. -/
def rx (f : Chain → Chain) : State :=
  chs (fun c => f { c with mode := .rx, gain := 7, epoch := 255, tuned := true, lo := 98500000 }) (la id)
def tr : Transition := ⟨.rx, 4, some 6, true, false, 40⟩
def bub : Bubble := ⟨.dctrim, false, 900, none, none⟩
def tuneRq : Req := ⟨9, [2, 2, 0, 0, 0, 0, 0, 100] ++ zeros 24, 0, 4999⟩

theorem witness_ChainRowsComplete :
    ((rx fun c => { c with trans := some tr }).chain 0).trans = some tr ∧
    ((rx fun c => { c with windows := c.windows.set 15 (some ⟨900, 1000⟩) }).chain 0).windows.get 15 =
      some ⟨900, 1000⟩ ∧ 1000 ≤ (rx id).last.pp ∧ ((rx id).chain 1).mode = .rx ∧
    ((rx id).chain 1).trans = none ∧ ((rx id).reg 0x523).toNat % 4 = 0 ∧
    ((rx id).reg 0x523).toNat / 256 % 16 < ((rx id).chain 1).gain ∧
    ((rx fun c => { c with quiet := 15 }).chain 1).quiet = 15 ∧ ((rx id).chain 1).gain < 14 ∧
    ((rx id).chain 1).gain < ((rx id).reg 0x523).toNat / 4096 % 16 ∧ 4 < 5 ∧ ((-48 : Int)).natAbs ≤ 48 ∧
    48 < ((-49 : Int)).natAbs ∧ (((rx id).chain 1).bubbles.any fun b => b.kind == .dctrim) = false := by
  decide +kernel
theorem witness_BubblesFaultsAndReadingsComplete :
    let s := rx fun c => { c with bubbles := [bub] }
    let t := rx fun c => { c with bubbles := [{ bub with begun := some 4999 }] }
    (s.chain 0).bubbles = [bub] ∧ bub.kind = .dctrim ∧ bub.begun = none ∧ bub.start ≤ s.last.pp ∧
    (t.chain 0).bubbles = [{ bub with begun := some 4999 }] ∧ (t.chain 0).held = false ∧
    4999 + 1 ≤ t.last.edge ∧
    ({ rx id with radio := { (rx id).radio with pinPaen := true } } : State).radio.pinPaen = true ∧
    (rx id).radio.pinPaen = false ∧ ((rx id).chain 1).mode = .rx ∧ ((rx id).chain 1).held = false ∧
    ((rx id).chain 1).failed = false ∧ (-400 : Int) ≤ -400 ∧ (-400 : Int) ≤ 1200 ∧ (1200 : Int) ≤ 1200 := by
  decide +kernel
theorem witness_ClockRowsComplete :
    let s := { rx id with clk := { Clocks.init with refOk := false, sysLock := false, sckLock := false } }
    let t := { rx id with clk := { Clocks.init with sysLock := false, limp := true } }
    let u := { rx id with
      clk := { Clocks.init with sweep := some ⟨1, none, 0, [], 3, 0⟩ }
      store := { Store.init with c := 255, vhold := 65535 } }
    let v := rx fun c => { c with tunes := [tuneRq] }
    ((rx id).chain 2).tunes = [] ∧ (rx id).regWrites = [] ∧ (v.chain 2).tunes = [tuneRq] ∧ tuneRq.app = 0 ∧
    (byteAt tuneRq.blk 0).toNat = 2 ∧ v.tuneRefused tuneRq = none ∧ v.regWrites = [] ∧
    (rx id).clk.refOk = true ∧ (rx id).clk.sysLock = true ∧ (rx id).clk.sckLock = true ∧
    (rx id).supply.dom[2] = .up ∧ (rx id).supply.power ≠ .sleep ∧ (rx id).last.mode ≠ .stopped ∧
    s.clk.refOk = false ∧ s.supply.power ≠ .sleep ∧ t.clk.refOk = true ∧ t.clk.sysLost = false ∧
    t.clk.sysLock = false ∧ 27000 ≤ 27000 ∧ 27000 ≤ 37000 ∧
    u.clk.sweep = some ⟨1, none, 0, [], 3, 0⟩ ∧ u.store.commit = .idle ∧ 2040 ≤ u.energy := by decide +kernel

/-- A running FM lane of both branches, changed by `f`; at reset values it decimates by 1. -/
def ln (f : Lane → Lane) : Lane :=
  f { Lane.init with
    use := .run, preset := .fmStd, nco := 0x1000, epoch := 255, settle := 3, branches := 3, sfdK := 15 }
def lanesOf (l : List (Nat × Lane)) (g : Lanes → Lanes) : State :=
  { la id with lanes := g { Lanes.init with lane := l } }
def relRq : Req := ⟨9, 7 :: zeros 31, 0, 4999⟩
def fadeRq : Req := ⟨9, [7, 2, 0, 0, 0, 0, 0, 0, 0, 0, 0, 0, 0, 0, 16, 0] ++ zeros 16, 0, 4999⟩
/-- One input sample of both chains, and its lane's block with `k` samples already in it. -/
def smp0 : Iq × Iq := (⟨100, -7⟩, ⟨90, 3⟩)
def inp0 : LaneInput := ⟨900 * 65536, [smp0], true, 0⟩
def filled (k : Nat) (f : Lane → Lane) : Lane := ln fun l => f { l with
  sig := { Signal.init with out := List.replicate k ⟨⟨1, 2⟩, false, false, false, 5⟩ } }

theorem witness_LaneRowsComplete :
    let s := lanesOf [(7, ln id)] fun l => { l with reqs := [⟨relRq, true⟩] }
    let t := lanesOf [(7, ln id)] fun l => { l with reqs := [⟨fadeRq, false⟩] }
    let u := lanesOf [(7, ln fun l => { l with fading := true })] id
    let v := lanesOf [(7, ln fun l => { l with failing := some 4999 })] id
    let w := lanesOf [(7, ln id)] fun l => { l with claims := [⟨⟨5, 900⟩, 7, true⟩], sharedUsed := 631 }
    let i := { lanesOf [(94, ln fun l => { l with use := .ir, settle := 0 })] id with
      infra := { Infra.init with chan := #v[{ IrChan.init with settling := true }, IrChan.init] } }
    s.lanes.reqs = [⟨relRq, true⟩] ∧ s.regWrites = [] ∧ relRq.edge < s.last.edge ∧ relRq.app ≤ s.last.pp ∧
    7 = fieldBE relRq.blk 0 1 ∧ (s.lane 7).use = .run ∧ s.follow.splices = [] ∧
    t.lanes.reqs = [⟨fadeRq, false⟩] ∧ fadeRq.edge < t.last.edge ∧ 7 = fieldBE fadeRq.blk 0 1 ∧
    byteAt fadeRq.blk 1 = 2 ∧ (t.lane 7).fading = false ∧
    0 < fieldBE fadeRq.blk 14 2 ∧ fieldBE fadeRq.blk 14 2 ≤ 4096 ∧ (u.lane 7).use = .run ∧
    (u.lane 7).fading = true ∧ (u.lane 7).xf ≤ (u.lane 7).sig.fadeK ∧ (i.lane (94 + 0)).use = .ir ∧
    (i.lane (94 + 0)).settle = 0 ∧ (i.ir 0).settling = true ∧ (v.lane 7).failing = some 4999 ∧
    4999 < v.last.edge ∧ (v.lane 7).under = none ∧ v.freeUnderstudy = some 0 ∧ (v.lane 7).use = .run ∧
    w.lanes.claims = [⟨⟨5, 900⟩, 7, true⟩] ∧ w.lanes.sharedUsed < 632 := by decide +kernel
/-- An input sample that gives no output, one that gives one, and one that fills its block. -/
theorem witness_LaneRowsComplete_samples :
    let s := lanesOf [(7, filled 5 fun l => { l with dec := 3 })] id
    let t := lanesOf [(7, filled 5 id)] id
    let u := lanesOf [(7, filled 63 id)] id
    let pushed := fun (s : State) => s.lanePush (s.lane 7) inp0.at_ smp0
    (∀ x ∈ [s, t, u], inp0.input = [smp0] ∧ inp0.freed = 0 ∧ (x.lane 7).use = .run ∧ x.reception = true ∧
      (x.lane 7).badRun < 2 ∧ (x.lane 7).slewing = false ∧ (x.lane 7).hold = false ∧
      (x.lane 7).failing = none ∧ (x.lane 7).sfdIn = 0 ∧ (x.lane 7).wait = [] ∧ (x.lane 7).blocks < 2 ∧
      x.fmLane 7 = none ∧ (x.reg 0x3C1).bit 7 = false) ∧ inp0.residueOk = true ∧
    (pushed s).2.isNone = true ∧ (pushed t).2.isSome = true ∧ (pushed t).1.out.length < 63 ∧
    (pushed u).2.isSome = true ∧ (pushed u).1.out.length = 63 := by decide +kernel

def fmOf (f : FmLane) (po : Po) : State :=
  { la id with
    lanes := { Lanes.init with lane := [(7, ln id)] }
    radio := { (la id).radio with heard := Vector.replicate 3 [⟨0, false, 7⟩] }
    fm := { Fm.init with lanes := [(7, f)], po := Vector.replicate 2 po } }
def fm1 : FmLane := { FmLane.init with lockRun := 18, noLockRun := 3, level := 10 }
def fm2 : FmLane :=
  { FmLane.init with lockRun := 19, noLockRun := 3, level := 50, locked := true, sync := true, lastBit := 100
                     next := 1, group := [(0x1234, 0)] }
/-- Information 0x4321 with the check word that offset B gives it, and symbols that carry it differentially. -/
def wordB : BitVec 26 :=
  (((List.range 1024).map fun i => BitVec.ofNat 26 (0x4321 * 1024 + i)).find?
    fun w => decide (rdsRemainder w = 0x198)).getD 0
def symsB : List RdsSym :=
  let levels := (List.range 26).foldl
    (fun (l : List Bool) i => l ++ [l.getLastD false != wordB.getLsbD (25 - i)]) [false]
  levels.map fun l => if l then ⟨1, 0, 0, 0, false⟩ else ⟨0, 1, 0, 0, false⟩
/-- A programme output of lane 7 with one MPX sample since its latest tick. -/
def po7 : Po :=
  { Po.init with
    source := some 7, noSrc := false
    main := { Copy.init with blend := 3000, mute := 40, since := [⟨1000, false, false, false, 50, 0⟩] } }

theorem test_19_lock_ticks_lock : sees (.pilotTickJudge 7 true 99) (fmOf fm1 Po.init)
    (fun t => (t.fmLane 7).map fun f => (f.locked, f.noLockRun)) = some (some (true, 0)) := by decide +kernel
theorem test_4_no_lock_ticks_unlock : sees (.pilotTickJudge 7 false 0) (fmOf fm2 Po.init)
    (fun t => (t.fmLane 7).map fun f => (f.locked, f.lockRun)) = some (some (false, 0)) := by decide +kernel

theorem witness_FmRowsComplete :
    let s := fmOf fm2 po7
    let d := fun (m : Bool) => { fmOf fm2 po7 with
      lanes := { Lanes.init with
        lane := [(7, ln fun l => { l with sfd := (⟨5, 0⟩, m) :: List.replicate 15 (⟨5, 0⟩, false) })] } }
    s.fmLane 7 = some fm2 ∧ s.reception = true ∧ s.laneHears 7 = true ∧
    fm2.level ≤ (s.reg 0xC00).toNat / 4096 % 256 ∧ fm2.sync = true ∧ fm2.lastBit + 26 = 126 ∧
    fm2.next = 1 ∧ fm2.group = [(0x1234, 0)] ∧ (∀ y ∈ symsB, y.erased = false) ∧
    rdsRemainder (rdsWord ((rdsBits fm2.locked symsB).map (·.1))) = 0x198 ∧
    (∀ m ∈ [true, false], ((d m).lane 7).use ≠ .free ∧ (d m).reception = true ∧
      Nat.max 15 ((d m).lane 7).sfdK + 1 ≤ ((d m).lane 7).sfd.length ∧
      ((d m).lane 7).sfd.head? = some (⟨5, 0⟩, m)) ∧
    (∀ e ∈ ((d false).lane 7).sfd.take 16, e.2 = false) ∧
    (s.fm.po.get 1).source = some 7 ∧ (s.levelOf (s.fm.po.get 1).main.since).isSome = true ∧
    (s.laneLocked 7) = true ∧ (s.reg (0xC10 + 8 * 1)).bit 10 = false ∧ fm2.sub = none ∧
    (fmOf fm1 po7).laneLocked 7 = false := by decide +kernel

/-! ### Witnesses: following, DAB, infrared -/

/-- The Last at (5, 10000), edge 50000. -/
def lb (pp : Nat) : State :=
  { base with last := { base.last with pp := pp, epoch := 5, edge := 50000, stamped := true } }
/-- A MPX correlation of lanes 7 and 9 over `m` samples of each. -/
def cor (m : List Mpx) : Corr := ⟨9, [0, 7, 9, 2, 0] ++ zeros 27, 39000, 40000, 5000, m, m, [], [], none⟩
def spl (st : SpliceStage) (k : Nat) : Splice :=
  ⟨9, [0, 7, 9, BitVec.ofNat 8 k, 0, 9] ++ bytesBE 6 9000 ++ bytesBE 2 48 ++ zeros 18, st, 49999, 12345, 333, 9000⟩
def fo (c : List Corr) (sl : List Splice) : State :=
  { lb 10000 with
    lanes := { Lanes.init with lane := [(7, ln id), (9, ln id)] }
    follow := { Follow.init with corrs := c, splices := sl, offsets := [⟨7, 1234, true⟩] }
    fm := { Fm.init with
      lanes := [(7, FmLane.init), (9, FmLane.init)], po := Vector.replicate 2 { Po.init with fadeK := 2304 } } }

theorem witness_FollowRowsComplete :
    (fo [cor []] []).follow.corrs = [cor []] ∧ (cor []).id = 9 ∧ fieldBE (cor []).blk 0 1 = 0 ∧
    (byteAt (cor []).blk 4).getLsbD 0 = false ∧
    (cor []).start + (fieldBE (cor []).blk 3 1 + 11) * 456 ≤ (fo [cor []] []).last.edge ∧
    State.corrMissing (cor []) = true ∧ (fo [] [spl .align 0]).follow.splices = [spl .align 0] ∧
    (spl .align 0).id = 9 ∧ (spl .align 0).stage = .align ∧ fieldBE (spl .align 0).blk 0 1 < 2 ∧
    fieldBE (spl .align 0).blk 3 1 = 0 ∧ ((fo [] [spl .align 0]).lane 9).slewing = false ∧
    (fo [] [spl .waiting 0]).follow.splices = [spl .waiting 0] ∧ (spl .waiting 0).stage = .waiting ∧
    (spl .waiting 0).stageEdge < 50000 ∧ fieldBE (spl .waiting 0).blk 6 6 ≤ 10000 ∧
    (byteAt (spl .waiting 0).blk 20).getLsbD 0 = false ∧ fieldBE (spl .waiting 0).blk 12 2 ≠ 0 ∧
    (fo [] [spl .fade 0]).follow.splices = [spl .fade 0] ∧ (spl .fade 0).stage = .fade ∧
    fieldBE (spl .fade 0).blk 0 1 < 2 ∧
    fieldBE (spl .fade 0).blk 12 2 * 48 ≤ (vget Po.init (fo [] [spl .fade 0]).fm.po 0).fadeK ∧
    (fo [] [spl .armed 1]).follow.splices = [spl .armed 1] ∧ (spl .armed 1).stage = .armed ∧
    fieldBE (spl .armed 1).blk 6 6 ≤ (fo [] [spl .armed 1]).last.pp := by decide +kernel
/-- Recordings without a gap miss nothing. -/
theorem witness_FollowRowsComplete_recorded :
    State.corrMissing (cor (List.replicate 322560 ⟨1, false, false, false, 50, 0⟩)) = false := by
  simp only [State.corrMissing, cor, cleanMpx, List.filter_replicate, Bool.not_false, Bool.and_self, if_true,
    List.length_replicate]
  decide +kernel

def dabOf (x : Decoder) : State :=
  { lb 10000 with
    dab := Vector.replicate 2 x
    lanes := { Lanes.init with
      lane := [(100, { Lane.init with use := .wide, preset := .dab }),
        (101, { Lane.init with use := .wide, preset := .dab })] } }
def anc : Nat := 9000 * 65536
def nul : Int :=
  ((anc - rxDelay ((dabOf Decoder.init).groupDelay ((dabOf Decoder.init).lane 101)) 2880 : Nat) : Int) -
    ((dabOf Decoder.init).last.latched 0).1
def sea : Decoder :=
  { Decoder.init with mode := .search, ready := true, epoch := 255, startReq := some 4, startEdge := 40424 }
def syn : Decoder := { sea with mode := .sync, missed := 0, lastNull := some 77, startReq := none }
def sel3 : Selection :=
  { id := 3, reqId := 1, raw := true, super := false, packet := false, addrs := [], edge := 0
    fromCif := some 4990, owed := [], fresh := false, leaving := none, groups := [], gathered := []
    inSync := false, fails := 0 }

theorem witness_DabRowsComplete :
    let s := dabOf { sea with lastNull := some (nul - 456 * 65536) }
    let t := { dabOf { syn with missed := 1 } with regs := [(0xD20, 0x30)] }
    let u := { dabOf { syn with sels := [sel3] } with regs := [(0x3C0, 1)] }
    let v := dabOf { syn with changeAt := some 20, nextMci := [⟨3, 0, 10, 0, 64⟩] }
    (dabOf sea).reception = true ∧ ((dabOf sea).decoder 1).mode = .search ∧ (25000 : Int).natAbs ≤ 25000 ∧
    ((dabOf sea).decoder 1).lastNull = none ∧ (s.decoder 1).lastNull = some (nul - 456 * 65536) ∧
    nul = (nul - 456 * 65536) + 456 * 65536 ∧ ((dabOf syn).decoder 1).mode = .sync ∧
    ((dabOf syn).decoder 1).missed = 0 ∧ (t.decoder 1).missed = 1 ∧
    2 < Nat.max 2 ((t.reg 0xD20).toNat / 16 % 16) ∧ (s.decoder 1).startReq = some 4 ∧
    (s.decoder 1).startEdge + Nat.max 8 ((s.reg 0xD40).toNat % 256) * 456 ≤ s.last.edge ∧
    (v.decoder 1).mode ≠ .idle ∧ (v.decoder 1).sels = [] ∧ (v.decoder 1).changeAt = some 20 ∧
    v.reception = true ∧ u.reception = true ∧ (u.decoder 1).mode ≠ .idle ∧ (u.decoder 1).sels = [sel3] ∧
    sel3.id = (⟨3, [1, 2, 3, 4]⟩ : CifSub).id ∧ (2489 + 5000 - 4990) % 5000 < 2500 ∧
    (u.reg 0x3C0).bit 0 = true ∧ u.port.drop = none ∧ u.bufUsed + 18 + 4 ≤ 262080 ∧
    u.supply.dom[3] = .up ∧ (u.decoder 1).failed = false := by decide +kernel

/-- A channel's configuration: pairing or not. -/
def icfg (pair : Bool) : List Byte :=
  [0, 0, 0, 0, 0, 10, 20, 200, 0, 100, 1, if pair then 1 else 0] ++ bytesBE 2 100 ++ bytesBE 2 2000 ++ zeros 16
def irOf (f : IrChan → IrChan) (g : Infra → Infra) : State :=
  { lb 10000 with
    lanes := { Lanes.init with lane := [(94, { Lane.init with use := .ir }), (95, { Lane.init with use := .ir })] }
    infra := g { Infra.init with
      chan := #v[f { IrChan.init with mode := .clear, cfg := icfg false, floor := 120 }, IrChan.init], mean := 5
      bias := 500 } }
def bur0 : IrBurst := ⟨9990 * 256, [], false, 0, 0, 0, 0⟩
def bur1 : IrBurst := ⟨9990 * 256, [9000, 4500], false, 3800, 1, 5, 0⟩
def fir1 : IrFirst := ⟨⟨2000 * 256, [9000], false, 3800, 1, 6, 0⟩, false, false⟩
def fir2 : IrFirst := ⟨⟨9500 * 256, [9000], false, 3800, 1, 6, 0⟩, false, false⟩
def decd : IrDecided := ⟨some bur1, none, 0, 0, 0, [0], 49999⟩
def irTx1 : IrTx := ⟨0x40000001, 0, []⟩
/-- A full-scale lane output, and one of power 0. -/
def loud : Iq := ⟨32767, 32767⟩
def hush : Iq := ⟨0, 0⟩

/-- Power 0 reads as a level below every threshold. -/
theorem hush_is_quiet : 200 < envelope hush := by
  have h : ((List.range 256).filter fun c => decide (0 ^ 20 * 10 ^ c ≤ (2 ^ 30) ^ 20)).length - 1 = 255 := by
    decide +kernel
  show 200 < levelCode 0 (2 ^ 30)
  unfold levelCode
  rw [if_neg (by decide)]
  simp only [h]
  split
  · omega
  · show 200 < min 255 _
    omega

theorem witness_InfraredRowsComplete_edges :
    let s := irOf id id
    let m := irOf (fun c => { c with burst := some bur0, inMark := true }) id
    let e := irOf (fun c => { c with burst := some bur1 }) id
    let p := irOf (fun c => { c with cfg := icfg true, burst := some bur1, firsts := [fir2] }) id
    s.reception = true ∧ (s.ir 0).mode = .clear ∧ s.irBlind 0 = false ∧ (s.ir 0).inMark = false ∧
    (s.ir 0).burst = none ∧ envelope loud < (s.ir 0).on ∧ (s.ir 0).endGap ≤ (s.ir 0).lead + 2000 ∧
    (m.ir 0).mode = .clear ∧ m.irBlind 0 = false ∧ (m.ir 0).inMark = true ∧ (m.ir 0).burst = some bur0 ∧
    bur0.durs = [] ∧ (m.ir 0).off ≤ 200 ∧ (m.ir 0).glitch ≤ 2000 ∧ (e.ir 0).burst = some bur1 ∧
    (e.ir 0).inMark = false ∧ e.irBlind 0 = false ∧ bur1.cut = false ∧ (e.ir 0).pair = false ∧
    (p.ir 0).pair = true ∧ State.irPartner (p.ir 0) bur1.start = some fir2 ∧ fir2.burst.cut = false ∧
    p.irBlind 0 = false := by decide +kernel
/-- The ambient loop's means to either side, a saturated block after another, and a quiet block in a mark. -/
theorem witness_InfraredRowsComplete_blocks :
    let s := irOf (fun c => { c with sat := true }) id
    let q := irOf (fun c => { c with inMark := true, marks := [10000 * 256] }) id
    let hi := List.replicate 960 2458
    let lo := List.replicate 960 1637
    let z := (s.ir 0).block (10000 * 256) (List.replicate 96 4095) []
    let y := (q.ir 0).block (10000 * 256) (List.replicate 96 2048) []
    s.clk.refOk = true ∧ hi.sum % Nat.max 1 hi.length = 0 ∧ (s.ir 0).mode ≠ .stuck ∧ (s.ir 1).mode ≠ .stuck ∧
    4096 * 960 < ((hi.sum : Int) - 2048 * 960).natAbs * 10 ∧ 2048 * 960 < hi.sum ∧
    4096 * 960 < ((lo.sum : Int) - 2048 * 960).natAbs * 10 ∧ lo.sum < 2048 * 960 ∧
    (s.ir 0).mode = .clear ∧ z.criterion (s.ir 0).sat (10000 * 256) = 1 ∧ q.reception = true ∧
    (q.ir 0).mode = .clear ∧ y.criterion (q.ir 0).sat (10000 * 256) = 0 := by decide +kernel
theorem witness_InfraredRowsComplete :
    let fl := irOf (fun c => { c with mode := .flood, critEdge := 10, cause := 2 }) id
    let re := irOf (fun c => { c with mode := .recover, cause := 3, recFrom := 9000 * 256 }) id
    let rc := irOf id (fun i => { i with recentre := true })
    let pw := irOf (fun c => { c with firsts := [fir1] }) id
    let o := irOf id (fun i => { i with out := Vector.replicate 4 ⟨some irTx1, some irTx1⟩ })
    (fl.ir 0).mode = .flood ∧ (fl.ir 0).critEdge + (fl.ir 0).floodHold ≤ fl.last.edge ∧
    re.reception = true ∧ (re.ir 0).mode = .recover ∧ (re.ir 0).inMark = false ∧
    Nat.max (re.ir 0).spaceFrom ((re.ir 0).recFrom + irUnits 1000) + irUnits (re.ir 0).endGap ≤ 10000 * 256 ∧
    ((irOf (fun c => { c with mode := .stuck, cause := 6 }) id).ir 0).mode = .stuck ∧
    rc.infra.recentre = true ∧ rc.clk.refOk = true ∧ (rc.ir 1).mode = .off ∧ (rc.ir 0).mode = .clear ∧
    (rc.ir 0).inMark = false ∧ (rc.ir 0).burst = none ∧ (rc.ir 0).firsts = [] ∧ rc.irBlind 0 = false ∧
    (rc.ir 0).spaceFrom + irUnits (rc.ir 0).endGap ≤ rc.last.pp * 256 ∧
    (pw.ir 0).firsts = fir1 :: [] ∧ fir1.burst.start + (pw.ir 0).pairMax ≤ pw.last.pp * 256 ∧
    (pw.ir 0).burst = none ∧ fir1.burst.cut = false ∧ fir1.unknown = false ∧ fir1.blindWin = false ∧
    (pw.ir 0).blindFrom = none ∧
    ((irOf (fun c => { c with decided := [decd] }) id).ir 0).decided = [decd] ∧ decd.edge < 50000 ∧
    (o.irOut 2).sending = some irTx1 := by decide +kernel

/-! ### Witnesses: the hearth link, the ports, welt pairs -/

def key0 : List Byte := (List.range 16).map fun i => BitVec.ofNat 8 i
def plan0 : Plan :=
  ⟨1, 2, 3, 0xABCDEF01, List.replicate 12 1 ++ List.replicate 12 2, 1, 0, [10, 20, 30], 40, 0xFFFF, 5, 14, 0, 0,
    false⟩
/-- A seal view that permits every channel, LBT before every burst; and one that needs no LBT. -/
def view0 : List (Nat × Word) := [(0x624, 0xFFFFFFFF), (0x62D, 0x0007FE00), (0x635, 0xFFFF)]
def viewL : List (Nat × Word) := (0x623, 0x00000055) :: view0
def fr0 : HFrame := ⟨0x40000009, 3, 8, 77, [1, 2, 3, 4], 0, false, none, 0⟩
def bst0 : Burst := ⟨some fr0, false, 480, 10, List.replicate 15 7, none, false⟩
/-- HR in mode `m`, its pins to match. -/
def hrm (m : ChainMode) (s : State) : State :=
  { s with radio := { s.radio with
      chain := s.radio.chain.set 2 { s.chain 2 with mode := m }, pinPaen := m == .tx, pinTrsw := m == .tx
      pinLnaen := m == .rx } }
def hea (f : Hearth → Hearth) (v : List (Nat × Word)) (sealed : Bool) : State :=
  hrm .rx { lb (456 * 20) with
    hearth := f { Hearth.init with
      plan := some plan0, mode := .running, slotStart := 456 * 20, slotDue := true }
    theSeal := { SealState.init with sealed := sealed, view := v, otp := v }
    mail := { Mail.init with keys := { Keys.init with link := [(3, key0)] } } }
/-- The MAC of an uplink of troupe 3, SEQ 9, in superframe 25; its frame in slot 13; and that frame received. -/
def macU : List Byte := hearthMac key0 25 0xABCDEF01 0x31 9 [0, 5, 9]
def upl (mac : List Byte) : List Byte :=
  let body := [0x31, 0, 9, 13, 3, 0, 5, 9] ++ mac
  body ++ bytesBE 2 (crc16 body).toNat
def rxf (mac : List Byte) : HearthRx := ⟨upl mac, 1, 540, -70, 12, 6, 0, 0⟩
def live0 (s : State) : Bool :=
  s.hearth.slotDue && s.hearth.stopping.isEmpty && decide (s.hearth.plan = some plan0) &&
    s.hearth.mode == .running && !s.hearth.deadSlot && s.last.mode != .stopped && s.hrReady &&
    s.hearth.burst.isNone && s.hearth.sched.isEmpty

theorem witness_HearthRowsComplete :
    let s := hea (fun h => { h with mode := .starting }) view0 true
    let q := hea (fun h => { h with queue := [fr0] }) view0 true
    let d := hea (fun h => { h with slotStart := 456 * 20 + 19 * 12 }) view0 true
    let bu := hea (fun h => { h with burst := some bst0 }) view0 true
    let bo := hrm .tx (hea (fun h => { h with burst := some { bst0 with onAir := true } }) view0 true)
    let mw := hea (fun h => { h with queue := [{ fr0 with starts := 6 }] }) view0 true
    s.hearth.mode = .starting ∧ s.hearth.slotDue = true ∧ s.last.pp % 456 = 0 ∧
    (hea (fun h => { h with stopping := [4] }) view0 true).hearth.stopping ≠ [] ∧ live0 d = true ∧
    plan0.roles.getD (d.hearth.slotStart / 19 % 24) 0 = 2 ∧ live0 q = true ∧
    plan0.roles.getD (q.hearth.slotStart / 19 % 24) 0 = 1 ∧ q.silent = false ∧ q.hearth.queue = fr0 :: [] ∧
    q.linkKey fr0.troupe = some key0 ∧ bu.hearth.burst = some bst0 ∧ bu.lbtNeeded = true ∧
    (-85 : Int) ≤ -((bu.sealReg 0x623).toNat % 256 : Nat) ∧
    -((bu.sealReg 0x623).toNat % 256 : Nat) < (-84 : Int) ∧ bu.burstRefused bst0 = none ∧
    bst0.frame = some fr0 ∧ bst0.isB = false ∧ bu.hrReady = true ∧
    (hea (fun h => { h with burst := some bst0 }) (view0 ++ []) false).theSeal.sealed = false ∧
    bo.hearth.burst = some { bst0 with onAir := true } ∧ mw.hearth.queue = [{ fr0 with starts := 6 }] ∧
    plan0.maxWait < 6 ∧ mw.clk.refOk = true ∧ mw.supply.power = .run ∧
    ({ q with welt := { Welt.init with role := .parted } } : State).welt.role = .parted ∧
    ((({ q with regs := [(0x608, 0x140)] } : State).reg 0x608).bit 8) = true ∧ q.hearth.bcnQual = false := by
  decide +kernel
/-- A burst that LBT need not precede, on a channel of a sub-band; and one that a check refuses. -/
theorem witness_HearthRowsComplete_transmit :
    let bu := hea (fun h => { h with burst := some bst0 }) viewL true
    let br := hea (fun h => { h with burst := some { bst0 with chan := 200 } }) viewL true
    bu.lbtNeeded = false ∧ bu.burstRefused bst0 = none ∧ (bu.subBand 10).isSome = true ∧
    bu.hrReady = true ∧ br.lbtNeeded = false ∧
    (br.burstRefused { bst0 with chan := 200 }).isSome = true := by decide +kernel
/-- What the statement asks of the frame besides its MAC, whatever four bytes the MAC has. -/
theorem uplink_fields (mac : List Byte) (h : mac.length = 4) :
    fieldBE (upl mac) 4 1 = 3 ∧ (upl mac).length = 14 ∧ fieldBE (upl mac) 0 1 = 3 * 16 + 1 ∧
    fieldBE (upl mac) 1 2 = 9 ∧ ((upl mac).drop 5).take 3 = [0, 5, 9] ∧ ((upl mac).drop 8).take 4 = mac ∧
    fieldBE (upl mac) 12 2 = (crc16 ((upl mac).take 12)).toNat := by
  match mac, h with
  | [a, b, c, d], _ =>
    have hu : ∃ x y, upl [a, b, c, d] = [0x31, 0, 9, 13, 3, 0, 5, 9, a, b, c, d, x, y] := ⟨_, _, rfl⟩
    have hf : ∀ x y : Byte, let l := [0x31, 0, 9, 13, 3, 0, 5, 9, a, b, c, d, x, y]
        fieldBE l 4 1 = 3 ∧ l.length = 14 ∧ fieldBE l 0 1 = 3 * 16 + 1 ∧ fieldBE l 1 2 = 9 ∧
        (l.drop 5).take 3 = [0, 5, 9] ∧ (l.drop 8).take 4 = [a, b, c, d] :=
      fun _ _ => ⟨by simp [fieldBE, natBE, byteAt], rfl, by simp [fieldBE, natBE, byteAt],
        by simp [fieldBE, natBE, byteAt, List.range_succ], rfl, rfl⟩
    obtain ⟨x, y, hu⟩ := hu
    obtain ⟨h1, h2, h3, h4, h5, h6⟩ := hf x y
    refine ⟨hu ▸ h1, hu ▸ h2, hu ▸ h3, hu ▸ h4, hu ▸ h5, hu ▸ h6, ?_⟩
    show natBE (bytesBE 2 (crc16 [0x31, 0, 9, 13, 3, 0, 5, 9, a, b, c, d]).toNat) = _
    exact natBE_bytesBE_two (BitVec.isLt _)
/-- A hub in a slot in which it listens, and what it measures of the frame. -/
theorem witness_HearthRowsComplete_uplink :
    let s := hea (fun h => { h with slotStart := 456 * 25 + 19 * 13 }) view0 true
    s.hearth.plan = some plan0 ∧ s.hearth.mode = .running ∧
    plan0.roles.getD (s.hearth.slotStart / 19 % 24) 0 = 2 ∧ s.hearth.deadSlot = false ∧
    (s.chain 2).mode = .rx ∧ (rxf macU).syncErrs ≤ 1 ∧ ((rxf macU).offset - 500).natAbs ≤ 40 ∧
    plan0.troupes.testBit 3 = true ∧ s.linkKey 3 = some key0 ∧
    s.hearth.triples.contains ⟨3, 5, 9⟩ = false := by decide +kernel
/-- The frame itself: its length, its CRC, its fields and the MAC that the hub computes. -/
theorem witness_HearthRowsComplete_frame :
    let b := (rxf macU).bytes
    fieldBE b 4 1 = 3 ∧ b.length = 3 + 11 ∧ fieldBE b 0 1 = 3 * 16 + 1 ∧
    fieldBE b (3 + 9) 2 = (crc16 (b.take (3 + 9))).toNat ∧
    hearthMac key0 ((456 * 25 + 19 * 13) / 456 % 2 ^ 32) plan0.sync (3 * 16 + 1) (fieldBE b 1 2)
      ((b.drop 5).take 3) = (b.drop (3 + 5)).take 4 := by
  obtain ⟨h1, h2, h3, h4, h5, h6, h7⟩ := uplink_fields macU (length_hearthMac _ _ _ _ _ rfl)
  refine ⟨h1, h2, h3, h7, ?_⟩
  show hearthMac key0 _ _ _ (fieldBE (upl macU) 1 2) (((upl macU).drop 5).take 3) =
    ((upl macU).drop 8).take 4
  rw [h4, h5, h6]
  rfl

/-! ### Waiting requests and writes at their edge -/

/-- A request of 32 bytes, issued before the present edge. -/
def rq (l : List Nat) : Req := ⟨9, (l.map (BitVec.ofNat 8)) ++ zeros (32 - l.length), 0, 4999⟩
/-- The next state of a command that has one. -/
def nxt (i : Instr) (s : State) : State := match exec i s with
  | .next t => t
  | _ => s
/-- Lane requests of lane 7 at 98.5 MHz with every CUSTOM field: operation `op`, preset `p`. -/
def laneRq (op p : Nat) : Req :=
  rq [7, op, p, 3, 5, 0xDE, 0xFD, 0xA0, 5, 2, 0, 11, 16, 17, 0, 200, 0, 0, 0, 0, 0, 0, 0, 9, 63]
def laneAt (op p : Nat) (l : List (Nat × Lane)) (rel : Bool) : State :=
  { rx id with lanes := { Lanes.init with lane := l, reqs := [⟨laneRq op p, rel⟩] } }
def cust7 : Lane := ln fun l => { l with preset := .custom, setA := 16, setB := 17, dec := 3, centre := 98400000 }
def made (x : Lane) : LaneUse × Preset × List Nat :=
  (x.use, x.preset, [x.centre, x.dec, x.a, x.setA, x.setB, x.epoch])

/-- ASSIGN of a preset and as CUSTOM, MODIFY of every field, FADE and RELEASE at their edge. -/
theorem test_lane_requests_at_their_edge :
    let lane := fun s => (nxt .laneApplyEdge s).lane 7
    made (lane (laneAt 0 1 [] false)) = (.run, .fmStd, [98500000, 63, 0, 16, 16, 1]) ∧
    made (lane (laneAt 0 0 [] false)) = (.run, .custom, [98500000, 10, 8, 16, 17, 1]) ∧
    made (lane (laneAt 1 0 [(7, cust7)] false)) = (.run, .custom, [98500000, 10, 8, 16, 17, 255]) ∧
    (lane (laneAt 2 0 [(7, cust7)] false)).fading = true ∧ (lane (laneAt 2 0 [(7, cust7)] false)).xf = 200 ∧
    (lane (laneAt 2 0 [(7, cust7)] true)).use = .free := by decide +kernel
theorem witness_RequestsWaitForTheirEdge_lanes :
    let a := laneAt 0 0 [] false
    let m := laneAt 1 0 [(7, cust7)] false
    a.lanes.reqs = [⟨laneRq 0 0, false⟩] ∧ a.regWrites = [] ∧ (laneRq 0 0).edge < a.last.edge ∧
    (laneRq 0 0).app ≤ a.last.pp ∧ fieldBE (laneRq 0 0).blk 0 1 = 7 ∧ fieldBE (laneRq 0 0).blk 14 2 = 200 ∧
    blockLow (laneRq 0 0).blk 0x1E = false ∧
    a.stagesOk (Lane.withBlock Lane.init (laneRq 0 0).blk 0x1E) = true ∧ (a.lane 7).use = .free ∧
    (a.bindLane (a.lane 7)).isSome = true ∧ a.branchesOf { cust7 with centre := 98500000 } ≠ 0 ∧
    a.lowestFree = some 0 ∧ blockLow (laneRq 1 0).blk 63 = false ∧ fieldBE (laneRq 1 0).blk 24 1 = 63 ∧
    m.stagesOk ((m.lane 7).withBlock (laneRq 1 0).blk 63) = true ∧ (m.lane 7).preset = .custom ∧
    (m.lane 7).use = .run ∧ (m.lane 7).fading = false := by decide +kernel

def meas (l : List Nat) : State := { fmOf fm1 Po.init with fm := { (fmOf fm1 Po.init).fm with reqs := [rq l] } }
theorem test_measure_requests_at_their_edge :
    let fm := fun op => ((meas [0, 7, op, 0, 0xFF, 0xFF, 4, 0]).measureEdge.fmLane 7).map (·.sub)
    fm 0 = some (some ⟨9, 4095, 1024, 1024⟩) ∧ fm 1 = some none ∧
    ((meas [1, 1, 0, 0, 0xFF, 0xFF, 4, 0]).measureEdge.decoder 1).sub = some ⟨9, 2047, 1024, 1024⟩ ∧
    (meas [0, 7, 2]).measureEdge = (fmOf fm1 Po.init).reply 0x0508 9 stOk
      (bytesBE 1 255 ++ bytesBE 1 0 ++ bytesBE 1 7 ++ bytesBE 1 0 ++ State.lastQuality none) ∧
    (meas [1, 1, 2]).measureEdge = (fmOf fm1 Po.init).dabReply 8 1 9 stOk 0
      (bytesBE 1 1 ++ bytesBE 1 0 ++ zeros 12) := by decide +kernel
theorem witness_RequestsWaitForTheirEdge_measure : (rq []).edge < (meas []).last.edge ∧
    (meas []).fmLane 7 = some fm1 ∧ ((meas []).decoder 1).failed = false ∧
    ((meas []).decoder 1).quality = none ∧ 7 ≤ 95 ∧ 1024 ≤ 1024 := by decide +kernel

/-- Lanes 7 and 9 settled, a result of request 9 between them, and a request for following. -/
def foll (k : Nat) (l : List Nat) : State :=
  let x := ln fun l => { l with settle := 0 }
  { fo [] [] with
    radio := (rx id).radio
    lanes := { Lanes.init with lane := [(7, x), (9, x)] }
    follow := { Follow.init with reqs := [(k, rq l)], results := [⟨9, 7, 9, true, true, 1000, 255, 9, 50000⟩] } }
def spRq (m : Nat) : List Nat := [0, 7, 9, m, 0, 9, 0, 0, 0, 0, 0x30, 0, 0, 50, 0, 3]
theorem test_follow_requests_at_their_edge :
    ((foll 9 [0, 7, 9, 2]).followEdge.follow.corrs.map fun q => (q.id, q.start, q.startPp)) =
      [(9, 50032, 10032)] ∧
    ((foll 10 (spRq 1)).followEdge.follow.splices.map fun x => (x.id, x.blk == (rq (spRq 1)).blk)) =
      [(9, true)] := by decide +kernel
theorem witness_RequestsWaitForTheirEdge_follow :
    let u := foll 10 (spRq 1)
    let b := (rq (spRq 1)).blk
    u.fourRestarts = false ∧ u.correlateBad (rq [0, 7, 9, 2]).blk = false ∧
    u.correlateBad (rq [1, 7, 9, 2, 0, 0, 0, 5]).blk = false ∧ u.carrierRuns 7 = true ∧
    u.carrierRuns 9 = true ∧ u.follow.corrs.length < 4 ∧ u.spliceBad b = false ∧ u.targetUsable 9 = true ∧
    u.spliceClash b = false ∧ (u.spliceResult b).map (·.d) = some 1000 ∧ u.piOk b = true ∧
    u.delayOk b 1000 = true ∧ u.offsetOk b 1000 = true := by decide +kernel

def dabRq (k : Nat) (l : List Nat) (x : Decoder) : State :=
  { dabOf { x with reqs := [(k, rq l)] } with radio := (rx fun c => { c with lo := 217000000 }).radio }
def syn5 : Decoder := { syn with mci := [⟨5, 0, 10, 0, 64⟩] }
theorem test_dab_requests_at_their_edge :
    let start := (dabRq 11 [1, 0, 0, 0, 0, 3, 0x50, 0] Decoder.init).dabEdge 1
    let stop := (dabRq 11 [1, 1] { syn with sels := [sel3] }).dabEdge 1
    ((start.decoder 1).mode, (start.decoder 1).freq, (start.decoder 1).epoch, (start.lane 101).use,
      (start.lane 101).centre) = (.search, 217088, 1, .wide, 217088000) ∧
    ((stop.decoder 1).mode, (stop.decoder 1).sels, (stop.lane 101).use) = (.idle, [], .free) ∧
    (((dabRq 12 [1, 0, 5, 1] syn5).dabEdge 1).decoder 1).sels = [newSelection (rq [1, 0, 5, 1]).blk 9 50000] ∧
    ((((dabRq 12 [1, 1, 3] { syn with sels := [sel3] }).dabEdge 1).decoder 1).sels.map (·.leaving)) =
      [some 9] := by decide +kernel
theorem witness_RequestsWaitForTheirEdge_dab :
    let u := dabRq 11 [1, 0, 0, 0, 0, 3, 0x50, 0] Decoder.init
    (u.decoder 1).cover = none ∧ (u.decoder 1).selDone = [] ∧ bandThree.contains 217088 = true ∧
    (u.decoder 1).mode = .idle ∧ (u.decoder 1).failed = false ∧ vget false u.lanes.wideFailed 1 = false ∧
    u.branchesOf { Lane.init with use := .wide, preset := .dab, centre := 217088000 } ≠ 0 ∧
    selectRefused syn5 (rq [1, 0, 5, 1]).blk = none ∧ syn5.sels = [] ∧ syn.ready = true ∧ sel3.id = 3 ∧
    sel3.leaving = none := by decide +kernel

def heaRq (k : Nat) (l : List Nat) (f : Hearth → Hearth) : State :=
  hea (fun h => f { h with reqs := [(k, rq l)] }) view0 true
/-- A HEARTH_PLAN of five channels, a beacon and 23 uplink slots, the image that holds its hops, and fresh
entries of its channels. -/
def planRq : List Nat :=
  let roles := [0x69, 0x24, 0x92, 0x49, 0x24, 0x92, 0x49, 0x24, 0x92]
  [1, 2, 0, 3, 0xAB, 0xCD, 0xEF, 0x21] ++ roles ++ [5, 1, 0, 0, 0, 0, 40, 0xFF, 0xFF, 5, 14, 0, 0, 1]
def planned : State :=
  let s := heaRq 14 planRq fun h => { h with mode := .stopped, plan := none }
  { s with
    clk := { Clocks.init with table := [10, 11, 12, 13, 14, 40].map fun k => (k, ce 2 k) }
    prog := { s.prog with image := some { img0 with
      code := (List.range 5).map fun k => (2 * k + 1, BitVec.ofNat 8 (10 + k)), codeLen := 64 } } }
theorem test_hearth_requests_at_their_edge :
    (planned.hearthEdge.hearth.plan.map fun p => (p.hops, p.bcn)) = some ([10, 11, 12, 13, 14], 40) ∧
    ((heaRq 15 [0] fun h => { h with mode := .stopped }).hearthEdge.hearth.mode) = .starting ∧
    ((heaRq 15 [1] id).hearthEdge.hearth.stopping) = [9] := by decide +kernel
theorem witness_RequestsWaitForTheirEdge_hearth :
    let u := heaRq 15 [0] fun h => { h with mode := .stopped }
    (planned.planOf (rq planRq).blk).isSome = true ∧ planned.hearth.mode = .stopped ∧
    (planned.chain 2).failed = false ∧ planned.sweeping 2 = false ∧ u.hearth.plan.isSome = true ∧
    u.hearth.mode = .stopped ∧ (u.chain 2).failed = false ∧ u.sweeping 2 = false := by decide +kernel

def irRq (l : List Nat) (f : IrChan → IrChan) : State := irOf f fun g => { g with reqs := [rq l] }
def rset : List Nat := [0, 1, 3, 0x84, 10, 10, 20, 200, 1, 100, 1, 0, 0, 100, 7, 0xD0]
theorem test_ir_requests_at_their_edge :
    let on := ({ irRq rset fun _ => IrChan.init with lanes := Lanes.init } : State).irEdge
    let prof := (irRq [2, 15, 3, 0x84, 0, 100, 1] id).irEdge.infra.prof
    ((on.ir 1).cfg, (on.ir 1).mode, (on.lane 94).use, (on.lane 95).use) =
      ((rq rset).blk.take 16, .clear, .ir, .ir) ∧
    (((irRq [1, 0] id).irEdge).ir 0).mode = .off ∧
    (vget 0 prof 15, vget 0 prof 14) = (BitVec.ofNat 32 (900 + 100 * 2048 + 4194304), 0) := by decide +kernel
theorem witness_RequestsWaitForTheirEdge_ir : rxSetBad (rq rset).blk = false ∧
    (irRq rset id).irOff = false ∧ ({ irRq rset fun _ => IrChan.init with lanes := Lanes.init } : State).irOff = true ∧
    Lane.init.use = .free ∧ 384 ≤ 900 ∧ 900 ≤ 1920 ∧ 100 < 900 := by decide +kernel

def routed (l : List Nat) : State := { fmOf fm1 po7 with port := { Port.init with routeReqs := [rq l] } }
theorem test_route_requests_at_their_edge :
    let po := fun l => let p := vget Po.init (routed l).routeEdge.fm.po 1; (p.source, p.noSrc)
    let w := (routed [1, 2, 0, 2]).routeEdge
    po [1, 0, 7] = (some 7, false) ∧ po [1, 1] = (none, true) ∧
    ((w.audio 0).routed, (w.audio 1).routed) = (none, some 1) := by decide +kernel
theorem witness_RequestsWaitForTheirEdge_routes : State.routeBad (rq [1, 0, 7]).blk = false ∧
    State.routeBad (rq [1, 1]).blk = false ∧ State.routeBad (rq [1, 2, 0, 2]).blk = false ∧
    ((routed []).fmLane 7).isSome = true ∧ (routed []).follow.splices = [] := by decide +kernel
theorem witness_RequestsWaitForTheirEdge_govern :
    let u := la fun l => { l with govReqs := [rq7] }
    regsWf u.regs = true ∧ rq7.edge < u.last.edge ∧ rq7.app ≤ u.last.pp ∧ State.governBad rq7.blk = false := by
  decide +kernel

/-- Writes of registers that wait for the edge. -/
def wr (a : Nat) (v : Word) (s : State) : State := { s with regWrites := [⟨a, v, 4999⟩] }
def gainRq : Req := rq [1, 2, 9, 3, 12]
theorem test_chain_requests_at_their_edge :
    let u := rx fun c => { c with gains := [gainRq] }
    let t := nxt (.chainTuneApply 1) (rx fun c => { c with tunes := [rq [1, 0, 0, 0, 5, 0xDE, 0xFD, 0xA0]], lo := 1 })
    ((u.applyGains 1).chain 1).gain = 9 ∧ (u.applyGains 1).reg 0x523 = 0xC392 ∧
    ((t.chain 1).lo, (t.chain 1).tunes) = (98500000, []) ∧
    ({ la id with last := { (la id).last with govWrite := some 77 } } : State).applyGovWrite.governing = 77 := by
  decide +kernel
theorem test_writes_at_their_edge :
    let assigned := (nxt .laneApplyEdge (wr 0x838 1 { rx id with
      lanes := { Lanes.init with lane := [(7, { cust7 with use := .free })] } })).lane 7
    let faded := (nxt .laneApplyEdge (wr 0x83B 0x00C80A30 { rx id with
      lanes := { Lanes.init with lane := [(7, cust7)] } })).lane 7
    let split := nxt (.chainTuneApply 0) (wr 0x540 1 (rx id))
    let asleep := nxt (.chainTuneApply 1) (wr 0x520 0 (rx id))
    let back := ({ dabOf { syn with failed := true } with regWrites := [⟨0xD20, 1, 4999⟩] } : State).edgeWrites
    let ir := (wr 0x700 0x1F (irOf id fun g => { g with out := #v[⟨some irTx1, none⟩, IrOut.init, IrOut.init, IrOut.init] })).edgeWrites
    made assigned = (.run, .custom, [98500029, 3, 0, 16, 17, 0]) ∧
    (faded.fading, faded.xf, faded.setA, faded.setB) = (true, 200, 16, 17) ∧ split.radio.mode = 1 ∧
    ((asleep.chain 1).trans.map (·.target)) = some .sleep ∧
    ((back.decoder 1).failed, (back.decoder 1).epoch, (back.decoder 1).mode) = (false, 0, .search) ∧
    ((ir.irOut 0).sending, (ir.lane 94).epoch, (ir.lane 95).epoch) = (none, 1, 1) := by decide +kernel
/-- The states of these tests meet what the statements ask. -/
theorem witness_WaitingWrites :
    let l := { cust7 with use := .free, hold := false, reson := false }
    let u := { rx id with lanes := { Lanes.init with lane := [(7, { cust7 with use := .free })] } }
    let g := rx fun c => { c with gains := [gainRq] }
    let t := rx fun c => { c with tunes := [rq [1, 0, 0, 0, 5, 0xDE, 0xFD, 0xA0]] }
    u.tablesWf = true ∧ u.lanes.reqs = [] ∧ (u.lane 7).use = .free ∧ ((u.setLane 7 l).bindLane l).isSome = true ∧
    u.stagesOk { l with centre := u.centreOf l } = true ∧ u.branchesOf { l with centre := u.centreOf l } ≠ 0 ∧
    u.stagesOk { cust7 with setA := 16, setB := 17 } = true ∧ (rx id).radio.mode ≠ 2 ∧ ((rx id).chain 0).tunes = [] ∧
    (rx id).hrOwned 1 = false ∧ ((rx id).chain 1).failed = false ∧ (rx id).chainBusy 1 = false ∧
    ((rx id).chain 1).mode ≠ State.modeOfCode 0 ∧ (dabOf syn).tablesWf = true ∧ (irOf id id).tablesWf = true ∧
    ((irOf id id).lane 94).use = .ir ∧ regsWf g.regs = true ∧ (g.chain 1).gains = [gainRq] ∧
    t.appDue (rq [1, 0, 0, 0, 5, 0xDE, 0xFD, 0xA0]) true = true ∧ t.regWrites = [] ∧
    t.tuneRefused (rq [1, 0, 0, 0, 5, 0xDE, 0xFD, 0xA0]) = none := by decide +kernel

def mark0 : Marker := ⟨0x40000001, 5, 5, [1, 2]⟩
/-- Ports whose read point lies 24 ticks back, routed from output `r`, which holds samples around it. -/
def ports (f : Audio → Audio) (r : Option Nat) (regs : List (Nat × Word)) : State :=
  { lb 9120 with
    regs := regs
    fm := { Fm.init with
      po := Vector.replicate 2 { Po.init with out := [⟨256, -512, 9097 * 65536⟩, ⟨0, 0, 9095 * 65536⟩] } }
    port := { Port.init with
      queue := [⟨[1, 2, 3]⟩, ⟨[4]⟩]
      aud := Vector.replicate 2 (f { Audio.init with
        frames := 0xFFFFFFFF, lock := true, read := 9096 * 65536, routed := r }) } }
def rOwn : List (Nat × Word) := [(0x3C0, 0xFF), (0x3C8, 0x00181841), (0x3CC, 0x00181840)]
def rSlv : List (Nat × Word) := [(0x3C0, 0xFF), (0x3C8, 0x00181849), (0x3CC, 0x00181843)]

theorem test_frame_counter_wraps :
    sees (.audioFrame 0) (ports id none rOwn) (fun t => ((t.audio 0).frames, (t.audio 0).sentL)) =
      some (0, 0) := by decide +kernel
theorem witness_PortRowsComplete :
    let s := ports id none rOwn
    let m := ports (fun a => { a with markers := [mark0] }) (some 0) rOwn
    let v := ports id (some 0) rSlv
    let u := ports (fun a => { a with muted := true }) (some 0) rSlv
    (s.reg 0x3C0).bit 0 = true ∧ s.supply.dom[0] = .up ∧ s.clk.sckLock = true ∧
    s.port.queue = ⟨[1, 2, 3]⟩ :: [⟨[4]⟩] ∧ s.audSends 0 = true ∧ (s.audio 0).markers = [] ∧
    s.audSample 0 = none ∧ m.audSends 0 = true ∧ (m.audSample 0).isSome = true ∧ (m.audio 0).fading = 0 ∧
    (m.audio 0).markers = [mark0] ∧ mark0.due * 65536 ≤ (m.audio 0).read ∧
    (v.trackError 0 77).natAbs ≤ v.alignMax 0 * 65536 ∧ v.audSends 0 = true ∧ v.audOn 0 = true ∧
    v.audSlaved 0 = true ∧ (v.audio 0).muted = false ∧ u.audOn 0 = true ∧ (u.audio 0).muted = true := by
  decide +kernel

def wl (f : Welt → Welt) : State :=
  { lb 9120 with
    regs := [(0xE00, 0x43)]
    welt := f { Welt.init with role := .active, up := true, partner := .standby, unacked := [⟨3, .adopt⟩] }
    tack := { TackStore.init with lastDone := some ⟨5, 9100⟩ } }
/-- A heartbeat of a partner in a role, whose pairing digest is the one of a state. -/
def hbA (s : State) (r : Role) : Heartbeat :=
  ⟨r, true, s.pairingDigest, ⟨5, 9000⟩, 8900, List.replicate 16 3, 4, 7⟩
theorem witness_heartbeat_digest (s : State) (r : Role) :
    (hbA s r).digest = s.pairingDigest ∧ (hbA s r).role = r := ⟨rfl, rfl⟩

theorem witness_WeltLinkRowsComplete :
    let sb := wl fun w => { w with role := .standby, partner := .active, adopted := true, inSync := true }
    let dn := wl fun w => { w with up := false, hbRun := 3, unacked := [] }
    let mi := wl fun w => { w with hbMiss := 3, role := .standby, partner := .active }
    let ye := wl fun w => { w with yielding := true }
    let de := wl fun w => { w with deciding := true, role := .solo }
    let tk := wl fun w => { w with
      up := false, role := .parted, arbitrating := true, absences := 24, adopted := true, pri := true
      lastBeacon := ⟨5, 100⟩, heard := true }
    (wl id).weltOn = true ∧ (wl id).welt.role = .active ∧ (wl id).tack.lastDone = some ⟨5, 9100⟩ ∧
    (wl id).weltHeld < 524288 ∧ sb.weltOn = true ∧ sb.welt.up = true ∧ sb.welt.role = .standby ∧
    sb.welt.deciding = false ∧ dn.welt.deciding = false ∧ dn.welt.up = false ∧ dn.welt.hbRun = 3 ∧
    dn.welt.unacked = [] ∧ dn.welt.role = .active ∧ (wl fun w => { w with hbMiss := 2 }).welt.hbMiss < 3 ∧
    mi.welt.hbMiss = 3 ∧ mi.welt.up = true ∧ mi.welt.role = .standby ∧ sb.welt.partner = .active ∧
    (wl id).welt.unacked ≠ [] ∧ ye.welt.yielding = true ∧ ye.welt.role = .active ∧ tk.mayTakeOver = true ∧
    tk.weltOn = true ∧ de.welt.deciding = true ∧ de.weltOn = true := by decide +kernel
def rep0 : DigestRep := ⟨4, 5, 6, 7, false⟩
def st0 (f : Welt → Welt) : State :=
  wl fun w => f { w with role := .standby, partner := .active, rxSeq := 65535 }

theorem witness_WeltFramesComplete :
    let s := st0 id
    let d := st0 fun w => { w with inSync := true, reports := [rep0] }
    let a := st0 fun w => { w with adopting := true }
    let f := st0 fun w => { w with adopting := true, adoptFails := 1 }
    let ac := wl fun w => { w with rxSeq := 65535 }
    s.weltOn = true ∧ head0.crcOk = true ∧ head0.seq = (s.welt.rxSeq + 1) % 65536 ∧ s.welt.role = .standby ∧
    (s.bench 3).takes = true ∧ (s.bench 3).queue.length < 1024 ∧ (s.bench 3).held = [] ∧
    d.welt.inSync = true ∧ d.welt.reports = [rep0] ∧ d.welt.theirs = [] ∧ rep0.void = false ∧
    a.welt.adopting = true ∧ a.welt.adoptFails = 0 ∧ f.welt.adopting = true ∧ f.welt.adoptFails = 1 ∧
    ac.weltOn = true ∧ ac.welt.role = .active ∧ head0.seq = (ac.welt.rxSeq + 1) % 65536 := by decide +kernel

/-! ### Witnesses: the register space, the seal, the host side -/

/-- The device with every bench OFF: the host may write what bench 4 owns. -/
def own (s : State) : State :=
  { s with prog := { s.prog with bench := Vector.replicate 5 { Bench.init with mode := .off } } }

theorem test_devid_reads : sees (.regRead 0x000 false) State.reset (fun t => t.bus.out) =
    some [0, 0, 0x96, 0x96] := by decide +kernel
theorem test_read_of_pp_captures :
    sees (.captureRead 0x104 false) (lb 0x123456789A) (fun t => (t.bus.out, t.last.latchHi, t.last.latchEpoch)) =
      some ([0x34, 0x56, 0x78, 0x9A], 0x12, 5) := by decide +kernel
theorem test_read_clears :
    sees (.readClear 0x011 false) { lb 1 with flt := { FaultLog.init with lost := 3 } }
      (fun t => (t.bus.out, t.flt.lost)) = some ([0, 0, 0, 3], 0) := by decide +kernel
/-- The PEC covers the write part, the repeated address and the data (R617, R619): DEVID at address 0x38. -/
theorem test_read_with_pec :
    sees (.devid true) { State.reset with bus := { State.reset.bus with addr := 0x38 } }
      (fun t => (t.bus.out.length, pecOf ([0x70, 0x01, 0x71] ++ t.bus.out))) = some (5, 0) := by decide +kernel

/-- A register of each kind of the statement: RO, RC, of the configuration, owned, plain. -/
theorem witness_RegisterAccessFollowsTheMap :
    let s := own (lb 9120)
    s.answers = true ∧ s.keeperBusy = false ∧ s.domainRefusal (regDomain 0x104) = none ∧
    (regLine 0x105).map (·.access) = some .ro ∧ (regLine 0x104).isSome = true ∧
    (regLine 0x011).map (·.access) = some .rc ∧ (regLine 0x184).isSome = true ∧
    (regLine 0x2A1).isSome = true ∧ (regLine 0x604).isSome = true ∧ (regLine 0xF11).isSome = true ∧
    s.domainRefusal (regDomain 0x604) = none ∧ s.domainRefusal (regDomain 0xF11) = none ∧
    (regLine 0x280).map (·.cfg) = some true ∧ s.supply.dom[2] = .up ∧
    (regLine 0xD40).map (·.owned) = some true ∧ s.hostOwns = true ∧ (lb 9120).hostOwns = false ∧
    regsWf s.regs = true ∧ (regLine 0x006).isSome = true ∧ (regLine 0xC42).isSome = true := by
  decide +kernel

/-- Lanes out of service, the coefficient index at tap `i` of set 3, and a custom lane that may name it. -/
def lz (l : List (Nat × Lane)) (i : Nat) : State :=
  { own (lb 9120) with
    lanes := { Lanes.init with
      lane := l, underFailed := Vector.replicate 4 true
      coef := [(3, { CoefSet.init with taps := [(5, 7)], len := 2 })] }
    regs := [(0xB88, BitVec.ofNat 32 (32 * i + 3))] }
def cust : Lane := ln fun l => { l with preset := .custom, setA := 3, setB := 4 }

theorem test_coefficient_index_wraps_past_48 :
    sees (.laneCoefdatAccess none .good) (lz [] 48) (fun t => t.reg 0xB88) = some 3 := by decide +kernel
theorem witness_RadioRegisterRowsComplete :
    let s := lz [] 47
    let n := lz [(0, cust)] 48
    let g := { own (lb 9120) with
      clk := { Clocks.init with sysLock := false, sckLock := false }
      store := { Store.init with c := 255, vhold := 65535 } }
    let h := { own (lb 9120) with hearth := { Hearth.init with mode := .running } }
    let c := chs (fun c => { c with mode := .standby }) (own (lb 9120))
    s.answers = true ∧ s.supply.dom[2] = .up ∧ s.supply.dom[3] = .up ∧ s.supply.dom[4] = .up ∧
    s.tablesWf = true ∧ s.hostOwns = true ∧ s.hearth.mode = .stopped ∧ (0xFFFFFFF7 : Word).bit 3 = false ∧
    (8 : Word).bit 3 = true ∧ (15 : Word).toNat % 32 < 16 ∧ (s.reg 0xB88).toNat / 32 % 64 < 48 ∧
    s.coefNamed ((s.reg 0xB88).toNat % 32) = false ∧ n.tablesWf = true ∧
    (n.reg 0xB88).toNat / 32 % 64 ≤ 48 ∧ n.coefNamed ((n.reg 0xB88).toNat % 32) = true ∧
    (0x1E0000 : Word).bit 17 = true ∧ (0x1E0000 : Word).toNat / 2 ^ 18 % 8 = 7 ∧ c.sweepable 7 = true ∧
    (0x10000 : Word).bit 17 = false ∧ (0x10000 : Word).bit 16 = true ∧ g.clk.sweep = none ∧
    g.store.commit = .idle ∧ 2040 ≤ g.energy ∧ g.tablesWf = true ∧ (1 : Word).bit 1 = false ∧
    g.clk.sysLock = false ∧ g.clk.sckLock = false ∧ h.hearth.mode ≠ .stopped ∧ (1 : Word).bit 0 = true := by
  decide +kernel

/-- The seal state changed by `f`, with energy in the store. -/
def sl (f : SealState → SealState) : State :=
  { lb 9120 with
    store := { Store.init with c := 255, vhold := 65535 }, theSeal := f SealState.init }
def viewS : List (Nat × Word) := [(0x622, 0x10), (0x623, 0xE140), (0x624, 0x0F0F)]
def viewT : List (Nat × Word) :=
  [(0x623, 0x3050), (0x624, 0xF0F0F0F0), (0x62D, 0x7FE00), (0x635, 100), (0x63D, 0x1F0F1F0F)]

theorem witness_SealRowsComplete :
    let s := sl fun x => { x with view := viewS }
    let t := sl fun x => { x with sealed := true, view := viewT, otp := viewT, used := 7 }
    s.answers = true ∧ s.supply.dom[1] = .up ∧ s.store.op = none ∧ 440 ≤ s.energy ∧ s.tablesWf = true ∧
    s.theSeal.sealed = false ∧ s.hearth.mode = .stopped ∧ (sl id).sealOk = true ∧ s.theSeal.tried < 2 ∧
    t.tablesWf = true ∧ t.theSeal.sealed = true ∧
    (50 : Word) &&& State.sealMask 0x635 ≠ t.sealReg 0x635 ∧
    State.tightens 0x635 (t.sealReg 0x635) ((50 : Word) &&& State.sealMask 0x635) = true ∧
    t.theSeal.used < 8 ∧
    State.tightens 0x635 (t.sealReg 0x635) ((101 : Word) &&& State.sealMask 0x635) = false ∧
    (0xF : Word) = (0xF : Word) &&& State.sealMask 0x62C := by decide +kernel

def doms (d : Vector DomMode 5) (p : Power) : State :=
  { lb 9120 with
    store := { Store.init with c := 255, vhold := 65535 }
    supply := { (lb 9120).supply with power := p, dom := d } }

theorem witness_HostRegisterRowsComplete :
    let s := doms #v[.up, .up, .up, .up, .up] .run
    let d := doms #v[.up, .up, .up, .up, .down] .run
    let h := doms #v[.up, .up, .up, .up, .up] .hold
    let sb := { s with welt := { Welt.init with role := .standby }, regs := [(0xE00, 0x43)] }
    let ac := { s with
      welt := { Welt.init with role := .active, up := true, partner := .standby }, regs := [(0xE00, 0x43)] }
    s.answers = true ∧ s.supply.dom[1] = .up ∧ s.supply.dom[2] = .up ∧ s.keeperBusy = false ∧
    s.tablesWf = true ∧ s.store.op = none ∧ 80 ≤ s.energy ∧ h.answers = true ∧ h.keeperBusy = false ∧
    h.supply.power = .hold ∧ h.store.ivk = none ∧ 440 ≤ h.energy ∧ s.awl.running = false ∧
    s.supply.power = .run ∧ s.supply.moving = false ∧ s.supply.dom[3] = .up ∧ s.supply.dom[4] ≠ .down ∧
    d.supply.dom[4] = .down ∧ d.supply.moving = false ∧ d.answers = true ∧ h.supply.power ≠ .run ∧
    (0x40 : Word).bit 6 = true ∧ (s.audio 1).muted = false ∧ (1 : Word).bit 1 = false ∧
    (0x101 : Word).bit 0 = (sb.reg 0xE00).bit 0 ∧ (0x101 : Word).bit 8 = true ∧ sb.welt.role = .standby ∧
    sb.answers = true ∧ sb.tablesWf = true ∧ (0x201 : Word).bit 0 = (ac.reg 0xE00).bit 0 ∧
    (0x201 : Word).bit 9 = true ∧ ac.welt.role = .active ∧ ac.welt.up = true ∧
    ac.welt.partner = .standby := by decide +kernel

/-! ### Witnesses: keys and sessions -/

/-- The device with energy in its store. -/
def en : State := { lb 9120 with store := { Store.init with c := 255, vhold := 65535 } }
def skey : List Byte := (List.range 16).map fun i => BitVec.ofNat 8 (3 * i)
def ses : Session :=
  { Session.init with mode := .open_, kind := 2, key := skey, number := 1, rxCount := 4, asked := true }
def s0 : State :=
  { en with mail := { Mail.init with
      session := ses, keys := { Keys.init with show_ := [⟨7, 9, skey⟩], link := [(3, skey)] } } }
/-- A secure message of the host with counter 5. -/
def sec (mb : Nat) (p : List Byte) : Msg :=
  ⟨bytesBE 4 5 ++ p ++ s0.secureTag 0 mb 5 p, .host, ⟨5, 9⟩, 0, false, false, false, true⟩
def withCmd (mb : Nat) (p : List Byte) : State :=
  { s0 with mail := { s0.mail with inb := vset s0.mail.inb mb (some (sec mb p)) } }
def k16 : List Byte := (List.range 16).map fun i => BitVec.ofNat 8 (i + 1)
def cmd1 : List Byte := [1, 7, 0, 9] ++ k16
def cmd2 : List Byte := [2, 7]
def cmd3 : List Byte := 3 :: k16
def cmd4 : List Byte := [4, 15] ++ k16
def cmd5 : List Byte := [5, 15]
def cmd6 : List Byte := 6 :: k16

/-- Whatever payload a message carries, the device takes it out again. -/
theorem secure_taken (mb : Nat) (p : List Byte) (h : p ≠ []) :
    (withCmd mb p).secureBody mb (sec mb p).bytes = some p :=
  State.secureBody_of (s := withCmd mb p) (n := 5) rfl h (by
    have hf : ∀ l : List Byte, fieldBE (bytesBE 4 5 ++ l) 0 4 = 5 := fun l => by
      simp [fieldBE, natBE, byteAt, bytesBE, List.range_succ]
    rw [List.append_assoc]; exact hf _) rfl

theorem witness_KeyRowsComplete :
    (withCmd 8 cmd1).store.op = none ∧ (withCmd 8 cmd1).supply.dom[1] = .up ∧
    (withCmd 8 cmd1).mail.session.mode = .open_ ∧ (withCmd 8 cmd1).mail.session.kind = 2 ∧
    2040 ≤ (withCmd 8 cmd1).energy ∧ cmd1.length = 20 ∧ fieldBE cmd1 1 1 ≠ 0 ∧
    (withCmd 8 cmd1).mail.keys.show_.length < 16 ∧ cmd2.length = 2 ∧ fieldBE cmd2 1 1 ≠ 0 ∧
    cmd3.length = 17 ∧ cmd4.length = 18 ∧ fieldBE cmd4 1 1 ≤ 15 ∧ cmd5.length = 2 ∧ fieldBE cmd5 1 1 ≤ 15 ∧
    cmd6.length = 17 ∧ ({ withCmd 8 cmd3 with store := Store.init } : State).energy < 2040 := by decide +kernel
/-- Each command stands in MB8, and the device takes it out. -/
theorem witness_KeyRowsComplete_taken : ∀ c ∈ [cmd1, cmd2, cmd3, cmd4, cmd5, cmd6],
    vget none (withCmd 8 c).mail.inb 8 = some (sec 8 c) ∧
      (withCmd 8 c).secureBody 8 (sec 8 c).bytes = some c := by
  intro c hc
  have hne : c ≠ [] := by
    simp only [List.mem_cons, List.not_mem_nil, or_false] at hc
    rcases hc with rfl | rfl | rfl | rfl | rfl | rfl <;> decide +kernel
  exact ⟨vget_vset_self (by decide), secure_taken 8 c hne⟩
theorem witness_KeyRowsComplete_install :
    let s := { s0 with mail := { s0.mail with
      session := { ses with kind := 3 }
      inb := vset s0.mail.inb 8 (some ⟨k16, .host, ⟨5, 9⟩, 0, false, false, false, true⟩) } }
    let d := { s0 with mail := { s0.mail with provCmd := some cmd6 }, store := { s0.store with op := some .key } }
    s.mail.session.kind = 3 ∧ (vget none s.mail.inb 8).map (·.bytes.length) = some 16 ∧ 2040 ≤ s.energy ∧
    s.mail.session.mode = .open_ ∧ d.store.op = some .key ∧ d.supply.failing = false ∧
    d.mail.provCmd = some cmd6 := by decide +kernel

def nonceD : List Byte := [1, 2, 3, 4, 5, 6, 7, 8]
def nonceH : List Byte := [9, 9, 9, 9, 8, 8, 8, 8]
def macH (label : Nat) : List Byte :=
  Crypto.cmac skey ([BitVec.ofNat 8 label] ++ nonceD ++ nonceH ++ [BitVec.ofNat 8 2])
/-- The answer to the challenge. -/
def good : List Byte := nonceH ++ (macH 1).take 8
def sesS (f : Session → Session) (hak : Bool) : State :=
  { en with mail := { Mail.init with
      session := f { Session.init with number := 0xFFFFFFFF, kind := 2, nonce := nonceD }
      keys := { Keys.init with hak := if hak then some skey else none } } }

theorem witness_SessionRowsComplete :
    let s := sesS id true
    let i := { sesS id false with supply := { Supply.init with power := .hold, dom := #v[.up, .up, .up, .up, .up] } }
    let l := sesS (fun x => { x with locked := true }) true
    let c := sesS (fun x => { x with mode := .challenge }) true
    let o := sesS (fun x => { x with step := some (.opening 2) }) true
    let b := sesS (fun x => { x with mode := .challenge, step := some (.response nonceH), failures := 3 }) true
    s.answers = true ∧ s.supply.dom[1] = .up ∧ s.keeperBusy = false ∧ s.mail.session.locked = false ∧
    i.answers = true ∧ i.supply.power = .hold ∧ i.mail.keys.hak = none ∧ i.keeperBusy = false ∧
    l.mail.session.locked = true ∧ l.keeperBusy = false ∧ c.mail.session.mode = .challenge ∧
    c.keeperBusy = false ∧ o.mail.session.step = some (.opening 2) ∧ nonceD.length = 8 ∧
    b.mail.session.step = some (.response nonceH) ∧ b.mail.keys.hak = some skey ∧
    (sesS (fun x => { x with mode := .open_, key := skey }) true).mail.session.mode ≠ .closed := by
  decide +kernel
/-- An answer under the HAK is right, and one without a MAC is wrong. -/
theorem witness_SessionRowsComplete_response :
    let s := sesS (fun x => { x with mode := .challenge, step := some (.response good) }) true
    let mac := fun (bytes : List Byte) => Crypto.cmac skey ([BitVec.ofNat 8 1] ++ s.mail.session.nonce ++
      bytes.take 8 ++ [BitVec.ofNat 8 s.mail.session.kind])
    s.mail.session.step = some (.response good) ∧ s.mail.keys.hak = some skey ∧
    (mac good).take 8 = good.drop 8 ∧ (mac nonceH).take 8 ≠ nonceH.drop 8 := by
  refine ⟨rfl, rfl, ?_, fun h => ?_⟩
  · have h1 : good.take 8 = nonceH := List.take_left' rfl
    have h2 : good.drop 8 = (macH 1).take 8 := List.drop_left' rfl
    simp only [h1, h2]
    rfl
  · have hl := congrArg List.length h
    rw [List.length_take, Crypto.length_cmac _ rfl] at hl
    simp [nonceH] at hl

/-! ### Witnesses: installation, the store, the Awl -/

/-- An image of 856 bytes: two code words, a table without handlers, every bench present. -/
def body : List Byte :=
  bytesBE 4 0x414C4E4D ++ bytesBE 2 1 ++ bytesBE 2 64 ++ bytesBE 4 856 ++ bytesBE 4 7 ++ bytesBE 4 0x3E ++
    zeros 12 ++ bytesBE 4 64 ++ bytesBE 4 8 ++ bytesBE 4 72 ++ zeros 20 ++ [1, 2, 3, 4, 5, 6, 7, 8] ++
    (List.replicate 90 ([0xFF, 0xFF, 0, 0, 0, 0, 0, 0] : List Byte)).flatten
def sigR : Nat := 0x6b17d1f2e12c4247f8bce6e563a440f277037d812deb33a0f4a13945d898c296
def sigS : Nat := 0x264895db5eec0ededf2c467ca5bac19cf7708902f970365ad69a1bac09159086
def image : List Byte := body ++ bytesBE 32 sigR ++ bytesBE 32 sigS
/-- The public key of the private key 1: the base point. -/
def ivk1 : List Word :=
  [0x6b17d1f2, 0xe12c4247, 0xf8bce6e5, 0x63a440f2, 0x77037d81, 0x2deb33a0, 0xf4a13945, 0xd898c296,
    0x4fe342e2, 0xfe1a7f9b, 0x8ee7eb4a, 0x7c0f9e16, 0x2bce3357, 0x6b315ece, 0xcbb64068, 0x37bf51f5]
/-- The SHA-256 digest of the image without its signature. -/
def dig : List Byte :=
  [0xbb, 0x30, 0xc3, 0xe7, 0x7d, 0xbf, 0xcc, 0x97, 0xe6, 0x6f, 0x5f, 0x97, 0x42, 0x16, 0x80, 0xaa, 0x3d, 0x54,
    0x06, 0x2f, 0x72, 0x9c, 0xa1, 0x3e, 0xd5, 0xb2, 0xad, 0x29, 0x2c, 0xdf, 0xf3, 0x41]

theorem image_digest : imageDigest image = dig := by decide +kernel
theorem image_signed : Crypto.ecdsaVerify sigR
    0x4fe342e2fe1a7f9b8ee7eb4a7c0f9e162bce33576b315ececbb6406837bf51f5 dig sigR sigS = true := by
  decide +kernel
theorem image_key : ((ivk1.take 8).foldl (fun (a : Nat) w => a * 2 ^ 32 + w.toNat) 0 = sigR ∧
    (ivk1.drop 8).foldl (fun (a : Nat) w => a * 2 ^ 32 + w.toNat) 0 =
      0x4fe342e2fe1a7f9b8ee7eb4a7c0f9e162bce33576b315ececbb6406837bf51f5) ∧ image.length - 64 = 792 ∧
    fieldBE image 792 32 = sigR ∧ fieldBE image (792 + 32) 32 = sigS := by decide +kernel
theorem image_verifies : signatureOk ivk1 image = true := by
  obtain ⟨⟨h1, h2⟩, h3, h4, h5⟩ := image_key
  simp only [signatureOk, h1, h2, h3, h4, h5, image_digest, image_signed]
theorem image_ok : imageOk image = true := by decide +kernel

def sto (f : Store → Store) : Store :=
  f { Store.init with
    c := 255, vhold := 65535, ivk := some ivk1, active := some true, previous := some false
    bankA := ⟨image, true, 7, imageDigest image⟩, bankB := ⟨image, true, 7, imageDigest image⟩ }
def inst (p : List Byte) (f : Store → Store) : State := { withCmd 9 p with store := sto f }
def begin0 : List Byte := 0x10 :: bytesBE 4 1048576
def data0 : List Byte := [0x11, 0, 0, 0] ++ List.replicate 48 9

theorem witness_InstallRowsComplete :
    let b := inst begin0 id
    let d := inst data0 fun s => { s with inst := .programming, imgLen := 856 }
    let w := inst data0 fun s => { s with inst := .programming, imgLen := 856, got := 256 }
    let e := inst [0x12] fun s => { s with inst := .programming, imgLen := 856, got := 800, chunk := List.replicate 56 9 }
    let c := inst [0x13] fun s => { s with inst := .verified }
    let r := inst [0x14] id
    let a := inst [0x15] fun s => { s with inst := .programming, op := some .instPage, chunk := [1] }
    let x := inst [0] fun s => { s with inst := .erasing, op := some .instErase }
    let k := inst [0] fun s => { s with inst := .erasing, recheck := some (.instPage, 98) }
    b.supply.dom[1] = .up ∧ b.mail.session.mode = .open_ ∧ b.mail.session.kind = 2 ∧ b.store.op = none ∧
    b.store.recheck = none ∧ b.store.inst ≠ .erasing ∧ b.store.inst ≠ .programming ∧
    b.store.inst ≠ .verifying ∧ fieldBE begin0 0 1 = 0x10 ∧ begin0.length = 5 ∧ fieldBE begin0 1 4 ≤ 1048576 ∧
    240 ≤ b.energy ∧ fieldBE data0 0 1 = 0x11 ∧ d.store.inst = .programming ∧ data0.length ≤ 52 ∧
    fieldBE data0 1 3 = d.instNext ∧ d.instNext + (data0.drop 4).length ≤ d.store.imgLen ∧
    fieldBE data0 1 3 ≠ w.instNext ∧ e.store.imgLen ≤ e.instNext ∧ e.store.ivk = some ivk1 ∧
    c.store.inst = .verified ∧ r.store.previous = some false ∧ a.store.op = some .instPage ∧
    a.store.inst ≠ .none ∧ a.store.inst ≠ .committed ∧ x.store.op = some .instErase ∧
    k.store.recheck = some (.instPage, 98) ∧ 98 < 99 ∧ StoreOp.instPage.need + 40 ≤ k.energy ∧
    ({ k with store := { k.store with c := 0 } } : State).energy < StoreOp.instPage.need + 40 := by
  decide +kernel
/-- The commands are taken from MB9; the bank REVERT looks at holds its image's digest; and the image of the target
verifies, or, with its signature 0, does not. -/
theorem witness_InstallRowsComplete_image :
    (∀ p ∈ [begin0, data0, [0x12], [0x13], [0x14], [0x15]], vget none (inst p id).mail.inb 9 = some (sec 9 p) ∧
      (inst p id).secureBody 9 (sec 9 p).bytes = some p) ∧
    ((inst [0x14] id).bank false).valid = true ∧
    (inst [0x14] id).bank false = ⟨image, true, 7, imageDigest image⟩ ∧
    ((inst [0] fun s => { s with inst := .verifying }).bank
      (inst [0] fun s => { s with inst := .verifying }).store.target).bytes = image ∧
    signatureOk ivk1 image = true ∧ imageOk image = true ∧ signatureOk ivk1 (zeros 128) = false := by
  refine ⟨?_, rfl, rfl, rfl, image_verifies, image_ok, by decide +kernel⟩
  intro c hc
  have hne : c ≠ [] := by
    simp only [List.mem_cons, List.not_mem_nil, or_false] at hc
    rcases hc with rfl | rfl | rfl | rfl | rfl | rfl <;> decide +kernel
  exact ⟨vget_vset_self (by decide), secure_taken 9 c hne⟩

def stc (f : Store → Store) : State :=
  { en with store := f { Store.init with
      c := 255, vhold := 65535, bankA := ⟨List.replicate 128 3, true, 7, [1]⟩, active := some false
      previous := some true, target := true, chunk := List.replicate 256 6 } }
def slc (f : SealState → SealState) (o : StoreOp) : State :=
  { stc (fun s => { s with op := some o }) with
    theSeal := f { SealState.init with view := [(0x622, 4), (0x635, 100)], otp := [(0x622, 4), (0x635, 100)], busy := true } }

theorem witness_StoreCompletionsFollowTheirKinds :
    let w := slc (fun x => { x with sealed := true, writing := some (0x624, 1), used := 3 }) .sealWrite
    (∀ o ∈ [StoreOp.instRecord 5, .instRecord 6, .instRecord 4, .instPage, .boot 2, .ivk],
      (stc fun s => { s with op := some o }).supply.failing = false ∧
      (stc fun s => { s with op := some o }).store.op = some o) ∧
    (stc id).store.previous = some true ∧ (stc id).store.chunk.length ≤ 256 ∧
    (slc id .seal).store.op = some .seal ∧ w.store.op = some .sealWrite ∧ w.tablesWf = true ∧
    w.theSeal.writing = some (0x624, 1) ∧ w.theSeal.view = w.theSeal.otp ∧
    (∀ c ∈ [CommitStep.erase, .program, .check, .record], (stc fun s => { s with commit := c }).store.commit = c) ∧
    80 ≤ (stc id).energy := by decide +kernel

def aw (f : Awl → Awl) (p : Power) (m : List Byte) (boot : Nat) : State :=
  { en with
    supply := { en.supply with power := p }
    awl := f { Awl.init with running := false, powerUp := false, mask := 0x3000F, pass := 7, fail := 8 }
    store := { en.store with
      active := some true, ivk := some ivk1, boot := boot, bankB := ⟨[1, 2, 3], true, 3, imageDigest [1, 2, 3]⟩ }
    mail := { Mail.init with
      inb := vset Mail.init.inb 0 (some ⟨m, .host, ⟨0, 0⟩, 0, false, false, false, false⟩) } }

/-- A looped frame that comes back whole, and a run that finds everything well or test 3 failed. -/
def loopF : List Byte := let b : List Byte := [0x31, 0, 9, 13, 2, 0, 5, 1, 2, 3, 4]; b ++ bytesBE 2 (crc16 b).toNat
def awlR (fail : Nat) : AwlResult :=
  ⟨fail, 4, ⟨-630, 300⟩, ⟨-570, 400⟩, loopF, [⟨7, -50, true⟩, ⟨95, 50, true⟩], 200, 5000, []⟩

theorem witness_AwlRowsComplete :
    let d := aw (fun a => { a with running := true }) .run [] 0
    let r := aw id .hold [1, 0, 0, 0, 15] 0
    let p := aw (fun a => { a with running := true, powerUp := true }) .hold [] 0
    let q := aw (fun a => { a with running := true, powerUp := true }) .hold [] 3
    d.awl.running = true ∧ d.awl.powerUp = false ∧ d.loopbackWaits = false ∧
    (d.awlSeen (awlR 0)).fails &&& d.awl.mask = 0 ∧ d.awl.mask.testBit 18 = false ∧
    r.supply.power = .hold ∧ r.awl.running = false ∧ (vget none r.mail.inb 0).isSome = true ∧
    vget none r.mail.outb 0 = none ∧ fieldBE [1, 0, 0, 0, 15] 0 1 = 1 ∧ fieldBE [2, 3] 0 1 = 2 ∧
    p.supply.power = .hold ∧ p.awl.running = true ∧ p.awl.powerUp = true ∧ (awlR 8).fails ≠ 0 ∧
    (awlR 0).fails = 0 ∧ p.store.ivk.isSome = true ∧ p.awl.cause = 0 ∧ p.store.boot % 2 = 0 ∧
    q.store.boot % 2 = 1 ∧ q.supply.dom[0] = .up ∧ q.supply.dom[1] = .up := by decide +kernel
theorem witness_AwlRowsComplete_committed :
    (aw (fun a => { a with running := true, powerUp := true }) .hold [] 0).committed = true := by
  decide +kernel

/-! ### Witnesses: the bus, mailboxes, alerts, power and supplies -/

theorem test_status_in_hold : sees (.status false) State.reset (fun t => t.bus.out.length) = some 4 := by decide +kernel
theorem test_unknown_code_is_refused :
    sees (.unknownCommand 0x99) State.reset (fun t => t.bus.lastNack) = some 0x00009904 := by decide +kernel
theorem witness_BusReadsComplete :
    let f := { en with flt := { FaultLog.init with entries := List.replicate 9 ⟨3, 255, 1, 3, 99, ⟨5, 3⟩⟩ } }
    State.reset.answers = true ∧ State.reset.supply.dom[2] = .up ∧ f.answers = true ∧ f.flt.entries ≠ [] ∧
    State.reset.flt.entries = [] ∧ busCodes.contains 0x99 = false := by decide +kernel

def msg0 (s : Sender) (t : Bool) : Msg := ⟨[1, 2, 3], s, ⟨5, 9⟩, 0, false, false, t, true⟩
def full (s : Sender) (t : Bool) : State :=
  { en with mail := { Mail.init with
      inb := Vector.replicate 16 (some (msg0 s t)), outb := Vector.replicate 16 (some (msg0 s t))
      rung := Vector.replicate 7 5, mask := Vector.replicate 7 0xFFFFFFFD } }
theorem witness_MailboxRowsComplete :
    let i := { en with
      supply := { Supply.init with power := .idle, dom := #v[.up, .up, .down, .down, .down] }
      store := { Store.init with active := some true, bankB := ⟨image, true, 7, []⟩ } }
    let k := { en with mail := { Mail.init with session := { Session.init with mode := .open_, kind := 1 } } }
    en.answers = true ∧ vget none en.mail.inb 7 = none ∧ en.supply.dom[2] = .up ∧
    (en.bench (en.bindOf 7)).mode = .run ∧ en.welt.role ≠ .standby ∧ en.welt.role ≠ .active ∧
    (en.bench (en.bindOf 7)).takes = true ∧ (en.bench (en.bindOf 7)).queue.length < 1024 ∧
    (en.bench (en.bindOf 7)).held = [] ∧ en.supply.power ≠ .idle ∧ i.answers = true ∧
    i.supply.power = .idle ∧ i.committed = true ∧ vget none i.mail.inb 0 = none ∧ k.answers = true ∧
    k.keeperRefusal = none ∧ k.secureOpen = true ∧ vget none k.mail.inb 11 = none ∧
    vget none (full .host true).mail.inb 7 = some (msg0 .host true) ∧
    vget none (full .host true).mail.outb 7 = some (msg0 .host true) ∧ vget none en.mail.outb 7 = none ∧
    (vget 0 (full .host true).mail.rung 5).bit 2 = true ∧ (vget 0 en.mail.rung 5).bit 31 = false ∧
    (full (.bench 1) false).mail.inb.get 15 = some (msg0 (.bench 1) false) ∧
    (full .host true).mail.inb.get 15 = some (msg0 .host true) := by decide +kernel

def al (f : Bus → Bus) : State := { en with bus := f { Bus.init with latched := 0x98, addr := 0x3A } }
theorem witness_AlertAndLineRowsComplete :
    let n := al fun b => { b with notifying := true, notifyTries := 6 }
    let w := al fun b => { b with notifying := true, notifyTries := 7, notifyWait := true }
    let q := al fun b => { b with latched := 0 }
    let y := { Bus.init with sdaStuck := true, notifying := true, recoverTries := 1 }
    let u := { en with supply := { Supply.init with power := .sleep, dom := #v[.down, .down, .down, .down, .down] } }
    (al id).answers = true ∧ (al id).alertDriven = true ∧ n.answers = true ∧ n.bus.notifying = true ∧
    n.bus.notifyWait = false ∧ n.bus.notifyTries < 7 ∧ w.answers = true ∧ w.bus.notifying = true ∧
    w.bus.notifyWait = true ∧ w.bus.notifyTries = 7 ∧
    ((al id).causes &&& ((al id).reg 0x383).toNat % 65536) ≠ 0 ∧ q.answers = true ∧
    q.bus.alertStuck = false ∧ q.alertDriven = false ∧ y.sdaStuck = true ∧ y.sclStuck = false ∧
    y.notifying = true ∧ y.recoverTries < 2 ∧ u.supply.power = .sleep ∧
    (al fun b => { b with stretching := true }).bus.stretching = true := by decide +kernel

def pw (p : Power) (d : Vector DomMode 5) (a : Option Bool) (f : Awl → Awl) : State :=
  { en with
    supply := { Supply.init with power := p, dom := d }
    store := { en.store with active := a, bankB := ⟨image, true, 7, []⟩ }
    awl := f { Awl.init with running := false } }
theorem test_power_idle_drops_three_domains :
    sees (.powerIdle .good) (pw .run #v[.up, .up, .up, .up, .up] none id) (fun t => t.supply.dom) =
      some #v[.up, .up, .down, .down, .down] := by decide +kernel
theorem test_reset_without_pec_is_refused :
    sees (.deviceReset 0x96 0x69 .absent) State.reset (fun t => t.bus.lastNack) = some 0x0003F006 := by
  decide +kernel
theorem witness_PowerCommandsComplete :
    let r := pw .run #v[.up, .up, .up, .up, .up] (some true) id
    let i := pw .idle #v[.up, .up, .down, .down, .down] (some true) id
    let n := pw .idle #v[.up, .up, .down, .down, .down] none id
    let m := { i with supply.moving := true }
    let h := pw .hold #v[.up, .up, .up, .down, .down] none id
    let d := pw .hold #v[.up, .up, .up, .down, .down] none fun a => { a with fail := 0x800, pass := 0x1000 }
    r.answers = true ∧ r.supply.power = .run ∧ i.answers = true ∧ i.supply.power = .idle ∧
    i.committed = true ∧ i.supply.moving = false ∧ m.supply.power = .idle ∧ m.committed = true ∧
    m.supply.moving = true ∧ m.answers = true ∧ n.answers = true ∧ n.committed = false ∧ i.sleepOk = true ∧ h.answers = true ∧
    h.supply.power = .hold ∧ h.awl.running = false ∧ h.awl.fail = 0 ∧ d.answers = true ∧
    d.degradeOk = true := by decide +kernel

def sup (p : Power) (d : Vector DomMode 5) (f : Supply → Supply) (g : Store → Store) : State :=
  { en with
    supply := f { Supply.init with power := p, dom := d }
    store := g { en.store with active := some true, bankB := ⟨image, true, 7, imageDigest image⟩ } }
def dn : Vector DomMode 5 := #v[.down, .down, .down, .down, .down]
theorem witness_SupplyRowsComplete :
    let a := sup .reset dn (fun s => { s with vsysGood := false }) id
    let b := sup .reset dn (fun s => { s with vioGood := false }) id
    let c := sup .reset dn (fun s => { s with resetPin := false }) id
    let t : Straps := ⟨1, 2, true, 4300, true, true⟩
    let o := sup .run #v[.up, .up, .up, .up, .up] id fun s => { s with op := some .key }
    let h := sup .idle #v[.powering, .down, .down, .down, .down] id id
    let k := sup .idle #v[.up, .powering, .down, .down, .down] id id
    let n := sup .idle #v[.up, .powering, .powering, .down, .down] id id
    let e := sup .idle #v[.up, .up, .up, .up, .powering] (fun s => { s with moving := true }) id
    a.supply.vsysGood = false ∧ a.supply.vioGood = true ∧ a.supply.resetPin = true ∧
    a.supply.failing = false ∧ a.supply.power = .reset ∧ t.testHigh = true ∧
    ({ t with testHigh := false } : Straps).testHigh = false ∧ b.supply.vsysGood = true ∧
    b.supply.failing = false ∧ b.supply.power = .reset ∧ b.supply.testHigh = false ∧
    b.supply.resetPin = true ∧ c.supply.failing = false ∧ c.supply.power = .reset ∧ c.supply.resetPin = false ∧ c.supply.vsysGood = true ∧
    c.supply.vioGood = true ∧ c.store.op = none ∧ c.store.commit ≠ .record ∧
    c.store.journal.length < 32 ∧ c.store.journalSeq + 1 < 2 ^ 32 ∧
    (∀ y ∈ c.store.journal.flatten.filterMap jrecOf, y.seq ≤ c.store.journalSeq) ∧ o.store.op = some .key ∧ o.supply.vsysGood = true ∧
    o.supply.power ≠ .reset ∧ (sup .sleep dn id id).supply.wakePin = false ∧
    (sup .sleep dn id id).supply.power = .sleep ∧ o.powerCode ≠ 0 ∧ h.supply.dom[0] = .powering ∧ h.supply.dom[1] = .down ∧
    k.supply.dom[1] = .powering ∧ k.supply.dom[0] = .up ∧ n.supply.dom[2] = .powering ∧ n.supply.dom[1] ≠ .up ∧ e.supply.dom[4] = .powering ∧ e.supply.moving = true ∧
    e.supply.dom[2] = .up ∧ e.supply.dom[3] = .up ∧ (e.reg 0x003).toNat % 4 = 3 ∧ e.prog.image = some img0 ∧ img0.config = [] := by
  decide +kernel
/-- A valid active bank that has its digest loads. -/
theorem bank_loads (s : State) (h : s.store.active = some true) (hv : s.store.bankB.valid = true)
    (hd : imageDigest s.store.bankB.bytes = s.store.bankB.digest) :
    s.loadable = some s.store.bankB.bytes := by
  simp only [State.loadable, h]
  exact if_pos ⟨hv, hd⟩
/-- The device while the BENCH domain powers up on the way to RUN, with an image or without. -/
def upS (a : Option Bool) : State :=
  sup .idle #v[.up, .up, .powering, .down, .down] (fun s => { s with moving := true })
    fun s => { s with active := a }
theorem witness_SupplyRowsComplete_bench :
    (upS (some true)).supply.dom[2] = .powering ∧ (upS (some true)).supply.moving = true ∧
    (upS (some true)).supply.dom[0] = .up ∧ (upS (some true)).supply.dom[1] = .up ∧
    ((upS (some true)).reg 0x003).toNat % 4 = 3 ∧ (upS none).supply.dom[2] = .powering ∧
    (upS none).supply.moving = true ∧ (upS none).loadable = none := by decide +kernel
/-- The image loads. -/
theorem witness_SupplyRowsComplete_image :
    (upS (some true)).loadable = some image ∧ imageOk image = true := by
  refine ⟨?_, image_ok⟩
  have hb : (upS (some true)).store.bankB = ⟨image, true, 7, imageDigest image⟩ := rfl
  have h := bank_loads (upS (some true)) rfl (by rw [hb]) (by rw [hb])
  rw [hb] at h
  exact h

/-! ### Witnesses: the whole machine -/

theorem witness_StepTakesTheFrontCommand :
    ({ base with pending := [.devid false, .tickEdge] } : State).pending = .devid false :: [.tickEdge] ∧
    base.pending = [] := ⟨rfl, rfl⟩
theorem witness_StepKeepsTheStateCanonical : State.reset.wf = true ∧ step State.reset = .next State.reset :=
  ⟨by decide +kernel, rfl⟩
theorem witness_BenchInstructionsAreConfined :
    benchOf (.add 1 3 1 2) = some 1 ∧
    exec (.add 1 3 1 2) (r1 []) = .next ((r1 []).compute 1 1 3 fun h => h.get 1 + h.get 2) := ⟨rfl, rfl⟩

/-- An empty queue idles, and the front command is taken off. -/
theorem test_step_takes_the_front :
    (match step { base with pending := [.devid false, .tickEdge] } with
      | .next t => some (t.bus.out, t.pending.length)
      | _ => none) = some ([0, 0, 0x96, 0x96], 1) := by decide +kernel

end Sys2Proof.Tests
end

section
/-! PROOFS. The reads of the two-wire bus (chapter 15): what a transaction that is answered gives, and what it leaves
unchanged. -/

namespace Sys2Proof

theorem bytesBE_one (v : Nat) : bytesBE 1 v = [BitVec.ofNat 8 v] := by
  simp [bytesBE]

end Sys2Proof

namespace Sys2Proof.Machine

open Sys2Proof

/-! ### Transactions that the device answers -/

namespace State

variable {s : State}

theorem busGate_refused (h : s.answers = true) (code cause phase : Nat) (f : State → State) :
    s.busGate code (some (cause, phase)) f = s.nack code cause phase := by
  simp [busGate, h]

theorem busRead_refused (h : s.answers = true) (code cause phase : Nat) (f : State → State) :
    s.busRead code (some (cause, phase)) f = s.nack code cause phase :=
  busGate_refused h code cause phase f

theorem busRead_accepted (h : s.answers = true) (code : Nat) (f : State → State) :
    s.busRead code none f = f s := by
  simp [busRead, busGate, h]

theorem domainRefusal_bench_of_up (hup : s.supply.dom[2] = .up) : s.domainRefusal .bench = none := by
  have hdom : s.supply.dom[Domain.bench.ctorIdx]? = some .up := by
    rw [← hup]; rfl
  simp [domainRefusal, hdom]

/-! ### What a read and a refusal do to the state -/

/-- A read whose write part is the command alone: the PEC covers the address, the command, the address with the
read bit and the data (R617, R619). -/
theorem sendRead_command (s : State) (code : Nat) (ack : Bool) (data : List Byte) :
    s.sendRead code [] ack data = s.sendBytes (data ++ if ack then
      [pecOf (bytesBE 1 (2 * s.bus.addr) ++ bytesBE 1 code ++ bytesBE 1 (2 * s.bus.addr + 1) ++ data)]
      else []) := by
  simp only [sendRead, writePart, List.append_nil]

theorem nack_lastNack (s : State) (code : Byte) (cause phase : Nat) :
    (s.nack code.toNat cause phase).bus.lastNack =
      BitVec.ofNat 32 (cause + 256 * code.toNat + 65536 * phase) := by
  have hcode : code.toNat % 256 = code.toNat := Nat.mod_eq_of_lt code.isLt
  simp only [nack, hcode]

/-- A refusal touches LASTNACK and its three counters alone (R629, R630). -/
theorem nack_frame (s : State) (code cause phase : Nat) :
    s.nack code cause phase = { s with bus := { s.bus with
      lastNack := (s.nack code cause phase).bus.lastNack
      busy := (s.nack code cause phase).bus.busy
      pecErrs := (s.nack code cause phase).bus.pecErrs
      refusals := (s.nack code cause phase).bus.refusals } } := rfl

/-! ### The bytes of STATUS and of FAULT_READ -/

theorem fld_low_half (s : State) (a : Nat) : s.fld a 15 0 = (s.reg a).toNat % 65536 := rfl

/-- Six flags packed from bit 0 up: each stands alone, so bits 0 and 3 are the first and the fourth. -/
theorem getLsbD_sixFlags : ∀ a b c d e f : Bool,
    let w := BitVec.ofNat 8
      (bitNat a + 2 * bitNat b + 4 * bitNat c + 8 * bitNat d + 16 * bitNat e + 32 * bitNat f)
    w.getLsbD 0 = a ∧ w.getLsbD 3 = d := by
  decide

theorem length_statusBytes (s : State) : s.statusBytes.length = 4 := by
  simp [statusBytes]

theorem statusBytes_power (s : State) : byteAt s.statusBytes 0 = BitVec.ofNat 8 s.powerCode := by
  simp [statusBytes, bytesBE_one, byteAt]

theorem statusBytes_domains (s : State) : byteAt s.statusBytes 2 = BitVec.ofNat 8 s.domainsUp := by
  simp [statusBytes, bytesBE_one, byteAt]

theorem statusBytes_address (s : State) : byteAt s.statusBytes 3 = BitVec.ofNat 8 s.bus.addr := by
  simp [statusBytes, bytesBE_one, byteAt]

/-- The flags byte of STATUS: an unmasked cause in bit 0, an open session in bit 3 (Table 15-3). -/
theorem statusBytes_flags (s : State) :
    (byteAt s.statusBytes 1).getLsbD 0 = ((s.causes &&& (s.reg 0x383).toNat % 65536) != 0) ∧
      (byteAt s.statusBytes 1).getLsbD 3 = (s.mail.session.mode == .open_) := by
  simp only [statusBytes, bytesBE_one, List.cons_append, byteAt, List.getD_cons_succ,
    fld_low_half]
  exact getLsbD_sixFlags _ _ _ _ _ _

/-- The block of FAULT_READ: its count byte, and the oldest entries, at most 8 (Table 15-2). -/
theorem faultBlock_eq (es : List FaultEntry) :
    bytesBE 1 (8 * es.length) ++ es.flatMap FaultEntry.bytes =
      BitVec.ofNat 8 (8 * es.length) :: es.flatMap FaultEntry.bytes := by
  rw [bytesBE_one, List.singleton_append]

end State

/-! ### The reads of the table, where the device answers -/

section Answered

variable {s : State} (h : s.answers = true) (ack : Bool)

include h

theorem exec_status : exec (.status ack) s = .next (s.sendRead 0x00 [] ack s.statusBytes) :=
  congrArg Host.Outcome.next (State.busRead_accepted h _ _)

theorem exec_devid : exec (.devid ack) s = .next (s.sendRead 0x01 [] ack [0, 0, 0x96, 0x96]) :=
  congrArg Host.Outcome.next (State.busRead_accepted h _ _)

theorem exec_revid : exec (.revid ack) s = .next (s.sendRead 0x02 [] ack [0, 0, 1, 1]) :=
  congrArg Host.Outcome.next (State.busRead_accepted h _ _)

theorem exec_lastnack :
    exec (.lastnack ack) s = .next (s.sendRead 0x03 [] ack (bytesBE 4 s.bus.lastNack.toNat)) :=
  congrArg Host.Outcome.next (State.busRead_accepted h _ _)

theorem exec_lastSnapshot (hup : s.supply.dom[2] = .up) :
    exec (.lastSnapshot ack) s = .next (s.sendRead 0x60 [] ack
      (bytesBE 6 s.last.pp ++ bytesBE 2 s.last.epoch ++ bytesBE 4 s.lastStatus.toNat)) := by
  change execLastSnapshot ack s = _
  simp only [execLastSnapshot, State.domainRefusal_bench_of_up hup, Option.map_none, State.busRead_accepted h]

/-- With entries in the log FAULT_READ gives the oldest, and removes them when it is complete (R806). -/
theorem exec_faultRead_nonempty (complete : Bool) (hne : s.flt.entries ≠ []) :
    let t := s.sendRead 0x04 [] (complete && ack) (BitVec.ofNat 8 (8 * (s.flt.entries.take 8).length) ::
      (s.flt.entries.take 8).flatMap FaultEntry.bytes)
    exec (.faultRead complete ack) s = .next
      (if complete then { t with flt := { t.flt with entries := t.flt.entries.drop 8 } } else t) := by
  change execFaultRead complete ack s = _
  simp only [execFaultRead, List.isEmpty_eq_false_iff.mpr hne, Bool.false_eq_true, if_false,
    State.busRead_accepted h, State.faultBlock_eq]

theorem exec_faultRead_empty (complete : Bool) (hnil : s.flt.entries = []) :
    exec (.faultRead complete ack) s = .next (s.nack 4 nackEmpty phCommand) := by
  change execFaultRead complete ack s = _
  simp only [execFaultRead, hnil, List.isEmpty_nil, if_true, State.busRead_refused h]

theorem exec_unknownCommand (code : Byte) (hcode : busCodes.contains code.toNat = false) :
    exec (.unknownCommand code) s = .next (s.nack code.toNat nackUnknown phCommand) := by
  change execUnknownCommand code s = _
  simp only [execUnknownCommand, hcode, Bool.false_eq_true, if_false, State.busGate_refused h]

end Answered

/-- Settles O51: each read through its equation where the device answers, the PEC by `sendRead_command`, and the
refusals by what `nack` records. -/
theorem busReadsComplete : Obligations.BusReadsComplete := by
  unfold Obligations.BusReadsComplete
  intro s code ack h out reads entries bytes
  have hread (c : Nat) (k : Bool) (data : List Byte) : s.sendRead c [] k data = out s (reads c k data) :=
    State.sendRead_command s c k data
  refine ⟨⟨s.statusBytes, ?status, s.length_statusBytes, s.statusBytes_power, s.statusBytes_flags.1,
    s.statusBytes_flags.2, s.statusBytes_domains, s.statusBytes_address⟩, ?devid, ?revid, ?lastnack,
    ?lastSnapshot, ?faultRead, exec_faultRead_empty h ack true, exec_unknownCommand h code, ?refusal⟩
  case status => rw [exec_status h, hread]
  case devid => rw [exec_devid h, hread]
  case revid => rw [exec_revid h, hread]
  case lastnack => rw [exec_lastnack h, hread]
  case lastSnapshot =>
    intro hup
    rw [exec_lastSnapshot h ack hup, hread]
  case faultRead =>
    intro hne
    have hplain : s.sendRead 4 [] false bytes = out s bytes :=
      (hread 4 false bytes).trans (congrArg (out s) bytes.append_nil)
    constructor
    · exact (exec_faultRead_nonempty h ack false hne).trans (congrArg Host.Outcome.next hplain)
    · rw [exec_faultRead_nonempty h ack true hne, Bool.true_and, hread]
      rfl
  case refusal =>
    intro cause phase
    exact ⟨s.nack_lastNack code cause phase, s.nack_frame code.toNat cause phase⟩

end Sys2Proof.Machine
end

section
/-! PROOFS. Lateness of tacks and their dispatch (chapter 6): the rules of Tables 6-2 and 6-3 in every case, and
what the store does with the oldest published position. -/

namespace Sys2Proof.Machine

open Sys2Proof

/-! ### Lateness (Tables 6-2 and 6-3) -/

section Lateness

variable {latemax policy d p : Nat}

theorem judgeEntry_of_due (h : p ≤ d) : judgeEntry latemax policy d p = .wait := if_pos h

/-- A tack past its due PP at entry is judged as one that a SKIP to the entry PP passes over. -/
theorem judgeEntry_of_past (h : d < p) : judgeEntry latemax policy d p = judgeSkip latemax policy d p :=
  if_neg (Nat.not_le.mpr h)

theorem judgeSkip_drop : judgeSkip latemax 0 d p = .never := rfl

theorem judgeSkip_late : judgeSkip latemax 1 d p = if p ≤ d + latemax then .now else .never := rfl

theorem judgeSkip_anyway : judgeSkip latemax 2 d p = .now := by
  simp [judgeSkip]

end Lateness

/-! ### The rules of a step on a pending tack -/

theorem StepMade.passes_iff (st : StepMade) (t : Tack) : st.passes t = true ↔
    st.p0 < st.pos.pp ∧ t.due < st.pos.pp ∧
      (st.p0 < t.due ∨ (st.undone = true ∧ st.p0 = t.due) ∨ t.late = true) := by
  simp only [passes, Bool.and_eq_true, Bool.or_eq_true, decide_eq_true_eq, beq_iff_eq, and_assoc, or_assoc]

/-- No step passes over a tack that is due at the step's new position or after it. -/
theorem StepMade.passes_of_due {st : StepMade} {t : Tack} (h : st.pos.pp ≤ t.due) : st.passes t = false := by
  rw [Bool.eq_false_iff, ne_eq, passes_iff]
  rintro ⟨_, hpast, _⟩
  exact Nat.not_le.mpr hpast h

namespace State

section Step

variable {latemax : Nat} {st : StepMade} {t : Tack}

theorem stepTack_of_rewind (hback : st.pos.pp ≤ st.p0) (hdue : st.pos.pp ≤ t.due) :
    stepTack latemax st t = some { t with late := false } := by
  simp only [stepTack, StepMade.passes_of_due hdue, Bool.false_eq_true, if_false]
  exact if_pos ⟨hback, hdue⟩

theorem stepTack_of_skip_short (hfwd : st.p0 < st.pos.pp) (hdue : st.pos.pp ≤ t.due) :
    stepTack latemax st t = some t := by
  simp only [stepTack, StepMade.passes_of_due hdue, Bool.false_eq_true, if_false]
  exact if_neg fun h => Nat.not_le.mpr hfwd h.1

theorem stepTack_of_skip_past (hleft : st.p0 < t.due) (hpast : t.due < st.pos.pp) :
    stepTack latemax st t =
      if judgeSkip latemax t.policy t.due st.pos.pp = .now then some { t with late := true } else none :=
  if_pos ((st.passes_iff t).mpr ⟨Nat.lt_trans hleft hpast, hpast, .inl hleft⟩)

end Step

/-! ### A raised fault leaves the tack store: its stream packet carries no marker -/

theorem losePacket_tack (s : State) (pos : Pos) (len : Nat) : (s.losePacket false pos len).2.tack = s.tack := by
  simp only [losePacket, Bool.false_eq_true, if_false]
  split
  · exact voidFrom_tack _ _
  · rfl

@[simp] theorem streamFault_tack (s : State) (e : FaultEntry) : (s.streamFault e).2.tack = s.tack := by
  simp only [streamFault, tryPacket]
  split
  · split
    · split <;> rfl
    · exact losePacket_tack s _ _
  · rfl

@[simp] theorem dropBegins_tack (s : State) : s.dropBegins.tack = s.tack := by
  simp [dropBegins]

@[simp] theorem raise_tack (s : State) (code unit cls : Nat) : (s.raise code unit cls).tack = s.tack := by
  simp only [raise]
  split <;> simp

@[simp] theorem note_tack (s : State) (code : Nat) : (s.note code).tack = s.tack := s.raise_tack code _ _

/-! ### What the watch of the pending count, the store's own work and the comparison of digests leave -/

/-- Of the tack store, watching the pending count touches its high-water and its warning alone (R238). -/
theorem watchTacks_tack (s : State) :
    ∃ high warned, s.watchTacks.tack = { s.tack with high := high, warned := warned } := by
  simp only [watchTacks]
  split
  · split
    · exact ⟨_, _, rfl⟩
    · exact ⟨_, _, note_tack _ _⟩
  · exact ⟨_, _, rfl⟩

theorem watchTacks_frame (s : State) : s.watchTacks.infra = s.infra ∧ s.watchTacks.welt = s.welt := by
  simp only [watchTacks]
  split
  · split <;> simp
  · simp

theorem storeWork_of_nothing_due {s : State} (h : s.tack.due = []) : s.storeWork = s := by
  simp only [storeWork, h]

theorem storeWork_of_entered {s : State} {d : Due} {ds : List Due} (h : s.tack.due = d :: ds)
    (hstep : d.stepped = true) (hent : d.entered = true) : s.storeWork = s := by
  simp [storeWork, h, hstep, hent]

theorem compareDigests_of_not_standby {s : State} (h : s.welt.role ≠ .standby) :
    s.compareDigests = { s with welt.reports := [], welt.theirs := [] } :=
  if_pos (.inl h)

/-- The end of a dispatch: the position is noted as done, and the store goes on to the next one published. -/
def endDispatch (s : State) (p : Pos) : State :=
  ({ s with tack.lastDone := some p } : State).watchTacks.storeWork.compareDigests

/-- With nothing further published the end of a dispatch leaves the tacks, the digest and the pins as the
dispatched tacks left them. -/
theorem endDispatch_of_nothing_due (s : State) (p : Pos) (hdue : s.tack.due = []) (hrole : s.welt.role ≠ .standby) :
    (∃ high warned, (s.endDispatch p).tack = { s.tack with lastDone := some p, high := high, warned := warned }) ∧
      (s.endDispatch p).infra = s.infra := by
  obtain ⟨high, warned, htack⟩ := watchTacks_tack { s with tack.lastDone := some p }
  obtain ⟨hinfra, hwelt⟩ := watchTacks_frame { s with tack.lastDone := some p }
  rw [endDispatch]
  generalize ({ s with tack.lastDone := some p } : State).watchTacks = w at htack hinfra hwelt
  have hwork : w.storeWork = w := storeWork_of_nothing_due (by rw [htack]; exact hdue)
  rw [hwork, compareDigests_of_not_standby (by rw [hwelt]; exact hrole)]
  exact ⟨⟨high, warned, htack⟩, hinfra⟩

/-! ### One tack at its target -/

/-- A tack that was not refused and did not ask for TACKDONE completes OK unreported and uncounted (R249). -/
theorem complete_ok_unreported (s : State) {t : Tack} (h : t.flags.testBit 3 = false) (reason : Nat) (p : Pos)
    (lateness : Nat) : s.complete t stOk reason p lateness = s := by
  simp [complete, h, stOk, stFull, stDropped, stSkipped, stLate]

theorem digestBytes_gpio {t : Tack} (htarget : t.target = 6) : digestBytes t =
    bytesBE 6 t.due ++ bytesBE 1 6 ++ bytesBE 1 t.tparam ++ bytesBE 1 t.plen ++ t.payload.take t.plen := by
  simp only [digestBytes, htarget]

/-- A dispatched tack in the digest and in the counts (R252, R253). -/
def digestTack (s : State) (t : Tack) : State :=
  { s with tack := { s.tack with
    crc := crcBytes s.tack.crc (digestBytes t)
    inReport := s.tack.inReport + 1
    disp := satAdd 0xFFFFFFFF s.tack.disp 1 } }

/-- A GPIO tack on time: its bytes join the digest, it is counted, and it moves the levels of its mask
(R230, R252, R253). -/
theorem dispatchTack_gpio {s : State} {t : Tack} (p : Pos) (htarget : t.target = 6) (hlate : t.late = false)
    (hflag : t.flags.testBit 3 = false) (hloud : s.silent = false) :
    s.dispatchTack t p =
      (s.digestTack t).gpioTack t.tparam (fieldBE (t.payload.take t.plen) 0 1) := by
  have hshut : (t.target == 1 && s.sealShut) = false := by simp [htarget]
  simp only [dispatchTack, hshut, hlate, Bool.false_eq_true, if_false, complete_ok_unreported _ hflag]
  rw [if_neg (by simpa [silent] using hloud), handTack]
  simp [htarget, digestTack]

/-! ### The tacks that leave the store -/

/-- The store without the tacks that position `p` dispatches, the positions `ds` still to dispatch. -/
def releaseTacks (s : State) (p : Pos) (ds : List Due) : State :=
  { s with
    tack.pending := s.tack.pending.filter fun t => !(t.late || t.due == p.pp)
    tack.due := ds }

theorem dueTacks_of_due {s : State} {t : Tack} {p : Pos} (h : s.tack.pending = [t]) (hdue : t.due = p.pp) :
    s.dueTacks p = [t] := by
  simp [dueTacks, h, hdue, sortTacks, insertTack]

theorem dueTacks_of_not_due {s : State} {t : Tack} {p : Pos} (h : s.tack.pending = [t]) (hlate : t.late = false)
    (hdue : t.due ≠ p.pp) : s.dueTacks p = [] := by
  simp [dueTacks, h, hlate, hdue, sortTacks]

theorem releaseTacks_of_due {s : State} {t : Tack} {p : Pos} (h : s.tack.pending = [t]) (hdue : t.due = p.pp)
    (ds : List Due) : (s.releaseTacks p ds).tack.pending = [] := by
  simp [releaseTacks, h, hdue]

theorem releaseTacks_of_not_due {s : State} {t : Tack} {p : Pos} (h : s.tack.pending = [t]) (hlate : t.late = false)
    (hdue : t.due ≠ p.pp) (ds : List Due) : (s.releaseTacks p ds).tack.pending = [t] := by
  simp [releaseTacks, h, hlate, hdue]

end State

/-! ### The instruction -/

section Dispatch

variable {s : State}

theorem exec_tackDispatch_of_not_run (h : s.supply.power ≠ .run) : exec .tackDispatch s = .next s :=
  congrArg Host.Outcome.next (if_pos h)

variable {d : Due} {ds : List Due} (hdue : s.tack.due = d :: ds) (hstep : d.stepped = true)
  (hent : d.entered = true)

include hdue hstep hent

theorem exec_tackDispatch_of_stopped (h : s.last.mode = .stopped) : exec .tackDispatch s = .next s := by
  change execTackDispatch s = _
  have hstop : s.stopped = true := by simp [State.stopped, h]
  simp [execTackDispatch, State.storeWork_of_entered hdue hstep hent, hdue, hstop]

/-- In RUN, with the Last going and the entries of the oldest position applied, its tacks leave the store and are
dispatched in order (R240). -/
theorem exec_tackDispatch_of_entered (hrun : s.supply.power = .run) (hgo : s.last.mode ≠ .stopped) :
    exec .tackDispatch s = .next (((s.dueTacks d.pos).foldl (fun s t => s.dispatchTack t d.pos)
      (s.releaseTacks d.pos ds)).endDispatch d.pos) := by
  change execTackDispatch s = _
  have hstop : s.stopped = false := by simp [State.stopped, hgo]
  simp [execTackDispatch, State.storeWork_of_entered hdue hstep hent, hdue, hrun, hstop, hent,
    State.releaseTacks, State.endDispatch]

end Dispatch

/-- Settles O25: the judgements by policy, the rules of a step by where it leads, and the dispatch of the one tack
through the equation of TACK_DISPATCH for a position whose entries are applied. -/
theorem dispatchAndLateness : Obligations.DispatchAndLateness := by
  unfold Obligations.DispatchAndLateness
  constructor
  · intro latemax d p
    exact ⟨fun _ h => judgeEntry_of_due h, fun h => judgeEntry_of_past h,
      fun h => (judgeEntry_of_past h).trans judgeSkip_late,
      fun h => (judgeEntry_of_past h).trans judgeSkip_anyway, judgeSkip_drop, judgeSkip_late, judgeSkip_anyway,
      fun _ _ => ⟨State.stepTack_of_rewind, fun _ => State.stepTack_of_skip_short, State.stepTack_of_skip_past⟩⟩
  · intro s d tk hdue hstep hent
    refine ⟨exec_tackDispatch_of_stopped hdue hstep hent, exec_tackDispatch_of_not_run, ?dispatched, ?waits⟩
    case dispatched =>
      intro hrun hgo hpend hlate hnow htarget hflag hloud hrole
      have hexec := exec_tackDispatch_of_entered hdue hstep hent hrun hgo
      have htk := State.dispatchTack_gpio (s := s.releaseTacks d.pos []) d.pos htarget hlate hflag hloud
      rw [State.dueTacks_of_due hpend hnow, List.foldl_cons, List.foldl_nil, htk] at hexec
      obtain ⟨⟨_, _, htack⟩, hinfra⟩ := State.endDispatch_of_nothing_due
        (((s.releaseTacks d.pos []).digestTack tk).gpioTack tk.tparam (fieldBE (tk.payload.take tk.plen) 0 1))
        d.pos rfl hrole
      refine ⟨_, hexec, ?_⟩
      rw [htack, hinfra, ← State.digestBytes_gpio htarget]
      exact ⟨State.releaseTacks_of_due hpend hnow [], rfl, rfl, rfl, rfl, rfl⟩
    case waits =>
      intro hrun hgo hpend hlate hlater hrole
      have hexec := exec_tackDispatch_of_entered hdue hstep hent hrun hgo
      rw [State.dueTacks_of_not_due hpend hlate hlater, List.foldl_nil] at hexec
      obtain ⟨⟨_, _, htack⟩, hinfra⟩ :=
        State.endDispatch_of_nothing_due (s.releaseTacks d.pos []) d.pos rfl hrole
      refine ⟨_, hexec, ?_⟩
      rw [htack, hinfra]
      exact ⟨State.releaseTacks_of_not_due hpend hlate hlater [], rfl, rfl, rfl⟩

end Sys2Proof.Machine
end

section
/-! PROOFS. The operations of the Last (chapter 2): what a move between rate sources, the end of a correction, a
tick of rate, a publication and the governing stream each change, and what they leave. -/

namespace Sys2Proof.Machine

open Sys2Proof

/-! ### The register file and its writes -/

/-- In canonical registers the register set reads what was set. -/
theorem State.reg_setReg_self {s : State} {a : Nat} {v : Word} (h : regsWf s.regs = true) :
    (s.setReg a v).reg a = v := by
  change sget (regReset a) (sput (regReset a) s.regs a v) a = v
  generalize s.regs = m at h
  induction m with
  | nil => simp only [sput]; split <;> simp_all [sget]
  | cons e m ih =>
    obtain ⟨k, w⟩ := e
    obtain ⟨_, hk, hm⟩ := regsWf_cons.mp h
    by_cases hv : v = regReset a
    · simp only [sput, if_pos hv]
      split
      · next ha => exact hv ▸ sget_above (above_cons.mpr ⟨ha, fun e he => Nat.lt_trans ha (hk e he)⟩)
      · split
        · next ha => exact hv ▸ sget_above (ha ▸ hk)
        · next ha => simp only [sget, if_neg ha, ih hm]
    · exact sget_sput_ne_default hv

theorem State.busWrite_accepted {s : State} (h : s.answers = true) (code : Nat) (data : List Byte) (always : Bool)
    (f : State → State) : s.busWrite code data none .good always f = f s := by
  simp [busWrite, busGate, h, pecCheck]

theorem natBE_two_lt (x y : Byte) : natBE [x, y] < 65536 := by
  have hx := x.isLt
  have hy := y.isLt
  simp only [natBE, List.foldl_cons, List.foldl_nil]
  omega

theorem fieldBE_two_lt (bs : List Byte) (i : Nat) : fieldBE bs i 2 < 65536 := natBE_two_lt _ _

namespace State

variable {s : State}

theorem up_bench_iff : s.up .bench = true ↔ s.supply.dom[2] = .up := by
  change (some s.supply.dom[2] == some DomMode.up) = true ↔ _
  rw [beq_iff_eq, Option.some.injEq]

theorem stopped_iff : s.stopped = true ↔ s.last.mode = .stopped := beq_iff_eq

/-- The Last has no edges when it is stopped or its domain is not up (R77). -/
theorem no_edges_iff :
    (s.stopped = true ∨ s.up .bench = false) ↔ ¬(s.last.mode ≠ .stopped ∧ s.supply.dom[2] = .up) := by
  rw [← Bool.not_eq_true, up_bench_iff, stopped_iff, Decidable.not_and_iff_or_not, Decidable.not_not]

/-! ### Events of the Last -/

@[simp] theorem raiseLast_last (s : State) (e : Event) : (s.raiseLast e).last = s.last := by
  simp only [raiseLast]
  split <;> simp

@[simp] theorem raiseLast_regs (s : State) (e : Event) : (s.raiseLast e).regs = s.regs := by
  simp only [raiseLast]
  split <;> simp

@[simp] theorem lastEvt_last (s : State) (bits : Nat) :
    (s.lastEvt bits).last = { s.last with evt := s.last.evt ||| bits } := by
  simp [lastEvt]

@[simp] theorem lastEvt_regs (s : State) (bits : Nat) : (s.lastEvt bits).regs = s.regs := by
  simp [lastEvt]

@[simp] theorem lastLoss_last (s : State) (change : Nat) (a b : Source) : (s.lastLoss change a b).last = s.last :=
  s.raiseLast_last _

@[simp] theorem lastLoss_regs (s : State) (change : Nat) (a b : Source) : (s.lastLoss change a b).regs = s.regs :=
  s.raiseLast_regs _

@[simp] theorem governReply_last (s : State) (id status reason : Nat) :
    (s.governReply id status reason).last = s.last :=
  s.reply_last _ _ _ _

@[simp] theorem governReply_regs (s : State) (id status reason : Nat) :
    (s.governReply id status reason).regs = s.regs :=
  s.reply_regs _ _ _ _

end State

/-! ### Moves between rate sources -/

/-- Two states of the Last in the same place: at the same PP, in the same mode, with the same requests waiting. -/
structure Last.SamePlace (l m : Last) : Prop where
  pp : m.pp = l.pp
  mode : m.mode = l.mode
  govReqs : m.govReqs = l.govReqs
  govWrite : m.govWrite = l.govWrite

theorem Last.SamePlace.refl (l : Last) : l.SamePlace l := ⟨rfl, rfl, rfl, rfl⟩

theorem Last.SamePlace.trans {l m n : Last} (h : l.SamePlace m) (k : m.SamePlace n) : l.SamePlace n :=
  ⟨k.pp.trans h.pp, k.mode.trans h.mode, k.govReqs.trans h.govReqs, k.govWrite.trans h.govWrite⟩

namespace State

theorem moveTo_samePlace (s : State) (x : Source) : s.last.SamePlace (s.moveTo x).last := by
  simp only [moveTo]
  split
  · exact .refl _
  · split
    · constructor <;> simp
    · split <;> constructor <;> simp

@[simp] theorem moveTo_src (s : State) (x : Source) : (s.moveTo x).last.src = x := by
  simp only [moveTo]
  split
  · next h => exact h.symm
  · split
    · simp
    · split <;> simp

@[simp] theorem moveTo_regs (s : State) (x : Source) : (s.moveTo x).regs = s.regs := by
  simp only [moveTo]
  split
  · rfl
  · split
    · simp
    · split <;> simp

theorem bestSource_of_edges {s : State} (hgo : s.last.mode ≠ .stopped) (hup : s.supply.dom[2] = .up) :
    s.bestSource = s.moveTo (s.sources.headD .localRef) :=
  if_neg fun h => no_edges_iff.mp h ⟨hgo, hup⟩

/-- A Last that resumes goes on from the frozen PP in the mode that the stop interrupted (R79). -/
theorem resumeLast_last {s : State} (hstop : s.last.mode = .stopped) (href : s.clk.refOk = true)
    (hup : s.supply.dom[2] = .up) : s.resumeLast.last = { s.last with
      mode := s.last.resume, src := s.sources.headD .localRef, trimEdges := 0, frEdges := 0, frRaised := false } := by
  simp only [resumeLast]
  rw [if_pos ⟨stopped_iff.mpr hstop, href, up_bench_iff.mpr hup⟩, lastLoss_last]

theorem watchSource_samePlace (s : State) : s.last.SamePlace s.watchSource.last := by
  simp only [watchSource]
  split
  · exact .refl _
  · exact moveTo_samePlace s _

@[simp] theorem watchSource_regs (s : State) : s.watchSource.regs = s.regs := by
  simp only [watchSource]
  split <;> simp

/-! ### The governing carrier and stream -/

theorem setGovCarrier_samePlace (s : State) (c : Option Nat) : s.last.SamePlace (s.setGovCarrier c).last := by
  simp only [setGovCarrier]
  split
  · exact .refl _
  · refine .trans ?_ (watchSource_samePlace _)
    exact ⟨rfl, rfl, rfl, rfl⟩

@[simp] theorem setGovCarrier_regs (s : State) (c : Option Nat) : (s.setGovCarrier c).regs = s.regs := by
  simp only [setGovCarrier]
  split <;> simp

theorem setGoverning_samePlace (s : State) (id : Nat) : s.last.SamePlace (s.setGoverning id).last := by
  simp only [setGoverning]
  split
  · exact .refl _
  · refine .trans ?_ (watchSource_samePlace _)
    split
    · exact ⟨rfl, rfl, rfl, rfl⟩
    · refine .trans ?_ (setGovCarrier_samePlace _ _)
      exact ⟨rfl, rfl, rfl, rfl⟩

theorem governing_congr {s t : State} (h : t.regs = s.regs) : t.governing = s.governing := by
  simp only [governing, fld, reg, h]

theorem governing_setReg {s : State} {id : Nat} (h : regsWf s.regs = true) (hid : id < 65536) :
    (s.setReg 0x101 (BitVec.ofNat 32 id)).governing = id := by
  rw [governing, fld_low_half, reg_setReg_self h, BitVec.toNat_ofNat]
  omega

/-- The governing stream set is the one that governs (R50). -/
theorem setGoverning_governing {s : State} {id : Nat} (h : regsWf s.regs = true) (hid : id < 65536) :
    (s.setGoverning id).governing = id := by
  simp only [setGoverning]
  split
  · next heq => exact heq.symm
  · refine .trans (governing_congr ?_) (governing_setReg h hid)
    split <;> simp

/-- A host write of LAST_GOV in effect (R827). -/
theorem applyGovWrite_of_some {s : State} {v : Word} (h : s.last.govWrite = some v) :
    s.applyGovWrite = ({ s with last.govWrite := none } : State).setGoverning v.toNat := by
  simp only [applyGovWrite, h]

/-! ### Corrections -/

theorem corrNow_of_hold {l : Last} (h : l.mode = .hold) : l.corrNow = l.corr - (l.total - l.rem : Nat) := by
  simp [Last.corrNow, h]

theorem corrNow_of_slew {l : Last} (h : l.mode = .slew) : l.corrNow = l.corr + (l.total - l.rem : Nat) := by
  simp [Last.corrNow, h]

/-- A correction that ends leaves the Last in TRACK where it stands, and may end a bleed (R64, R489). -/
theorem endCorrection_eq (s : State) : ∃ f, f.offsets = s.follow.offsets ∧ s.endCorrection = { s with
    last := { s.last with corr := s.last.corrNow, mode := .track, rem := 0, total := 0, rate := 0 }
    follow := f } := by
  simp only [endCorrection]
  split
  · exact ⟨{ s.follow with bleeding := false, bleedEdge := s.last.edge }, rfl, rfl⟩
  · exact ⟨s.follow, rfl, rfl⟩

/-- A correction that has run its whole length ends at the same PP. -/
theorem completeCorrection_eq (s : State) : ∃ f, s.completeCorrection = { s with
    last := { s.last with
      corr := ({ s.last with rem := 0 } : Last).corrNow, mode := .track, rem := 0, total := 0, rate := 0 }
    follow := f } := by
  obtain ⟨f, _, h⟩ := endCorrection_eq { s with last.rem := 0 }
  exact ⟨f, h⟩

/-- A hold begins where the correction before it ends, and moves no offset (Table 2-4). -/
theorem startHold_frame (s : State) (x : Nat) :
    (s.startHold x).last.mode = .hold ∧ (s.startHold x).last.rem = x ∧ (s.startHold x).last.pp = s.last.pp ∧
      (s.startHold x).follow.offsets = s.follow.offsets := by
  obtain ⟨f, hoff, h⟩ := s.endCorrection_eq
  simp only [startHold, h, hoff, and_self]

/-! ### One tick of rate -/

section Rate

variable {s : State}

theorem closeCorrection_of_track (h : s.last.mode = .track) : s.closeCorrection = s :=
  if_neg fun hc => by simp [h] at hc

theorem closeCorrection_of_outstanding (h : s.last.rem ≠ 0) : s.closeCorrection = s := if_neg fun hc => h hc.2

theorem rateTick_of_track (h : s.last.mode = .track) : s.rateTick = (65536, s) := by
  simp only [rateTick, closeCorrection_of_track h, h]

/-- A hold with a whole tick left takes all of it out (R57). -/
theorem rateTick_of_hold (h : s.last.mode = .hold) (hrem : 65536 ≤ s.last.rem) :
    s.rateTick = (0, { s with last.rem := s.last.rem - 65536 }) := by
  simp only [rateTick, closeCorrection_of_outstanding (by omega : s.last.rem ≠ 0), h, Nat.min_eq_left hrem,
    Nat.sub_self, Nat.lt_irrefl, if_false]

/-- A hold with less than a tick left leaves the rest of the tick to the position, and ends. -/
theorem rateTick_of_hold_end (h : s.last.mode = .hold) (hrem : s.last.rem < 65536) (hpos : 0 < s.last.rem) :
    s.rateTick = (65536 - s.last.rem, ({ s with last.rem := 0 } : State).completeCorrection) := by
  simp only [rateTick, closeCorrection_of_outstanding (Nat.pos_iff_ne_zero.mp hpos), h,
    Nat.min_eq_right (Nat.le_of_lt hrem), if_pos hrem, Nat.sub_self]

/-- A slew with as much left adds one in SLEW to the tick (R59). -/
theorem rateTick_of_slew (h : s.last.mode = .slew) (hrem : 65536 / s.last.rate ≤ s.last.rem)
    (hne : s.last.rem ≠ 0) :
    s.rateTick = (65536 + 65536 / s.last.rate, { s with last.rem := s.last.rem - 65536 / s.last.rate }) := by
  simp only [rateTick, closeCorrection_of_outstanding hne, h, Nat.min_eq_left hrem, Nat.lt_irrefl, if_false]

/-- The position moved by what the tick of rate gives, away from the end of the 48 bits of PP (R35, R59). -/
theorem advance_of_rateTick {t : State} {d : Nat} (h : s.rateTick = (d, t)) (hpp : t.last.pp < 2 ^ 48 - 3)
    (hd : t.last.frac + d < 3 * 65536) :
    s.advance = ((t.last.frac + d) / 65536, { t with last.frac := (t.last.frac + d) % 65536 }) := by
  have hq : Nat.min (2 ^ 64 - 1) (t.last.pp * 65536 + t.last.frac + d) = t.last.pp * 65536 + t.last.frac + d :=
    Nat.min_eq_right (by omega)
  have hdiv : (t.last.pp * 65536 + t.last.frac + d) / 65536 - t.last.pp = (t.last.frac + d) / 65536 := by omega
  have hmod : (t.last.pp * 65536 + t.last.frac + d) % 65536 = (t.last.frac + d) % 65536 := by omega
  simp only [advance, h, position, hq, hdiv, hmod]

/-- The same for a tick of rate that changes what is outstanding and nothing else. -/
theorem advance_of_outstanding {d left : Nat} (h : s.rateTick = (d, { s with last.rem := left }))
    (hpp : s.last.pp < 2 ^ 48 - 3) (hd : s.last.frac + d < 3 * 65536) :
    s.advance = ((s.last.frac + d) / 65536,
      { s with last := { s.last with rem := left, frac := (s.last.frac + d) % 65536 } }) :=
  advance_of_rateTick h hpp hd

section Advance

variable (hpp : s.last.pp < 2 ^ 48 - 3) (hfrac : s.last.frac < 65536)

include hpp hfrac

theorem advance_of_track (h : s.last.mode = .track) : s.advance = (1, s) := by
  have hone : (s.last.frac + 65536) / 65536 = 1 := by omega
  have hsame : (s.last.frac + 65536) % 65536 = s.last.frac := by omega
  rw [advance_of_rateTick (rateTick_of_track h) hpp (by omega), hone, hsame]

theorem advance_of_hold (h : s.last.mode = .hold) (hrem : 65536 ≤ s.last.rem) :
    s.advance = (0, { s with last.rem := s.last.rem - 65536 }) := by
  rw [advance_of_outstanding (rateTick_of_hold h hrem) hpp (by omega), Nat.add_zero, Nat.div_eq_of_lt hfrac,
    Nat.mod_eq_of_lt hfrac]

theorem advance_of_hold_end (h : s.last.mode = .hold) (hrem : s.last.rem < 65536) (hpos : 0 < s.last.rem) :
    let q := s.last.frac + (65536 - s.last.rem)
    ∃ c f, s.advance = (q / 65536, { s with
      last := { s.last with frac := q % 65536, corr := c, mode := .track, rem := 0, total := 0, rate := 0 }
      follow := f }) := by
  obtain ⟨f, hend⟩ := completeCorrection_eq { s with last.rem := 0 }
  have htick := rateTick_of_hold_end h hrem hpos
  rw [hend] at htick
  have hlt : s.last.frac + (65536 - s.last.rem) < 3 * 65536 := by omega
  exact ⟨_, f, advance_of_rateTick htick hpp hlt⟩

theorem advance_of_slew (h : s.last.mode = .slew) (hrate : 64 ≤ s.last.rate)
    (hrem : 65536 / s.last.rate ≤ s.last.rem) (hne : s.last.rem ≠ 0) :
    s.advance = ((s.last.frac + 65536 + 65536 / s.last.rate) / 65536, { s with last := { s.last with
      rem := s.last.rem - 65536 / s.last.rate, frac := (s.last.frac + 65536 / s.last.rate) % 65536 } }) := by
  have hgain : 65536 / s.last.rate ≤ 65536 / 64 := Nat.div_le_div_left hrate (by decide)
  have hmod : (s.last.frac + (65536 + 65536 / s.last.rate)) % 65536 =
      (s.last.frac + 65536 / s.last.rate) % 65536 := by omega
  rw [advance_of_outstanding (rateTick_of_slew h hrem hne) hpp (by omega), hmod, Nat.add_assoc]

end Advance

end Rate

/-! ### Publication leaves the rest of the Last -/

/-- A fold whose steps leave the Last leaves it. -/
theorem foldl_last {α : Type} {f : State → α → State} (hf : ∀ s a, (f s a).last = s.last) (xs : List α)
    (s : State) : (xs.foldl f s).last = s.last :=
  foldl_leaves (R := fun s t => t.last = s.last) f xs (fun _ => rfl) (fun h k => k.trans h) hf s

@[simp] theorem watchLag_last (s : State) : s.watchLag.last = s.last := by
  obtain ⟨x, b, h | h⟩ := s.watchLag_cases <;> simp [h, withLag]

@[simp] theorem watchTacks_last (s : State) : s.watchTacks.last = s.last := by
  simp only [watchTacks]
  split
  · split <;> simp
  · rfl

@[simp] theorem complete_last (s : State) (t : Tack) (status reason : Nat) (p : Pos) (lateness : Nat) :
    (s.complete t status reason p lateness).last = s.last := by
  simp only [complete]
  split <;> simp

@[simp] theorem applyStep_last (s : State) (st : StepMade) : (s.applyStep st).last = s.last := by
  simp only [applyStep, watchTacks_last]
  exact foldl_last (fun _ _ => complete_last _ _ _ _ _ _) _ _

@[simp] theorem digestReport_last (s : State) (p : Pos) : (s.digestReport p).last = s.last := by
  simp only [digestReport]
  rw [apply_ite State.last]
  simp

@[simp] theorem enterAt_last (s : State) (d : Due) : (s.enterAt d).last = s.last := by
  simp only [enterAt, watchTacks_last]
  rw [foldl_last, foldl_last, watchTacks_last, foldl_last]
  · exact fun _ _ => complete_last _ _ _ _ _ _
  · intro s t
    split <;> simp
  · intro s t
    split
    · rfl
    · split <;> simp

@[simp] theorem storeWork_last (s : State) : s.storeWork.last = s.last := by
  simp only [storeWork]
  split
  · rfl
  · next d ds _ =>
    have hsteps : (d.steps.foldl (fun s st => s.applyStep st) s).last = s.last := foldl_last applyStep_last _ _
    simp only [apply_ite State.last, enterAt_last, ite_self]
    split
    · rfl
    · split
      · simp only [apply_ite State.last, digestReport_last, ite_self, hsteps]
      · exact hsteps

@[simp] theorem storePublish_last (s : State) (step : Option Nat) : (s.storePublish step).last = s.last := by
  simp only [storePublish]
  split
  · rfl
  · simp

/-- A position of the present epoch published: the Last takes its PP, and nothing else of it changes. -/
theorem publish_last (s : State) (p : Pos) (step : Option Nat) (h : p.epoch = s.last.epoch) :
    (s.publish p step).last = { s.last with pp := p.pp } := by
  simp only [publish, if_pos h]
  simp only [apply_ite State.last, storePublish_last, watchLag_last, mirror_last, ite_self, h]

theorem publishNext_last (s : State) : s.publishNext.last = { s.last with pp := s.last.pp + 1 } :=
  s.publish_last _ none rfl

end State

end Sys2Proof.Machine
end

section
/-! PROOFS. The rows of the Last (chapter 2): tick edges, the ends of corrections, the sources and the trim, and the
governing stream. -/

namespace Sys2Proof.Machine

open Sys2Proof

section Edge

variable {s : State}

/-! ### The tick edge -/

theorem exec_tickEdge (hup : s.supply.dom[2] = .up) (hgo : s.last.mode ≠ .stopped) :
    let u := s.countEdge.bestSource.countSource
    exec .tickEdge s = .next (if u.welt.role = .standby then u.edgeWork
      else (u.advance.2.publishEdges u.advance.1).pulseSync).watchSource :=
  congrArg Host.Outcome.next (if_neg fun h => State.no_edges_iff.mp h.symm ⟨hgo, hup⟩)

theorem exec_tickEdge_of_no_edges (h : s.supply.dom[2] ≠ .up ∨ s.last.mode = .stopped) :
    exec .tickEdge s = .next s :=
  congrArg Host.Outcome.next (if_pos (State.no_edges_iff.mpr fun ⟨hgo, hup⟩ => h.elim (· hup) hgo).symm)

end Edge

/-- Settles O20: the edge by whether there is one, its work and the published PPs by definition, and the position by
what each mode's tick of rate adds. -/
theorem tickEdgesPublishAsTheModeSays : Obligations.TickEdgesPublishAsTheModeSays := by
  unfold Obligations.TickEdgesPublishAsTheModeSays
  refine ⟨fun s => ⟨exec_tickEdge, exec_tickEdge_of_no_edges⟩, fun s => rfl,
    fun s => ⟨rfl, rfl, rfl, ?pp, ?epoch⟩, fun s hpp hfrac => ⟨State.advance_of_track hpp hfrac,
      State.advance_of_hold hpp hfrac, ?holdEnd, State.advance_of_slew hpp hfrac⟩⟩
  case pp => rw [s.publishNext_last]
  case epoch => rw [s.publishNext_last]
  case holdEnd =>
    intro hmode hrem hpos
    obtain ⟨_, _, hadv⟩ := State.advance_of_hold_end hpp hfrac hmode hrem hpos
    simp only [hadv, and_self]

/-! ### The ends of corrections, the sources and the trim -/

section Rows

variable {s : State}

theorem exec_holdEnd (hmode : s.last.mode = .hold) (hrem : s.last.rem = 0) :
    exec .holdEnd s = .next s.completeCorrection := congrArg Host.Outcome.next (if_pos ⟨hmode, hrem⟩)

theorem exec_slewEnd (hmode : s.last.mode = .slew) (hrem : s.last.rem = 0) :
    exec .slewEnd s = .next s.completeCorrection := congrArg Host.Outcome.next (if_pos ⟨hmode, hrem⟩)

theorem exec_sourceQualify_of_going (hgo : s.last.mode ≠ .stopped) (hup : s.supply.dom[2] = .up) :
    exec .sourceQualify s = .next (s.moveTo (s.sources.headD .localRef)) := by
  rw [← State.bestSource_of_edges hgo hup]
  exact congrArg Host.Outcome.next (if_neg fun h => hgo (State.stopped_iff.mp h))

theorem exec_sourceQualify_of_stopped (hstop : s.last.mode = .stopped) :
    exec .sourceQualify s = .next s.resumeLast :=
  congrArg Host.Outcome.next (if_pos (State.stopped_iff.mpr hstop))

theorem exec_trimMeasure (trim : Int) (h : 7296 ≤ s.last.trimEdges) :
    exec (.trimMeasure trim) s = .next { s with last := { s.last with
      trim := trim, trimValid := true, trimEdges := s.last.trimEdges - 7296 } } :=
  congrArg Host.Outcome.next (if_pos h)

/-- FRLIMIT is the upper half of LAST_CTRL. -/
theorem State.fld_high_half (s : State) (a : Nat) : s.fld a 31 16 = (s.reg a).toNat / 65536 := by
  have h := (s.reg a).isLt
  simp only [State.fld, Word.bits, Nat.shiftRight_eq_div_pow]
  omega

theorem exec_frlimitReached (hsrc : s.last.src = .localRef) (honce : s.last.frRaised = false)
    (hlimit : (Nat.max 1 ((s.reg 0x100).toNat / 65536)) * 456 ≤ s.last.frEdges) :
    exec .frlimitReached s = .next (((({ s with last.frRaised := true } : State).lastEvt 16).note 0x2103).lastLoss
      3 .localRef .localRef) := by
  rw [← State.fld_high_half] at hlimit
  exact congrArg Host.Outcome.next (if_pos ⟨hsrc, honce, hlimit⟩)

end Rows

/-- Settles O22: a correction's end by `completeCorrection_eq` and its total as `corrNow` counts it, the sources by
what a move and a resumption make of the Last, the trim and the free-run through their rows. -/
theorem lastRowsComplete : Obligations.LastRowsComplete := by
  unfold Obligations.LastRowsComplete
  intro s trim
  obtain ⟨f, hend⟩ := s.completeCorrection_eq
  refine ⟨?holdEnd, ?slewEnd, ?qualify, ?resume, exec_trimMeasure trim, ?frlimit⟩
  case holdEnd =>
    intro hmode hrem
    refine ⟨_, exec_holdEnd hmode hrem, ?_⟩
    rw [hend]
    exact ⟨rfl, rfl, rfl, rfl, rfl, State.corrNow_of_hold hmode⟩
  case slewEnd =>
    intro hmode hrem
    refine ⟨_, exec_slewEnd hmode hrem, ?_⟩
    rw [hend]
    exact ⟨rfl, rfl, rfl, rfl, rfl, State.corrNow_of_slew hmode⟩
  case qualify =>
    intro hgo hup
    have hplace := s.moveTo_samePlace (s.sources.headD .localRef)
    exact ⟨_, exec_sourceQualify_of_going hgo hup, s.moveTo_src _, hplace.pp, hplace.mode⟩
  case resume =>
    intro hstop hup href
    refine ⟨_, exec_sourceQualify_of_stopped hstop, ?_⟩
    rw [State.resumeLast_last hstop href hup]
    exact ⟨rfl, rfl, rfl⟩
  case frlimit =>
    intro hsrc honce hlimit
    refine ⟨_, exec_frlimitReached hsrc honce hlimit, ?_⟩
    simp only [State.lastLoss_last, State.note_last, State.lastEvt_last, and_self]

/-! ### The governing stream -/

section Governing

variable {s : State}

theorem State.governDue_of_reached {r : Req} (hedge : r.edge < s.last.edge) (happ : r.app ≤ s.last.pp) :
    s.governDue r = true := by
  simp [governDue, hedge, happ]

/-- One good GOVERN request whose edge has come: LAST_GOV is set and the reply given (R50). -/
theorem exec_governApply {r : Req} (hreq : s.last.govReqs = [r]) (hdue : s.governDue r = true)
    (hgood : State.governBad r.blk = false) :
    exec .governApply s = .next ((({ s with last.govReqs := [] } : State).setGoverning
      (fieldBE r.blk 0 2)).governReply r.id stOk 0) := by
  change execGovernApply s = _
  simp [execGovernApply, hreq, hdue, hgood]

theorem State.writeRefusal_lastGov (hup : s.supply.dom[2] = .up) : s.writeRefusal 0x101 = none := by
  have hline : (regLine 0x101).isNone = false := by decide
  have hdom : s.domainRefusal (regDomain 0x101) = none := domainRefusal_bench_of_up hup
  simp [writeRefusal, regRefusal, hline, hdom]

theorem State.regWrite_lastGov (v : Word) :
    s.regWrite 0x101 v = { s with last.govWrite := some (v &&& 0xFFFF) } := by
  have hline : regLine 0x101 = some (cfgLine 0x101 0x101 0xFFFF#32) := by decide
  simp only [regWrite, hline]
  rfl

theorem exec_lastGovWrite (v : Word) (h : s.answers = true) (hup : s.supply.dom[2] = .up) :
    exec (.lastGovWrite v .good) s = .next { s with last := { s.last with govWrite := some (v &&& 0xFFFF) } } := by
  change Host.Outcome.next (s.busRegWrite 0x101 v .good) = _
  rw [State.busRegWrite, State.writeRefusal_lastGov hup, State.busWrite_accepted h, State.regWrite_lastGov]

theorem toNat_low_half (v : Word) : (v &&& 0xFFFF).toNat = v.toNat % 65536 := by
  rw [BitVec.toNat_and]
  exact Nat.and_two_pow_sub_one_eq_mod _ 16

/-- With a tick or more to take out, a bleed correction begins a hold of one tick and takes that tick out of every
valid offset (R489). -/
theorem exec_bleedCorrection {c : Nat} {o : Offset} (hbleed : s.follow.bleed = true)
    (hrole : s.welt.role ≠ .standby) (hmode : s.last.mode = .track) (hpend : s.last.pendErrs = [])
    (hsrc : s.last.src ≠ .localRef)
    (hwait : s.follow.bleedEdge + (s.reg 0xC40).toNat / 256 % 1024 ≤ s.last.edge)
    (hcar : s.last.govCarrier = some c) (hoff : s.offsetOf c = (o.off, o.valid)) (hbig : 65536 ≤ o.off) :
    exec .bleedCorrection s = .next { s.startHold 65536 with
      follow := { (s.startHold 65536).follow with
        bleeding := true
        offsets := (s.startHold 65536).follow.offsets.map fun (o : Offset) =>
          if o.valid then { o with off := o.off - 65536 } else o } } := by
  have hfld : s.fld 0xC40 17 8 = (s.reg 0xC40).toNat / 256 % 1024 := by
    simp [State.fld, Word.bits, Nat.shiftRight_eq_div_pow]
  have hpos : 0 < o.off := by omega
  have hnat : ¬ o.off.natAbs < 65536 := by omega
  change execBleedCorrection s = _
  simp [execBleedCorrection, hbleed, hrole, hmode, hpend, hsrc, hfld, hwait, hcar, hoff, hpos, hnat]

theorem State.offsetOf_single {c : Nat} {o : Offset} (h : s.follow.offsets = [o]) (hc : o.carrier = c) :
    s.offsetOf c = (o.off, o.valid) := by
  simp [offsetOf, h, hc]

end Governing

/-- Settles O23: what governs after `setGoverning`, by the request and by the host's write, and the hold that a bleed
correction begins. -/
theorem governingRowsComplete : Obligations.GoverningRowsComplete := by
  unfold Obligations.GoverningRowsComplete
  intro s r v c o
  refine ⟨?govern, exec_lastGovWrite v, ?write, ?bleed⟩
  case govern =>
    intro hwf hreq hedge happ hgood
    refine ⟨_, exec_governApply hreq (State.governDue_of_reached hedge happ) hgood, ?_⟩
    have hplace := State.setGoverning_samePlace { s with last.govReqs := [] } (fieldBE r.blk 0 2)
    rw [State.governReply_last, State.governing_congr (State.governReply_regs _ _ _ _)]
    exact ⟨hplace.govReqs, State.setGoverning_governing hwf (fieldBE_two_lt _ _), hplace.pp⟩
  case write =>
    intro hwf hwrite
    have hplace := State.setGoverning_samePlace { s with last.govWrite := none } (v &&& 0xFFFF).toNat
    rw [State.applyGovWrite_of_some hwrite, ← toNat_low_half]
    exact ⟨State.setGoverning_governing hwf (by rw [toNat_low_half]; omega), hplace.govWrite, hplace.pp⟩
  case bleed =>
    intro hbleed hrole hmode hpend hsrc hwait hcar hoffs hc hvalid hbig
    obtain ⟨hhold, hrem, hpp, hkept⟩ := s.startHold_frame 65536
    refine ⟨_, exec_bleedCorrection hbleed hrole hmode hpend hsrc hwait hcar (State.offsetOf_single hoffs hc) hbig,
      hhold, hrem, hpp, ?_, rfl⟩
    simp [hkept, hoffs, hvalid]

end Sys2Proof.Machine
end

section
/-! PROOFS. The operations of record intake (chapter 3): what a stream's entry becomes, what the records of a batch
and the numbers declared lost give, and how a record reaches the benches of its route. -/

namespace Sys2Proof.Machine

open Sys2Proof

/-! ### Registers and sequence numbers -/

/-- A field of a register by division: its low bits dropped, then its width kept. -/
theorem State.fld_eq (s : State) (a hi lo : Nat) :
    s.fld a hi lo = (s.reg a).toNat / 2 ^ lo % 2 ^ (hi + 1 - lo) := by
  rw [fld, Word.bits, Nat.shiftRight_eq_div_pow]

/-- A batch taken changes the keys of its stream's entry at most. -/
theorem Stream.keyed_frame (e : Stream) (b : Batch) : ∃ k n, e.keyed b = { e with key := k, nextKey := n } := by
  simp only [keyed]
  split
  · exact ⟨_, _, rfl⟩
  · split <;> exact ⟨_, _, rfl⟩

@[simp] theorem Stream.keyed_id (e : Stream) (b : Batch) : (e.keyed b).id = e.id := by
  obtain ⟨_, _, h⟩ := e.keyed_frame b
  rw [h]

@[simp] theorem Stream.keyed_judge (e : Stream) (b : Batch) (n : Nat) : (e.keyed b).judge n = e.judge n := by
  obtain ⟨_, _, h⟩ := e.keyed_frame b
  rw [h, judge, judge]

@[simp] theorem Stream.keyed_mark_lost (e : Stream) (b : Batch) (n t : Nat) :
    ((e.keyed b).mark n t).2 = (e.mark n t).2 := by
  obtain ⟨_, _, h⟩ := e.keyed_frame b
  simp only [h, mark]
  split <;> rfl

namespace State

theorem expireGap_of_all_fresh {gap edge : Nat} {e : Stream} (h : ∀ m ∈ e.missing, edge < m.2 + gap) :
    expireGap gap edge e = (e, []) := by
  have hold : e.missing.filter (fun m => decide (m.2 + gap ≤ edge)) = [] :=
    List.filter_eq_nil_iff.mpr fun m hm => by simpa using h m hm
  have hrest : e.missing.filter (fun m => !decide (m.2 + gap ≤ edge)) = e.missing :=
    List.filter_eq_self.mpr fun m hm => by simpa using h m hm
  simp only [expireGap, hold, hrest, List.map_nil, List.nil_append]

theorem expireGap_of_one_old {gap edge n m : Nat} {e : Stream} (hmiss : e.missing = [(n, m)])
    (hold : m + gap ≤ edge) : expireGap gap edge e = ({ e with seen := n :: e.seen, missing := [] }, [n]) := by
  simp [expireGap, hmiss, hold]

/-! ### Stream entries -/

variable {s : State}

theorem id_of_streamOf {k : Nat} {x : Stream} (h : s.streamOf k = some x) : x.id = k := by
  simpa using List.find?_some h

/-- The entry of the one stream there is, replaced. -/
theorem putStream_of_sole {x e : Stream} (h : s.intake.streams = [x]) (hid : e.id = x.id) :
    s.putStream e = { s with intake := { s.intake with streams := [e] } } := by
  simp [putStream, h, hid]

/-- The entry found after one is put in the place of that stream's is the one put. -/
theorem streamOf_putStream {x e : Stream} (h : s.streamOf e.id = some x) : (s.putStream e).streamOf e.id = some e := by
  have hany : (s.intake.streams.any fun f => f.id == e.id) = true :=
    List.any_eq_true.mpr ⟨x, List.mem_of_find?_eq_some h, beq_iff_eq.mpr (id_of_streamOf h)⟩
  rw [streamOf] at h
  simp only [putStream, hany, if_true, streamOf]
  generalize s.intake.streams = fs at h
  induction fs with
  | nil => simp at h
  | cons f fs ih =>
    by_cases hf : f.id = e.id
    · simp [hf]
    · simp only [List.find?_cons, beq_eq_false_iff_ne.mpr hf, List.map_cons, if_neg hf] at h ⊢
      exact ih h

/-! ### Numbers declared lost -/

@[simp] theorem declareLost_nil (s : State) (e : Stream) : s.declareLost e [] = (s, []) := rfl

/-- One number declared lost is counted, and a LOSS record of it generated (R113). -/
theorem declareLost_one (s : State) (e : Stream) (n : Nat) :
    ∃ c, s.declareLost e [n] = (({ s with
      intake := { s.intake with lost := satAdd 0xFFFFFFFF s.intake.lost 1 }
      freeCtr := s.freeCtr + 1 } : State).note 0x5304, [lossRecord e (n, 1) c]) := ⟨_, rfl⟩

/-! ### The records of a batch -/

/-- A batch without records of type STAMP tells the correlations nothing. -/
theorem noteStamps_of_no_stamp {b : Batch} {o ty : Nat} {p : List Byte} (h : b.records = some [(o, ty, p)])
    (hty : ty ≠ 1) : s.noteStamps b = s := by
  simp [noteStamps, h, hty]

/-- No batch waits, so none is a held copy. -/
theorem dropHeld_of_none (h : s.intake.batches = []) (b : Batch) : s.dropHeld b = s := by
  simp only [dropHeld, h, List.filter_nil]
  rw [← h]

/-- A batch of its stream's generation meets the stream's own entry (R109). -/
theorem entryFor_of_same_gen {b : Batch} {x : Stream} (h : s.streamOf b.stream = some x) (hgen : x.gen = b.gen) :
    s.entryFor b = (s.putStream (if b.verdict == .verified then x.keyed b else x), true) := by
  have hahead : (b.gen + 256 - x.gen) % 256 = 0 := by omega
  simp only [entryFor, h, hahead, if_true]

end State

/-- A batch of one record, numbered fresh in its stream's window and no STAMP, whose contents intake takes. -/
structure Batch.OneFresh (s : State) (b : Batch) (x : Stream) (o ty : Nat) (p : List Byte) : Prop where
  records : b.records = some [(o, ty, p)]
  notStamp : ty ≠ 1
  good : State.recordBad b.carrier ty p = false
  entry : s.streamOf b.stream = some x
  gen : x.gen = b.gen
  fresh : x.judge (b.seq0 % 65536) = .fresh
  noneLost : (x.mark (b.seq0 % 65536) s.last.edge).2 = []

/-- The record that a batch of one gives. -/
def Batch.soleRecord (b : Batch) (ty : Nat) (p : List Byte) : Record :=
  ⟨b.stream, b.seq0 % 65536, b.gen, ty, p, b.carrier, !(b.verdict == .verified), false, none⟩

namespace State

variable {s : State}

/-- A fresh record is given, and of the state the stream entries alone change (R108, R111). -/
theorem takeRecord_of_fresh {b : Batch} {e : Stream} {o ty : Nat} {p : List Byte}
    (hentry : s.streamOf b.stream = some e) (hfresh : e.judge (b.seq0 % 65536) = .fresh)
    (hlost : (e.mark (b.seq0 % 65536) s.last.edge).2 = []) (hgood : recordBad b.carrier ty p = false) (hty : ty ≠ 1) :
    ∃ l, s.takeRecord b (o, ty, p) 0 = ({ s with intake := { s.intake with streams := l } }, [b.soleRecord ty p]) := by
  generalize hmark : e.mark (b.seq0 % 65536) s.last.edge = m at hlost
  obtain ⟨e', lost⟩ := m
  subst hlost
  simp only [takeRecord, hentry, Nat.add_zero, hfresh, hmark, hgood, declareLost_nil, hty, if_false, List.nil_append,
    Bool.false_eq_true]
  exact ⟨_, rfl⟩

/-- A batch of one fresh record gives that record, and of the state the stream entries alone change. -/
theorem acceptBatch_of_one_fresh {b : Batch} {x : Stream} {o ty : Nat} {p : List Byte} (h : b.OneFresh s x o ty p) :
    ∃ l, s.acceptBatch b = ({ s with intake := { s.intake with streams := l } }, [b.soleRecord ty p]) := by
  have hmet := entryFor_of_same_gen h.entry h.gen
  generalize he : (if b.verdict == .verified then x.keyed b else x) = e at hmet
  have hid : e.id = b.stream := by
    rw [← he, apply_ite Stream.id, Stream.keyed_id, ite_self, id_of_streamOf h.entry]
  have hentry : (s.putStream e).streamOf b.stream = some e := hid ▸ streamOf_putStream (hid ▸ h.entry)
  have hfresh : e.judge (b.seq0 % 65536) = .fresh := by
    rw [← he, apply_ite (Stream.judge · _), Stream.keyed_judge, ite_self, h.fresh]
  have hlost : (e.mark (b.seq0 % 65536) s.last.edge).2 = [] := by
    rw [← he, apply_ite fun y : Stream => (y.mark _ _).2, Stream.keyed_mark_lost, ite_self, h.noneLost]
  obtain ⟨l, htake⟩ := takeRecord_of_fresh (s := s.putStream e) (o := o) hentry hfresh hlost h.good h.notStamp
  refine ⟨l, ?_⟩
  simp only [acceptBatch, hmet, h.records, List.foldl_cons, List.foldl_nil, htake]
  rfl

theorem takeBatch_of_one_fresh {b : Batch} {x : Stream} {o ty : Nat} {p : List Byte} (h : b.OneFresh s x o ty p)
    (hnone : s.intake.batches = []) :
    ∃ l, s.takeBatch b = ({ s with intake := { s.intake with streams := l } }, [b.soleRecord ty p]) := by
  rw [takeBatch, dropHeld_of_none hnone, ite_self, noteStamps_of_no_stamp h.records h.notStamp]
  exact acceptBatch_of_one_fresh h

/-! ### Delivery -/

theorem recordTo_frame (s : State) (mask : Nat) (e : Event) : ∃ g, s.recordTo mask e = { s with prog := g } :=
  foldl_leaves (R := fun s t => ∃ g, t = { s with prog := g }) _ _ (fun _ => ⟨_, rfl⟩)
    (by rintro s _ _ ⟨_, rfl⟩ ⟨_, rfl⟩; exact ⟨_, rfl⟩)
    (fun s b => by
      split
      · exact s.deliver_frame b e
      · exact ⟨_, rfl⟩) s

/-- A record delivered touches the program plane and the welt alone (R117, R726). -/
theorem deliverRecord_frame (s : State) (r : Record) :
    ∃ g w, s.deliverRecord r = { s with prog := g, welt := w } := by
  simp only [deliverRecord]
  split
  · exact ⟨_, _, rfl⟩
  · split
    · exact ⟨_, _, rfl⟩
    · obtain ⟨g, hto⟩ := s.recordTo_frame (s.routeOf r.stream).1 (s.recordEvent r)
      rw [hto]
      obtain ⟨w, hmirror⟩ := mirror_frame { s with prog := g }
        (.record (s.recordEvent r) (s.routeOf r.stream).1)
      exact ⟨g, w, hmirror⟩

@[simp] theorem deliverRecord_last (s : State) (r : Record) : (s.deliverRecord r).last = s.last := by
  obtain ⟨_, _, h⟩ := s.deliverRecord_frame r
  rw [h]

@[simp] theorem deliverRecord_intake (s : State) (r : Record) : (s.deliverRecord r).intake = s.intake := by
  obtain ⟨_, _, h⟩ := s.deliverRecord_frame r
  rw [h]

@[simp] theorem deliverRelease_nil (s : State) : s.deliverRelease [] = s := by
  simp [deliverRelease]

/-- One record released that is no STAMP: the carrier of its stream noted if it was received, then delivered. -/
theorem deliverRelease_one (s : State) {r : Record} (hty : r.type ≠ 1) :
    s.deliverRelease [r] = (if r.generated then s else s.noteReleased r).deliverRecord r := by
  have hanchor : s.anchorOf r = r := if_neg fun h => hty h.1
  have hsteers : ∀ t : State, t.steers r = false := fun t => by simp [steers, hty]
  simp [deliverRelease, hanchor, hsteers]

/-- A stream that does not govern moves no carrier of the Last when it is released (R886). -/
theorem noteReleased_of_not_governing {r : Record} (h : s.governing ≠ r.stream) :
    s.noteReleased r = { s with intake.released := kput s.intake.released r.stream r.carrier } :=
  if_neg fun hgov => h hgov.1

/-- A record's event depends on the Last and the registers alone. -/
theorem recordEvent_congr {t : State} (hlast : t.last = s.last) (hregs : t.regs = s.regs) (r : Record) :
    t.recordEvent r = s.recordEvent r := by
  have hstopped : t.stopped = s.stopped := by simp only [stopped, hlast]
  have hpriority : ∀ c, t.priority c = s.priority c := fun c => by simp only [priority, fld, reg, hregs]
  simp only [recordEvent, recordKey, now, hlast, hstopped, hpriority]

/-- Bench 0 takes an event at once: its domain is up, it runs and its queue has room (R132). -/
structure BenchZeroReady (s : State) : Prop where
  up : s.supply.dom[2] = .up
  runs : (s.bench 0).mode = .run
  room : (s.bench 0).queue.length < 1024
  noneHeld : (s.bench 0).held = []

theorem deliver_of_ready (h : s.BenchZeroReady) (e : Event) :
    ((s.deliver 0 e).bench 0).queue = insertEvent e (s.bench 0).queue := by
  have htakes : (s.bench 0).takes = true := by simp [Bench.takes, h.runs]
  have hto : s.deliver 0 e = s.setBench 0 ((s.bench 0).enqueue e) := by
    simp [deliver, up_bench_iff.mpr h.up, htakes]
  have hqueue : ((s.bench 0).enqueue e).queue = insertEvent e (s.bench 0).queue := by
    simp [Bench.enqueue, h.room, h.noneHeld]
  rw [hto, ← hqueue]
  exact congrArg Bench.queue (bench_setBench_self s 0 _)

/-- A record on a route to bench 0 alone stands in its queue (R117). -/
theorem deliverRecord_to_bench_zero (h : s.BenchZeroReady) {r : Record} (hrole : s.welt.role ≠ .standby)
    (hroute : (s.routeOf r.stream).1 = 1) :
    ((s.deliverRecord r).bench 0).queue = insertEvent (s.recordEvent r) (s.bench 0).queue := by
  have hto : s.recordTo 1 (s.recordEvent r) = s.deliver 0 (s.recordEvent r) := rfl
  simp only [deliverRecord, hroute, Nat.one_ne_zero, hrole, if_false, hto]
  rw [bench, mirror_prog]
  exact deliver_of_ready h _

/-! ### One batch released -/

/-- The release of a batch of one fresh record, of a stream that does not govern, is the delivery of that record, with
nothing but record intake changed before it. -/
theorem releaseBatches_eq_deliverRecord {b : Batch} {x : Stream} {o ty : Nat} {p : List Byte}
    (h : b.OneFresh s x o ty p) (hnone : s.intake.batches = []) (hgov : s.governing ≠ b.stream) :
    ∃ k : Intake, k.batches = [] ∧
      s.releaseBatches [b] = ({ s with intake := k } : State).deliverRecord (b.soleRecord ty p) := by
  obtain ⟨l, htake⟩ := takeBatch_of_one_fresh h hnone
  refine ⟨{ s.intake with streams := l, released := kput s.intake.released b.stream b.carrier }, hnone, ?_⟩
  simp only [releaseBatches, List.mergeSort_singleton, List.foldl_cons, List.foldl_nil, htake, List.nil_append]
  rw [deliverRelease_one _ h.notStamp, if_neg (by simp [Batch.soleRecord])]
  exact congrArg (deliverRecord · _) (noteReleased_of_not_governing hgov)

/-- On a route to bench 0 alone that record becomes an event in the bench's queue, and the Last stands (R107, R114,
R117). -/
theorem releaseBatches_of_one_fresh {b : Batch} {x : Stream} {o ty : Nat} {p : List Byte} (h : b.OneFresh s x o ty p)
    (hnone : s.intake.batches = []) (hready : s.BenchZeroReady) (hrole : s.welt.role ≠ .standby)
    (hgov : s.governing ≠ b.stream) (hroute : (s.routeOf b.stream).1 = 1) :
    (s.releaseBatches [b]).intake.batches = [] ∧ (s.releaseBatches [b]).last = s.last ∧
      ((s.releaseBatches [b]).bench 0).queue =
        insertEvent (s.recordEvent (b.soleRecord ty p)) (s.bench 0).queue := by
  obtain ⟨k, hgone, hrelease⟩ := releaseBatches_eq_deliverRecord h hnone hgov
  have hqueue := deliverRecord_to_bench_zero (s := { s with intake := k }) (r := b.soleRecord ty p)
    ⟨hready.up, hready.runs, hready.room, hready.noneHeld⟩ hrole hroute
  rw [hrelease, deliverRecord_intake, deliverRecord_last, hqueue, recordEvent_congr (s := s) rfl rfl]
  exact ⟨hgone, rfl, rfl⟩

end State

end Sys2Proof.Machine
end

section
/-! PROOFS. The rows of record intake (chapter 3): release, the end of a wait, losses and idle entries. -/

namespace Sys2Proof.Machine

open Sys2Proof

section Rows

variable {s : State} {b : Batch}

/-! ### The release of one batch -/

/-- A VERIFIED batch is released at the first edge after it completes (R114). -/
theorem exec_intakeRelease_of_verified (hone : s.intake.batches = [b]) (hheld : b.heldTo = none)
    (hedge : b.edge < s.last.edge) (hver : b.verdict = .verified) :
    exec .intakeRelease s =
      .next (({ s with intake := { s.intake with batches := [] } } : State).releaseBatches [b]) := by
  change execIntakeRelease s = _
  simp [execIntakeRelease, hone, hheld, hedge, hver]

/-- An UNVERIFIED batch on a route that withholds ends as a withheld one (R118). -/
theorem exec_intakeRelease_of_withheld (hone : s.intake.batches = [b]) (hheld : b.heldTo = none)
    (hedge : b.edge < s.last.edge) (hver : b.verdict ≠ .verified) (hroute : (s.routeOf b.stream).2 = false) :
    exec .intakeRelease s = .next (({ s with intake := { s.intake with batches := [] } } : State).withhold b) := by
  change execIntakeRelease s = _
  simp [execIntakeRelease, hone, hheld, hedge, hver, hroute, State.releaseBatches]

/-- An UNVERIFIED batch on a FLAG route is held for UVWAIT ticks (R118). -/
theorem exec_intakeRelease_of_flagged (hone : s.intake.batches = [b]) (hheld : b.heldTo = none)
    (hedge : b.edge < s.last.edge) (hver : b.verdict ≠ .verified) (hroute : (s.routeOf b.stream).2 = true)
    (hwait : s.last.edge < b.edge + s.fld 0x282 10 0) :
    exec .intakeRelease s = .next { s with intake := { s.intake with
      batches := [{ b with heldTo := some (b.edge + s.fld 0x282 10 0) }] } } := by
  change execIntakeRelease s = _
  simp [execIntakeRelease, hone, hheld, hedge, hver, hroute, hwait, State.releaseBatches]

/-- A batch of its stream's generation that is withheld is counted by itself (R109, R118). -/
theorem State.withhold_of_same_gen (h : ∀ e, s.streamOf b.stream = some e → e.gen = b.gen) :
    s.withhold b = { s with intake.withheld := satAdd 0xFFFFFFFF s.intake.withheld 1 } := by
  refine if_neg fun hany => ?_
  obtain ⟨e, he, hgen⟩ := (Option.any_eq_true _ _).mp hany
  simp [h e he] at hgen

theorem exec_uvwaitExpiry_of_ended {n : Nat} (hone : s.intake.batches = [b]) (hheld : b.heldTo = some n)
    (hend : n ≤ s.last.edge) :
    exec .uvwaitExpiry s =
      .next (({ s with intake := { s.intake with batches := [] } } : State).releaseBatches [b]) := by
  change execUvwaitExpiry s = _
  simp [execUvwaitExpiry, hone, hheld, hend]

/-! ### Losses -/

/-- With one stream, its numbers that have stood for GAPTIME edges are declared lost and the LOSS records released
(R113). -/
theorem exec_gaptimeLoss_of_one {x e : Stream} {old : List Nat} {t : State} {rs : List Record}
    (hone : s.intake.streams = [x]) (hexpire : State.expireGap (max 1 (s.fld 0x282 27 16)) s.last.edge x = (e, old))
    (hid : e.id = x.id)
    (htold : ({ s with intake := { s.intake with streams := [e] } } : State).declareLost e old = (t, rs)) :
    exec .gaptimeLoss s = .next (t.deliverRelease rs) := by
  change execGaptimeLoss s = _
  simp only [execGaptimeLoss, hone, List.foldl_cons, List.foldl_nil, List.nil_append, hexpire,
    State.putStream_of_sole hone hid, htold]

end Rows

/-- Settles O24: each row by what becomes of the one batch or stream it meets. A withheld batch meets `withhold`, one
that goes is delivered by `releaseBatches_of_one_fresh`, and a number that has stood for GAPTIME edges is declared
lost by `declareLost_one`. -/
theorem intakeRowsComplete : Obligations.IntakeRowsComplete := by
  unfold Obligations.IntakeRowsComplete
  intro s b x
  have hwait : s.fld 0x282 10 0 = (s.reg 0x282).toNat % 2048 := rfl
  have hgap : s.fld 0x282 27 16 = (s.reg 0x282).toNat / 65536 % 4096 := s.fld_eq _ _ _
  refine ⟨?withheld, ?flagged, ?delivered, ?stands, ?lost, ?idle⟩
  case withheld =>
    intro hone hheld hedge hver hroute hgen
    have hcount := State.withhold_of_same_gen (s := { s with intake := { s.intake with batches := [] } }) hgen
    exact (exec_intakeRelease_of_withheld hone hheld hedge hver hroute).trans (congrArg _ hcount)
  case flagged =>
    intro hone hheld hedge hver hroute hlate
    rw [← hwait] at hlate ⊢
    exact exec_intakeRelease_of_flagged hone hheld hedge hver hroute hlate
  case delivered =>
    intro o ty p hrec hty hgood hone hentry hgen hfresh hlost hup hrole hgov hroute hrun hroom hheld delivers
    obtain ⟨hgone, hlast, hqueue⟩ := State.releaseBatches_of_one_fresh
      (s := { s with intake := { s.intake with batches := [] } })
      ⟨hrec, hty, hgood, hentry, hgen, hfresh, hlost⟩ rfl ⟨hup, hrun, hroom, hheld⟩ (by simp [hrole]) hgov hroute
    refine ⟨fun hfree hedge hver => ?_, fun n hwaits hend _ => ?_⟩
    · exact ⟨_, _, exec_intakeRelease_of_verified hone hfree hedge hver, rfl, rfl, rfl, rfl, hgone, hlast, hqueue⟩
    · exact ⟨_, _, exec_uvwaitExpiry_of_ended hone hwaits hend, rfl, rfl, rfl, rfl, hgone, hlast, hqueue⟩
  case stands =>
    intro hone hyoung
    have hexpire := hgap ▸ State.expireGap_of_all_fresh hyoung
    refine ⟨_, exec_gaptimeLoss_of_one hone hexpire rfl rfl, ?_⟩
    rw [State.deliverRelease_nil]
    exact ⟨rfl, rfl⟩
  case lost =>
    intro n m hone hmiss hold
    have hexpire := hgap ▸ State.expireGap_of_one_old hmiss hold
    obtain ⟨c, htold⟩ := State.declareLost_one _ _ n
    refine ⟨_, exec_gaptimeLoss_of_one hone hexpire rfl htold, ?_⟩
    rw [State.deliverRelease_one _ (show (0x7F : Nat) ≠ 1 by decide)]
    simp [lossRecord, satAdd]
  case idle =>
    have hidle : s.fld 0x280 31 20 = (s.reg 0x280).toNat / 2 ^ 20 := by
      rw [s.fld_eq]
      exact Nat.mod_eq_of_lt (by have := (s.reg 0x280).isLt; omega)
    rw [← hidle]
    rfl

end Sys2Proof.Machine
end

section
/-! PROOFS. Alnomal's outputs (chapters 4 and 5): what one instruction answers in terms of its bench's handler, and the
instructions of the ledger. -/

namespace Sys2Proof.Machine

open Sys2Proof

/-! ### A handler that has paid for an instruction -/

/-- The handler with `c` more steps used. -/
def Handler.spend (h : Handler) (c : Nat) : Handler := { h with used := h.used + c }

/-- A handler that has logged one more item (Table 4-12). -/
def Handler.logging (h : Handler) (item : LogItem) : Handler :=
  { h with items := h.items ++ [item], logBytes := h.logBytes + item.size }

section Spend

variable (h : Handler) (c : Nat)

@[simp] theorem Handler.spend_get (r : Fin 16) : (h.spend c).get r = h.get r := rfl
@[simp] theorem Handler.spend_ev : (h.spend c).ev = h.ev := rfl
@[simp] theorem Handler.spend_script : (h.spend c).script = h.script := rfl
@[simp] theorem Handler.spend_lsws : (h.spend c).lsws = h.lsws := rfl
@[simp] theorem addrOf_spend (ra : Fin 16) (imm : BitVec 18) : addrOf (h.spend c) ra imm = addrOf h ra imm := rfl
@[simp] theorem State.ledgerSeen_spend (s : State) (b a : Nat) : s.ledgerSeen b (h.spend c) a = s.ledgerSeen b h a :=
  rfl

/-- Writing a register commutes with paying. -/
@[simp] theorem Handler.spend_put (r : Fin 16) (v : Word) : (h.spend c).put r v = (h.put r v).spend c := by
  unfold Handler.put; split <;> rfl

@[simp] theorem Handler.logging_pc (item : LogItem) : (h.logging item).pc = h.pc := rfl

end Spend

/-- A handler that replays nothing logs its item while the log has room (R887). -/
theorem logged_fresh {n : Bench} {h : Handler} {item : LogItem} (c : Nat) (hnew : h.script = none)
    (hroom : n.logBytes + h.logBytes + item.size ≤ 65536) :
    logged n (h.spend c) item = .fresh ((h.logging item).spend c) := by
  unfold logged
  split
  · next hs => simp [hnew] at hs
  · next hs => simp [hnew] at hs
  · exact if_neg (Nat.not_lt.mpr hroom)

/-! ### One instruction that goes on, and one that faults -/

namespace State

section Instruct

variable {s t : State} {b : Fin 5} {h k : Handler} {c : Nat} {f : State → Handler → Exec}

/-- An instruction that answers the handler `k` at its own cost leaves `k` at the next word. -/
theorem instruct_goesOn (hr : s.running b h c) (hf : f s (h.spend c) = .cont t (k.spend c)) (hpc : k.pc = h.pc)
    (hcode : t.codeWords = s.codeWords) : s.instruct b c f = t.goesOn b k c := by
  have hnext : ¬ t.codeWords ≤ k.pc + 1 := by rw [hpc, hcode]; exact Nat.not_le.mpr hr.2
  have hpaid : f s { h with used := h.used + c } = .cont t (k.spend c) := hf
  simp only [instruct_paid hr.1, hpaid]
  exact if_neg hnext

theorem instruct_benchFault {code arg : Nat} (hp : s.paying b h c) (hf : f s (h.spend c) = .fault code arg) :
    s.instruct b c f = s.benchFault b { h with used := h.used + c } code arg := by
  have hpaid : f s { h with used := h.used + c } = .fault code arg := hf
  simp only [instruct_paid hp, hpaid]

end Instruct

end State

theorem accessFault_aligned {a n size : Nat} (ha : a % n = 0) (hsize : a + n ≤ size) : accessFault a n size = none := by
  simp [accessFault, ha, Nat.not_lt.mpr hsize]

/-! ### The ledger -/

theorem find?_fst_eq_lookup {α : Type} (l : List (Nat × α)) (a : Nat) :
    (l.find? fun e => e.1 == a).map (·.2) = l.lookup a := by
  induction l with
  | nil => rfl
  | cons e l ih =>
    obtain ⟨k, v⟩ := e
    by_cases hk : k = a
    · simp [hk, List.lookup]
    · have hne : (a == k) = false := beq_eq_false_iff_ne.mpr (Ne.symm hk)
      simp [hk, List.lookup, hne, ih]

/-- The latest of the bench's own writes of the position, else the ledger (R194). -/
theorem State.ledgerSeen_eq (s : State) (b : Nat) (h : Handler) (a : Nat) :
    s.ledgerSeen b h a = ((h.ledger ++ (s.bench b).ledgerBuf).lookup a).getD (sget 0 s.prog.ledger a) := by
  rw [← find?_fst_eq_lookup, State.ledgerSeen]
  cases (h.ledger ++ (s.bench b).ledgerBuf).find? fun e => e.1 == a <;> rfl

theorem State.mayWrite_eq {s : State} {i : Image} (himg : s.prog.image = some i) (b n : Nat) :
    s.mayWrite b n = i.pageMap.getLsbD (2 * n + if b < 4 then 0 else 1) := by
  simp only [State.mayWrite, himg]
  rfl

section Ledger

variable {s : State} {b : Fin 5} {h : Handler} {rd ra : Fin 16} {imm : BitVec 18}
  (ha : addrOf h ra imm % 4 = 0) (hend : addrOf h ra imm + 4 ≤ 0x10000)

include ha hend

theorem exec_llw_fresh (hr : s.running b h 3) (hnew : h.script = none)
    (hroom : (s.bench b).logBytes + h.logBytes + 4 ≤ 65536) :
    let v := s.ledgerSeen b h (addrOf h ra imm)
    exec (.llw b rd ra imm) s = .next (s.goesOn b ((h.logging (.llw v)).put rd v) 3) := by
  intro v
  refine congrArg Host.Outcome.next (State.instruct_goesOn hr ?_ (by simp) rfl)
  have hlog := logged_fresh (item := .llw v) 3 hnew hroom
  simp only [addrOf_spend, accessFault_aligned ha hend, State.ledgerSeen_spend, hlog, Handler.spend_put, v]

/-- LSW on a page that its bench may not write faults (R193). -/
theorem exec_lsw_of_foreign_page (hp : s.paying b h 3) (hpage : s.mayWrite b (addrOf h ra imm / 0x1000) = false) :
    exec (.lsw b rd ra imm) s =
      .next (s.benchFault b { h with used := h.used + 3 } 0x8106 (addrOf h ra imm / 0x1000)) := by
  refine congrArg Host.Outcome.next (State.instruct_benchFault hp ?_)
  simp [accessFault_aligned ha hend, hpage]

variable (hpage : s.mayWrite b (addrOf h ra imm / 0x1000) = true) (hnew : h.script = none)

include hpage hnew

/-- The 513th write of a position faults (R193). -/
theorem exec_lsw_of_limit (hp : s.paying b h 3) (hfull : 512 ≤ (s.bench b).lsws + h.lsws) :
    exec (.lsw b rd ra imm) s = .next (s.benchFault b { h with used := h.used + 3 } 0x8107 0) := by
  refine congrArg Host.Outcome.next (State.instruct_benchFault hp ?_)
  simp [accessFault_aligned ha hend, hpage, hnew, hfull]

theorem exec_lsw_fresh (hr : s.running b h 3) (hfew : (s.bench b).lsws + h.lsws < 512)
    (hroom : (s.bench b).logBytes + h.logBytes + 8 ≤ 65536) :
    let a := addrOf h ra imm
    exec (.lsw b rd ra imm) s = .next (s.goesOn b
      { h.logging (.lsw a (h.get rd)) with ledger := (a, h.get rd) :: h.ledger, lsws := h.lsws + 1 } 3) := by
  intro a
  refine congrArg Host.Outcome.next (State.instruct_goesOn hr ?_ rfl rfl)
  have hlog := logged_fresh (item := .lsw a (h.get rd)) 3 hnew hroom
  simp only [addrOf_spend, accessFault_aligned ha hend, hpage, Handler.spend_get, Handler.spend_lsws,
    Nat.not_le.mpr hfew, hlog, Bool.not_true, decide_false, Bool.and_false, Bool.false_eq_true, if_false, a]
  rfl

end Ledger

/-- Settles O12: LLW by what the bench sees of the ledger, LSW by the page map and the count of writes. -/
theorem ledgerAccessesComplete : Obligations.LedgerAccessesComplete := by
  unfold Obligations.LedgerAccessesComplete
  intro s b h i rd ra imm hr hnew himg hroom a seen ha hend
  have hseen : s.ledgerSeen b h a = seen := by
    rw [State.ledgerSeen_eq]
    simp only [seen]
    cases (h.ledger ++ (s.bench b).ledgerBuf).lookup a <;> rfl
  have hpage := State.mayWrite_eq himg b (a / 0x1000)
  rw [← hpage, ← hseen]
  exact ⟨exec_llw_fresh ha hend hr hnew (by omega), fun hmay hfew => exec_lsw_fresh ha hend hmay hnew hr hfew hroom,
    exec_lsw_of_foreign_page ha hend hr.1, fun hmay hfull => exec_lsw_of_limit ha hend hmay hnew hr.1 hfull⟩

end Sys2Proof.Machine
end

section
/-! PROOFS. Alnomal's tack instructions (Table 5-13): a post and the two cancels, handed to the store at their entry
position. -/

namespace Sys2Proof.Machine

open Sys2Proof

section Tacks

variable {s : State} {b : Fin 5} {h : Handler} {rd ra : Fin 16}

/-- Bench 4 posts and cancels nothing (R199). -/
theorem exec_tack_on_bench_four (hb : b.val = 4) (hp : s.paying b h 12) :
    exec (.tpost b rd ra) s = .next (s.benchFault b { h with used := h.used + 12 } 0x8105 0) ∧
      exec (.tcan b ra) s = .next (s.benchFault b { h with used := h.used + 4 } 0x8105 0) ∧
      exec (.tcank b ra) s = .next (s.benchFault b { h with used := h.used + 6 } 0x8105 0) :=
  ⟨congrArg Host.Outcome.next (State.instruct_benchFault hp (if_pos hb)),
    congrArg Host.Outcome.next (State.instruct_benchFault (hp.mono (by decide)) (if_pos hb)),
    congrArg Host.Outcome.next (State.instruct_benchFault (hp.mono (by decide)) (if_pos hb))⟩

/-- A cancel names a bench in its handle; another bench's is refused (R206). -/
theorem exec_tcan_of_foreign_handle (hb : b.val ≠ 4) (hp : s.paying b h 4) (hown : (h.get ra).bits 29 28 ≠ b.val) :
    exec (.tcan b ra) s =
      .next (s.benchFault b { h with used := h.used + 4 } 0x8113 ((h.get ra).bits 31 16)) :=
  congrArg Host.Outcome.next (State.instruct_benchFault hp ((if_neg hb).trans (if_pos hown)))

variable (hb : b.val ≠ 4) (hnew : h.script = none)

include hnew

/-- A fresh cancel is logged and handed to the store (R205). -/
theorem cancelTack_fresh (c : Nat) (x : Word) (op : TackOp) (hroom : (s.bench b).logBytes + h.logBytes + 4 ≤ 65536) :
    cancelTack s b (h.spend c) x op = .cont (s.toStore b h.ev.pos op) ((h.logging (.tcan x)).spend c) := by
  simp only [cancelTack, logged_fresh (item := .tcan x) c hnew hroom]
  rfl

include hb

theorem exec_tcan_fresh (hr : s.running b h 4) (hown : (h.get ra).bits 29 28 = b.val)
    (hroom : (s.bench b).logBytes + h.logBytes + 4 ≤ 65536) :
    exec (.tcan b ra) s = .next ((s.toStore b h.ev.pos (.cancel b (h.get ra))).goesOn b
      (h.logging (.tcan (h.get ra))) 4) := by
  refine congrArg Host.Outcome.next (State.instruct_goesOn hr ?_ rfl rfl)
  simp only [hb, hown, Handler.spend_get, ne_eq, not_true, if_false, cancelTack_fresh hnew 4 _ _ hroom]

theorem exec_tcank_fresh (hr : s.running b h 6) (hroom : (s.bench b).logBytes + h.logBytes + 4 ≤ 65536) :
    exec (.tcank b ra) s = .next ((s.toStore b h.ev.pos (.cancelKey b ((h.get ra).bits 15 0))).goesOn b
      (h.logging (.tcan (h.get ra))) 6) := by
  refine congrArg Host.Outcome.next (State.instruct_goesOn hr ?_ rfl rfl)
  simp only [hb, Handler.spend_get, if_false, cancelTack_fresh hnew 6 _ _ hroom]

/-- A post of a sound descriptor takes the bench's next sequence number (R199, R203, R205). -/
theorem exec_tpost_fresh (hr : s.running b h 12) (hal : (h.get ra).toNat % 4 = 0)
    (hend : (h.get ra).toNat + 64 ≤ 0x8000)
    (hgood : descFault (readBytes (s.bench b).data (h.get ra).toNat 64) = none)
    (hroom : (s.bench b).logBytes + h.logBytes + 68 ≤ 65536) :
    let n := s.bench b
    let d := readBytes n.data (h.get ra).toNat 64
    let hd := handleOf b n.seq
    exec (.tpost b rd ra) s = .next (((s.setBench b { n with seq := n.seq + 1 }).toStore b h.ev.pos
      (.post (tackOf d b n.seq h.ev.pos))).goesOn b ((h.logging (.tpost d hd)).put rd hd) 12) := by
  intro n d hd
  refine congrArg Host.Outcome.next (State.instruct_goesOn hr ?_ (by simp) rfl)
  have hlog := logged_fresh (item := .tpost d hd) 12 hnew hroom
  have hfits : ¬ 0x8000 < (h.get ra).toNat + 64 := Nat.not_lt.mpr hend
  have hsound : descFault d = none := hgood
  simp only [hb, Handler.spend_get, Handler.spend_ev, hal, ne_eq, not_true, if_false, hfits, State.dataOf, hsound,
    hlog, Handler.spend_put, n, d, hd]

end Tacks

theorem bits_high_half (x : Word) : x.bits 31 16 = x.toNat / 65536 := by
  have hx := x.isLt
  simp only [Word.bits, Nat.shiftRight_eq_div_pow]
  omega

/-- Settles O14: the post and the cancels of a cue bench through the store's hand-over, the rest by their faults. -/
theorem tackInstructionsComplete : Obligations.TackInstructionsComplete := by
  unfold Obligations.TackInstructionsComplete
  intro s b h rd ra hr hnew hroom x a n d p hd tk hands cancels
  have hroom4 : (s.bench b).logBytes + h.logBytes + 4 ≤ 65536 := by omega
  refine ⟨?post, ?cancel, ?cancelKey, fun hb => exec_tack_on_bench_four hb hr.1, ?foreign⟩
  case post =>
    intro hb hal hend hgood
    exact exec_tpost_fresh (Nat.ne_of_lt hb) hnew hr hal hend hgood hroom
  case cancel =>
    intro hb hown
    exact exec_tcan_fresh (Nat.ne_of_lt hb) hnew (hr.mono (by decide)) hown hroom4
  case cancelKey =>
    intro hb
    exact exec_tcank_fresh (Nat.ne_of_lt hb) hnew (hr.mono (by decide)) hroom4
  case foreign =>
    intro hb hother
    rw [← bits_high_half x]
    exact exec_tcan_of_foreign_handle (Nat.ne_of_lt hb) (hr.1.mono (by decide)) hother

end Sys2Proof.Machine
end

section
/-! PROOFS. Alnomal's message and wake instructions (Tables 5-16 and 5-18). -/

namespace Sys2Proof.Machine

open Sys2Proof

/-- A message of at most `4 * n` bytes takes at most `n` words of the log (Table 4-12). -/
theorem round4_le {len n : Nat} (h : len ≤ 4 * n) : round4 len ≤ 4 * n := by
  simp only [round4]
  omega

section Messages

variable {s : State} {b : Fin 5} {h : Handler} {rd ra rb : Fin 16} {dest mb eyelet : BitVec 8}

/-! ### The bench that goes on -/

theorem State.goesOn_bench_self (s : State) (b : Fin 5) (k : Handler) (c : Nat) :
    (s.goesOn b k c).bench b = { s.bench b with handler := some { k with used := k.used + c, pc := k.pc + 1 } } :=
  State.bench_setBench_self s b _

theorem State.goesOn_bench_ne {d : Nat} (hd : d ≠ b.val) (s : State) (k : Handler) (c : Nat) :
    (s.goesOn b k c).bench d = s.bench d :=
  State.bench_setBench_ne hd

theorem Handler.put_regs (h : Handler) (r : Fin 16) (v : Word) :
    (h.put r v).regs = if r = 0 then h.regs else h.regs.set r v := by
  unfold Handler.put; split <;> rfl

/-! ### MSEND -/

theorem State.sendMail_codeWords (s : State) (dest : Nat) (e : Event) :
    (s.sendMail dest e).codeWords = s.codeWords := by
  simp only [State.sendMail]
  split
  · rfl
  · split <;> rfl

theorem State.msend_codeWords (s : State) (b dest : Nat) (msg : List Byte) (p : Pos) :
    (s.msend b dest msg p).codeWords = s.codeWords := by
  simp only [State.msend]
  split
  · split
    · rfl
    · simp only [State.codeWords, State.mirror_prog]
      exact State.sendMail_codeWords _ _ _
  · exact State.sendMail_codeWords _ _ _

/-- The sender's count for a bench and a message of a cue bench on its way there (R147, R148). -/
theorem State.msend_cue {dest : Nat} (hb : b.val ≠ 4) (hne : dest ≠ b.val) (htakes : (s.bench dest).takes = true)
    (msg : List Byte) (p : Pos) :
    s.msend b dest msg p = (s.setBench b { s.bench b with
        sent := vset (s.bench b).sent dest (vget 0 (s.bench b).sent dest + 1) }).setBench dest
      { s.bench dest with inbox := (s.bench dest).inbox ++ [benchMail b msg p] } := by
  simp [State.msend, hb, State.sendMail, State.bench_setBench_ne hne, htakes]

/-- The message stands in the inbox of its destination, and the sender differs in its count alone. -/
theorem State.msend_cue_benches {dest : Nat} (hb : b.val ≠ 4) (hdest : dest < 5) (hne : dest ≠ b.val)
    (htakes : (s.bench dest).takes = true) (msg : List Byte) (p : Pos) :
    ((s.msend b dest msg p).bench dest).inbox = (s.bench dest).inbox ++ [benchMail b msg p] ∧
      (s.msend b dest msg p).bench b = { s.bench b with
        sent := vset (s.bench b).sent dest (vget 0 (s.bench b).sent dest + 1) } := by
  rw [State.msend_cue hb hne htakes]
  constructor
  · exact congrArg Bench.inbox (vget_vset_self hdest)
  · rw [State.bench_setBench_ne hne.symm, State.bench_setBench_self]

variable (hnew : h.script = none) (hlen : 1 ≤ (h.get rb).toNat) (hend : (h.get ra).toNat + (h.get rb).toNat ≤ 0x8000)

include hnew hlen hend

/-- MSEND sends its message within the limit of 16 posts to its destination, and answers OK or FULL (R148, R208). -/
theorem exec_msend_fresh (hr : s.running b h 10) (hdest : dest.toNat < 5) (hshort : (h.get rb).toNat ≤ 32)
    (hroom : (s.bench b).logBytes + h.logBytes + 68 ≤ 65536) {full : Bool}
    (hfull : decide (16 ≤ vget 0 (s.bench b).sent dest.toNat) = full) :
    let msg := readBytes (s.bench b).data (h.get ra).toNat (h.get rb).toNat
    let st := if full then stFull else stOk
    exec (.msend b rd ra rb dest) s =
      .next ((if full then s else s.msend b dest.toNat msg h.ev.pos).goesOn b
        ((h.logging (.msend dest.toNat (h.get rb).toNat st msg)).put rd (BitVec.ofNat 32 st)) 10) := by
  intro msg st
  refine congrArg Host.Outcome.next (State.instruct_goesOn hr ?_ (by simp) ?_)
  · have hitem : (LogItem.msend dest.toNat (h.get rb).toNat st msg).size ≤ 68 :=
      Nat.le_trans (Nat.add_le_add_left (round4_le (n := 8) hshort) 4) (by decide)
    have hlog := logged_fresh (n := s.bench b) (h := h) 10 hnew (Nat.le_trans (Nat.add_le_add_left hitem _) hroom)
    have hsound : ¬ (4 < dest.toNat ∨ (h.get rb).toNat = 0 ∨ 32 < (h.get rb).toNat) := by omega
    have hfits : ¬ 0x8000 < (h.get ra).toNat + (h.get rb).toNat := Nat.not_lt.mpr hend
    simp only [msg, st] at hlog ⊢
    simp only [Handler.spend_get, Handler.spend_ev, hsound, hfits, if_false, State.dataOf, hfull, hlog,
      Handler.spend_put]
  · split
    · rfl
    · exact State.msend_codeWords _ _ _ _ _

/-! ### MPOST -/

/-- The MPOST of a cue bench whose device speaks is held to the end of the position (R149, R663). -/
theorem exec_mpost_cue (hr : s.running b h 20) (hb : b.val ≠ 4) (hmb : mb.toNat < 8) (hshort : (h.get rb).toNat ≤ 64)
    (hloud : s.silent = false) (hroom : (s.bench b).logBytes + h.logBytes + 68 ≤ 65536) :
    let msg := readBytes (s.bench b).data (h.get ra).toNat (h.get rb).toNat
    exec (.mpost b 0 ra rb mb) s = .next
      (({ s with mail.heldPosts := s.mail.heldPosts ++ [⟨b, mb.toNat, msg, h.ev.pos⟩] } : State).goesOn b
        (h.logging (.mpost mb.toNat (h.get rb).toNat stOk msg)) 20) := by
  intro msg
  refine congrArg Host.Outcome.next (State.instruct_goesOn hr ?_ rfl rfl)
  have hitem : (LogItem.mpost mb.toNat (h.get rb).toNat stOk msg).size ≤ 68 :=
    Nat.le_trans (Nat.add_le_add_left (round4_le (n := 16) hshort) 4) (by decide)
  have hlog := logged_fresh (n := s.bench b) (h := h) 20 hnew (Nat.le_trans (Nat.add_le_add_left hitem _) hroom)
  have hfits : ¬ 0x8000 < (h.get ra).toNat + (h.get rb).toNat := Nat.not_lt.mpr hend
  have hopen : ¬ (7 < mb.toNat ∨ (h.get rb).toNat = 0 ∨ 64 < (h.get rb).toNat ∨ b.val < 4 ∧ (0 : Fin 16) ≠ 0) := by
    simp only [ne_eq, not_true, and_false, or_false]
    omega
  simp only [Handler.spend_get, Handler.spend_ev, hopen, hfits, if_false, State.dataOf, hb, false_and, hlog, hloud,
    Bool.false_eq_true, msg]

omit hlen hend

/-! ### RING -/

/-- RING of a device that speaks rings the eyelet of the host endpoint (R213). -/
theorem exec_ring_loud (hr : s.running b h 2) (heye : eyelet.toNat < 32) (hloud : s.silent = false)
    (hroom : (s.bench b).logBytes + h.logBytes + 4 ≤ 65536) :
    exec (.ring b eyelet) s =
      .next ((s.ringHost eyelet.toNat).goesOn b (h.logging (.ring eyelet.toNat)) 2) := by
  refine congrArg Host.Outcome.next (State.instruct_goesOn hr ?_ rfl (by simp [State.codeWords]))
  have hlog := logged_fresh (item := .ring eyelet.toNat) 2 hnew hroom
  have hknown : ¬ 31 < eyelet.toNat := by omega
  simp only [hknown, if_false, hlog, hloud, Bool.false_and, Bool.false_eq_true]

end Messages

/-- The RUNG bits of the host endpoint after a ring (R213, R668). -/
theorem State.ringHost_rung (s : State) (e : Nat) :
    vget 0 (s.ringHost e).mail.rung 0 = vget 0 s.mail.rung 0 ||| BitVec.ofNat 32 (2 ^ e) := by
  have hmail : ∀ c : Prop, [Decidable c] → (if c then s.arise 1 else s).mail = s.mail := by
    intro c _
    split <;> simp
  simp only [State.ringHost, hmail]
  exact vget_vset_self (by decide)

/-! ### Wakes -/

section Wakes

variable {s : State} {b : Fin 5} {h : Handler} {ra rb : Fin 16} {slot : BitVec 8}

theorem exec_wake (hr : s.running b h 3) (hslot : slot.toNat < 16) :
    let pp := (h.get rb).bits 15 0 * 2 ^ 32 + (h.get ra).toNat
    exec (.wake b ra rb slot) s = .next ((s.setBench b { s.bench b with
      wakes := vset (s.bench b).wakes slot.toNat
        (some ⟨pp, h.ev.pos, decide (pp ≤ h.ev.pos.pp)⟩) }).goesOn b h 3) :=
  congrArg Host.Outcome.next (State.instruct_goesOn hr (if_neg (by omega)) rfl rfl)

theorem exec_wcan (hr : s.running b h 2) (hslot : slot.toNat < 16) :
    exec (.wcan b slot) s = .next ((s.setBench b { s.bench b with
      wakes := vset (s.bench b).wakes slot.toNat none }).goesOn b h 2) :=
  congrArg Host.Outcome.next (State.instruct_goesOn hr (if_neg (by omega)) rfl rfl)

/-- A slot beyond the sixteenth is no slot (R219). -/
theorem exec_wake_of_no_slot (hp : s.paying b h 3) (hslot : 16 ≤ slot.toNat) :
    exec (.wake b ra rb slot) s = .next (s.benchFault b { h with used := h.used + 3 } 0x8117 slot.toNat) ∧
      exec (.wcan b slot) s = .next (s.benchFault b { h with used := h.used + 2 } 0x8117 slot.toNat) :=
  ⟨congrArg Host.Outcome.next (State.instruct_benchFault hp (if_pos hslot)),
    congrArg Host.Outcome.next (State.instruct_benchFault (hp.mono (by decide)) (if_pos hslot))⟩

end Wakes

/-- Settles O15: each instruction by its equation; MSEND within the limit by the two benches that it changes. -/
theorem messageAndWakeInstructionsComplete : Obligations.MessageAndWakeInstructionsComplete := by
  unfold Obligations.MessageAndWakeInstructionsComplete
  refine ⟨?messages, ?wakes⟩
  case messages =>
    intro s b h rd ra rb dest mb eyelet hr hnew hroom a len n msg p logs mail post hlen hend
    refine ⟨?sent, ?full, ?posted, ?rung⟩
    case sent =>
      intro hb hdest hne hshort hfew htakes
      have hexec := exec_msend_fresh (rd := rd) hnew hlen hend (hr.mono (by decide)) (Nat.lt_succ_of_lt hdest) hshort
        hroom (decide_eq_false (Nat.not_le.mpr hfew))
      obtain ⟨hinbox, hsender⟩ := State.msend_cue_benches (Nat.ne_of_lt hb) (by omega) hne htakes msg p
      refine ⟨_, hexec, ?_, ?_, _, congrArg Bench.handler (State.goesOn_bench_self _ _ _ _), ?_, ?_⟩
      · rw [State.goesOn_bench_ne hne]; exact hinbox
      · rw [State.goesOn_bench_self]; exact congrArg Bench.sent hsender
      · exact (Handler.put_regs _ _ _).trans (Handler.put_regs h rd 0).symm
      · simp
    case full =>
      intro hdest hshort hfull
      exact exec_msend_fresh hnew hlen hend (hr.mono (by decide)) hdest hshort hroom (decide_eq_true hfull)
    case posted =>
      intro hb hmb hshort hloud
      exact exec_mpost_cue hnew hlen hend hr (Nat.ne_of_lt hb) hmb hshort hloud hroom
    case rung =>
      intro heye hloud
      exact ⟨exec_ring_loud hnew (hr.mono (by decide)) heye hloud (by omega), State.ringHost_rung s _⟩
  case wakes =>
    intro s b h ra rb slot hr i n pp w
    exact ⟨exec_wake hr, exec_wcan (hr.mono (by decide)), exec_wake_of_no_slot hr.1⟩

end Sys2Proof.Machine
end

section
/-! PROOFS. The start of a handler (chapter 4): the registers of Table 4-3, the taking of an event and the end of a
replay. -/

namespace Sys2Proof.Machine

open Sys2Proof

/-! ### The registers at handler entry (Table 4-3) -/

/-- Register 0 and the four registers that carry the event stand before eleven zeros. -/
theorem entryRegs_eq_append (e : Event) : entryRegs e =
    (#v[0, BitVec.ofNat 32 (e.cls.code + e.sub % 256 * 16 + e.pos.epoch % 65536 * 65536), BitVec.ofNat 32 e.pos.pp,
      BitVec.ofNat 32 (e.pos.pp / 2 ^ 32 % 65536), e.w4] ++ Vector.replicate 11 (0 : Word) : Vector Word (5 + 11)) :=
  rfl

theorem entryRegs_get_high (e : Event) {r : Fin 16} (hr : 5 ≤ r.val) : (entryRegs e).get r = 0 := by
  have hr11 : r.val < 5 + 11 := r.isLt
  rw [entryRegs_eq_append]
  exact (Vector.getElem_append_right hr11 hr).trans (Vector.getElem_replicate _)

/-! ### An event taken -/

/-- A bench without an event differs in its queue and what is held back. -/
theorem Bench.without_frame (n : Bench) (e : Event) : ∃ q l, n.without e = { n with queue := q, held := l } := by
  unfold Bench.without
  split
  · exact ⟨_, n.held, rfl⟩
  · exact ⟨n.queue, _, rfl⟩

namespace State

/-- What a source makes of an event that was taken changes the mailboxes alone (R660, R669). -/
theorem consumed_frame (s : State) (b : Nat) (e : Event) : ∃ m, s.consumed b e = { s with mail := m } := by
  unfold consumed
  split
  · exact ⟨_, rfl⟩
  · split
    · exact ⟨_, rfl⟩
    · exact ⟨s.mail, rfl⟩

/-- The marks of a host message are fields of its event (R675). -/
theorem withMarks_frame (s : State) (e : Event) : ∃ fs, s.withMarks e = { e with fields := fs } := by
  unfold withMarks
  split
  · split
    · exact ⟨_, rfl⟩
    · exact ⟨e.fields, rfl⟩
  · exact ⟨e.fields, rfl⟩

variable {s : State} {b : Fin 5} {e : Event} {i : Image} {a : HEntry}

/-- The taking of an event whose handler the image names starts that handler while the replay log has room (R131,
R887). -/
theorem takeEvent_of_named (himg : s.prog.image = some i) (hnamed : i.handler b e = some a)
    (hroom : (s.bench b).logBytes + entrySize e ≤ 65536) :
    ∃ m fs, s.takeEvent b e = { s.setBench b
      (((s.bench b).without e).start (newHandler { e with fields := fs } a none)) with mail := m } := by
  obtain ⟨fs, hmarks⟩ := s.withMarks_frame e
  obtain ⟨q, l, hwithout⟩ := (s.bench b).without_frame e
  obtain ⟨m, hconsumed⟩ := (s.setBench b (((s.bench b).without e).start
    (newHandler { e with fields := fs } a none))).consumed_frame b { e with fields := fs }
  have hbind : (s.prog.image.bind fun i => i.handler b e) = some a := by rw [himg]; exact hnamed
  have hfits : ¬ 65536 < ((s.bench b).without e).logBytes + entrySize { e with fields := fs } := by
    rw [hwithout]; exact Nat.not_lt.mpr hroom
  refine ⟨m, fs, ?_⟩
  simp only [takeEvent, hbind, hmarks, hconsumed]
  exact if_neg hfits

end State

/-! ### The rows -/

section Rows

variable {s : State} {b : Fin 5}

/-- A bench that runs and holds no handler takes its next event of the barrier position (R131). -/
theorem exec_handlerEntry_of_idle {p : Pos} {e : Event} (hpow : s.supply.power = .run) (hgo : s.last.mode ≠ .stopped)
    (hrun : (s.bench b).mode = .run) (hidle : (s.bench b).handler = none) (hbar : s.prog.barrier = some p)
    (hnext : (s.bench b).nextEvent p = some e) : exec (.handlerEntry b) s = .next (s.takeEvent b e) := by
  change execHandlerEntry b s = _
  have hstop : s.stopped = false := Bool.eq_false_iff.mpr fun h => hgo (State.stopped_iff.mp h)
  simp [execHandlerEntry, hpow, hstop, hrun, hidle, hbar, hnext]

theorem exec_replayDone (hmode : (s.bench b).mode = .replay) (hend : (s.bench b).replay = [])
    (hidle : (s.bench b).handler = none) :
    exec (.replayDone b) s = .next (s.setBench b { s.bench b with mode := .run, fresh := true }).settle :=
  congrArg Host.Outcome.next (if_pos ⟨hmode, hend, hidle⟩)

end Rows

/-- Settles O17: the event taken starts its handler, whose registers are those of the entry. -/
theorem handlersStartAsTheTableSays : Obligations.HandlersStartAsTheTableSays := by
  unfold Obligations.HandlersStartAsTheTableSays
  intro s b p e i a
  refine ⟨?entry, exec_replayDone⟩
  case entry =>
    intro hpow hgo hrun hidle hbar hnext himg hnamed hroom
    obtain ⟨m, fs, htake⟩ := State.takeEvent_of_named himg hnamed hroom
    obtain ⟨q, l, hwithout⟩ := (s.bench b).without_frame e
    have hbench : (s.takeEvent b e).bench b =
        ({ s.bench b with queue := q, held := l } : Bench).start (State.newHandler { e with fields := fs } a none) := by
      rw [htake, ← hwithout]
      exact State.bench_setBench_self s b _
    refine ⟨_, _, exec_handlerEntry_of_idle hpow hgo hrun hidle hbar hnext, congrArg Bench.handler hbench, rfl, rfl,
      rfl, rfl, rfl, rfl, rfl, rfl, rfl, ?high, ?data, ?count⟩
    case high =>
      intro r hr
      have hr0 : r ≠ 0 := fun h => by simp [h] at hr
      exact (if_neg hr0).trans (entryRegs_get_high _ hr)
    case data => rw [hbench]; rfl
    case count => rw [hbench]; rfl

end Sys2Proof.Machine
end

section
/-! PROOFS. The beginning of positions (chapter 4): what holds the benches back. -/

namespace Sys2Proof.Machine

open Sys2Proof

/-- The benches wait while the store has still to apply a step that made the position, even where no position it has
to dispatch is that one (Edges of Steps, log entry 8). -/
theorem State.nextToBegin_of_waiting_step {s : State} {p q : Pos} {rest : List Pos} {d : Due} {st : StepMade}
    (hopen : s.prog.opened = p :: q :: rest) (hdue : d ∈ s.tack.due) (hwait : d.stepped = false) (hst : st ∈ d.steps)
    (hpos : st.pos = p) : s.nextToBegin = none := by
  have hheld : (s.tack.due.all fun d => d.pos != p && (d.stepped || d.steps.all fun st => st.pos != p)) = false := by
    refine List.all_eq_false.mpr ⟨d, hdue, ?_⟩
    have hstep : (d.steps.all fun st => st.pos != p) = false := List.all_eq_false.mpr ⟨st, hst, by simp [hpos]⟩
    simp [hwait, hstep]
  simp only [nextToBegin, hopen, hheld, Bool.and_false, Bool.false_eq_true, if_false]

/-- A device in RUN whose benches have finished position (1, 76), which the store has still to dispatch, and whose Last
stepped twice in one tick, to (2, 90) and at once on to (3, 95): the store has to dispatch (3, 95) in place of (2, 90),
and has not applied either step. -/
def twiceStepped : State :=
  { State.reset with
    last := { Last.init with mode := .track, epoch := 3, pp := 95 }
    supply := { Supply.init with power := .run }
    tack := { TackStore.init with due := [⟨⟨1, 76⟩, 0, [], true, true⟩,
      ⟨⟨3, 95⟩, 1, [⟨76, ⟨2, 90⟩, false⟩, ⟨90, ⟨3, 95⟩, true⟩], false, false⟩] }
    prog := { Program.init with barrier := some ⟨1, 76⟩, opened := [⟨2, 90⟩, ⟨3, 95⟩] } }

/-- POSITION_CLOSE leaves it as it is. -/
theorem exec_positionClose_twiceStepped : exec .positionClose twiceStepped = .next twiceStepped := by
  have hnone : twiceStepped.nextToBegin = none :=
    State.nextToBegin_of_waiting_step (d := ⟨⟨3, 95⟩, 1, [⟨76, ⟨2, 90⟩, false⟩, ⟨90, ⟨3, 95⟩, true⟩], false, false⟩)
      (st := ⟨76, ⟨2, 90⟩, false⟩) rfl (by simp [twiceStepped]) rfl (by simp) rfl
  change execPositionClose twiceStepped = _
  simp only [execPositionClose, hnone]

/-- Refutes O18: no position that the store has to dispatch is the next one to begin, and yet the benches wait, since
that position was made by a step that the store has still to apply; the statement asks for the former alone. -/
theorem not_positionsAndEventsAreBegunInOrder : ¬ Obligations.PositionsAndEventsAreBegunInOrder := by
  unfold Obligations.PositionsAndEventsAreBegunInOrder
  rintro ⟨hbegin, -⟩
  have hdone : twiceStepped.barrierDone = true := by decide
  have hother : ∀ d ∈ twiceStepped.tack.due, d.pos ≠ (⟨2, 90⟩ : Pos) := by decide
  obtain ⟨t, hexec, hbar, -⟩ := hbegin twiceStepped ⟨2, 90⟩ ⟨3, 95⟩ [] rfl rfl (by decide) hdone hother
  have hsame : twiceStepped = t := Host.Outcome.next.inj (exec_positionClose_twiceStepped.symm.trans hexec)
  rw [← hsame] at hbar
  exact absurd hbar (by decide)

end Sys2Proof.Machine
end

section
/-! PROOFS. BENCH_CTRL (chapter 4): the write, and its effects at a later edge. -/

namespace Sys2Proof.Machine

open Sys2Proof

section Rows

variable {s : State} {b : Fin 5}

/-! ### The write of BENCH_CTRL -/

theorem State.writeRefusal_benchCtrl (hup : s.up .bench = true) : s.writeRefusal 0x200 = none := by
  have hline : (regLine 0x200).isNone = false := by decide
  have hdom : s.domainRefusal (regDomain 0x200) = none :=
    State.domainRefusal_bench_of_up (State.up_bench_iff.mp hup)
  simp [State.writeRefusal, State.regRefusal, hline, hdom]

theorem State.regWrite_benchCtrl (v : Word) : s.regWrite 0x200 v = s.writeBenchCtrl v := by
  have hline : regLine 0x200 = some ⟨0x200, 0x200, .rw, false, false, 0x1F#32, 0x1F00#32⟩ := by decide
  simp only [State.regWrite, hline]
  rfl

/-- An accepted write of BENCH_CTRL records its bits (R141, R888). -/
theorem exec_benchCtrl (v : Word) (h : s.answers = true) (hup : s.up .bench = true) :
    exec (.benchCtrlRun v .good) s = .next (s.writeBenchCtrl v) ∧
      exec (.benchCtrlRestart v .good) s = .next (s.writeBenchCtrl v) := by
  have hwrite : s.busRegWrite 0x200 v .good = s.writeBenchCtrl v := by
    rw [State.busRegWrite, State.writeRefusal_benchCtrl hup, State.busWrite_accepted h, State.regWrite_benchCtrl]
  exact ⟨congrArg Host.Outcome.next hwrite, congrArg Host.Outcome.next hwrite⟩

theorem State.writeBenchCtrl_eq (v : Word) : s.writeBenchCtrl v = { s with prog := { s.prog with
    runWant := v.toNat % 32, runEdge := s.last.edge
    restartWant := s.prog.restartWant ||| (v.toNat / 256 % 32)
    restartEdge := if v.toNat / 256 % 32 = 0 then s.prog.restartEdge else s.last.edge } } := by
  have hrun : v.bits 4 0 = v.toNat % 32 := rfl
  have hrestart : v.bits 12 8 = v.toNat / 256 % 32 := congrArg (· % 32) (Nat.shiftRight_eq_div_pow v.toNat 8)
  simp only [State.writeBenchCtrl, hrun, hrestart]

/-! ### RUN at a later edge -/

/-- RUN set starts an OFF bench that the image holds (R888). -/
theorem exec_benchRunEffect_start {i : Image} (hpow : s.supply.power = .run) (hedge : s.prog.runEdge < s.last.edge)
    (hbit : s.prog.runBits.testBit b = false) (hwant : s.prog.runWant.testBit b = true)
    (hoff : (s.bench b).mode = .off) (himg : s.prog.image = some i) (hpres : i.present.contains b.val = true) :
    exec (.benchRunEffect b) s = .next
      (({ s with prog := { s.prog with runBits := s.prog.runBits ^^^ 2 ^ b.val } } : State).setBench b
        { s.bench b with joining := true, starting := true }) := by
  change execBenchRunEffect b s = _
  simp only [execBenchRunEffect, hpow, hbit, hwant, himg, hpres, hoff, Nat.not_le.mpr hedge, ne_eq, not_true,
    Bool.false_eq_true, or_false, if_false, if_true, true_or, and_self]

/-- RUN cleared lets a running bench finish its position and leave (R888). -/
theorem exec_benchRunEffect_leave (hpow : s.supply.power = .run) (hedge : s.prog.runEdge < s.last.edge)
    (hbit : s.prog.runBits.testBit b = true) (hwant : s.prog.runWant.testBit b = false)
    (hrun : (s.bench b).mode = .run) :
    exec (.benchRunEffect b) s = .next
      (({ s with prog := { s.prog with runBits := s.prog.runBits ^^^ 2 ^ b.val } } : State).setBench b
        { s.bench b with leaving := true, joining := false, starting := false }) := by
  change execBenchRunEffect b s = _
  simp only [execBenchRunEffect, hpow, hbit, hwant, hrun, Nat.not_le.mpr hedge, ne_eq, not_true, reduceCtorEq,
    Bool.false_eq_true, Bool.true_eq_false, false_and, or_self, if_false]

/-! ### RESTART at a later edge -/

/-- The marks of a bench's RESTART change the mailboxes alone. -/
theorem State.marksBench_frame (s : State) (b : Nat) : ∃ m, s.marksBench b = { s with mail := m } := by
  obtain ⟨m, hin⟩ : ∃ m, s.markIn true (fun i m => decide (i < 8) && m.reader == b) = { s with mail := m } := ⟨_, rfl⟩
  obtain ⟨m', hout⟩ : ∃ m', ({ s with mail := m } : State).markOut false (fun _ m => m.sender == .bench b) =
    { s with mail := m' } := ⟨_, rfl⟩
  simp only [State.marksBench, hin, hout, State.flagEyelets]
  split
  · exact ⟨m', rfl⟩
  · exact ⟨_, rfl⟩

/-- A HALTED bench given back waits to rejoin, with what its checkpoint holds of it, and no other bench differs
(R141). -/
theorem State.restartBench_bench (s : State) (b : Fin 5) : ∃ w, (s.restartBench b).bench b = { s.bench b with
      data := ((s.benchCkpt b).map (·.data)).getD (s.initialData b)
      wakes := w, log := [], logBytes := 0, faultSfs := [], joining := true, starting := false } := by
  simp only [State.restartBench]
  obtain ⟨m, hmarks⟩ := State.marksBench_frame _ b
  rw [hmarks]
  exact ⟨_, State.bench_setBench_self s b _⟩

theorem State.restartBench_frame (s : State) (b : Fin 5) :
    (s.restartBench b).last = s.last ∧ (s.restartBench b).prog.restartWant = s.prog.restartWant ∧
      ∀ d : Fin 5, d ≠ b → (s.restartBench b).bench d = s.bench d := by
  simp only [State.restartBench]
  obtain ⟨m, hmarks⟩ := State.marksBench_frame _ b
  rw [hmarks]
  exact ⟨rfl, rfl, fun d hd => State.bench_setBench_ne fun h => hd (Fin.ext h)⟩

theorem exec_benchRestartEffect (hwant : s.prog.restartWant.testBit b = true)
    (hedge : s.prog.restartEdge < s.last.edge) (hhalt : (s.bench b).mode = .halted) :
    exec (.benchRestartEffect b) s = .next
      (({ s with prog.restartWant := s.prog.restartWant ^^^ 2 ^ b.val } : State).restartBench b) := by
  change execBenchRestartEffect b s = _
  simp [execBenchRestartEffect, hwant, hedge, hhalt]

end Rows

/-- Settles O19: the write through the register map, and each effect by its equation. -/
theorem benchControlStartsAndRestarts : Obligations.BenchControlStartsAndRestarts := by
  unfold Obligations.BenchControlStartsAndRestarts
  intro s b i v
  refine ⟨?write, ?run, ?restart⟩
  case write =>
    intro h hup sets
    have hsets : s.writeBenchCtrl v = sets := State.writeBenchCtrl_eq v
    exact hsets ▸ exec_benchCtrl v h hup
  case run =>
    intro hpow hedge flips
    exact ⟨exec_benchRunEffect_start hpow hedge, exec_benchRunEffect_leave hpow hedge⟩
  case restart =>
    intro hwant hedge hhalt
    obtain ⟨w, hbench⟩ :=
      State.restartBench_bench { s with prog.restartWant := s.prog.restartWant ^^^ 2 ^ b.val } b
    obtain ⟨hlast, hbits, hothers⟩ :=
      State.restartBench_frame { s with prog.restartWant := s.prog.restartWant ^^^ 2 ^ b.val } b
    refine ⟨_, exec_benchRestartEffect hwant hedge hhalt, ?_, ?_, ?_, ?_, ?_, hlast, hothers⟩
    · rw [hbits, Nat.testBit_xor, hwant, Nat.testBit_two_pow_self]
      rfl
    · rw [hbench]
    · rw [hbench]
    · rw [hbench]
    · rw [hbench]
      rfl

end Sys2Proof.Machine
end

section
/-! PROOFS. What raising faults and ending a position leave of the benches: queues take events, and a bench that takes
none stays as it is. -/

namespace Sys2Proof.Machine

open Sys2Proof

/-- A bench with one more event differs in its queue and what is held back (R132). -/
theorem Bench.enqueue_frame (n : Bench) (e : Event) :
    ∃ q l m, n.enqueue e = { n with queue := q, held := l, queueHigh := m } := by
  unfold Bench.enqueue
  split
  · exact ⟨_, n.held, _, rfl⟩
  · exact ⟨n.queue, _, n.queueHigh, rfl⟩

namespace State

/-- Of the program plane only the benches' queues, the count of discarded events and the void mark differ, and a bench
that takes no events is the same. -/
structure Queued (s t : State) : Prop where
  prog : ∃ bs v e x, t.prog = { s.prog with bench := bs, void := v, voidTo := e, dropped := x }
  bench : ∀ d : Fin 5, ∃ q l m, t.bench d = { s.bench d with queue := q, held := l, queueHigh := m }
  idle : ∀ d : Fin 5, (s.bench d).takes = false → t.bench d = s.bench d

theorem queued_of_prog {s t : State} (h : t.prog = s.prog) : s.Queued t := by
  have hbench : ∀ d, t.bench d = s.bench d := fun d => by simp only [bench, h]
  exact ⟨⟨_, _, _, _, h⟩, fun d => ⟨_, _, _, hbench d⟩, fun d _ => hbench d⟩

theorem Queued.refl (s : State) : s.Queued s := queued_of_prog rfl

theorem Queued.trans {s t u : State} (h : s.Queued t) (k : t.Queued u) : s.Queued u where
  prog := by
    obtain ⟨_, _, _, _, h⟩ := h.prog
    obtain ⟨_, _, _, _, k⟩ := k.prog
    rw [h] at k
    exact ⟨_, _, _, _, k⟩
  bench d := by
    obtain ⟨_, _, _, h⟩ := h.bench d
    obtain ⟨_, _, _, k⟩ := k.bench d
    rw [h] at k
    exact ⟨_, _, _, k⟩
  idle d hd := by
    have hsame := h.idle d hd
    exact (k.idle d (hsame ▸ hd)).trans hsame

/-! ### Raising a fault -/

theorem enqueue_queued (s : State) (b : Nat) (e : Event) (htakes : (s.bench b).takes = true) :
    s.Queued (s.setBench b ((s.bench b).enqueue e)) where
  prog := ⟨_, s.prog.void, s.prog.voidTo, s.prog.dropped, rfl⟩
  bench d := by
    rw [bench_setBench]
    split
    · next hd => rw [hd.1]; exact Bench.enqueue_frame _ e
    · exact ⟨_, _, _, rfl⟩
  idle d hd := by
    refine bench_setBench_ne fun hdb => ?_
    rw [hdb, htakes] at hd
    exact Bool.noConfusion hd

theorem dropEvent_queued (s : State) : s.Queued s.dropEvent :=
  ⟨⟨_, _, _, _, rfl⟩, fun _ => ⟨_, _, _, rfl⟩, fun _ _ => rfl⟩

theorem deliver_queued (s : State) (b : Nat) (e : Event) : s.Queued (s.deliver b e) := by
  unfold deliver
  split
  · exact .refl s
  · split
    · next htakes => exact s.enqueue_queued b e htakes
    · split
      · exact s.dropEvent_queued
      · exact .refl s

theorem voidFrom_queued (s : State) (p : Pos) : s.Queued (s.voidFrom p) :=
  ⟨⟨_, _, _, _, rfl⟩, fun _ => ⟨_, _, _, rfl⟩, fun _ _ => rfl⟩

theorem logFault_queued (s : State) (c u k : Nat) : s.Queued (s.logFault c u k).2 :=
  queued_of_prog (s.logFault_prog c u k)

theorem losePacket_queued (s : State) (m : Bool) (p : Pos) (n : Nat) : s.Queued (s.losePacket m p n).2 := by
  simp only [losePacket]
  split
  · exact ⟨⟨_, _, _, _, rfl⟩, fun _ => ⟨_, _, _, rfl⟩, fun _ _ => rfl⟩
  · exact queued_of_prog rfl

theorem tryPacket_queued (s : State) (ty sub : Nat) (p : Pos) (xs : List Byte) :
    s.Queued (s.tryPacket ty sub p xs).2 := by
  simp only [tryPacket]
  split
  · split <;> exact queued_of_prog rfl
  · exact s.losePacket_queued _ _ _

theorem streamFault_queued (s : State) (e : FaultEntry) : s.Queued (s.streamFault e).2 := by
  unfold streamFault
  split
  · exact s.tryPacket_queued _ _ _ _
  · exact .refl s

theorem dropBegins_queued (s : State) : s.Queued s.dropBegins :=
  (((s.logFault_queued _ _ _).trans (deliver_queued _ _ _)).trans (streamFault_queued _ _)).trans
    (deliver_queued _ _ _)

theorem raise_queued (s : State) (c u k : Nat) : s.Queued (s.raise c u k) := by
  have h := ((s.logFault_queued c u k).trans (deliver_queued _ 4 _)).trans
    (streamFault_queued ((s.logFault c u k).2.faultEvent c u k) (s.logFault c u k).1)
  simp only [raise]
  split
  · exact h.trans (dropBegins_queued _)
  · exact h

theorem raiseBench_queued (s : State) (c b k : Nat) : s.Queued (s.raiseBench c b k) := by
  have h := (s.logFault_queued c b k).trans (streamFault_queued (s.logFault c b k).2 (s.logFault c b k).1)
  simp only [raiseBench]
  split
  · exact h.trans (dropBegins_queued _)
  · exact h

/-! ### The end of a position -/

theorem postOut_prog {s t : State} {mb : Nat} {f : Sender} {xs : List Byte} {p : Pos}
    (h : s.postOut mb f xs p = some t) : t.prog = s.prog := by
  unfold postOut at h
  split at h
  · cases h
  · cases h
    split
    · exact s.arise_prog 0
    · rfl

theorem postRefused_queued (s : State) (mb : Nat) : s.Queued (s.postRefused mb) := by
  have hmail : ∀ m : Mail, s.Queued { s with mail := m } := fun _ => queued_of_prog rfl
  simp only [postRefused]
  split
  · exact hmail _
  · exact (hmail _).trans (raise_queued _ _ _ _)

/-- The held MPOSTs that land raise faults at most (R663). -/
theorem applyPosts_queued (s : State) : s.Queued s.applyPosts := by
  unfold applyPosts
  refine .trans (t := { s with mail := { s.mail with heldPosts := [] } }) (queued_of_prog rfl) ?_
  refine foldl_leaves _ _ Queued.refl Queued.trans (fun s b => ?_) _
  refine foldl_leaves _ _ Queued.refl Queued.trans (fun s p => ?_) s
  split
  · next h => exact queued_of_prog (postOut_prog h)
  · exact s.postRefused_queued _

theorem watchLag_idle {s : State} {d : Fin 5} (hidle : (s.bench d).takes = false) :
    s.watchLag.bench d = s.bench d := by
  obtain ⟨x, b, h | h⟩ := s.watchLag_cases
  · rw [h]; rfl
  · rw [h]; exact (raise_queued (s.withLag x b) _ _ _).idle d hidle

/-- A bench that takes no events has its buffers emptied at most by the end of a position (R146). -/
theorem settle_idle {s : State} {d : Fin 5} (hidle : (s.bench d).takes = false) :
    ∃ l n v, s.settle.bench d = { s.bench d with ledgerBuf := l, lsws := n, sent := v } := by
  unfold settle
  split
  · have hposts := s.applyPosts_queued.idle d hidle
    have hledger := applyLedger_bench s.applyPosts d
    rw [hposts] at hledger
    have hstill : (s.applyPosts.applyLedger.bench d).takes = false := by rw [hledger]; exact hidle
    rw [watchLag_idle hstill, hledger]
    exact ⟨_, _, _, rfl⟩
  · exact ⟨_, _, _, rfl⟩

/-! ### A bench that is HALTED -/

/-- Discarded events are counted, and their sources are told; no bench differs. -/
theorem discardEvents_bench (s : State) (b d : Nat) (es : List Event) : (s.discardEvents b es).bench d = s.bench d := by
  refine foldl_leaves (R := fun s t => t.bench d = s.bench d) _ es (fun _ => rfl) (fun h k => k.trans h)
    (fun s e => ?_) s
  obtain ⟨m, hconsumed⟩ := s.dropEvent.consumed_frame b e
  rw [hconsumed]
  rfl

theorem haltBench_bench (s : State) (b : Fin 5) : ∃ l n v, (s.haltBench b).bench b = { s.bench b with
    mode := .halted, handler := none, replay := [], queue := [], held := [], inbox := [], faultEvs := []
    joining := false, starting := false, leaving := false, ledgerBuf := l, lsws := n, sent := v } := by
  simp only [haltBench]
  generalize (s.bench b).queue ++ (s.bench b).held ++ (s.bench b).inbox ++ (s.bench b).faultEvs = es
  generalize hhalt : s.setBench b _ = u
  have hbench := hhalt ▸ bench_setBench_self s b _
  have hkept := u.discardEvents_bench b b es
  have hidle : ((u.discardEvents b es).bench b).takes = false := by rw [hkept, hbench]; rfl
  obtain ⟨l, n, v, h⟩ := settle_idle hidle
  rw [h, hkept, hbench]
  exact ⟨l, n, v, rfl⟩

/-! ### A bench fault -/

/-- The FAULT event of a bench fault waits at its own bench; the other benches' queues take events (R127, R807). -/
theorem raiseFault_bench (s : State) (b d : Fin 5) (code cls pc arg : Nat) : ∃ q l m f,
    (s.raiseFault b code cls pc arg).bench d =
      { s.bench d with queue := q, held := l, queueHigh := m, faultEvs := f } := by
  have h := s.raiseBench_queued code b cls
  simp only [raiseFault]
  generalize s.raiseBench code b cls = u at h ⊢
  obtain ⟨q, l, m, hd⟩ := h.bench d
  by_cases hdb : d = b
  · subst hdb
    have hnoted : ∀ c e, ({ u with prog := { u.prog with lastFault := c, lastFaultBench := e } } : State).bench d =
      u.bench d := fun _ _ => rfl
    rw [bench_setBench_self, hnoted, hd]
    exact ⟨q, l, m, _, rfl⟩
  · exact ⟨q, l, m, _, (bench_setBench_ne fun h => hdb (Fin.ext h)).trans hd⟩

theorem raiseFault_prog (s : State) (b code cls pc arg : Nat) : ∃ bs v e x,
    (s.raiseFault b code cls pc arg).prog = { s.prog with
      bench := bs, void := v, voidTo := e, dropped := x, lastFault := code, lastFaultBench := b } := by
  obtain ⟨_, v, e, x, h⟩ := (s.raiseBench_queued code b cls).prog
  simp only [raiseFault, setBench, h]
  exact ⟨_, v, e, x, rfl⟩

end State

/-- A bench whose handler `h` has faulted, its fault counted at `sfs` and the handler logged to be skipped (R138,
R141). -/
def Bench.faulted (n : Bench) (h : Handler) (sfs : Nat) : Bench :=
  { n with
    handler := none, faultSfs := sfs :: n.faultSfs.filter fun x => decide (sfs < x + 16)
    stepsSf := max n.stepsSf h.used, log := n.log ++ [⟨h.ev, [], false⟩] }

namespace State

/-- Bench `b`, to be as `n` but for its checkpoint, begins the replay of its log (R138). -/
def beginReplay (s : State) (b : Nat) (n : Bench) : State :=
  let back := s.benchCkpt b
  { s.setBench b { n with
      mode := .replay
      data := (back.map (·.data)).getD (s.initialData b)
      wakes := (back.map (·.wakes)).getD (Vector.replicate 16 none)
      replay := n.log } with
    prog.restarts := satAdd 65535 s.prog.restarts 1 }

variable {s : State} {b : Fin 5} {h : Handler} {code arg : Nat}

/-- What is raised before the bench is dealt with: its FAULT event waits, the fault is the last one, and of the benches
only queues and waiting FAULT events differ (R137). -/
structure Raised (s w : State) (b : Fin 5) (code : Nat) : Prop where
  prog : ∃ bs v e x, w.prog = { s.prog with
    bench := bs, void := v, voidTo := e, dropped := x, lastFault := code, lastFaultBench := b }
  bench : ∀ d : Fin 5, ∃ q l m f, w.bench d = { s.bench d with queue := q, held := l, queueHigh := m, faultEvs := f }

theorem raiseFault_raised {t : State} (hq : s.Queued t) (b : Fin 5) (code cls pc arg : Nat) :
    s.Raised (t.raiseFault b code cls pc arg) b code where
  prog := by
    obtain ⟨_, _, _, _, h⟩ := hq.prog
    obtain ⟨_, _, _, _, k⟩ := t.raiseFault_prog b code cls pc arg
    rw [h] at k
    exact ⟨_, _, _, _, k⟩
  bench d := by
    obtain ⟨_, _, _, h⟩ := hq.bench d
    obtain ⟨_, _, _, _, k⟩ := t.raiseFault_bench b d code cls pc arg
    rw [h] at k
    exact ⟨_, _, _, _, k⟩

/-- A bench fault of a handler that is no replay: the fault is raised, and the bench begins its replay or, at the
fourth fault in its window, is HALTED (R138, R141). -/
theorem benchFault_of_run (hrun : (s.bench b).mode = .run) (h : Handler) (code arg : Nat) :
    ∃ w, s.Raised w b code ∧ s.benchFault b h code arg =
      let n := (w.bench b).faulted h w.prog.sfs
      if 4 ≤ n.faultSfs.length then ((w.setBench b n).raiseFault b 0x810A clsLost h.pc arg).haltBench b
      else w.beginReplay b n := by
  have hnew : ¬ (s.bench b).mode = .replay := by simp [hrun]
  have hvoid : s.Queued (if code = 0x8101 ∧ decide (b.val < 4) = true then s.voidFrom h.ev.pos else s) := by
    split
    · exact s.voidFrom_queued _
    · exact .refl s
  have hraised := raiseFault_raised hvoid b code
    (if code = 0x8101 ∧ decide (b.val < 4) = true then clsVoid else clsNote) h.pc arg
  exact ⟨_, hraised, if_neg hnew⟩

theorem Raised.fields {w : State} (hw : s.Raised w b code) :
    w.prog.ledger = s.prog.ledger ∧ w.prog.ckpt = s.prog.ckpt ∧ w.prog.restarts = s.prog.restarts ∧
      w.prog.lastFault = code ∧ w.prog.lastFaultBench = b.val := by
  obtain ⟨_, _, _, _, hprog⟩ := hw.prog
  simp only [hprog, and_self]

/-- The faults of the window, this one counted. -/
theorem Raised.faulted_length {w : State} (hw : s.Raised w b code) (h : Handler) :
    ((w.bench b).faulted h w.prog.sfs).faultSfs.length =
      ((s.bench b).faultSfs.filter fun x => decide (s.prog.sfs < x + 16)).length + 1 := by
  obtain ⟨_, _, _, _, hprog⟩ := hw.prog
  obtain ⟨_, _, _, _, hbench⟩ := hw.bench b
  rw [hprog, hbench]
  rfl

/-- Short of the fourth fault the bench begins its replay (R138). -/
theorem benchFault_replays (hrun : (s.bench b).mode = .run)
    (hfew : ((s.bench b).faultSfs.filter fun x => decide (s.prog.sfs < x + 16)).length < 3) (h : Handler)
    (code arg : Nat) : ∃ w, s.Raised w b code ∧
      s.benchFault b h code arg = w.beginReplay b ((w.bench b).faulted h w.prog.sfs) := by
  obtain ⟨w, hw, hfault⟩ := benchFault_of_run hrun h code arg
  have hshort : ¬ 4 ≤ ((w.bench b).faulted h w.prog.sfs).faultSfs.length := by
    rw [hw.faulted_length h]
    omega
  exact ⟨w, hw, hfault.trans (if_neg hshort)⟩

/-- The fourth fault halts it (R141). -/
theorem benchFault_halts (hrun : (s.bench b).mode = .run)
    (hmany : 3 ≤ ((s.bench b).faultSfs.filter fun x => decide (s.prog.sfs < x + 16)).length) (h : Handler)
    (code arg : Nat) : ∃ u : State, (u.bench b).data = (s.bench b).data ∧
      s.benchFault b h code arg = u.haltBench b := by
  obtain ⟨w, hw, hfault⟩ := benchFault_of_run hrun h code arg
  have hfourth : 4 ≤ ((w.bench b).faulted h w.prog.sfs).faultSfs.length := by
    rw [hw.faulted_length h]
    omega
  refine ⟨_, ?_, hfault.trans (if_pos hfourth)⟩
  obtain ⟨_, _, _, _, hbench⟩ := hw.bench b
  obtain ⟨_, _, _, _, hlost⟩ :=
    (w.setBench b ((w.bench b).faulted h w.prog.sfs)).raiseFault_bench b b 0x810A clsLost h.pc arg
  rw [hlost, bench_setBench_self, hbench]
  rfl

theorem beginReplay_bench_self {w : State} (n : Bench) {c : Ckpt} {k : BenchCkpt} (hc : w.prog.ckpt = some c)
    (hk : c.benches[b.val]? = some k) : (w.beginReplay b n).bench b =
      { n with mode := .replay, data := k.data, wakes := k.wakes, replay := n.log } := by
  have hback : w.benchCkpt b = some k := by
    rw [benchCkpt, hc]
    exact hk
  simp only [beginReplay, hback]
  exact bench_setBench_self w b _

theorem beginReplay_bench_ne {w : State} {d : Fin 5} (n : Bench) (hd : d ≠ b) :
    (w.beginReplay b n).bench d = w.bench d :=
  bench_setBench_ne fun h => hd (Fin.ext h)

end State

/-- Settles O16: the fault is raised, and what becomes of the bench turns on the count of its window. -/
theorem benchFaultsRestartThenHalt : Obligations.BenchFaultsRestartThenHalt := by
  unfold Obligations.BenchFaultsRestartThenHalt
  refine ⟨?restarts, ?halts⟩
  case restarts =>
    intro s b h code arg c k hrun hckpt hback hfew t
    obtain ⟨w, hw, hfault⟩ := State.benchFault_replays hrun hfew h code arg
    obtain ⟨hledger, hc, hrestarts, hlast, hat⟩ := hw.fields
    obtain ⟨_, _, _, _, hbench⟩ := hw.bench b
    have hself := State.beginReplay_bench_self ((w.bench b).faulted h w.prog.sfs) (hc.trans hckpt) hback
    have ht : t = w.beginReplay b ((w.bench b).faulted h w.prog.sfs) := hfault
    rw [ht, hself]
    refine ⟨rfl, rfl, rfl, rfl, ?_, ?_, hledger, hlast, hat, congrArg (satAdd 65535 · 1) hrestarts, fun d hd => ?_⟩
    · rw [hbench]; rfl
    · rw [hbench]; rfl
    · obtain ⟨_, _, _, _, hother⟩ := hw.bench d
      rw [State.beginReplay_bench_ne _ hd, hother]
      exact ⟨rfl, rfl⟩
  case halts =>
    intro s b h code arg hrun hmany t
    obtain ⟨u, hdata, hfault⟩ := State.benchFault_halts hrun hmany h code arg
    obtain ⟨_, _, _, hbench⟩ := u.haltBench_bench b
    have ht : t = u.haltBench b := hfault
    rw [ht, hbench]
    exact ⟨rfl, rfl, rfl, rfl, rfl, hdata⟩

end Sys2Proof.Machine
end

section
/-! PROOFS. Alnomal's arithmetic (Tables 5-5 to 5-7): saturation, bit counts, division and the immediate forms. -/

namespace Sys2Proof.Machine

open Sys2Proof

/-! ### Saturation (R180) -/

theorem toInt_satSigned (e : Int) : (satSigned e).toInt = max (-2147483648) (min 2147483647 e) := by
  unfold satSigned
  split
  · next hhigh =>
    rw [show (0x7FFFFFFF#32).toInt = 2147483647 by decide]
    omega
  · split
    · next hlow =>
      rw [show (0x80000000#32).toInt = -2147483648 by decide]
      omega
    · next hlow =>
      have hbelow : -((2 ^ 32 : Nat) / 2 : Int) ≤ e := show (-2147483648 : Int) ≤ e by omega
      have habove : e < ((2 ^ 32 : Nat) + 1 : Int) / 2 := show e < (2147483648 : Int) by omega
      rw [BitVec.toInt_ofInt, Int.bmod_eq_of_le hbelow habove]
      omega

theorem toNat_satUnsigned (e : Int) : ((satUnsigned e).toNat : Int) = max 0 (min 4294967295 e) := by
  unfold satUnsigned
  split
  · next hhigh =>
    rw [show (0xFFFFFFFF#32).toNat = 4294967295 by decide]
    omega
  · split
    · next hlow =>
      rw [show (0#32).toNat = 0 by decide]
      omega
    · next hlow =>
      rw [BitVec.toNat_ofInt]
      omega

/-- A saturated sum is the clamped integer as a word. -/
theorem satSigned_eq_ofInt (e : Int) : satSigned e = BitVec.ofInt 32 (max (-2147483648) (min 2147483647 e)) := by
  rw [← toInt_satSigned, BitVec.ofInt_toInt]

/-! ### Bit counts -/

theorem clzWord_le (x : Word) : clzWord x ≤ 32 := by
  unfold clzWord
  split <;> omega

/-- Above the counted zeros nothing stands. -/
theorem lt_two_pow_clzWord (x : Word) : x.toNat < 2 ^ (32 - clzWord x) := by
  unfold clzWord
  split
  · next hx => subst hx; decide
  · next hx =>
    have hne : x.toNat ≠ 0 := fun h => hx (BitVec.eq_of_toNat_eq h)
    have hlog : x.toNat.log2 < 32 := (Nat.log2_lt hne).mpr x.isLt
    rw [show 32 - (31 - x.toNat.log2) = x.toNat.log2 + 1 by omega]
    exact Nat.lt_log2_self

/-- And below them stands a one bit. -/
theorem two_pow_clzWord_le (x : Word) (h : clzWord x < 32) : 2 ^ (31 - clzWord x) ≤ x.toNat := by
  unfold clzWord at h ⊢
  split at h
  · omega
  · next hx =>
    have hne : x.toNat ≠ 0 := fun h => hx (BitVec.eq_of_toNat_eq h)
    have hlog : x.toNat.log2 < 32 := (Nat.log2_lt hne).mpr x.isLt
    rw [if_neg hx, show 31 - (31 - x.toNat.log2) = x.toNat.log2 by omega]
    exact Nat.log2_self_le hne

theorem popWord_eq (x : Word) : popWord x = ((List.finRange 32).filter fun i => x.getLsb i).length := by
  have hrange : List.range 32 = (List.finRange 32).map Fin.val := by decide
  rw [popWord, hrange, List.filter_map, List.length_map]
  rfl

theorem popWord_le (x : Word) : popWord x ≤ 32 := by
  have := List.length_filter_le (fun i => x.getLsbD i) (List.range 32)
  simpa [popWord] using this

theorem toNat_ofNat_small {n : Nat} (h : n ≤ 32) : (BitVec.ofNat 32 n).toNat = n := by
  rw [BitVec.toNat_ofNat]
  omega

/-! ### Division (R181) -/

theorem divWord_eq (x y : Word) : divWord x y = if y = 0 then 0xFFFFFFFF else x.sdiv y := by
  unfold divWord
  split
  · rfl
  · apply BitVec.eq_of_toInt_eq
    rw [BitVec.toInt_ofInt, BitVec.toInt_sdiv]

theorem divuWord_eq (x y : Word) : divuWord x y = if y = 0 then 0xFFFFFFFF else x / y := by
  unfold divuWord
  split
  · rfl
  · apply BitVec.eq_of_toNat_eq
    rw [BitVec.toNat_ofNat, BitVec.toNat_udiv]
    exact Nat.mod_eq_of_lt (Nat.lt_of_le_of_lt (Nat.div_le_self _ _) x.isLt)

/-! ### Truth values and immediates -/

theorem truth_slt (x y : Word) : truth (x.slt y) = if x.toInt < y.toInt then 1 else 0 := by
  simp only [truth, BitVec.slt_iff_toInt_lt]

theorem truth_ult (x y : Word) : truth (x.ult y) = if x.toNat < y.toNat then 1 else 0 := by
  simp only [truth, BitVec.ult_iff_lt, BitVec.lt_def]

theorem lui_word (m : BitVec 16) : BitVec.ofNat 32 (m.toNat * 2 ^ 16) = (m.setWidth 32 <<< 16 : Word) := by
  apply BitVec.eq_of_toNat_eq
  have hm := m.isLt
  rw [BitVec.toNat_ofNat, BitVec.toNat_shiftLeft, BitVec.toNat_setWidth, Nat.shiftLeft_eq]
  omega

/-! ### The instructions -/

/-- An instruction that computes its result from the registers, its word named. -/
theorem next_compute {s : State} {b : Fin 5} {c : Nat} {rd : Fin 16} {f : Handler → Word} {h : Handler} {v : Word}
    (hr : s.running b h c) (hv : f (h.spend c) = v) :
    (.next (s.compute b c rd f) : Host.Outcome State Fault Refusal) = .next (s.goesOn b (h.put rd v) c) :=
  congrArg Host.Outcome.next (hv ▸ State.compute_running hr)

/-- Settles O3: each result is the clamped integer, and the counts are those of the binary digits. -/
theorem saturationAndBitCounts : Obligations.SaturationAndBitCounts := by
  unfold Obligations.SaturationAndBitCounts
  refine ⟨fun s b h rd ra rb imm hr => ?saturation, fun s b h rd ra hr => ?counts⟩
  case saturation =>
    exact ⟨⟨_, next_compute hr rfl, toInt_satSigned _⟩, ⟨_, next_compute hr rfl, toInt_satSigned _⟩,
      ⟨_, next_compute hr rfl, toInt_satSigned _⟩, ⟨_, next_compute hr rfl, toNat_satUnsigned _⟩,
      ⟨_, next_compute hr rfl, toNat_satUnsigned _⟩⟩
  case counts =>
    intro x
    have hclz : (BitVec.ofNat 32 (clzWord x)).toNat = clzWord x := toNat_ofNat_small (clzWord_le x)
    refine ⟨⟨_, next_compute hr rfl, ?_⟩, ⟨_, next_compute hr rfl, ?_⟩⟩
    · rw [Handler.spend_get, hclz]
      exact ⟨clzWord_le x, lt_two_pow_clzWord x, two_pow_clzWord_le x⟩
    · rw [Handler.spend_get, toNat_ofNat_small (popWord_le _), popWord_eq]

/-- Settles O4: quotient and remainder of the model are those of truncating division, a divisor of 0 apart. -/
theorem divisionNeverFaults : Obligations.DivisionNeverFaults := by
  unfold Obligations.DivisionNeverFaults
  intro s b h rd ra rb hr x y q u
  have hq : divWord x y = q := divWord_eq x y
  have hu : divuWord x y = u := divuWord_eq x y
  rw [← hq, ← hu]
  exact ⟨next_compute hr rfl, next_compute hr rfl, next_compute hr rfl, next_compute hr rfl⟩

/-- Settles O5: each immediate form by its word, SREM by the steps paid. -/
theorem immediateArithmeticCompletes : Obligations.ImmediateArithmeticCompletes := by
  unfold Obligations.ImmediateArithmeticCompletes
  intro s b h rd ra imm sh up hr x n sx zx one
  have hsx : sx.toInt = imm.toInt := BitVec.toInt_signExtend_of_le (by decide)
  have haddis : satSigned (x.toInt + imm.toInt) =
      BitVec.ofInt 32 (max (-2147483648) (min 2147483647 (x.toInt + sx.toInt))) := by
    rw [satSigned_eq_ofInt, hsx]
  exact ⟨next_compute hr rfl, next_compute hr haddis, next_compute hr rfl, next_compute hr rfl, next_compute hr rfl,
    next_compute hr rfl, next_compute hr rfl, next_compute hr rfl, next_compute hr (truth_slt x sx),
    next_compute hr (truth_ult x zx), next_compute hr (lui_word up), next_compute hr rfl⟩

end Sys2Proof.Machine
end

section
/-! PROOFS. Alnomal's control instructions (Table 5-8): branches, jumps, calls, returns and END. -/

namespace Sys2Proof.Machine

open Sys2Proof

section Control

variable {s : State} {b : Fin 5} {h k : Handler} {c a : Nat} {f : State → Handler → Exec}

/-- An instruction that transfers control to a word of the code section goes there with the handler `k` (R182). -/
theorem State.instruct_goto (hp : s.paying b h c) (hf : f s (h.spend c) = .goto s (k.spend c) a)
    (ha : a < s.codeWords) : s.instruct b c f = s.at_ b k c a := by
  have hpaid : f s { h with used := h.used + c } = .goto s (k.spend c) a := hf
  simp only [State.instruct_paid hp, hpaid]
  exact if_neg (Nat.not_le.mpr ha)

/-- A transfer to a target outside the code section is not taken and faults (R183). -/
theorem State.instruct_goto_outside {k : Handler} (hp : s.paying b h c) (hf : f s (h.spend c) = .goto s k a)
    (ha : s.codeWords ≤ a) : s.instruct b c f = s.benchFault b { h with used := h.used + c } 0x8103 a := by
  have hpaid : f s { h with used := h.used + c } = .goto s k a := hf
  simp only [State.instruct_paid hp, hpaid]
  exact if_pos ha

/-- A branch goes to PC + off18 where its condition holds, and on where it does not (R182). -/
theorem instruct_branch {off : BitVec 18} {taken : Bool} {g : Handler → Bool} (hr : s.running b h c)
    (hg : g (h.spend c) = taken) (ha : (BitVec.ofNat 32 h.pc + off.signExtend 32).toNat < s.codeWords) :
    s.instruct b c (fun s h => branch h off (g h) s) =
      if taken then s.at_ b h c (BitVec.ofNat 32 h.pc + off.signExtend 32).toNat else s.goesOn b h c := by
  cases taken with
  | true => exact State.instruct_goto hr.1 (by rw [hg]; rfl) ha
  | false => exact State.instruct_goesOn hr (by rw [hg]; rfl) rfl rfl

/-- A branch taken when a proposition holds. -/
theorem next_branch {off : BitVec 18} {g : Handler → Bool} {p : Prop} [Decidable p] (hr : s.running b h c)
    (hg : g (h.spend c) = decide p) (ha : (BitVec.ofNat 32 h.pc + off.signExtend 32).toNat < s.codeWords) :
    (.next (s.instruct b c fun s h => branch h off (g h) s) : Host.Outcome State Fault Refusal) =
      if p then .next (s.at_ b h c (BitVec.ofNat 32 h.pc + off.signExtend 32).toNat)
      else .next (s.goesOn b h c) := by
  rw [instruct_branch hr hg ha]
  by_cases hp : p <;> simp [hp]

/-- A branch taken when a proposition fails. -/
theorem next_branch_not {off : BitVec 18} {g : Handler → Bool} {p : Prop} [Decidable p] (hr : s.running b h c)
    (hg : g (h.spend c) = !decide p) (ha : (BitVec.ofNat 32 h.pc + off.signExtend 32).toNat < s.codeWords) :
    (.next (s.instruct b c fun s h => branch h off (g h) s) : Host.Outcome State Fault Refusal) =
      if p then .next (s.goesOn b h c)
      else .next (s.at_ b h c (BitVec.ofNat 32 h.pc + off.signExtend 32).toNat) := by
  rw [instruct_branch hr hg ha]
  by_cases hp : p <;> simp [hp]

/-- The handler that a call leaves: w15 [15:0] pushed and the next word's address in w15 (R184, R185). -/
def Handler.linked (h : Handler) : Handler :=
  ({ h with stack := (h.get 15).setWidth 16 :: h.stack }).put 15 (BitVec.ofNat 32 (h.pc + 1))

theorem call_of_room (hroom : h.stack.length < 16) (a : Nat) (s : State) :
    call (h.spend c) a s = .goto s (h.linked.spend c) a :=
  (if_neg (Nat.not_le.mpr hroom)).trans
    (congrArg (Exec.goto s · a) (Handler.spend_put { h with stack := (h.get 15).setWidth 16 :: h.stack } c 15 _))

theorem call_of_full (hfull : 16 ≤ h.stack.length) (a : Nat) (s : State) :
    call (h.spend c) a s = .fault 0x8104 0 := if_pos hfull

end Control

theorem beq_word_eq_decide (x y : Word) : (x == y) = decide (x = y) := rfl

theorem ult_eq_decide (x y : Word) : x.ult y = decide (x.toNat < y.toNat) := rfl

/-- Settles O6: the branches by their conditions, the transfers by their targets, calls and returns by the stack. -/
theorem transfersOfControlComplete : Obligations.TransfersOfControlComplete := by
  unfold Obligations.TransfersOfControlComplete
  refine ⟨fun s b h ra rb off target hr => ?jumps, fun s b h ra target hp => ?calls⟩
  case jumps =>
    intro x y a on go
    refine ⟨fun ha => ?_, fun ha => congrArg Host.Outcome.next (State.instruct_goto hr.1 rfl ha),
      fun ha => congrArg Host.Outcome.next (State.instruct_goto hr.1 rfl ha),
      congrArg Host.Outcome.next (State.instruct_goesOn (hr.mono (by decide)) rfl rfl rfl)⟩
    exact ⟨next_branch hr (beq_word_eq_decide x y) ha,
      next_branch_not hr (congrArg not (beq_word_eq_decide x y)) ha,
      next_branch hr BitVec.slt_eq_decide ha, next_branch_not hr (congrArg not BitVec.slt_eq_decide) ha,
      next_branch hr (ult_eq_decide x y) ha, next_branch_not hr (congrArg not (ult_eq_decide x y)) ha⟩
  case calls =>
    refine ⟨fun hroom ha => ?_, fun hroom ha => ?_, fun e rest hstack ha => ?_, fun hfull => ?_, fun hfull => ?_,
      fun hstack => ?_⟩
    · exact congrArg Host.Outcome.next (State.instruct_goto hp (call_of_room hroom _ _) ha)
    · exact congrArg Host.Outcome.next (State.instruct_goto hp (call_of_room hroom _ _) ha)
    · refine congrArg Host.Outcome.next (State.instruct_goto hp ?_ ha)
      have hpop : (h.spend 3).stack = e :: rest := hstack
      simp only [hpop]
      exact congrArg (Exec.goto s · _) (Handler.spend_put { h with stack := rest } 3 15 _)
    · exact congrArg Host.Outcome.next (State.instruct_benchFault hp (call_of_full hfull _ _))
    · exact congrArg Host.Outcome.next (State.instruct_benchFault hp (call_of_full hfull _ _))
    · refine congrArg Host.Outcome.next (State.instruct_benchFault hp ?_)
      have hpop : (h.spend 3).stack = [] := hstack
      simp only [hpop]

/-- END with an empty call stack ends the handler, unless a replay has items left (R135, R139, R186). -/
theorem State.instruct_finish {s : State} {b : Fin 5} {h k : Handler} {c : Nat} {f : State → Handler → Exec}
    (hp : s.paying b h c) (hf : f s (h.spend c) = .finish s k) : s.instruct b c f = s.endHandler b k := by
  have hpaid : f s { h with used := h.used + c } = .finish s k := hf
  simp only [State.instruct_paid hp, hpaid]

/-- Settles O7: END by the call stack and by what the handler replays. -/
theorem endFinishesTheHandler : Obligations.EndFinishesTheHandler := by
  unfold Obligations.EndFinishesTheHandler
  intro s b h hp
  refine ⟨fun hstack hnew => ?_, fun hstack hover => ?_, fun hstack => ?_⟩
  · have hend : exec (.endHandler b) s = .next (s.endHandler b (h.spend 1)) :=
      congrArg Host.Outcome.next (State.instruct_finish hp (by simp [Handler.spend, hstack, hnew]))
    rw [hend, State.endHandler, Handler.spend_script, hnew]
    rfl
  · have hend : exec (.endHandler b) s = .next (s.endHandler b (h.spend 1)) :=
      congrArg Host.Outcome.next (State.instruct_finish hp (by simp [Handler.spend, hstack, hover]))
    rw [hend, State.endHandler, Handler.spend_script, hover]
  · exact congrArg Host.Outcome.next (State.instruct_benchFault hp (if_pos hstack))

end Sys2Proof.Machine
end

section
/-! PROOFS. Bytes and words: a number spelt by bytes, most significant byte first (R82, R169), and the runs of bytes of
data memory. -/

namespace Sys2Proof.Machine

open Sys2Proof

/-! ### Numbers spelt by bytes -/

theorem toNat_append_eq {m n : Nat} (x : BitVec m) (y : BitVec n) : (x ++ y).toNat = x.toNat * 2 ^ n + y.toNat := by
  rw [BitVec.toNat_append, ← Nat.shiftLeft_add_eq_or_of_lt y.isLt, Nat.shiftLeft_eq]

theorem natBE_one (x : Byte) : natBE [x] = x.toNat := by simp [natBE]

theorem natBE_two (x y : Byte) : natBE [x, y] = (x ++ y).toNat := by
  rw [toNat_append_eq]
  simp [natBE]

theorem natBE_four (w x y z : Byte) : natBE [w, x, y, z] = ((w ++ x) ++ (y ++ z)).toNat := by
  simp only [toNat_append_eq, natBE, List.foldl_cons, List.foldl_nil]
  omega

theorem ofNat_natBE_one (x : Byte) : BitVec.ofNat 8 (natBE [x]) = x := by
  rw [natBE_one, BitVec.ofNat_toNat, BitVec.setWidth_eq]

theorem ofNat_natBE_two (x y : Byte) : BitVec.ofNat 16 (natBE [x, y]) = x ++ y := by
  rw [natBE_two, BitVec.ofNat_toNat, BitVec.setWidth_eq]

theorem ofNat_natBE_four (w x y z : Byte) : BitVec.ofNat 32 (natBE [w, x, y, z]) = (w ++ x) ++ (y ++ z) := by
  rw [natBE_four, BitVec.ofNat_toNat, BitVec.setWidth_eq]

/-- Byte `k` of a number of `n` bytes. -/
theorem getElem_bytesBE {n k : Nat} (v : Nat) (hk : k < n) :
    (bytesBE n v)[k]'(by simpa using hk) = BitVec.ofNat 8 (v / 256 ^ (n - 1 - k)) := by
  induction n generalizing k with
  | zero => omega
  | succ n ih =>
    cases k with
    | zero => rfl
    | succ k =>
      have hkn : k < n := by omega
      rw [show n + 1 - 1 - (k + 1) = n - 1 - k by omega]
      exact ih hkn

/-- A byte of a word, shifted down. -/
theorem ofNat_div_eq_shift (v : Word) (j : Nat) : BitVec.ofNat 8 (v.toNat / 256 ^ j) = (v >>> (8 * j)).setWidth 8 := by
  apply BitVec.eq_of_toNat_eq
  rw [BitVec.toNat_ofNat, BitVec.toNat_setWidth, BitVec.toNat_ushiftRight, Nat.shiftRight_eq_div_pow, Nat.pow_mul]

theorem getElem_bytesBE_word {n k : Nat} (v : Word) (hk : k < n) :
    (bytesBE n v.toNat)[k]'(by simpa using hk) = (v >>> (8 * (n - 1 - k))).setWidth 8 :=
  (getElem_bytesBE v.toNat hk).trans (ofNat_div_eq_shift v _)

theorem readBytes_eq_map (m : List Host.Cell) (a n : Nat) :
    readBytes m a n = (List.range n).map fun k => sget 0 m (a + k) := by
  induction n generalizing a with
  | zero => rfl
  | succ n ih =>
    rw [List.range_succ_eq_map, readBytes, ih]
    simp [Function.comp_def, Nat.add_left_comm, Nat.add_comm]

/-! ### The event window -/

/-- The window reads its bytes, and 0 from LEN on (R195). -/
theorem Event.window_eq (e : Event) (k : Nat) : e.window k = if k < e.win.length then e.win.getD k 0 else 0 := by
  split
  · rfl
  · next hk =>
    rw [Event.window, byteAt, List.getD_eq_getElem?_getD, List.getElem?_eq_none (Nat.le_of_not_lt hk)]
    rfl

theorem fieldBE_one (bs : List Byte) (o : Nat) : fieldBE bs o 1 = natBE [byteAt bs o] := rfl
theorem fieldBE_two (bs : List Byte) (o : Nat) : fieldBE bs o 2 = natBE [byteAt bs o, byteAt bs (o + 1)] := rfl
theorem fieldBE_four (bs : List Byte) (o : Nat) :
    fieldBE bs o 4 = natBE [byteAt bs o, byteAt bs (o + 1), byteAt bs (o + 2), byteAt bs (o + 3)] := rfl

/-! ### Faults of an access (R192) -/

theorem accessFault_misaligned {a n size : Nat} (ha : a % n ≠ 0) : accessFault a n size = some (0x8110, a) := if_pos ha

theorem accessFault_outside {a n size : Nat} (ha : a % n = 0) (hend : size < a + n) :
    accessFault a n size = some (0x8103, a) := (if_neg (not_not_intro ha)).trans (if_pos hend)

end Sys2Proof.Machine
end

section
/-! PROOFS. Alnomal's memory, event and digest instructions (Tables 5-9 to 5-12 and 5-19). -/

namespace Sys2Proof.Machine

open Sys2Proof

section Accesses

variable {s : State} {b : Fin 5} {h : Handler} {rd ra : Fin 16} {imm : BitVec 18} {n code a : Nat}

/-! ### Loads and stores of data memory -/

/-- A load inside data memory writes rd (R191). -/
theorem next_loadData {g : Nat → Word} {v : Word} (hr : s.running b h 2) (ha : addrOf h ra imm % n = 0)
    (hend : addrOf h ra imm + n ≤ 0x8000)
    (hv : g (natBE (readBytes (s.bench b).data (addrOf h ra imm) n)) = v) :
    (.next (loadData b rd ra imm n g s) : Host.Outcome State Fault Refusal) = .next (s.goesOn b (h.put rd v) 2) := by
  refine congrArg Host.Outcome.next (State.instruct_goesOn hr ?_ (by simp) rfl)
  simp only [addrOf_spend, accessFault_aligned ha hend, Handler.spend_put, State.dataOf, hv]

theorem next_loadData_fault {g : Nat → Word} (hp : s.paying b h 2)
    (hfault : accessFault (addrOf h ra imm) n 0x8000 = some (code, a)) :
    (.next (loadData b rd ra imm n g s) : Host.Outcome State Fault Refusal) =
      .next (s.benchFault b { h with used := h.used + 2 } code a) := by
  refine congrArg Host.Outcome.next (State.instruct_benchFault hp ?_)
  simp only [addrOf_spend, hfault]

theorem next_storeData_fault (hp : s.paying b h 2)
    (hfault : accessFault (addrOf h ra imm) n 0x8000 = some (code, a)) :
    (.next (storeData b rd ra imm n s) : Host.Outcome State Fault Refusal) =
      .next (s.benchFault b { h with used := h.used + 2 } code a) := by
  refine congrArg Host.Outcome.next (State.instruct_benchFault hp ?_)
  simp only [addrOf_spend, hfault]

/-- Bytes written, and the bench gone on: one change of the bench. -/
theorem writeData_goesOn (s : State) (b : Fin 5) (h : Handler) (c a : Nat) (xs : List Byte) :
    (s.writeData b a xs).goesOn b h c = s.setBench b { s.bench b with
      data := writeBytes (s.bench b).data a xs, handler := some { h with used := h.used + c, pc := h.pc + 1 } } := by
  simp only [State.writeData, State.goesOn, State.at_, State.bench_setBench_self, State.setBench_setBench, State.dataOf]

theorem next_storeData (hr : s.running b h 2) (ha : addrOf h ra imm % n = 0) (hend : addrOf h ra imm + n ≤ 0x8000) :
    (.next (storeData b rd ra imm n s) : Host.Outcome State Fault Refusal) = .next (s.setBench b { s.bench b with
      data := writeBytes (s.bench b).data (addrOf h ra imm) (bytesBE n (h.get rd).toNat)
      handler := some { h with used := h.used + 2, pc := h.pc + 1 } }) := by
  rw [← writeData_goesOn]
  refine congrArg Host.Outcome.next (State.instruct_goesOn hr ?_ rfl rfl)
  simp only [addrOf_spend, accessFault_aligned ha hend, Handler.spend_get]

theorem exec_evcpy_aligned (hr : s.running b h 16) (ha : (h.get ra).toNat % 4 = 0)
    (hend : (h.get ra).toNat + 64 ≤ 0x8000) :
    exec (.evcpy b ra) s = .next (s.setBench b { s.bench b with
      data := writeBytes (s.bench b).data (h.get ra).toNat ((List.range 64).map h.ev.window)
      handler := some { h with used := h.used + 16, pc := h.pc + 1 } }) := by
  rw [← writeData_goesOn]
  refine congrArg Host.Outcome.next (State.instruct_goesOn hr ?_ rfl rfl)
  simp only [Handler.spend_get, ha, ne_eq, not_true, if_false, Nat.not_lt.mpr hend, Handler.spend_ev]

/-- What a run of bytes written leaves: its own bytes, and every other as before (R191). -/
theorem writeBytes_reads {m : List Host.Cell} (hm : swf 0 m = true) (a : Nat) {xs : List Byte} {len : Nat}
    {f : Nat → Byte} (hlen : xs.length = len) (hf : ∀ k (hk : k < xs.length), xs[k] = f k) :
    (∀ k, k < len → sget 0 (writeBytes m a xs) (a + k) = f k) ∧
      ∀ k, k < a ∨ a + len ≤ k → sget 0 (writeBytes m a xs) k = sget 0 m k := by
  subst hlen
  exact ⟨fun k hk => (sget_writeBytes hm hk).trans (hf k hk), fun k hk => sget_writeBytes_ne hk⟩

/-! ### The code section and the event -/

/-- LDC reads a word of the code section as loaded (Table 5-9). -/
theorem exec_ldc_aligned {i : Image} (hr : s.running b h 3) (himg : s.prog.image = some i)
    (ha : addrOf h ra imm % 4 = 0) (hend : addrOf h ra imm + 4 ≤ i.codeLen) :
    exec (.ldc b rd ra imm) s = .next (s.goesOn b
      (h.put rd (BitVec.ofNat 32 (natBE (readBytes i.code (addrOf h ra imm) 4)))) 3) := by
  refine congrArg Host.Outcome.next (State.instruct_goesOn hr ?_ (by simp) rfl)
  simp only [himg, addrOf_spend, accessFault_aligned ha hend, Handler.spend_put]

variable {off field : BitVec 8}

/-- A read within the window (R197). -/
theorem next_readWindow {v : Word} (hr : s.running b h 2) (hend : (h.get ra + off.setWidth 32).toNat + n ≤ 64)
    (hv : BitVec.ofNat 32 (fieldBE h.ev.win (h.get ra + off.setWidth 32).toNat n) = v) :
    (.next (readWindow b rd ra off n s) : Host.Outcome State Fault Refusal) = .next (s.goesOn b (h.put rd v) 2) := by
  refine congrArg Host.Outcome.next (State.instruct_goesOn hr ?_ (by simp) rfl)
  simp only [Handler.spend_get, Nat.not_lt.mpr hend, if_false, Handler.spend_ev, hv, Handler.spend_put]

/-- One beyond byte 63 faults (R197). -/
theorem next_readWindow_beyond (hp : s.paying b h 2) (hend : 64 < (h.get ra + off.setWidth 32).toNat + n) :
    (.next (readWindow b rd ra off n s) : Host.Outcome State Fault Refusal) =
      .next (s.benchFault b { h with used := h.used + 2 } 0x8111 (h.get ra + off.setWidth 32).toNat) :=
  congrArg Host.Outcome.next (State.instruct_benchFault hp (if_pos hend))

theorem exec_evf_defined (hr : s.running b h 2) (hfield : field.toNat ≤ 19) :
    exec (.evf b rd field) s = .next (s.goesOn b (h.put rd (h.ev.field field.toNat)) 2) := by
  refine congrArg Host.Outcome.next (State.instruct_goesOn hr ?_ (by simp) rfl)
  simp only [Nat.not_lt.mpr hfield, if_false, Handler.spend_ev, Handler.spend_put]

/-! ### Digests -/

theorem exec_crcd_aligned (hr : s.running b h 8) (ha : (h.get ra).toNat % 4 = 0)
    (hend : (h.get ra).toNat + 32 ≤ 0x8000) :
    exec (.crcd b rd ra) s = .next (s.goesOn b
      (h.put rd (crcBytes (h.get rd) (readBytes (s.bench b).data (h.get ra).toNat 32))) 8) := by
  refine congrArg Host.Outcome.next (State.instruct_goesOn hr ?_ (by simp) rfl)
  simp only [Handler.spend_get, ha, ne_eq, not_true, if_false, Nat.not_lt.mpr hend, State.dataOf, Handler.spend_put]

/-- The four bytes of a word, the most significant first (R223). -/
theorem bytesBE_four_word (x : Word) : bytesBE 4 x.toNat =
    [(x >>> 24).setWidth 8, (x >>> 16).setWidth 8, (x >>> 8).setWidth 8, x.setWidth 8] := by
  simp only [bytesBE, ofNat_div_eq_shift]
  rfl

end Accesses

/-- Settles O9: each load by the number its bytes spell. -/
theorem loadsReadDataMemory : Obligations.LoadsReadDataMemory := by
  unfold Obligations.LoadsReadDataMemory
  intro s b h rd ra imm hr a m half word got
  have hbyte : natBE (readBytes (s.bench b).data a 1) = (m a).toNat := natBE_one _
  have hhalf : natBE (readBytes (s.bench b).data a 2) = half.toNat := natBE_two _ _
  have hword : BitVec.ofNat 32 (natBE (readBytes (s.bench b).data a 4)) = word := ofNat_natBE_four _ _ _ _
  refine ⟨fun ha hend => next_loadData hr ha hend hword,
    fun ha hend => ⟨next_loadData hr ha hend ?_, next_loadData hr ha hend ?_⟩,
    fun hend => ⟨next_loadData hr (Nat.mod_one _) hend ?_, next_loadData hr (Nat.mod_one _) hend ?_⟩⟩
  · exact congrArg (BitVec.signExtend 32) (ofNat_natBE_two _ _)
  · exact (congrArg (BitVec.ofNat 32) hhalf).trans (BitVec.ofNat_toNat _ _)
  · exact congrArg (BitVec.signExtend 32) (ofNat_natBE_one _)
  · exact (congrArg (BitVec.ofNat 32) hbyte).trans (BitVec.ofNat_toNat _ _)

/-- Settles O10: each store is one run of bytes written. -/
theorem storesChangeTheirBytesOnly : Obligations.StoresChangeTheirBytesOnly := by
  unfold Obligations.StoresChangeTheirBytesOnly
  intro s b h rd ra imm hm hr a e v m stored
  have hr2 : s.running b h 2 := hr.mono (by decide)
  refine ⟨fun ha hend => ⟨_, next_storeData hr2 ha hend, ?_⟩, fun ha hend => ⟨_, next_storeData hr2 ha hend, ?_⟩,
    fun hend => ⟨_, next_storeData hr2 (Nat.mod_one _) hend, ?_⟩,
    fun he hend => ⟨_, exec_evcpy_aligned hr he hend, ?_⟩⟩
  · exact writeBytes_reads hm a (length_bytesBE 4 _) fun k hk => getElem_bytesBE_word v (by simpa using hk)
  · exact writeBytes_reads hm a (length_bytesBE 2 _) fun k hk => getElem_bytesBE_word v (by simpa using hk)
  · refine writeBytes_reads hm a (length_bytesBE 1 _) fun k hk => ?_
    have hzero : k = 0 := by simpa using hk
    subst hzero
    exact getElem_bytesBE_word v (by decide)
  · exact writeBytes_reads hm e (by simp) fun k hk => by simp [Event.window_eq]

/-- Settles O11: the alignment is judged before the range. -/
theorem badAddressesFault : Obligations.BadAddressesFault := by
  unfold Obligations.BadAddressesFault
  intro s b h rd ra imm hp a bad
  have hp2 : s.paying b h 2 := hp.mono (by decide)
  have hledger : ∀ code, accessFault a 4 0x10000 = some (code, a) →
      exec (.llw b rd ra imm) s = bad 3 code ∧ exec (.lsw b rd ra imm) s = bad 3 code := by
    intro code hfault
    have hfault : accessFault (addrOf h ra imm) 4 0x10000 = some (code, a) := hfault
    exact ⟨congrArg Host.Outcome.next (State.instruct_benchFault hp (by simp only [addrOf_spend, hfault])),
      congrArg Host.Outcome.next (State.instruct_benchFault hp (by simp only [addrOf_spend, hfault]))⟩
  refine ⟨fun ha => ?_, fun ha => ?_, fun ha hend => ?_, fun ha hend => hledger _ (accessFault_outside ha hend),
    fun hend => ?_⟩
  · have hfault := accessFault_misaligned (size := 0x8000) ha
    exact ⟨next_loadData_fault hp2 hfault, next_storeData_fault hp2 hfault, hledger _ (accessFault_misaligned ha)⟩
  · have hfault := accessFault_misaligned (size := 0x8000) ha
    exact ⟨next_loadData_fault hp2 hfault, next_loadData_fault hp2 hfault, next_storeData_fault hp2 hfault⟩
  · have hfault := accessFault_outside ha hend
    exact ⟨next_loadData_fault hp2 hfault, next_storeData_fault hp2 hfault⟩
  · have hfault := accessFault_outside (Nat.mod_one a) hend
    exact ⟨next_loadData_fault hp2 hfault, next_loadData_fault hp2 hfault, next_storeData_fault hp2 hfault⟩

/-- Settles O13: the window by its bytes, the digests by the CRC carried byte after byte. -/
theorem eventAndDigestInstructionsComplete : Obligations.EventAndDigestInstructionsComplete := by
  unfold Obligations.EventAndDigestInstructionsComplete
  refine ⟨fun s b h i rd ra off field imm hr himg => ?event, fun s b h rd ra hr => ?digest⟩
  case event =>
    intro o a w c got
    have hr2 : s.running b h 2 := hr.mono (by decide)
    have hw : ∀ k, byteAt h.ev.win k = w k := Event.window_eq h.ev
    refine ⟨fun hend => next_readWindow hr2 hend ?_, fun hend => next_readWindow hr2 hend ?_,
      fun hend => next_readWindow hr2 hend ?_, fun hend => next_readWindow_beyond hr2.1 hend,
      fun hfield => exec_evf_defined hr2 hfield,
      fun hfield => congrArg Host.Outcome.next (State.instruct_benchFault hr2.1 (if_pos hfield)),
      fun ha hend => ?_⟩
    · rw [fieldBE_one, natBE_one, BitVec.ofNat_toNat, hw]
    · rw [fieldBE_two, natBE_two, BitVec.ofNat_toNat, hw, hw]
    · rw [fieldBE_four, ofNat_natBE_four, hw, hw, hw, hw]
    · rw [exec_ldc_aligned hr himg ha hend]
      exact congrArg (fun v => Host.Outcome.next (s.goesOn b (h.put rd v) 3)) (ofNat_natBE_four _ _ _ _)
  case digest =>
    intro x a bit one
    have hone : one = crcByte := rfl
    refine ⟨next_compute (hr.mono (by decide)) (by rw [hone]; rfl), next_compute (hr.mono (by decide)) ?_,
      fun ha hend => ?_⟩
    · rw [hone, Handler.spend_get, Handler.spend_get, bytesBE_four_word]
      rfl
    · rw [exec_crcd_aligned hr ha hend, hone, readBytes_eq_map, crcBytes, List.foldl_map]

end Sys2Proof.Machine
end

section
/-! PROOFS. Alnomal's RADIO (Table 5-17): a request issued to its block reaches the benches by events alone, so that
bench 4 goes on with the next word of its code. -/

namespace Sys2Proof.Machine

open Sys2Proof

namespace State

/-! ### What issuing a request leaves of the benches -/

theorem queued_ite {s t u : State} {p : Prop} [Decidable p] (ht : s.Queued t) (hu : s.Queued u) :
    s.Queued (if p then t else u) := by
  split
  · exact ht
  · exact hu

/-- What is done after a change outside the program plane. -/
theorem Queued.after {s t u : State} (h : t.Queued u) (hprog : t.prog = s.prog) : s.Queued u :=
  (queued_of_prog hprog).trans h

theorem foldl_queued {α : Type} (f : State → α → State) (l : List α) (hf : ∀ (s : State) a, s.Queued (f s a)) (s : State) :
    s.Queued (l.foldl f s) := foldl_leaves f l Queued.refl Queued.trans hf s

theorem reply_queued (s : State) (c id st : Nat) (w : List Byte) : s.Queued (s.reply c id st w) := deliver_queued _ _ _

theorem setChain_queued (s : State) (c : Nat) (x : Chain) : s.Queued (s.setChain c x) := queued_of_prog rfl

theorem turnAway_queued (s : State) (code : Nat) (blk : List Byte) (id status reason : Nat) :
    s.Queued (s.turnAway code blk id status reason) := by
  unfold turnAway
  split <;> exact reply_queued _ _ _ _ _

theorem placeBubble_queued (s : State) (c : Nat) (kind : BubbleKind) (urgent : Bool) :
    s.Queued (s.placeBubble c kind urgent) := (setChain_queued _ _ _).trans (deliver_queued _ _ _)

theorem placeCals_queued (s : State) (c : Nat) : s.Queued (s.placeCals c) := by
  have hplace : ∀ (t : State) (p : Prop) [Decidable p] (urgent : Bool),
      t.Queued (if p then t.placeBubble c .synthcal urgent else t) :=
    fun t _ _ _ => queued_ite (placeBubble_queued t _ _ _) (.refl t)
  exact (hplace s _ true).trans (hplace _ _ false)

theorem orderState_queued (s : State) (c : Nat) (m : ChainMode) (id : Nat) : s.Queued (s.orderState c m (some id)) :=
  queued_ite (reply_queued _ _ _ _ _) (setChain_queued _ _ _)

theorem chainTuneReq_queued (s : State) (r : Req) : s.Queued (s.chainTuneReq r) := by
  simp only [chainTuneReq]
  split
  · exact reply_queued _ _ _ _ _
  · exact setChain_queued _ _ _

theorem chainStateReq_queued (s : State) (r : Req) : s.Queued (s.chainStateReq r) := by
  have hno : ∀ status reason, s.Queued (s.chainReply 4 (Nat.min (fieldBE r.blk 0 1) 2) r.id status reason []) :=
    fun _ _ => reply_queued _ _ _ _ _
  have hclear : s.Queued (if (byteAt r.blk 2).getLsbD 0 then { s with radio.paflt := false } else s) :=
    queued_ite (queued_of_prog rfl) (.refl s)
  exact queued_ite (hno _ _) (queued_ite (hno _ _) (queued_ite (hno _ _) (queued_ite (hno _ _)
    (hclear.trans (orderState_queued _ _ _ _)))))

theorem gainReq_queued (s : State) (r : Req) : s.Queued (s.gainReq r) := by
  have hno : ∀ status reason, s.Queued (s.chainReply 5 (Nat.min (fieldBE r.blk 0 1) 2) r.id status reason []) :=
    fun _ _ => reply_queued _ _ _ _ _
  exact queued_ite (hno _ _) (queued_ite (hno _ _) (queued_ite (hno _ _) (setChain_queued _ _ _)))

theorem protectReq_queued (s : State) (r : Req) : s.Queued (s.protectReq r) := by
  have hno : ∀ (t : State) c status, t.Queued (t.chainReply 6 c r.id status 1 []) := fun _ _ _ => reply_queued _ _ _ _ _
  have hset : ∀ (cs : List Nat) (f : State → Nat → Chain), s.Queued (cs.foldl (fun s c => s.setChain c (f s c)) s) :=
    fun cs _ => foldl_queued _ cs (fun _ _ => setChain_queued _ _ _) s
  exact queued_ite (reply_queued _ _ _ _ _) (queued_ite (reply_queued _ _ _ _ _) (queued_ite (reply_queued _ _ _ _ _)
    ((hset _ _).trans (reply_queued _ _ _ _ _))))

theorem note_queued (s : State) (c : Nat) : s.Queued (s.note c) := raise_queued _ _ _ _

theorem checkEnergy_queued (s : State) (need : Nat) : s.Queued (s.checkEnergy need).2 := by
  simp only [checkEnergy]
  generalize energy _ = stored
  split
  · exact queued_of_prog rfl
  · exact (note_queued _ _).after rfl

theorem journalAdd_queued (s : State) (r : List Byte) : s.Queued (s.journalAdd r) := queued_of_prog rfl

theorem refilled_queued (s : State) (sectors : List (List (List Byte))) (keep : List (List Byte)) :
    s.Queued (keep.foldl journalAdd { s with store.journal := sectors }) :=
  (foldl_queued journalAdd keep journalAdd_queued _).after rfl

theorem journalTidy_queued (s : State) : s.Queued s.journalTidy := by
  unfold journalTidy
  have hchecked := checkEnergy_queued s 2000
  generalize s.checkEnergy 2000 = r at hchecked ⊢
  split
  · exact queued_ite (.refl s) (queued_ite hchecked (hchecked.trans (refilled_queued _ _ _)))
  · exact .refl s

theorem journalPut_queued (s : State) (k : JKind) (step : Nat) (body : List Byte) :
    s.Queued (s.journalPut k step body) := (journalTidy_queued _).after rfl

theorem sweepRecord_queued (s : State) : s.Queued s.sweepRecord :=
  queued_ite ((checkEnergy_queued s 40).trans (journalPut_queued _ _ _ _)) (checkEnergy_queued s 40)

theorem startSweep_queued (s : State) (mask c : Nat) (id : Option Nat) : s.Queued (s.startSweep mask c id) :=
  (sweepRecord_queued _).after rfl

theorem calibrateReq_queued (s : State) (r : Req) : s.Queued (s.calibrateReq r) := by
  have hno : ∀ status reason,
      s.Queued (s.chainReply 7 (Nat.min (fieldBE r.blk 0 1) 2) r.id status reason (calCounts 0 0)) :=
    fun _ _ => reply_queued _ _ _ _ _
  have hjoin : ∀ (c : Nat) (x : Chain) (p : Prop) [Decidable p],
      s.Queued (if p then s.setChain c x else (s.setChain c x).placeCals c) :=
    fun c x _ _ => queued_ite (setChain_queued _ _ _) ((setChain_queued _ _ _).trans (placeCals_queued _ _))
  exact queued_ite (hno _ _) (queued_ite (hno _ _) (queued_ite (hno _ _) (queued_ite (hno _ _) (queued_ite
    (queued_ite (startSweep_queued _ _ _ _) (hno _ _))
    (queued_ite (hno _ _) (queued_ite (hno _ _) (hjoin _ _ _)))))))

theorem startAwl_queued (s : State) (mask id : Nat) : s.Queued (s.startAwl mask (some id)) :=
  queued_ite (reply_queued _ _ _ _ _) ((foldl_queued (fun (s : State) i => s.placeBubble (i - 11) .gaincal false) _
    (fun _ _ => placeBubble_queued _ _ _ _) _).after rfl)

theorem handOver_queued (s : State) (code : Nat) (r : Req) : s.Queued (s.handOver code r) := by
  unfold handOver
  split
  case h_3 => exact chainTuneReq_queued _ _
  case h_4 => exact chainStateReq_queued _ _
  case h_5 => exact gainReq_queued _ _
  case h_6 => exact protectReq_queued _ _
  case h_7 => exact calibrateReq_queued _ _
  case h_18 => exact startAwl_queued _ _ _
  all_goals exact queued_of_prog rfl

/-- A request issued, whatever becomes of it, reaches the benches by events alone (R218). -/
theorem issue_queued (s : State) (code : Nat) (blk : List Byte) (id : Nat) : s.Queued (s.issue code blk id) := by
  refine queued_ite ?_ (.trans (queued_ite (turnAway_queued _ _ _ _ _ _) (handOver_queued _ _ _))
    (queued_of_prog (mirror_prog _ _)))
  have hahead : s.Queued { s with last.pp := s.last.pp + 1 } := queued_of_prog rfl
  exact (hahead.trans (turnAway_queued _ _ _ _ _ _)).trans (queued_of_prog rfl)

theorem Queued.codeWords {s t : State} (h : s.Queued t) : t.codeWords = s.codeWords := by
  obtain ⟨_, _, _, _, hprog⟩ := h.prog
  simp only [State.codeWords, hprog]

end State

/-! ### The instruction -/

section Radio

variable {s : State} {b : Fin 5} {h : Handler} {rd ra : Fin 16} {op : BitVec 8}

/-- RADIO on bench 4 logs its request, issues it with the next ID, and writes that ID to rd (R214, R215). -/
theorem exec_radio_fresh (hr : s.running b h 8) (hb : b.val = 4) (hlow : 1 ≤ op.toNat) (hhigh : op.toNat ≤ 18)
    (ha : (h.get ra).toNat % 4 = 0) (hend : (h.get ra).toNat + 32 ≤ 0x8000) (hnew : h.script = none)
    (hroom : (s.bench b).logBytes + h.logBytes + 36 ≤ 65536) :
    let blk := readBytes (s.bench b).data (h.get ra).toNat 32
    let id := s.prog.nextReq
    exec (.radio b rd ra op) s =
      .next ((({ s with prog.nextReq := nextId id }).issue op.toNat blk id).goesOn b
        ((h.logging (.radio op.toNat blk id)).put rd (BitVec.ofNat 32 id)) 8) := by
  intro blk id
  refine congrArg Host.Outcome.next (State.instruct_goesOn hr ?_ (by simp)
    (State.issue_queued { s with prog.nextReq := nextId id } op.toNat blk id).codeWords)
  have hcode : ¬ (op.toNat = 0 ∨ 0x12 < op.toNat) := by omega
  have hlog := logged_fresh (item := .radio op.toNat blk id) 8 hnew hroom
  refine (if_neg (not_not_intro hb)).trans ((if_neg hcode).trans ((if_neg (not_not_intro ha)).trans
    ((if_neg (Nat.not_lt.mpr hend)).trans ?_)))
  simp only [Handler.spend_get, State.dataOf, hlog, Handler.spend_put, blk, id]

/-- On a cue bench RADIO is not permitted (R172). -/
theorem exec_radio_on_cue_bench (hp : s.paying b h 8) (hb : b.val ≠ 4) :
    exec (.radio b rd ra op) s = .next (s.benchFault b { h with used := h.used + 8 } 0x8105 0) :=
  congrArg Host.Outcome.next (State.instruct_benchFault hp (if_pos hb))

/-- An unknown code faults (R217). -/
theorem exec_radio_of_unknown_code (hp : s.paying b h 8) (hb : b.val = 4) (hcode : op.toNat = 0 ∨ 18 < op.toNat) :
    exec (.radio b rd ra op) s = .next (s.benchFault b { h with used := h.used + 8 } 0x8116 op.toNat) :=
  congrArg Host.Outcome.next (State.instruct_benchFault hp ((if_neg (not_not_intro hb)).trans (if_pos hcode)))

end Radio

/-- Settles O30: the request issued on bench 4, and the two faults. -/
theorem radioInstructionIssuesRequests : Obligations.RadioInstructionIssuesRequests := by
  unfold Obligations.RadioInstructionIssuesRequests
  intro s b h rd ra op hr a blk id
  exact ⟨fun hb hlow hhigh ha hend hnew hroom => exec_radio_fresh hr hb hlow hhigh ha hend hnew hroom,
    fun hb => exec_radio_on_cue_bench hr.1 (Nat.ne_of_lt hb), fun hb hcode => exec_radio_of_unknown_code hr.1 hb hcode,
    rfl, fun _ hn => if_neg (Nat.not_le.mpr hn)⟩

end Sys2Proof.Machine
end

section
/-! PROOFS. The instruction words of Alnomal (Tables 5-3 to 5-19): a word is the sum of its fields, so that reading and
writing it are inverse. -/

namespace Sys2Proof

open Sys2Proof.Machine

/-! ### The fields of a word -/

namespace Word

theorem bits_eq (w : Word) (hi lo : Nat) : w.bits hi lo = w.toNat / 2 ^ lo % 2 ^ (hi + 1 - lo) := by
  rw [bits, Nat.shiftRight_eq_div_pow]

theorem op_eq (w : Word) : w.op = w.toNat / 2 ^ 26 % 2 ^ 6 := w.bits_eq 31 26
theorem fn_eq (w : Word) : w.fn = w.toNat / 2 ^ 0 % 2 ^ 14 := w.bits_eq 13 0
theorem sub_eq (w : Word) : w.sub = w.toNat / 2 ^ 8 % 2 ^ 6 := w.bits_eq 13 8

theorem val_regAt (w : Word) (lo : Nat) : (w.regAt lo).val = w.toNat / 2 ^ lo % 2 ^ (lo + 3 + 1 - lo) % 16 := by
  rw [← bits_eq]
  rfl

theorem val_rd (w : Word) : w.rd.val = w.toNat / 2 ^ 22 % 16 := by
  rw [rd, val_regAt]
  omega

theorem val_ra (w : Word) : w.ra.val = w.toNat / 2 ^ 18 % 16 := by
  rw [ra, val_regAt]
  omega

theorem val_rb (w : Word) : w.rb.val = w.toNat / 2 ^ 14 % 16 := by
  rw [rb, val_regAt]
  omega

end Word

/-! ### A written word read by its fields -/

section Written

variable {op fn sub imm : Nat} (hop : op < 64) (rd ra rb : Fin 16)

include hop

theorem toNat_wordI (himm : imm < 2 ^ 18) :
    (wordI op rd ra imm).toNat = op * 2 ^ 26 + rd * 2 ^ 22 + ra * 2 ^ 18 + imm := by
  rw [wordI, BitVec.toNat_ofNat]
  omega

theorem fields_wordR (hfn : fn < 2 ^ 14) :
    let w := wordR op rd ra rb fn
    w.op = op ∧ w.rd = rd ∧ w.ra = ra ∧ w.rb = rb ∧ w.fn = fn := by
  have hw : (wordR op rd ra rb fn).toNat = op * 2 ^ 26 + rd * 2 ^ 22 + ra * 2 ^ 18 + rb * 2 ^ 14 + fn := by
    rw [wordR, BitVec.toNat_ofNat]
    omega
  simp only [Fin.ext_iff, Word.op_eq, Word.val_rd, Word.val_ra, Word.val_rb, Word.fn_eq, hw]
  omega

theorem fields_wordI (m : BitVec 18) :
    let w := wordI op rd ra m.toNat
    w.op = op ∧ w.rd = rd ∧ w.ra = ra ∧ w.imm18 = m := by
  have hw := toNat_wordI hop rd ra m.isLt
  simp only [Fin.ext_iff, BitVec.toNat_eq, Word.op_eq, Word.val_rd, Word.val_ra, Word.imm18, BitVec.toNat_setWidth, hw]
  omega

/-- LUI's immediate takes 16 of the 18 bits. -/
theorem fields_wordI_of_half (m : BitVec 16) :
    let w := wordI op rd ra m.toNat
    w.op = op ∧ w.rd = rd ∧ w.ra = ra ∧ w.setWidth 16 = m ∧ w.bits 17 16 = 0 := by
  have hm := m.isLt
  have hw := toNat_wordI hop rd ra (show m.toNat < 2 ^ 18 by omega)
  simp only [Fin.ext_iff, BitVec.toNat_eq, Word.op_eq, Word.val_rd, Word.val_ra, BitVec.toNat_setWidth, Word.bits_eq, hw]
  omega

/-- A shift amount takes 5 of them. -/
theorem fields_wordI_of_shift (m : BitVec 5) :
    let w := wordI op rd ra m.toNat
    w.op = op ∧ w.rd = rd ∧ w.ra = ra ∧ w.setWidth 5 = m ∧ w.bits 17 5 = 0 := by
  have hm := m.isLt
  have hw := toNat_wordI hop rd ra (show m.toNat < 2 ^ 18 by omega)
  simp only [Fin.ext_iff, BitVec.toNat_eq, Word.op_eq, Word.val_rd, Word.val_ra, BitVec.toNat_setWidth, Word.bits_eq, hw]
  omega

theorem fields_wordJ (t : BitVec 16) :
    let w := wordJ op t
    w.op = op ∧ w.setWidth 16 = t ∧ w.bits 25 16 = 0 := by
  have ht := t.isLt
  have hw : (wordJ op t).toNat = op * 2 ^ 26 + t.toNat := by
    rw [wordJ, BitVec.toNat_ofNat]
    omega
  simp only [BitVec.toNat_eq, Word.op_eq, BitVec.toNat_setWidth, Word.bits_eq, hw]
  omega

theorem fields_wordS (hsub : sub < 64) (m : BitVec 8) :
    let w := wordS op rd ra rb sub m
    w.op = op ∧ w.rd = rd ∧ w.ra = ra ∧ w.rb = rb ∧ w.sub = sub ∧ w.imm8 = m := by
  have hm := m.isLt
  have hw : (wordS op rd ra rb sub m).toNat =
      op * 2 ^ 26 + rd * 2 ^ 22 + ra * 2 ^ 18 + rb * 2 ^ 14 + sub * 2 ^ 8 + m.toNat := by
    rw [wordS, BitVec.toNat_ofNat]
    omega
  simp only [Fin.ext_iff, BitVec.toNat_eq, Word.op_eq, Word.val_rd, Word.val_ra, Word.val_rb, Word.sub_eq, Word.imm8,
    BitVec.toNat_setWidth, hw]
  omega

end Written

/-- A word written for an instruction is read as that instruction (R173, R174). -/
theorem decodeDefined_of_encodeWord {i : Instr} {b : Fin 5} {w : Word} (h : encodeWord i = some (b, w)) :
    decodeDefined b w = some i := by
  unfold encodeWord at h
  split at h
  all_goals cases h
  all_goals simp [decodeDefined, decodeAlu, decodeMul, decodeControl, decodeEvent, decodeTack, decodeMessage, decodeWake,
    decodeDigest, unused, fields_wordR, fields_wordI, fields_wordI_of_half, fields_wordI_of_shift, fields_wordJ,
    fields_wordS]

/-! ### A word is the sum of its fields -/

section Read

variable {w : Word} {op fn sub : Nat} (hop : w.op = op)

include hop

theorem wordR_of_fields (hfn : w.fn = fn) : wordR op w.rd w.ra w.rb fn = w := by
  have hw := w.isLt
  apply BitVec.eq_of_toNat_eq
  rw [wordR, BitVec.toNat_ofNat, ← hop, ← hfn, Word.op_eq, Word.fn_eq, Word.val_rd, Word.val_ra, Word.val_rb]
  omega

theorem wordI_of_fields : wordI op w.rd w.ra w.imm18.toNat = w := by
  have hw := w.isLt
  apply BitVec.eq_of_toNat_eq
  rw [wordI, BitVec.toNat_ofNat, ← hop, Word.op_eq, Word.val_rd, Word.val_ra, Word.imm18, BitVec.toNat_setWidth]
  omega

theorem wordI_of_half (hzero : w.bits 17 16 = 0) : wordI op w.rd w.ra (w.setWidth 16).toNat = w := by
  have hw := w.isLt
  rw [Word.bits_eq] at hzero
  apply BitVec.eq_of_toNat_eq
  rw [wordI, BitVec.toNat_ofNat, ← hop, Word.op_eq, Word.val_rd, Word.val_ra, BitVec.toNat_setWidth]
  omega

theorem wordI_of_shift (hzero : w.bits 17 5 = 0) : wordI op w.rd w.ra (w.setWidth 5).toNat = w := by
  have hw := w.isLt
  rw [Word.bits_eq] at hzero
  apply BitVec.eq_of_toNat_eq
  rw [wordI, BitVec.toNat_ofNat, ← hop, Word.op_eq, Word.val_rd, Word.val_ra, BitVec.toNat_setWidth]
  omega

theorem wordJ_of_fields (hzero : w.bits 25 16 = 0) : wordJ op (w.setWidth 16) = w := by
  have hw := w.isLt
  rw [Word.bits_eq] at hzero
  apply BitVec.eq_of_toNat_eq
  rw [wordJ, BitVec.toNat_ofNat, ← hop, Word.op_eq, BitVec.toNat_setWidth]
  omega

theorem wordS_of_fields (hsub : w.sub = sub) : wordS op w.rd w.ra w.rb sub w.imm8 = w := by
  have hw := w.isLt
  apply BitVec.eq_of_toNat_eq
  rw [wordS, BitVec.toNat_ofNat, ← hop, ← hsub, Word.op_eq, Word.sub_eq, Word.val_rd, Word.val_ra, Word.val_rb,
    Word.imm8, BitVec.toNat_setWidth]
  omega

end Read

/-! ### A word read is the word written -/

section Tables

variable {i j : Instr} {b : Fin 5} {w v : Word} {zero : Bool}

/-- A word whose unused fields are 0 is the one written without them (R175). -/
theorem encodeWord_of_unused (h : unused zero j = some i) (hj : encodeWord j = some (b, v))
    (hv : zero = true → v = w) : encodeWord i = some (b, w) := by
  cases zero with
  | false => cases h
  | true =>
    cases h
    rw [hj, hv rfl]

/-- The same for format S, whose unused fields differ from instruction to instruction. -/
theorem encodeWord_of_unusedS {op sub : Nat} {d x y : Fin 16} {m : BitVec 8} (hop : w.op = op) (hsub : w.sub = sub)
    (h : unused zero j = some i) (hj : encodeWord j = some (b, wordS op d x y sub m))
    (hzero : zero = true → d = w.rd ∧ x = w.ra ∧ y = w.rb ∧ m = w.imm8) : encodeWord i = some (b, w) := by
  refine encodeWord_of_unused h hj fun hz => ?_
  obtain ⟨rfl, rfl, rfl, rfl⟩ := hzero hz
  exact wordS_of_fields hop hsub

theorem encodeWord_of_some (h : some j = some i) (hj : encodeWord j = some (b, v)) (hv : v = w) :
    encodeWord i = some (b, w) := by
  cases h
  rw [hj, hv]

theorem encodeWord_of_decodeAlu (hop : w.op = 0x01) (h : decodeAlu b w = some i) : encodeWord i = some (b, w) := by
  unfold decodeAlu at h
  split at h
  case h_24 => cases h
  case h_22 | h_23 =>
    next hfn =>
    refine encodeWord_of_unused h rfl fun hzero => ?_
    simpa only [beq_iff_eq.mp hzero] using wordR_of_fields hop hfn
  all_goals next hfn => exact encodeWord_of_some h rfl (wordR_of_fields hop hfn)

theorem encodeWord_of_decodeMul (hop : w.op = 0x02) (h : decodeMul b w = some i) : encodeWord i = some (b, w) := by
  unfold decodeMul at h
  split at h
  case h_8 => cases h
  all_goals next hfn => exact encodeWord_of_some h rfl (wordR_of_fields hop hfn)

theorem encodeWord_of_decodeControl (hop : w.op = 0x18) (h : decodeControl b w = some i) : encodeWord i = some (b, w) := by
  unfold decodeControl at h
  split at h
  case h_8 => cases h
  all_goals next hsub => exact encodeWord_of_unusedS hop hsub h rfl (by simp +contextual)

theorem encodeWord_of_decodeEvent (hop : w.op = 0x30) (h : decodeEvent b w = some i) : encodeWord i = some (b, w) := by
  unfold decodeEvent at h
  split at h
  case h_6 => cases h
  all_goals next hsub => exact encodeWord_of_unusedS hop hsub h rfl (by simp +contextual)

theorem encodeWord_of_decodeTack (hop : w.op = 0x34) (h : decodeTack b w = some i) : encodeWord i = some (b, w) := by
  unfold decodeTack at h
  split at h
  case h_4 => cases h
  all_goals next hsub => exact encodeWord_of_unusedS hop hsub h rfl (by simp +contextual)

theorem encodeWord_of_decodeMessage (hop : w.op = 0x38) (h : decodeMessage b w = some i) : encodeWord i = some (b, w) := by
  unfold decodeMessage at h
  split at h
  case h_1 | h_2 =>
    next hsub => exact encodeWord_of_some h rfl (wordS_of_fields hop hsub)
  case h_4 => cases h
  all_goals next hsub => exact encodeWord_of_unusedS hop hsub h rfl (by simp +contextual)

theorem encodeWord_of_decodeWake (hop : w.op = 0x3D) (h : decodeWake b w = some i) : encodeWord i = some (b, w) := by
  unfold decodeWake at h
  split at h
  case h_3 => cases h
  all_goals next hsub => exact encodeWord_of_unusedS hop hsub h rfl (by simp +contextual)

theorem encodeWord_of_decodeDigest (hop : w.op = 0x3E) (h : decodeDigest b w = some i) : encodeWord i = some (b, w) := by
  unfold decodeDigest at h
  split at h
  case h_4 => cases h
  all_goals next hsub => exact encodeWord_of_unusedS hop hsub h rfl (by simp +contextual)

/-- A defined word is the one written for the instruction it is read as (R173, R174, R175). -/
theorem encodeWord_of_decodeDefined (h : decodeDefined b w = some i) : encodeWord i = some (b, w) := by
  unfold decodeDefined at h
  split at h
  case h_1 hop => exact encodeWord_of_decodeAlu hop h
  case h_2 hop => exact encodeWord_of_decodeMul hop h
  case h_10 hop | h_11 hop | h_12 hop =>
    exact encodeWord_of_unused h rfl fun hzero => wordI_of_shift hop (beq_iff_eq.mp hzero)
  case h_13 hop =>
    refine encodeWord_of_unused h rfl fun hzero => ?_
    simp only [Bool.and_eq_true, beq_iff_eq] at hzero
    simpa only [hzero] using wordI_of_half hop hzero.2
  case h_20 hop | h_21 hop =>
    exact encodeWord_of_unused h rfl fun hzero => wordJ_of_fields hop (beq_iff_eq.mp hzero)
  case h_22 hop => exact encodeWord_of_decodeControl hop h
  case h_34 hop => exact encodeWord_of_decodeEvent hop h
  case h_35 hop => exact encodeWord_of_decodeTack hop h
  case h_36 hop => exact encodeWord_of_decodeMessage hop h
  case h_37 hop =>
    split at h
    · next hsub => exact encodeWord_of_unusedS hop hsub h rfl (by simp +contextual)
    · cases h
  case h_38 hop => exact encodeWord_of_decodeWake hop h
  case h_39 hop => exact encodeWord_of_decodeDigest hop h
  case h_40 => cases h
  all_goals next hop => exact encodeWord_of_some h rfl (wordI_of_fields hop)

end Tables

/-- Every word is read as one instruction, and that instruction is written as the word; a word that is read as none is
the undefined one (R175). -/
theorem decodeWord_eq_iff {i : Instr} {b : Fin 5} {w : Word} (hi : i ≠ .undefinedInstruction b) :
    decodeWord b w = i ↔ encodeWord i = some (b, w) := by
  unfold decodeWord
  constructor
  · intro h
    cases hw : decodeDefined b w with
    | none => rw [hw] at h; exact absurd h.symm hi
    | some j =>
      rw [hw] at h
      exact encodeWord_of_decodeDefined (hw.trans (congrArg some h))
  · intro h
    rw [decodeDefined_of_encodeWord h]
    rfl

end Sys2Proof
end

section
/-! PROOFS. The faults of Alnomal's instructions (R136, R175, R183, R187, R189), and the reading of their words. -/

namespace Sys2Proof.Machine

open Sys2Proof

namespace State

/-! ### A bench fault leaves the Last as it is -/

@[simp] theorem raiseFault_last (s : State) (b code cls pc arg : Nat) :
    (s.raiseFault b code cls pc arg).last = s.last := by simp [raiseFault]

@[simp] theorem settle_last (s : State) : s.settle.last = s.last := by
  obtain ⟨_, _, _, _, _, _, _, _, _, _, _, _, h⟩ := s.settle_leaves
  rw [h]

@[simp] theorem discardEvents_last (s : State) (b : Nat) (es : List Event) : (s.discardEvents b es).last = s.last := by
  refine foldl_leaves (R := fun s t => t.last = s.last) _ es (fun _ => rfl) (fun h k => k.trans h) (fun s e => ?_) s
  obtain ⟨m, hconsumed⟩ := s.dropEvent.consumed_frame b e
  rw [hconsumed]
  rfl

@[simp] theorem haltBench_last (s : State) (b : Nat) : (s.haltBench b).last = s.last := by simp [haltBench]

theorem benchFault_last (s : State) (b : Nat) (h : Handler) (code arg : Nat) :
    (s.benchFault b h code arg).last = s.last := by
  have hvoid : (if code = 0x8101 ∧ decide (b < 4) = true then s.voidFrom h.ev.pos else s).last = s.last := by
    split <;> rfl
  simp only [benchFault]
  split
  · simp [replayMismatch]
  · generalize hw : raiseFault _ b code _ h.pc arg = w
    have hlast : w.last = s.last := by rw [← hw, raiseFault_last, hvoid]
    split <;> simp [hlast]

end State

section Faults

variable {s : State} {b : Fin 5} {h : Handler} {code : Nat}

/-- A fault of a bench in RUN, short of the fourth of its window, puts it into replay (R138). -/
theorem benchFault_begins_replay (hrun : (s.bench b).mode = .run)
    (hfew : ((s.bench b).faultSfs.filter fun x => decide (s.prog.sfs < x + 16)).length < 3) (h : Handler)
    (code arg : Nat) :
    let t := s.benchFault b h code arg
    (t.bench b).mode = .replay ∧ (t.bench b).handler = none ∧ t.prog.lastFault = code ∧
      t.prog.lastFaultBench = b.val ∧ t.last = s.last := by
  intro t
  obtain ⟨w, hw, hfault⟩ := State.benchFault_replays hrun hfew h code arg
  obtain ⟨_, _, _, hlast, hat⟩ := hw.fields
  have hbench := State.bench_setBench_self w b
  have ht : t = w.beginReplay b ((w.bench b).faulted h w.prog.sfs) := hfault
  refine ⟨?_, ?_, ?_, ?_, s.benchFault_last b h code arg⟩
  · rw [ht]; exact congrArg Bench.mode (hbench _)
  · rw [ht]; exact congrArg Bench.handler (hbench _)
  · rw [ht]; exact hlast
  · rw [ht]; exact hat

/-- An instruction that goes on from the last word of the code section faults once its effect on the registers stands
(R187). -/
theorem State.compute_past_the_end {c : Nat} {rd : Fin 16} {f : Handler → Word} {v : Word} (hp : s.paying b h c)
    (hv : f (h.spend c) = v) (hend : s.codeWords ≤ h.pc + 1) :
    s.compute b c rd f = (s.at_ b (h.put rd v) c h.pc).benchFault b { h.put rd v with used := h.used + c } 0x8103
      s.codeWords := by
  have hk : (h.spend c).put rd (f (h.spend c)) = { h.put rd v with used := h.used + c } := by
    rw [hv, Handler.spend_put, Handler.spend, Handler.put_used]
  have hat : s.putHandler b { h.put rd v with used := h.used + c } = s.at_ b (h.put rd v) c h.pc := by
    have hpc := h.put_pc rd v
    rw [State.putHandler, State.at_, Handler.put_used, ← hpc]
  rw [State.compute, State.instruct_paid hp]
  simp only [← hat, ← hk]
  exact if_pos (by simpa using hend)

end Faults

/-- Settles O8: the two faulting instructions, the overrun, the way out of the code section, and the words. -/
theorem instructionsFaultAsTheSpecSays : Obligations.InstructionsFaultAsTheSpecSays := by
  unfold Obligations.InstructionsFaultAsTheSpecSays
  refine ⟨fun s b h code hp => ?faulting, ⟨fun s b h rd ra rb imm hh => ?overrun,
    fun s b h rd ra rb target hp => ?leaving⟩, fun i b w => ?words⟩
  case faulting =>
    have htrap : exec (.trap b code) s = .next (s.benchFault b (h.spend 1) 0x811F code.toNat) :=
      congrArg Host.Outcome.next (State.instruct_benchFault hp rfl)
    have hundefined : exec (.undefinedInstruction b) s = .next (s.benchFault b (h.spend 1) 0x8102 0) :=
      congrArg Host.Outcome.next (State.instruct_benchFault hp rfl)
    refine ⟨htrap, hundefined, fun hrun hfew => ⟨_, _, htrap, hundefined, ?_⟩⟩
    obtain ⟨tmode, thandler, tfault, tbench, tlast⟩ :=
      benchFault_begins_replay hrun hfew (h.spend 1) 0x811F code.toNat
    obtain ⟨umode, uhandler, ufault, ubench, ulast⟩ := benchFault_begins_replay hrun hfew (h.spend 1) 0x8102 0
    exact ⟨tmode, umode, thandler, uhandler, tfault, ufault, tbench, ubench, tlast, ulast⟩
  case overrun =>
    have hover : ∀ {c : Nat} {f : State → Handler → Exec}, h.budget < h.used + c →
        (.next (s.instruct b c f) : Host.Outcome State Fault Refusal) = .next (s.benchFault b h 0x8101 0) :=
      fun hc => congrArg Host.Outcome.next (State.instruct_overrun hh hc)
    exact ⟨fun hc => ⟨hover hc, hover hc⟩, hover, hover, hover⟩
  case leaving =>
    exact ⟨fun hend => ⟨_, congrArg Host.Outcome.next
      (State.compute_past_the_end (hp.mono (by decide)) rfl hend), rfl⟩,
      fun hout => congrArg Host.Outcome.next (State.instruct_goto_outside hp rfl hout)⟩
  case words =>
    exact ⟨fun henc => (decodeWord_eq_iff (by rintro rfl; cases henc)).mpr henc,
      fun hdec hi => (decodeWord_eq_iff hi).mp hdec, rfl⟩

end Sys2Proof.Machine
end

section
/-! PROOFS. A lane released at its application edge (R360), and the lane memory that keeps the released lane: one that
lists its number twice. -/

namespace Sys2Proof.Machine

open Sys2Proof

/-! ### A lane freed that nothing follows -/

/-- Writing the default at the first number of a memory only takes that entry out. -/
theorem sput_default_head {α : Type} [DecidableEq α] (d v : α) (k : Nat) (m : List (Nat × α)) :
    sput d ((k, v) :: m) k d = m := by
  simp [sput]

namespace State

theorem carrierGone_of_unfollowed {s : State} (hcorr : s.follow.corrs = []) (hsplice : s.follow.splices = [])
    (c : Nat) : s.carrierGone c = s := by
  have hsame : ({ s with follow.corrs := [] } : State) = s := by rw [← hcorr]
  simpa [carrierGone, endFades, hcorr, hsplice] using hsame

@[simp] theorem endCapture_lanes (s : State) (n : Nat) : (s.endCapture n).lanes = s.lanes := by
  simp only [endCapture]
  split <;> simp

@[simp] theorem endCapture_regWrites (s : State) (n : Nat) : (s.endCapture n).regWrites = s.regWrites := by
  simp only [endCapture]
  split <;> simp

theorem freeLane_lane_of_unfollowed {s : State} (hcorr : s.follow.corrs = []) (hsplice : s.follow.splices = [])
    (n : Nat) : (s.freeLane n).lanes.lane = sput Lane.init s.lanes.lane n { cleared (s.lane n) with
      use := .free, preset := .custom, branches := 0, delayBlocks := 0, latest := none } := by
  simp only [freeLane]
  rw [carrierGone_of_unfollowed (by exact hcorr) (by exact hsplice)]
  simp [dropPartials, poLost, setLane, returnShared]

theorem freeLane_regWrites_of_unfollowed {s : State} (hcorr : s.follow.corrs = []) (hsplice : s.follow.splices = [])
    (n : Nat) : (s.freeLane n).regWrites = s.regWrites := by
  simp only [freeLane]
  rw [carrierGone_of_unfollowed (by exact hcorr) (by exact hsplice)]
  simp [dropPartials, poLost, returnShared]

@[simp] theorem lastLoss_lanes (s : State) (change : Nat) (a b : Source) : (s.lastLoss change a b).lanes = s.lanes := by
  simp only [lastLoss, raiseLast]
  split <;> simp

@[simp] theorem moveTo_lanes (s : State) (x : Source) : (s.moveTo x).lanes = s.lanes := by
  simp only [moveTo]
  split
  · rfl
  · split
    · simp [lastEvt]
    · split <;> simp

@[simp] theorem watchSource_lanes (s : State) : s.watchSource.lanes = s.lanes := by
  simp only [watchSource]
  split <;> simp

/-! ### A release at its edge -/

theorem releaseReq_of_run {s : State} {r : Req} (hn : fieldBE r.blk 0 1 ≤ 95)
    (hrun : (s.lane (fieldBE r.blk 0 1)).use = .run) :
    s.releaseReq r = (s.freeLane (fieldBE r.blk 0 1)).laneReply true (fieldBE r.blk 0 1) r.id stOk 0 [] := by
  simp [releaseReq, hrun, Nat.not_lt.mpr hn]

/-- A release at its edge, with nothing else to do there and nothing following the lane, frees the lane. -/
theorem exec_laneApplyEdge_release {s : State} {r : Req} (hreqs : s.lanes.reqs = [⟨r, true⟩])
    (hwrites : s.regWrites = []) (hedge : r.edge < s.last.edge) (happ : r.app ≤ s.last.pp)
    (hcorr : s.follow.corrs = []) (hsplice : s.follow.splices = []) (hn : fieldBE r.blk 0 1 ≤ 95)
    (hrun : (s.lane (fieldBE r.blk 0 1)).use = .run) :
    ∃ w, exec .laneApplyEdge s = .next w ∧
      w.lanes = (({ s with lanes.reqs := [] } : State).freeLane (fieldBE r.blk 0 1)).lanes := by
  have hdue : s.laneDue ⟨r, true⟩ = true := by simp [laneDue, hedge, happ]
  generalize hu : ({ s with lanes.reqs := [] } : State) = u
  have hrelease : u.releaseReq r = (u.freeLane (fieldBE r.blk 0 1)).laneReply true (fieldBE r.blk 0 1) r.id stOk 0 [] :=
    releaseReq_of_run hn (by rw [← hu]; exact hrun)
  have hnone : (u.releaseReq r).regWrites = [] := by
    rw [hrelease, laneReply, reply_regWrites,
      freeLane_regWrites_of_unfollowed (by rw [← hu]; exact hcorr) (by rw [← hu]; exact hsplice), ← hu]
    exact hwrites
  have hsame : ({ u.releaseReq r with regWrites := [] } : State) = u.releaseReq r := by rw [← hnone]
  refine ⟨(u.releaseReq r).watchSource, ?_, ?_⟩
  · change execLaneApplyEdge s = _
    simp [execLaneApplyEdge, hreqs, hdue, hu, laneReq, hnone, hsame]
  · rw [watchSource_lanes, hrelease, laneReply, reply_lanes]

end State

/-! ### A lane listed twice -/

/-- A lane that runs and is otherwise as at reset, so that it is as at reset once it is FREE. -/
def runningLane : Lane := { Lane.init with use := .run }

/-- Bench 4 runs handlers, with the radio in service and the device alone. -/
def benchFourRuns : State :=
  { State.reset with
    supply.power := .run
    supply.dom := Vector.replicate 5 .up
    prog.bench := Vector.replicate 5 { Bench.init with mode := .run } }

/-- The lane memory lists lane 0 twice, running each time, and a release has reached its edge. -/
def laneListedTwice (r : Req) : State :=
  { State.reset with
    last.edge := r.edge + 1
    last.pp := r.app
    lanes.lane := [(0, runningLane), (0, runningLane)]
    lanes.reqs := [⟨r, true⟩] }

theorem benchFourRuns_benchFour : benchFourRuns.benchFour = true := by decide

/-- The first of the two entries goes, and the lane that is read is the second one, which runs. -/
theorem exec_laneApplyEdge_laneListedTwice {r : Req} (hlane : fieldBE r.blk 0 1 = 0) :
    ∃ w, exec .laneApplyEdge (laneListedTwice r) = .next w ∧ (w.lane 0).use = .run := by
  obtain ⟨w, hexec, hmem⟩ := State.exec_laneApplyEdge_release (s := laneListedTwice r) rfl rfl (Nat.lt_succ_self _)
    (Nat.le_refl _) rfl rfl (by omega) (by rw [hlane]; rfl)
  refine ⟨w, hexec, ?_⟩
  have hrest : w.lanes.lane = [(0, runningLane)] := by
    rw [hmem, hlane, State.freeLane_lane_of_unfollowed rfl rfl]
    exact sput_default_head _ _ _ _
  simp [State.lane, hrest, sget, runningLane]

/-- Refutes O26 by its clause for LANE_RELEASE: the statement speaks of every state, and in one whose lane memory
lists lane 0 twice the release takes out one entry, so that the lane still runs by the other.  No canonical lane
memory (`swf`) lists a number twice. -/
theorem not_requestsWaitForTheirEdge : ¬ Obligations.RequestsWaitForTheirEdge := by
  unfold Obligations.RequestsWaitForTheirEdge
  intro h
  obtain ⟨⟨-, -, -, r, ⟨-, -, -, -, hbytes⟩, -, hedge⟩, -⟩ :=
    h benchFourRuns [] benchFourRuns_benchFour rfl rfl rfl
  have hlane : fieldBE r.blk 0 1 = 0 := by
    rw [fieldBE_one, hbytes 0 (by decide) (by decide)]
    rfl
  obtain ⟨w, hexec, hfree⟩ := hedge (laneListedTwice r) rfl rfl (Nat.lt_succ_self _) (Nat.le_refl _)
  obtain ⟨w', hexec', hrun⟩ := exec_laneApplyEdge_laneListedTwice hlane
  obtain rfl : w = w' := by simpa [hexec] using hexec'
  have := hfree (by omega) (by rw [hlane]; rfl)
  rw [hlane, hrun] at this
  contradiction

end Sys2Proof.Machine
end

section
/-! PROOFS. CALIBRATE and AWL as bench 4 requests them (Tables 5-17 and 8-7, R333, R334, R774): what handing a request
to its block leaves of it, the slots that join, the sweep and the on-demand run that begin. -/

namespace Sys2Proof.Machine

open Sys2Proof

/-! ### The parameter block of a request -/

theorem byteAt_map_range (f : Nat → Byte) {n k : Nat} (hk : k < n) : byteAt ((List.range n).map f) k = f k := by
  simp [byteAt, hk]

theorem fieldBE_congr {as bs : List Byte} {o n : Nat} (h : ∀ k < n, byteAt as (o + k) = byteAt bs (o + k)) :
    fieldBE as o n = fieldBE bs o n :=
  congrArg natBE (List.map_congr_left fun k hk => h k (List.mem_range.mp hk))

namespace State

/-- The 32 bytes that a request carries. -/
def paramBlock (blk : List Byte) : List Byte := (List.range 32).map (byteAt blk)

theorem byteAt_paramBlock (blk : List Byte) {k : Nat} (hk : k < 32) : byteAt (paramBlock blk) k = byteAt blk k :=
  byteAt_map_range _ hk

theorem fieldBE_paramBlock (blk : List Byte) {o n : Nat} (h : o + n ≤ 32) :
    fieldBE (paramBlock blk) o n = fieldBE blk o n := fieldBE_congr fun _ _ => byteAt_paramBlock _ (by omega)

theorem byteAt_withByte_self (blk : List Byte) {i : Nat} (v : Nat) (hi : i < 32) :
    byteAt (withByte blk i v) i = BitVec.ofNat 8 v := (byteAt_map_range _ hi).trans (if_pos rfl)

theorem byteAt_withByte_ne (blk : List Byte) {i k : Nat} (v : Nat) (hk : k < 32) (h : k ≠ i) :
    byteAt (withByte blk i v) k = byteAt blk k := (byteAt_map_range _ hk).trans (if_neg h)

/-! ### A request handed to its block -/

/-- The state once the next request ID is taken. -/
def idTaken (s : State) : State := { s with prog.nextReq := nextId s.prog.nextReq }

/-- The request that bench 4 sends with the next ID. -/
def sentReq (s : State) (code : Nat) (blk : List Byte) : Req :=
  ⟨s.prog.nextReq, paramBlock blk, appOf code (paramBlock blk), s.last.edge⟩

section Request

variable {s : State} (hfour : s.benchFour = true) (code : Nat) (blk : List Byte)
include hfour

theorem request_eq_issue : s.request code blk = s.idTaken.issue code (paramBlock blk) s.prog.nextReq :=
  if_neg (by rw [hfour]; decide)

/-- Whatever becomes of a request, the next one has the next ID (R215). -/
theorem request_nextReq : (s.request code blk).prog.nextReq = nextId s.prog.nextReq := by
  obtain ⟨_, _, _, _, hprog⟩ := (issue_queued s.idTaken code (paramBlock blk) s.prog.nextReq).prog
  rw [request_eq_issue hfour, hprog]
  rfl

/-- A request of a member that is not STANDBY, its block in service, is handed over and then at most mirrored. -/
theorem request_eq_handOver (hrole : s.welt.role ≠ .standby) (hup : s.blockDown code = false) :
    s.request code blk = (s.idTaken.handOver code (s.sentReq code blk)).mirror
      (.decision code (paramBlock blk) (appOf code (paramBlock blk))) := by
  have hactive : s.idTaken.welt.role ≠ .standby := hrole
  have hserves : s.idTaken.blockDown code ≠ true := ne_true_of_eq_false hup
  rw [request_eq_issue hfour, issue, if_neg hactive, carryOut, if_neg hserves]
  rfl

end Request

@[simp] theorem mirror_chain (s : State) (p : WPayload) (c : Nat) : (s.mirror p).chain c = s.chain c := by
  simp only [chain, mirror_radio]

/-! ### Bubbles placed leave the requests of their chain, the clocks and the Awl -/

theorem setChain_chain_self (s : State) {c : Nat} (hc : c < 3) (x : Chain) : (s.setChain c x).chain c = x :=
  vget_vset_self hc

theorem radioEvent_chain (s : State) (code : Nat) (win : List Byte) (fields : List (Nat × Word)) (c : Nat) :
    (s.radioEvent code win fields).chain c = s.chain c := by simp only [chain, radioEvent_radio]

@[simp] theorem placeBubble_clk (s : State) (c : Nat) (k : BubbleKind) (urgent : Bool) :
    (s.placeBubble c k urgent).clk = s.clk := by simp [placeBubble]

@[simp] theorem placeBubble_awl (s : State) (c : Nat) (k : BubbleKind) (urgent : Bool) :
    (s.placeBubble c k urgent).awl = s.awl := by simp [placeBubble]

theorem placeBubble_cals (s : State) {c : Nat} (hc : c < 3) (k : BubbleKind) (urgent : Bool) :
    ((s.placeBubble c k urgent).chain c).cals = (s.chain c).cals := by
  simp only [placeBubble, radioEvent_chain, setChain_chain_self _ hc]

@[simp] theorem placeCals_clk (s : State) (c : Nat) : (s.placeCals c).clk = s.clk := by
  simp only [placeCals, apply_ite State.clk, placeBubble_clk, ite_self]

theorem placeCals_cals (s : State) {c : Nat} (hc : c < 3) : ((s.placeCals c).chain c).cals = (s.chain c).cals := by
  simp only [placeCals, apply_ite (fun t : State => (t.chain c).cals), placeBubble_cals _ hc, ite_self]

/-! ### The store writes of a sweep's start leave the clocks -/

@[simp] theorem checkEnergy_clk (s : State) (need : Nat) : (s.checkEnergy need).2.clk = s.clk := by
  simp only [checkEnergy]
  generalize energy _ = stored
  split
  · rfl
  · exact note_clk _ _

theorem foldl_journalAdd_clk (s : State) (keep : List (List Byte)) : (keep.foldl journalAdd s).clk = s.clk :=
  foldl_leaves (R := fun s t => t.clk = s.clk) journalAdd keep (fun _ => rfl) (fun h k => k.trans h) (fun _ _ => rfl) s

@[simp] theorem journalTidy_clk (s : State) : s.journalTidy.clk = s.clk := by
  unfold journalTidy
  split
  · split
    · rfl
    · have hchecked := checkEnergy_clk s 2000
      generalize s.checkEnergy 2000 = r at hchecked ⊢
      simp only [apply_ite State.clk, foldl_journalAdd_clk, hchecked, ite_self]
  · rfl

@[simp] theorem journalPut_clk (s : State) (k : JKind) (step : Nat) (body : List Byte) :
    (s.journalPut k step body).clk = s.clk := journalTidy_clk _

@[simp] theorem sweepRecord_clk (s : State) : s.sweepRecord.clk = s.clk := by
  simp only [sweepRecord, apply_ite State.clk, journalPut_clk, checkEnergy_clk, ite_self]

/-! ### CALIBRATE -/

theorem testBit_two_pow_eq_beq (c d : Nat) : (2 ^ c).testBit d = (d == c) := by
  rw [Nat.testBit_two_pow, Bool.eq_iff_iff, decide_eq_true_iff, beq_iff_eq]
  exact eq_comm

/-- A chain in STANDBY with nothing in progress may be swept alone (R334). -/
theorem sweepable_alone {s : State} {c : Nat} (hsweep : s.clk.sweep = none) (hmode : (s.chain c).mode = .standby)
    (hidle : s.chainBusy c = false) : s.sweepable (2 ^ c) = true := by
  have hall : ∀ d ∈ [0, 1, 2], (!(2 ^ c).testBit d ||
      (((s.chain d).mode == .standby || (s.chain d).mode == .synth) && !s.chainBusy d)) = true := by
    intro d _
    rw [testBit_two_pow_eq_beq]
    by_cases hd : d = c
    · simp [hd, hmode, hidle]
    · simp [hd]
  rw [sweepable, hsweep]
  exact List.all_eq_true.mpr hall

/-- The sweep of one chain has the slots of its VALID entries before it (R334). -/
theorem startSweep_alone (s : State) (c : Nat) (id : Option Nat) : (s.startSweep (2 ^ c) c id).clk.sweep =
    some ⟨2 ^ c, id, c, (s.clk.table.filter fun e => e.2.chain == c).map fun e => e.1, 0, 0⟩ := by
  simp only [startSweep, sweepRecord_clk, testBit_two_pow_eq_beq]

/-- What the block of a CALIBRATE says once its scope is set. -/
theorem calibrate_fields {c : Nat} {blk : List Byte} (hchain : c = (byteAt blk 0).toNat) {scope : Nat}
    (hscope : scope ≤ 4) :
    let sent := paramBlock (withByte blk 1 scope)
    fieldBE sent 0 1 = c ∧ fieldBE sent 1 1 = scope ∧ fieldBE sent 4 2 = fieldBE blk 4 2 ∧
      byteAt sent 2 = byteAt blk 2 := by
  intro sent
  have hother : ∀ k < 32, k ≠ 1 → byteAt sent k = byteAt blk k := fun k hk hne =>
    (byteAt_paramBlock _ hk).trans (byteAt_withByte_ne blk scope hk hne)
  refine ⟨?_, ?_, fieldBE_congr fun k hk => hother _ (by omega) (by omega), hother 2 (by decide) (by decide)⟩
  · rw [fieldBE_one, hother 0 (by decide) (by decide), natBE_one, hchain]
  · rw [fieldBE_one, byteAt_paramBlock _ (by decide), byteAt_withByte_self _ _ (by decide), natBE_one,
      BitVec.toNat_ofNat, Nat.mod_eq_of_lt (by omega)]

section Calibrate

variable {s : State} {c : Nat} (hc : c ≤ 2) (hup : s.chainUp c = true) (hok : (s.chain c).failed = false)
  (hsweep : s.clk.sweep = none)
include hc hup hok hsweep

/-- A CALIBRATE with slots in its scope joins its chain's requests, covered or with its bubbles placed. -/
theorem calibrateReq_joins {r : Req} {scope : Nat} {slots : List Nat} (hchain : fieldBE r.blk 0 1 = c)
    (hscope : fieldBE r.blk 1 1 = scope) (hjoins : scope ≤ 3)
    (hslots : s.calScope c scope (fieldBE r.blk 4 2) = slots) (hsome : slots ≠ []) :
    (∃ cov, ((s.calibrateReq r).chain c).cals =
      (s.chain c).cals ++ [⟨r.id, slots, (byteAt r.blk 2).getLsbD 0, cov, 0, 0⟩]) ∧
    (s.calibrateReq r).clk = s.clk := by
  have hknown : ¬ (2 < c ∨ 4 < scope) := by omega
  have hno_sweep : scope ≠ 4 := by omega
  have hself := fun x => congrArg Chain.cals (s.setChain_chain_self (Nat.lt_succ_of_le hc) x)
  simp only [calibrateReq, hchain, hscope, hslots, if_neg hknown, hno_sweep, hok, hsweep, hup, hsome, and_false,
    or_self, Option.isSome_none, Bool.false_eq_true, Bool.true_eq_false, if_false]
  split
  · exact ⟨⟨_, hself _⟩, rfl⟩
  · exact ⟨⟨_, (placeCals_cals _ (Nat.lt_succ_of_le hc)).trans (hself _)⟩, placeCals_clk _ _⟩

/-- A CALIBRATE of scope SWEEP begins the sweep of its chain, where that is free to be swept. -/
theorem calibrateReq_sweeps {r : Req} (hchain : fieldBE r.blk 0 1 = c) (hscope : fieldBE r.blk 1 1 = 4)
    (hfree : s.hrOwned c = false) (hmode : (s.chain c).mode = .standby) (hidle : s.chainBusy c = false) :
    s.calibrateReq r = s.startSweep (2 ^ c) c (some r.id) := by
  have hknown : ¬ (2 < c ∨ 4 < 4) := by omega
  simp only [calibrateReq, hchain, hscope, if_neg hknown, hfree, hok, hsweep, hup, sweepable_alone hsweep hmode hidle,
    Option.isSome_none, Bool.false_eq_true, Bool.true_eq_false, false_and, or_self, if_false, if_true]

variable (hfour : s.benchFour = true) (hrole : s.welt.role ≠ .standby) {blk : List Byte}
  (hchain : c = (byteAt blk 0).toNat)
include hfour hrole hchain

/-- The slots of a CALIBRATE's scope join those that its chain has to serve (Table 8-7, R333). -/
theorem request_calibrate_joins {scope : Nat} {slots : List Nat} (hjoins : scope ≤ 3)
    (hslots : s.calScope c scope (fieldBE blk 4 2) = slots) (hsome : slots ≠ []) :
    let t := s.request 7 (withByte blk 1 scope)
    t.prog.nextReq = nextId s.prog.nextReq ∧
    (∃ cov, (t.chain c).cals =
      (s.chain c).cals ++ [⟨s.prog.nextReq, slots, (byteAt blk 2).getLsbD 0, cov, 0, 0⟩]) ∧
    t.clk.table = s.clk.table := by
  intro t
  obtain ⟨hc0, hscope, hkey, hflags⟩ := calibrate_fields hchain (Nat.le_succ_of_le hjoins)
  have hreq : t = _ := request_eq_handOver hfour 7 (withByte blk 1 scope) hrole rfl
  obtain ⟨⟨cov, hcals⟩, hclk⟩ := calibrateReq_joins (s := s.idTaken) hc hup hok hsweep
    (r := s.sentReq 7 (withByte blk 1 scope)) hc0 hscope hjoins
    ((congrArg (s.calScope c scope) hkey).trans hslots) hsome
  refine ⟨request_nextReq hfour _ _, ⟨cov, ?_⟩, ?_⟩
  · rw [hreq, mirror_chain, ← hflags]
    exact hcals
  · rw [hreq, mirror_clk]
    exact congrArg Clocks.table hclk

/-- SWEEP begins the sweep of its chain's entries (R334). -/
theorem request_calibrate_sweeps (hfree : s.hrOwned c = false) (hmode : (s.chain c).mode = .standby)
    (hidle : s.chainBusy c = false) : (s.request 7 (withByte blk 1 4)).clk.sweep =
      some ⟨2 ^ c, some s.prog.nextReq, c, (s.clk.table.filter fun e => e.2.chain == c).map fun e => e.1, 0, 0⟩ := by
  obtain ⟨hc0, hscope, -, -⟩ := calibrate_fields hchain (scope := 4) (Nat.le_refl 4)
  have hstart := calibrateReq_sweeps (s := s.idTaken) hc hup hok hsweep
    (r := s.sentReq 7 (withByte blk 1 4)) hc0 hscope hfree hmode hidle
  rw [request_eq_handOver hfour 7 _ hrole rfl, mirror_clk]
  exact (congrArg (fun t : State => t.clk.sweep) hstart).trans (startSweep_alone _ _ _)

end Calibrate

/-! ### AWL -/

/-- An on-demand run begins with the tests that may run now; the masks of the run before stand (R774). -/
theorem startAwl_awl {s : State} (hidle : s.awl.running = false) (mask : Nat) (req : Option Nat) :
    ∃ left, (s.startAwl mask req).awl = { s.awl with
      running := true, powerUp := false, mask := mask &&& s.awlRuns, req := req, defer := left } := by
  have hplaced : ∀ (is : List Nat) (t : State),
      (is.foldl (fun (t : State) i => t.placeBubble (i - 11) .gaincal false) t).awl = t.awl := fun is =>
    foldl_leaves (R := fun s t => t.awl = s.awl) _ is (fun _ => rfl) (fun h k => k.trans h)
      fun _ _ => placeBubble_awl ..
  refine ⟨(s.startAwl mask req).awl.defer, ?_⟩
  simp only [startAwl, hidle, Bool.false_eq_true, if_false, hplaced]

/-- AWL begins an on-demand run of those of its tests that may run now (R774). -/
theorem request_awl {s : State} {blk : List Byte} (hfour : s.benchFour = true) (hrole : s.welt.role ≠ .standby)
    (hidle : s.awl.running = false) : ∃ left, (s.request 18 blk).awl = { s.awl with
      running := true, powerUp := false, mask := fieldBE blk 0 4 &&& s.awlRuns, req := some s.prog.nextReq,
      defer := left } := by
  obtain ⟨left, hstart⟩ := startAwl_awl (s := s.idTaken) hidle (fieldBE (paramBlock blk) 0 4) (some s.prog.nextReq)
  refine ⟨left, ?_⟩
  rw [request_eq_handOver hfour 18 _ hrole rfl, mirror_awl, ← fieldBE_paramBlock blk (by decide)]
  exact hstart

end State

/-- Settles O28: the four scopes with slots by what joins, SWEEP by the sweep begun, AWL by the run begun. -/
theorem calibrationAndAwlRequestsComplete : Obligations.CalibrationAndAwlRequestsComplete := by
  unfold Obligations.CalibrationAndAwlRequestsComplete
  intro s blk c hfour hsolo hchain hc hup hok hsweep id urgent joins
  have hrole : s.welt.role ≠ .standby := by rw [hsolo]; decide
  have hjoins {scope : Nat} {slots : List Nat} (hscope : scope ≤ 3)
      (hslots : s.calScope c scope (fieldBE blk 4 2) = slots) (hsome : slots ≠ []) :=
    State.request_calibrate_joins hc hup hok hsweep hfour hrole hchain hscope hslots hsome
  refine ⟨fun hsome => ⟨_, rfl, hjoins (scope := 0) (by decide) rfl hsome⟩,
    fun hsome => ⟨_, rfl, hjoins (scope := 1) (by decide) rfl hsome⟩,
    fun hsome => ⟨_, rfl, hjoins (scope := 2) (by decide) rfl hsome⟩,
    fun hsome => ⟨_, rfl, hjoins (scope := 3) (by decide) rfl hsome⟩,
    fun hfree hmode hidle => ?sweep, fun hidle => ?awl⟩
  case sweep =>
    exact ⟨_, _, rfl,
      State.request_calibrate_sweeps hc hup hok hsweep hfour hrole hchain hfree hmode hidle, rfl, rfl⟩
  case awl =>
    obtain ⟨left, hrun⟩ := State.request_awl hfour hrole hidle
    refine ⟨_, rfl, ?_⟩
    rw [hrun]
    exact ⟨rfl, rfl, rfl, rfl⟩

end Sys2Proof.Machine
end

section
/-! PROOFS. An input sample in the stages of a lane (R366): how the count within a CIC decimation goes on, and a lane
whose count stands beyond its decimation. -/

namespace Sys2Proof.Machine

open Sys2Proof

/-! ### The counts within the decimations -/

@[simp] theorem Signal.set_cic (g : Signal) (c : Nat) (b : Branch) : (g.set c b).cic = g.cic := rfl

@[simp] theorem Signal.set_fir (g : Signal) (c : Nat) (b : Branch) : (g.set c b).fir = g.fir := rfl

namespace State

@[simp] theorem withMask_cic (s : State) (x : Lane) (mask : Nat) : (s.withMask x mask).cic = x.sig.cic := by
  simp only [withMask]
  split <;> rfl

@[simp] theorem withMask_fir (s : State) (x : Lane) (mask : Nat) : (s.withMask x mask).fir = x.sig.fir := by
  simp only [withMask]
  split <;> rfl

@[simp] theorem feedBranches_cic (s : State) (x : Lane) (g : Signal) (t : Nat) (v : Iq × Iq) (out : Bool) :
    (s.feedBranches x g t v out).cic = g.cic := by
  simp [feedBranches, apply_ite Signal.cic]

@[simp] theorem feedBranches_fir (s : State) (x : Lane) (g : Signal) (t : Nat) (v : Iq × Iq) (out : Bool) :
    (s.feedBranches x g t v out).fir = g.fir := by
  simp [feedBranches, apply_ite Signal.fir]

/-- The input sample that ends a CIC decimation within one of the FIR gives no output sample and takes the CIC's count
back to 0. -/
theorem lanePush_of_cicEnd {s : State} {x : Lane} (hcic : x.decim ≤ x.sig.cic + 1)
    (hfir : (x.sig.fir + 1) % x.firDec ≠ 0) (t : Nat) (v : Iq × Iq) :
    (s.lanePush x t v).2 = none ∧ (s.lanePush x t v).1.cic = 0 := by
  simp [lanePush, hcic, hfir]

end State

/-! ### A count beyond the decimation -/

/-- A running lane that decimates by 4 in the CIC and by 2 in the FIR, and has counted 4 samples within a decimation of
4. -/
def countedBeyond : Lane := { Lane.init with use := .run, dec := 3, f := 1, branches := 1, sig.cic := 4 }

/-- An input sample of both chains that holds nothing. -/
def zeroSample : Iq × Iq := (⟨0, 0⟩, ⟨0, 0⟩)

/-- The device as at reset, but for lane 0. -/
def laneCountedBeyond : State := { State.reset with lanes.lane := [(0, countedBeyond)] }

/-- Every memory of that state is canonical. -/
theorem laneCountedBeyond_wf : laneCountedBeyond.wf = true := by decide

/-- Refutes O34 by its clause for an input sample that gives no output: the statement speaks of every state, and in one
whose lane has counted 4 samples within a decimation by 4 the next sample takes the count to 0, where the statement has
(4 + 1) mod 4 = 1.  The state is canonical (`laneCountedBeyond_wf`); what this clause lacks is the premise that the
count is below the decimation, where the samples counted from 0 keep it. -/
theorem not_laneRowsComplete : ¬ Obligations.LaneRowsComplete := by
  unfold Obligations.LaneRowsComplete
  intro h
  obtain ⟨hnone, hzero⟩ := State.lanePush_of_cicEnd (s := laneCountedBeyond) (x := countedBeyond)
    (by decide) (by decide) 0 zeroSample
  obtain ⟨-, -, -, hclause, -⟩ :=
    h laneCountedBeyond ⟨0, [], 0, 0⟩ 0 ⟨0, [zeroSample], true, 0⟩ zeroSample 0 ⟨⟨0, 0⟩, 0, false⟩
  obtain ⟨-, -, -, -, -, -, -, hcount⟩ :=
    hclause ⟨rfl, rfl, rfl, by decide, by decide, by decide⟩ hnone
  exact absurd (hzero.symm.trans hcount) (by decide)

end Sys2Proof.Machine
end

section
/-! PROOFS. The rows of the FM receivers (chapter 10): the ticks of pilot lock, the block of RDS at its place, the
detector's block, the tick of a programme output and the record of a superframe. -/

namespace Sys2Proof.Machine

open Sys2Proof

namespace State

/-! ### What events leave of the receivers -/

@[simp] theorem fmLane_setFm_self (s : State) (n : Nat) (x : FmLane) : (s.setFm n x).fmLane n = some x :=
  kget_kput_self _ _ _

theorem setLane_lane_self {s : State} {n : Nat} {x : Lane} (h : x ≠ Lane.init) : (s.setLane n x).lane n = x :=
  sget_sput_ne_default h

/-- Between two states nothing of the FM receivers differs, nor the PP, nor what `keeps` names. -/
structure SameFm (s t : State) : Prop where
  keeps : s.keeps t
  fm : t.fm = s.fm
  pp : t.last.pp = s.last.pp

theorem SameFm.refl (s : State) : s.SameFm s := ⟨s.keeps_refl, rfl, rfl⟩

theorem SameFm.trans {s t u : State} (h : s.SameFm t) (k : t.SameFm u) : s.SameFm u :=
  ⟨h.keeps.trans k.keeps, k.fm.trans h.fm, k.pp.trans h.pp⟩

/-- A receiver replaced, and events raised besides: the receiver is the new one, and the rest of the device stands. -/
theorem SameFm.setFm {s t : State} {n : Nat} {x : FmLane} (h : (s.setFm n x).SameFm t) :
    s.keeps t ∧ t.last.pp = s.last.pp ∧ t.fmLane n = some x :=
  ⟨(keeps_of_prog rfl rfl rfl rfl rfl).trans h.keeps, h.pp,
    (congrArg (fun m : Fm => kget m.lanes n) h.fm).trans (s.fmLane_setFm_self n x)⟩

theorem deliver_sameFm (s : State) (b : Nat) (e : Event) : s.SameFm (s.deliver b e) :=
  ⟨s.deliver_keeps b e, s.deliver_fm b e, by rw [deliver_last]⟩

theorem raise_sameFm (s : State) (code unit cls : Nat) : s.SameFm (s.raise code unit cls) :=
  ⟨s.raise_keeps code unit cls, s.raise_fm code unit cls, by rw [raise_last]⟩

theorem note_sameFm (s : State) (code : Nat) : s.SameFm (s.note code) := s.raise_sameFm code _ _

theorem mirror_sameFm (s : State) (p : WPayload) : s.SameFm (s.mirror p) :=
  ⟨s.mirror_keeps p, s.mirror_fm p, by rw [mirror_last]⟩

theorem fmEvent_sameFm (s : State) (n i : Nat) (rest : List Byte) : s.SameFm (s.fmEvent n i rest) := by
  simp only [fmEvent]
  split
  · split
    · exact s.deliver_sameFm _ _
    · exact .refl s
  · exact .refl s

theorem raiseLast_sameFm (s : State) (e : Event) : s.SameFm (s.raiseLast e) := by
  simp only [raiseLast]
  split
  · exact s.deliver_sameFm 4 e
  · exact (foldl_leaves (R := SameFm) _ _ .refl .trans (fun s b => s.deliver_sameFm b e) s).trans (mirror_sameFm _ _)

theorem lastLoss_sameFm (s : State) (change : Nat) (a b : Source) : s.SameFm (s.lastLoss change a b) :=
  s.raiseLast_sameFm _

theorem lastEvt_sameFm (s : State) (bits : Nat) : s.SameFm (s.lastEvt bits) := by
  refine ⟨keeps_of_prog ?_ ?_ ?_ ?_ ?_, ?_, ?_⟩ <;> simp [lastEvt]

/-- A move between rate sources raises its events and leaves the receivers (R41, R73, R76). -/
theorem moveTo_sameFm (s : State) (x : Source) : s.SameFm (s.moveTo x) := by
  have hlast : ∀ {l : Last}, l.pp = s.last.pp → s.SameFm { s with last := l } := fun hl =>
    ⟨keeps_of_prog rfl rfl rfl rfl rfl, rfl, hl⟩
  simp only [moveTo]
  split
  · exact .refl s
  · split
    · exact (((hlast (by rfl)).trans (lastEvt_sameFm _ 4)).trans (note_sameFm _ 0x2101)).trans (lastLoss_sameFm _ 0 _ _)
    · split
      · exact (hlast (by rfl)).trans (lastLoss_sameFm _ 2 _ _)
      · exact hlast rfl

theorem watchSource_sameFm (s : State) : s.SameFm s.watchSource := by
  simp only [watchSource]
  split
  · exact .refl s
  · exact s.moveTo_sameFm _

/-! ### Pilot lock (R420, R421) -/

theorem pilotLost_sameFm (s : State) (n : Nat) (f : FmLane) :
    (s.setFm n { f with lockRun := 0, locked := false }).SameFm (s.pilotLost n f) := by
  simp only [pilotLost]
  split
  · exact (raise_sameFm _ _ _ _).trans (fmEvent_sameFm _ _ _ _)
  · exact fmEvent_sameFm _ _ _ _

section Pilot

variable {s : State} {n : Nat} {f : FmLane} (hf : s.fmLane n = some f)
include hf

/-- A lock tick counts toward LOCKED, which the 19th in succession gives. -/
theorem judgePilot_of_lock {err : Nat} (herr : err < 100) (hlevel : f.level ≤ s.fld 0xC00 19 12) :
    let run := Nat.min 19 (f.lockRun + 1)
    (s.setFm n { f with lockRun := run, noLockRun := 0, locked := f.locked || run == 19 }).SameFm
      (s.judgePilot n true err) := by
  simp only [judgePilot, hf, herr, hlevel, decide_true, Bool.and_self, if_true]
  split
  · exact fmEvent_sameFm _ _ _ _
  · exact .refl _

/-- A tick without a clean sample counts away from LOCKED, which the 4th in succession ends. -/
theorem judgePilot_of_noLock (err : Nat) :
    let run := Nat.min 4 (f.noLockRun + 1)
    (s.setFm n { f with lockRun := 0, noLockRun := run, locked := f.locked && run != 4 }).SameFm
      (s.judgePilot n false err) := by
  simp only [judgePilot, hf, Bool.false_and, Bool.false_eq_true, if_false]
  generalize Nat.min 4 (f.noLockRun + 1) = run
  split
  · next hlost =>
    obtain ⟨-, hrun⟩ := Bool.and_eq_true_iff.mp hlost
    have hunlocked : (f.locked && run != 4) = false := by simp [beq_iff_eq.mp hrun]
    rw [hunlocked]
    exact s.pilotLost_sameFm n { f with lockRun := 0, noLockRun := run }
  · next hstays =>
    have hlocked : (f.locked && run != 4) = f.locked := by
      cases hl : f.locked <;> simp_all
    rw [hlocked]
    exact .refl _

end Pilot

end State

/-! ### A block of RDS at its place (R437) -/

/-- Symbols of which none is erased give bits of which none is marked. -/
theorem rdsBits_unmarked (locked : Bool) {syms : List RdsSym} (h : ∀ y ∈ syms, y.erased = false) :
    ∀ e ∈ rdsBits locked syms, e.2 = false := by
  induction syms with
  | nil => simp [rdsBits]
  | cons p rest ih =>
    cases rest with
    | nil => simp [rdsBits]
    | cons y rest =>
      have hy : y.erased = false := h y (by simp)
      have htail := ih fun z hz => h z (List.mem_cons_of_mem _ hz)
      simpa [rdsBits, hy] using htail

theorem rdsWord_of_zeros {bits : List Bool} (h : ∀ b ∈ bits, b = false) : rdsWord bits = 0 := by
  have hfold : bits.foldl (fun (w : Nat) b => 2 * w + bitNat b) 0 = 0 := by
    induction bits with
    | nil => rfl
    | cons b bits ih =>
      rw [List.foldl_cons, h b List.mem_cons_self]
      exact ih fun c hc => h c (List.mem_cons_of_mem _ hc)
  rw [rdsWord, hfold]
  rfl

theorem rdsWord_marks_of_clean (locked : Bool) {syms : List RdsSym} (h : ∀ y ∈ syms, y.erased = false) :
    rdsWord ((rdsBits locked syms).map (·.2)) = 0 := by
  refine rdsWord_of_zeros fun b hb => ?_
  obtain ⟨e, he, rfl⟩ := List.mem_map.mp hb
  exact rdsBits_unmarked locked h e he

/-- The receiver once a block B without errors, its last bit numbered `bit`, has joined the block A of its group. -/
def FmLane.joinedByB (f : FmLane) (blockA : Nat × Nat) (info bit : Nat) : FmLane :=
  { f with
    lastBit := bit, next := 2, badRun := 0, group := [blockA, (info, 0)]
    groupVerB := some (info.testBit 11), hist := (0 :: f.hist).take 50 }

/-- A block without a mark that has its place's offset is OK. -/
theorem judgeBlock_of_ok (k : Nat) {w : BitVec 26} {i : Nat} (h : rdsRemainder w = rdsOffset i) :
    judgeBlock k w 0 i = (0, w.toNat / 1024) := by
  simp [judgeBlock, h, withinBurst]

namespace State

theorem flywheel_ne_zero (s : State) : s.flywheel ≠ 0 := by
  have : 2 ≤ s.flywheel := Nat.le_max_left _ _
  omega

/-- A second block without errors joins the first, and block B's version is known with it. -/
theorem rdsInSync_of_second_ok (s : State) (n : Nat) {f : FmLane} {g : Nat × Nat} {w : BitVec 26} (bit : Nat)
    (a : Anchor) (hnext : f.next = 1) (hgroup : f.group = [g]) (hw : rdsRemainder w = 0x198) :
    s.rdsInSync n f w 0 bit a = s.setFm n (f.joinedByB g (w.toNat / 1024) bit) := by
  have hjudge : judgeBlock s.corrMax w 0 1 = (0, w.toNat / 1024) := judgeBlock_of_ok _ hw
  simp only [rdsInSync, judgePlace, hnext, hgroup, hjudge]
  simp [flywheel_ne_zero, FmLane.joinedByB]

/-- The block due in sync is judged at its place, and the Last looks to its source after it (R42, R439). -/
theorem exec_rdsBlockDelivery_of_due {s : State} {n : Nat} {f : FmLane} {bit : Nat} (hf : s.fmLane n = some f)
    (hrec : s.reception = true) (hsync : f.sync = true) (hbit : bit = f.lastBit + 26) (syms : List RdsSym)
    (anchor ago : Nat) :
    let bits := rdsBits f.locked syms
    ∃ a, exec (.rdsBlockDelivery n syms bit anchor ago) s =
      .next (s.rdsInSync n f (rdsWord (bits.map (·.1))) (rdsWord (bits.map (·.2))) bit a).watchSource := by
  intro bits
  change ∃ a, execRdsBlockDelivery n syms bit anchor ago s = _
  simp only [execRdsBlockDelivery, hf, Option.filter_some, hrec, if_true, hsync, Bool.not_true, Bool.false_eq_true,
    if_false, if_pos hbit]
  exact ⟨_, rfl⟩

/-! ### The detector (R396, R398, R419) -/

/-- A full detector block makes the lane's LEVEL, or with a marked sample leaves it, and its receiver holds the same. -/
theorem exec_detectorBlock_of_full {s : State} {n : Nat} {f : FmLane} (hf : s.fmLane n = some f)
    (huse : (s.lane n).use ≠ .free) (hrec : s.reception = true)
    (hfull : Nat.max 15 (s.lane n).sfdK + 1 ≤ (s.lane n).sfd.length) :
    let x := s.lane n
    let blk := x.sfd.take (Nat.max 15 x.sfdK + 1)
    let level := if blk.any (·.2) then x.level else detectorLevel x.sfdFreq (blk.map (·.1))
    exec (.detectorBlock n) s = .next ((s.setLane n { x with
      level := level, sfd := x.sfd.drop (Nat.max 15 x.sfdK + 1) }).setFm n { f with level := level }) := by
  intro x blk level
  change execDetectorBlock n s = _
  have hrun : ((s.lane n).use == .free) = false := beq_eq_false_iff_ne.mpr huse
  have hcame : decide ((s.lane n).sfd.length < Nat.max 15 (s.lane n).sfdK + 1) = false :=
    decide_eq_false (Nat.not_lt.mpr hfull)
  have hstill : ∀ y, (s.setLane n y).fmLane n = some f := fun _ => hf
  simp only [execDetectorBlock, hrun, hcame, hrec, Bool.not_true, Bool.or_self, Bool.false_eq_true, if_false, hstill]
  rfl

/-! ### A tick of a programme output (R428–R432) -/

/-- A tick of an output with a source moves the levels of its copies. -/
theorem exec_poTick_of_source {s : State} {po : Fin 2} {src : Nat} (hsrc : (s.fm.po.get po).source = some src)
    (hrec : s.reception = true) : ∃ other, exec (.poTick po) s = .next { s with
      fm.po := s.fm.po.set po { s.fm.po.get po with
        main := s.copyLevels po src (s.fm.po.get po).main, other := other } } := by
  change ∃ other, execPoTick po s = _
  simp only [execPoTick, hsrc, hrec, if_true]
  exact ⟨_, rfl⟩

theorem muteTarget_eq (s : State) (po : Nat) (lev : Int) :
    let sm := s.reg (0xC11 + 8 * po)
    s.muteTarget po lev = Nat.min (4 * Nat.min 40 (sm.toNat / 256 % 64))
      (4 * ((sm.toNat % 256 : Nat) : Int) - 2 * lev).toNat := by
  simp [muteTarget, Word.bits_eq]

section Copy

variable {s : State} {c : Copy} {lev : Int} (hlev : s.levelOf c.since = some lev) (po src : Nat)
include hlev

theorem copyLevels_mute : (s.copyLevels po src c).mute = stepToward c.mute (s.muteTarget po lev) 16 1 := by
  simp only [copyLevels, hlev]

theorem copyLevels_blend_of_locked (hlock : s.laneLocked src = true)
    (hstereo : (s.reg (0xC10 + 8 * po)).bit 10 = false) :
    (s.copyLevels po src c).blend = stepToward c.blend (s.blendTarget po lev (usnOf c.since)) 255 2040 := by
  simp [copyLevels, hlev, hlock, hstereo]

end Copy

theorem copyLevels_blend_of_unlocked {s : State} {src : Nat} (hlock : s.laneLocked src = false) (po : Nat) (c : Copy) :
    (s.copyLevels po src c).blend = stepToward c.blend 0 255 2040 := by
  simp [copyLevels, hlock]

/-! ### The record of a superframe (R454) -/

/-- Measuring takes free values and changes nothing else. -/
theorem metrics_state (s : State) (ms : List Mpx) (aliased : Bool) :
    (s.metrics ms aliased).2 = { s with freeCtr := (s.metrics ms aliased).2.freeCtr } := rfl

theorem metrics_length (s : State) (ms : List Mpx) (aliased : Bool) : (s.metrics ms aliased).1.length = 8 := by
  simp [metrics]

/-- DEV reads 0xFFFF in a superframe whose deviation went beyond ±120 kHz (R414). -/
theorem metrics_dev_of_aliased (s : State) (ms : List Mpx) :
    byteAt (s.metrics ms true).1 6 = 0xFF ∧ byteAt (s.metrics ms true).1 7 = 0xFF := by
  simp [metrics, byteAt, bytesBE]

theorem exec_fmQuality_of_unsubscribed {s : State} {n : Nat} {f : FmLane} (hf : s.fmLane n = some f) (hn : n < 96)
    (hsub : f.sub = none) (aliased : Bool) (record : List Byte) :
    let met := s.metrics f.meas aliased
    exec (.fmQuality n aliased record) s = .next (met.2.setFm n { f with
      quality := some ⟨qualityBytes f met.1, sfOf s.last.pp⟩, meas := [], gapSeen := false }) := by
  intro met
  change execFmQuality n aliased record s = _
  simp only [execFmQuality, if_pos hn, fmQuality, hf, hsub]
  rfl

end State

/-- Settles O35: the ticks of pilot lock by the receiver they leave, the second block by its judgement, the detector's
block and the output's tick by their next states, the record by what was measured. -/
theorem fmRowsComplete : Obligations.FmRowsComplete := by
  unfold Obligations.FmRowsComplete
  intro s n f err ago bit anchor syms po lev src aliased rec hf run noRun word info x k p sm tick met
  refine ⟨fun hrec hhears herr hlevel => ?lock, ?noLock, fun g hrec hsync hbit hnext hgroup hclean hword => ?block,
    fun huse hrec hfull => ?detector, fun hsrc hrec hlev => ?output, fun hn hsub => ?quality,
    State.metrics_length .., State.metrics_state .., ?aliased⟩
  case lock =>
    have hfld : f.level ≤ s.fld 0xC00 19 12 := by rwa [State.fld, Word.bits_eq]
    have hjudge := State.judgePilot_of_lock hf herr hfld
    refine ⟨(s.judgePilot n true err).watchSource, ?_, (hjudge.trans (State.watchSource_sameFm _)).setFm⟩
    change execPilotTickJudge n true err s = _
    rw [execPilotTickJudge, hrec, hhears]
    rfl
  case noLock =>
    exact ⟨(s.judgePilot n false err).watchSource, rfl,
      ((State.judgePilot_of_noLock hf err).trans (State.watchSource_sameFm _)).setFm⟩
  case block =>
    obtain ⟨a, hexec⟩ := State.exec_rdsBlockDelivery_of_due hf hrec hsync hbit syms anchor ago
    rw [rdsWord_marks_of_clean f.locked hclean, State.rdsInSync_of_second_ok s n bit a hnext hgroup hword] at hexec
    have hsame := State.watchSource_sameFm (s.setFm n (f.joinedByB g info bit))
    obtain ⟨hkeeps, hpp, hlane⟩ := hsame.setFm
    exact ⟨_, hexec, hkeeps, hpp, (congrArg Fm.rdsBad hsame.fm).trans rfl, hlane⟩
  case detector =>
    refine ⟨_, State.exec_detectorBlock_of_full hf huse hrec hfull, rfl, ?_⟩
    have hlane : ∀ level, ((s.setLane n { x with level := level, sfd := x.sfd.drop k }).setFm n
        { f with level := level }).lane n = { x with level := level, sfd := x.sfd.drop k } := fun level =>
      State.setLane_lane_self fun h => huse (congrArg Lane.use h)
    refine ⟨fun hclean => ?_, fun ⟨e, he, hmarked⟩ => ?_, ?_⟩
    · have hnone : ¬ (x.sfd.take k).any (·.2) = true := by simpa using hclean
      rw [hlane, if_neg hnone]
    · have hsome : (x.sfd.take k).any (·.2) = true := List.any_eq_true.mpr ⟨e, he, hmarked⟩
      rw [hlane, if_pos hsome]
    · rw [hlane]
      exact State.fmLane_setFm_self _ _ _
  case output =>
    obtain ⟨other, hexec⟩ := State.exec_poTick_of_source hsrc hrec
    refine ⟨_, hexec, rfl, rfl, ?_⟩
    have hset : ∀ q : Po, (s.fm.po.set po q).get po = q := fun q => Vector.getElem_set_self _
    simp only [hset]
    exact ⟨rfl, rfl, rfl, (State.copyLevels_mute hlev po src).trans (by rw [State.muteTarget_eq]),
      fun hlock => State.copyLevels_blend_of_unlocked hlock _ _,
      fun hlock hstereo => State.copyLevels_blend_of_locked hlev po src hlock hstereo⟩
  case quality => exact State.exec_fmQuality_of_unsubscribed hf hn hsub aliased rec
  case aliased =>
    rintro rfl
    exact State.metrics_dev_of_aliased ..

end Sys2Proof.Machine
end

section
/-! PROOFS. The expiry of an ARMED splice (chapter 11, R477): what it leaves of the lanes that it names, and a lane
memory that lists one of them twice. -/

namespace Sys2Proof.Machine

open Sys2Proof

namespace State

/-! ### A slew that ends where it stands (R381) -/

theorem stopSlewing_lane_ne {m n : Nat} (h : m ≠ n) (s : State) : (s.stopSlewing n).lane m = s.lane m :=
  sget_sput_ne h

theorem stopSlewing_swf {s : State} (hwf : swf Lane.init s.lanes.lane = true) (n : Nat) :
    swf Lane.init (s.stopSlewing n).lanes.lane = true :=
  swf_sput hwf

theorem stopSlewing_delta_use {s : State} (hwf : swf Lane.init s.lanes.lane = true) (n i : Nat) :
    ((s.stopSlewing n).lane i).delta = (s.lane i).delta ∧ ((s.stopSlewing n).lane i).use = (s.lane i).use := by
  by_cases h : i = n
  · subst h
    have hlane : (s.stopSlewing i).lane i = { s.lane i with goal := (s.lane i).delta, slewing := false } :=
      sget_sput_self hwf
    rw [hlane]
    exact ⟨rfl, rfl⟩
  · rw [stopSlewing_lane_ne h]
    exact ⟨rfl, rfl⟩

/-- A lane at the head of the memory whose slew alone tells it from a lane at reset: with the slew its entry goes. -/
theorem stopSlewing_of_default_head {s : State} {n : Nat} {x : Lane} {m : List (Nat × Lane)}
    (hmem : s.lanes.lane = (n, x) :: m) (hx : { x with goal := x.delta, slewing := false } = Lane.init) :
    (s.stopSlewing n).lanes.lane = m := by
  have hlane : s.lane n = x := by simp [lane, hmem, sget]
  change sput Lane.init s.lanes.lane n { s.lane n with goal := (s.lane n).delta, slewing := false } = m
  rw [hmem, hlane, hx, sput_default_head]

/-! ### The expiry of an ARMED splice (R477) -/

/-- A splice on an output, taken out of following, ends the slews of its source and of its target. -/
theorem dropSplice_lane_of_output {s : State} {sp : Splice} (hpo : fieldBE sp.blk 0 1 < 2) :
    (s.dropSplice sp).lane = ((s.stopSlewing (fieldBE sp.blk 1 1)).stopSlewing (fieldBE sp.blk 2 1)).lane := by
  simp only [dropSplice, if_neg (Nat.not_le.mpr hpo)]
  rfl

theorem dropSplice_lane_of_noOutput {s : State} {sp : Splice} (hpo : 2 ≤ fieldBE sp.blk 0 1) :
    (s.dropSplice sp).lane = s.lane := by
  simp only [dropSplice, if_pos hpo]
  rfl

theorem dropSplice_delta_use {s : State} (hwf : swf Lane.init s.lanes.lane = true) (sp : Splice) (i : Nat) :
    ((s.dropSplice sp).lane i).delta = (s.lane i).delta ∧ ((s.dropSplice sp).lane i).use = (s.lane i).use := by
  obtain hpo | hpo := Nat.lt_or_ge (fieldBE sp.blk 0 1) 2
  · obtain ⟨hdelta, huse⟩ := stopSlewing_delta_use hwf (fieldBE sp.blk 1 1) i
    obtain ⟨hdelta', huse'⟩ := stopSlewing_delta_use (stopSlewing_swf hwf _) (fieldBE sp.blk 2 1) i
    rw [dropSplice_lane_of_output hpo]
    exact ⟨hdelta'.trans hdelta, huse'.trans huse⟩
  · rw [dropSplice_lane_of_noOutput hpo]
    exact ⟨rfl, rfl⟩

/-- An ARMED splice at its expiry is taken out of following and completes with reason 9; what each lane holds is what
taking it out leaves. -/
theorem exec_spliceExpiry_of_armed {s : State} {sp : Splice} (hsplices : s.follow.splices = [sp])
    (harmed : sp.stage = .armed) (hpp : fieldBE sp.blk 6 6 ≤ s.last.pp) :
    ∃ t, exec (.spliceExpiry sp.id) s = .next t ∧ t.lane = (s.dropSplice sp).lane := by
  refine ⟨(s.dropSplice sp).spliceReply sp.id sp.blk stNone 9 sp.d 0, ?_, ?_⟩
  · change execSpliceExpiry sp.id s = _
    simp [execSpliceExpiry, spliceAt, hsplices, harmed, hpp]
  · funext i
    simp [lane, spliceReply]

/-- In a canonical lane memory the expiry leaves every lane's Δ and use. -/
theorem exec_spliceExpiry_delta_use_of_canonical {s : State} {sp : Splice} (hsplices : s.follow.splices = [sp])
    (harmed : sp.stage = .armed) (hpp : fieldBE sp.blk 6 6 ≤ s.last.pp)
    (hwf : swf Lane.init s.lanes.lane = true) : ∃ t, exec (.spliceExpiry sp.id) s = .next t ∧
      ∀ i, (t.lane i).delta = (s.lane i).delta ∧ (t.lane i).use = (s.lane i).use := by
  obtain ⟨t, hexec, hlane⟩ := exec_spliceExpiry_of_armed hsplices harmed hpp
  exact ⟨t, hexec, fun i => hlane ▸ dropSplice_delta_use hwf sp i⟩

end State

/-! ### A source lane listed twice -/

/-- A FREE lane whose slew goes on, and which is otherwise as at reset. -/
def slewingLane : Lane := { Lane.init with slewing := true }

/-- An ARMED splice on programme output 0 from lane 0 to lane 1 that expires at position 0. -/
def expiringSplice : Splice := ⟨0, [0, 0, 1, 1] ++ List.replicate 28 0, .armed, 0, 0, 0, 0⟩

/-- The lane memory lists the source lane twice, slewing and FREE in the entry that is read, and running in the one
behind it. -/
def sourceListedTwice : State :=
  { State.reset with
    lanes.lane := [(0, slewingLane), (0, runningLane)]
    follow.splices := [expiringSplice] }

theorem sourceListedTwice_source_free : (sourceListedTwice.lane 0).use = .free := rfl

/-- The end of the source's slew takes out the first of the two entries, and the source is read from the second, which
runs. -/
theorem dropSplice_sourceListedTwice_runs : ((sourceListedTwice.dropSplice expiringSplice).lane 0).use = .run := by
  have hmem : (sourceListedTwice.stopSlewing 0).lanes.lane = [(0, runningLane)] :=
    State.stopSlewing_of_default_head (x := slewingLane) rfl rfl
  rw [State.dropSplice_lane_of_output (by decide)]
  change (((sourceListedTwice.stopSlewing 0).stopSlewing 1).lane 0).use = .run
  rw [State.stopSlewing_lane_ne (by decide), State.lane, hmem]
  rfl

/-- Refutes O36 by its clause for SPLICE_EXPIRY: the statement speaks of every state, and in one whose lane memory lists
the source of an expiring splice twice the end of its slew takes out one entry, so that the lane is read from the other,
which runs.  With a canonical lane memory (`swf`), which lists no number twice, the clause's part on the lanes holds
(`State.exec_spliceExpiry_delta_use_of_canonical`). -/
theorem not_followRowsComplete : ¬ Obligations.FollowRowsComplete := by
  unfold Obligations.FollowRowsComplete
  intro h
  obtain ⟨-, -, -, -, hexpiry⟩ := h sourceListedTwice 0 ⟨0, [], 0, 0, 0, [], [], [], [], none⟩ expiringSplice
  obtain ⟨t, hexec, -, -, -, -, -, -, hlanes⟩ := hexpiry rfl rfl rfl (by decide)
  obtain ⟨t', hexec', hlane⟩ := State.exec_spliceExpiry_of_armed (s := sourceListedTwice) rfl rfl (by decide)
  obtain rfl : t' = t := by simpa [expiringSplice] using hexec'.symm.trans hexec
  obtain ⟨-, huse⟩ := hlanes 0
  rw [hlane, dropSplice_sourceListedTwice_runs, sourceListedTwice_source_free] at huse
  contradiction

end Sys2Proof.Machine
end

section
/-! PROOFS. The step of the block and its state after reset, register 0, and the register forms of Tables 5-5 and
5-6. -/

namespace Sys2Proof.Machine

open Sys2Proof

/-- Every command answers a next state: each arm of the dispatch is one. -/
theorem exec_answers (c : Instr) (s : State) : ∃ t, exec c s = .next t := by
  cases c <;> exact ⟨_, rfl⟩

theorem step_of_front {s : State} {c : Instr} {rest : List Instr} (h : s.pending = c :: rest) :
    step s = exec c { s with pending := rest } := by
  simp only [step, h]

theorem step_of_empty {s : State} (h : s.pending = []) : step s = .next s := by
  simp only [step, h]

/-- Settles O57: a step by the queue of commands that wait. -/
theorem stepTakesTheFrontCommand : Obligations.StepTakesTheFrontCommand := by
  unfold Obligations.StepTakesTheFrontCommand
  intro s c rest
  refine ⟨step_of_front, step_of_front rfl, step_of_empty, ?_⟩
  cases hq : s.pending with
  | nil => exact ⟨s, step_of_empty hq⟩
  | cons d ds =>
    rw [step_of_front hq]
    exact exec_answers d _

/-- Settles O58: the state after reset holds these values. -/
theorem resetGivesTheSpecsValues : Obligations.ResetGivesTheSpecsValues := by
  unfold Obligations.ResetGivesTheSpecsValues
  decide

/-! ### Registers of a handler (Table 5-1) -/

theorem Handler.get_zero (h : Handler) : h.get 0 = 0 := if_pos rfl

theorem Handler.put_zero (h : Handler) (v : Word) : h.put 0 v = h := if_pos rfl

theorem Handler.get_put_self (h : Handler) {r : Fin 16} (hr : r ≠ 0) (v : Word) : (h.put r v).get r = v := by
  have hset : (h.regs.set r v)[r.val] = v := Vector.getElem_set_self _
  rw [Handler.put, Handler.get, if_neg hr, if_neg hr]
  exact hset

theorem Handler.get_put_ne (h : Handler) {r q : Fin 16} (hq : q ≠ r) (v : Word) : (h.put r v).get q = h.get q := by
  have hval : r.val ≠ q.val := fun e => hq (Fin.ext e.symm)
  unfold Handler.put
  split
  · rfl
  · have hset : (h.regs.set r v)[q.val] = h.regs[q.val] := Vector.getElem_set_ne _ _ hval
    exact congrArg (fun w => if q = 0 then 0 else w) hset

/-- Settles O1: register 0 by its two tests, the others by the vector that holds them. -/
theorem registerZeroReadsZero : Obligations.RegisterZeroReadsZero := by
  unfold Obligations.RegisterZeroReadsZero
  intro h r q v
  exact ⟨h.get_zero, h.put_zero v, fun hr => h.get_put_self hr v, fun hq => h.get_put_ne hq v⟩

/-! ### Rotation, comparison and the high words of products -/

theorem rotateLeft_word (x : Word) {n : Nat} (hn : n < 32) : x.rotateLeft n = x <<< n ||| x >>> ((32 - n) % 32) := by
  rw [BitVec.rotateLeft_def, Nat.mod_eq_of_lt hn]
  by_cases h0 : n = 0
  · subst h0
    have hout : x >>> 32 = 0#32 := BitVec.ushiftRight_eq_zero (by decide)
    simp [hout]
  · rw [Nat.mod_eq_of_lt (show 32 - n < 32 by omega)]

theorem ofInt_mul_eq (x y : Word) :
    x.signExtend 64 * y.signExtend 64 = BitVec.ofInt 64 (x.toInt * y.toInt) := by
  rw [BitVec.ofInt_mul, ← BitVec.toInt_signExtend_of_le (w := 32) (v := 64) (by decide),
    ← BitVec.toInt_signExtend_of_le (w := 32) (v := 64) (by decide), BitVec.ofInt_toInt, BitVec.ofInt_toInt]

theorem high_word_signed (x y : Word) : BitVec.ofInt 32 ((x.toInt * y.toInt).fdiv (2 ^ 32)) =
    ((x.signExtend 64 * y.signExtend 64) >>> 32).setWidth 32 := by
  rw [ofInt_mul_eq]
  generalize x.toInt * y.toInt = z
  apply BitVec.eq_of_toNat_eq
  rw [BitVec.toNat_setWidth, BitVec.toNat_ushiftRight, BitVec.toNat_ofInt, BitVec.toNat_ofInt,
    Nat.shiftRight_eq_div_pow, Int.fdiv_eq_ediv_of_nonneg _ (by decide)]
  omega

theorem high_word_unsigned (x y : Word) : BitVec.ofNat 32 (x.toNat * y.toNat / 2 ^ 32) =
    ((x.setWidth 64 * y.setWidth 64) >>> 32).setWidth 32 := by
  have hx : x.toNat < 2 ^ 64 := by have := x.isLt; omega
  have hy : y.toNat < 2 ^ 64 := by have := y.isLt; omega
  apply BitVec.eq_of_toNat_eq
  rw [BitVec.toNat_setWidth, BitVec.toNat_ushiftRight, BitVec.toNat_mul, BitVec.toNat_setWidth, BitVec.toNat_setWidth,
    BitVec.toNat_ofNat, Nat.shiftRight_eq_div_pow, Nat.mod_eq_of_lt hx, Nat.mod_eq_of_lt hy]
  omega

theorem truth_eq (x y : Word) : truth (x == y) = if x = y then 1 else 0 := by
  simp only [truth, beq_iff_eq]

theorem truth_ne (x y : Word) : truth (x != y) = if x = y then 0 else 1 := by
  by_cases h : x = y <;> simp [truth, h]

theorem ite_slt_le (x y : Word) : (if y.slt x then y else x) = if x.toInt ≤ y.toInt then x else y := by
  by_cases h : x.toInt ≤ y.toInt
  · rw [if_pos h, if_neg (by rw [BitVec.slt_iff_toInt_lt]; omega)]
  · rw [if_neg h, if_pos (by rw [BitVec.slt_iff_toInt_lt]; omega)]

theorem ite_ult_le (x y : Word) : (if y.ult x then y else x) = if x.toNat ≤ y.toNat then x else y := by
  by_cases h : x.toNat ≤ y.toNat
  · rw [if_pos h, if_neg (by rw [ult_eq_decide]; simpa using h)]
  · rw [if_neg h, if_pos (by rw [ult_eq_decide]; simpa using h)]

/-- Settles O2: each form by the word that it computes. -/
theorem registerArithmeticCompletes : Obligations.RegisterArithmeticCompletes := by
  unfold Obligations.RegisterArithmeticCompletes
  intro s b h rd ra rb hr2 x y n one two
  have hr : s.running b h 1 := hr2.mono (by decide)
  have hn : n < 32 := Nat.mod_lt _ (by decide)
  have hslt : (if x.slt y then y else x) = if x.toInt < y.toInt then y else x := by
    simp only [BitVec.slt_iff_toInt_lt]
  have hult : (if x.ult y then y else x) = if x.toNat < y.toNat then y else x := by
    simp only [ult_eq_decide, decide_eq_true_eq]
  exact ⟨next_compute hr rfl, next_compute hr rfl, next_compute hr rfl, next_compute hr rfl, next_compute hr rfl,
    next_compute hr rfl, next_compute hr rfl, next_compute hr rfl, next_compute hr (rotateLeft_word x hn),
    next_compute hr (truth_slt x y), next_compute hr (truth_ult x y), next_compute hr (truth_eq x y),
    next_compute hr (truth_ne x y), next_compute hr (ite_slt_le x y), next_compute hr hslt,
    next_compute hr (ite_ult_le x y), next_compute hr hult, next_compute hr2 rfl,
    next_compute hr2 (high_word_signed x y), next_compute hr2 (high_word_unsigned x y)⟩

end Sys2Proof.Machine
end

section
/-! PROOFS. What a bench instruction can reach (chapter 5): its own bench, messages, eyelets and tacks, and what tells
of its faults. -/

namespace Sys2Proof.Machine

open Sys2Proof

/-- All but the program plane, tacks, bus, mailboxes, ports, the welt link and the fault log is as in `s`, and of these
the image, the checkpoint, keys, session and the other benches' data, wakes, handlers and modes. -/
structure State.Within (b : Fin 5) (s t : State) : Prop where
  frame : ∃ p k o m q w f, t = { s with prog := p, tack := k, bus := o, mail := m, port := q, welt := w, flt := f }
  image : t.prog.image = s.prog.image
  ckpt : t.prog.ckpt = s.prog.ckpt
  keys : t.mail.keys = s.mail.keys
  session : t.mail.session = s.mail.session
  others : ∀ d : Fin 5, d ≠ b → (t.bench d).data = (s.bench d).data ∧ (t.bench d).wakes = (s.bench d).wakes ∧
    (t.bench d).handler = (s.bench d).handler ∧ (t.bench d).mode = (s.bench d).mode

/-- Within reach of bench `b`, the position not ended. -/
def State.Reaches (b : Fin 5) (s t : State) : Prop := s.Within b t ∧ t.prog.ledger = s.prog.ledger

/-- Within reach of bench `b`, the position ended or not: its end empties every buffer into the ledger (R146). -/
def State.Confined (b : Fin 5) (s t : State) : Prop :=
  s.Within b t ∧ (t.prog.ledger = s.prog.ledger ∨ ∀ d : Fin 5, (t.bench d).ledgerBuf = [])

namespace State

variable {b : Fin 5} {s t u : State}

theorem Within.trans (h : s.Within b t) (k : t.Within b u) : s.Within b u := by
  obtain ⟨⟨_, _, _, _, _, _, _, rfl⟩, himage, hckpt, hkeys, hsession, hothers⟩ := h
  obtain ⟨⟨_, _, _, _, _, _, _, rfl⟩, kimage, kckpt, kkeys, ksession, kothers⟩ := k
  refine ⟨⟨_, _, _, _, _, _, _, rfl⟩, kimage.trans himage, kckpt.trans hckpt, kkeys.trans hkeys,
    ksession.trans hsession, fun d hd => ?_⟩
  obtain ⟨h1, h2, h3, h4⟩ := hothers d hd
  obtain ⟨k1, k2, k3, k4⟩ := kothers d hd
  exact ⟨k1.trans h1, k2.trans h2, k3.trans h3, k4.trans h4⟩

@[simp] theorem Reaches.refl (s : State) : s.Reaches b s :=
  ⟨⟨⟨_, _, _, _, _, _, _, rfl⟩, rfl, rfl, rfl, rfl, fun _ _ => ⟨rfl, rfl, rfl, rfl⟩⟩, rfl⟩

theorem Reaches.trans (h : s.Reaches b t) (k : t.Reaches b u) : s.Reaches b u := ⟨h.1.trans k.1, k.2.trans h.2⟩

theorem Reaches.then (h : s.Reaches b t) (k : t.Confined b u) : s.Confined b u :=
  ⟨h.1.trans k.1, k.2.imp_left fun hl => hl.trans h.2⟩

theorem Reaches.confined (h : s.Reaches b t) : s.Confined b t := ⟨h.1, .inl h.2⟩

/-- What leaves the program plane as it is reaches nothing of the other benches. -/
theorem Reaches.of_prog {k : TackStore} {o : Bus} {m : Mail} {q : Port} {w : Welt} {f : FaultLog}
    (ht : t = { s with tack := k, bus := o, mail := m, port := q, welt := w, flt := f })
    (hkeys : m.keys = s.mail.keys) (hsession : m.session = s.mail.session) : s.Reaches b t := by
  subst ht
  exact ⟨⟨⟨_, _, _, _, _, _, _, rfl⟩, rfl, rfl, hkeys, hsession, fun _ _ => ⟨rfl, rfl, rfl, rfl⟩⟩, rfl⟩

theorem Reaches.of_settles (h : s.settles t) : s.Reaches b t := by
  obtain ⟨⟨_, _, _, _, himage, hledger, hckpt, hbench⟩, hkeys, hsession, _, _, _, _, _, _, rfl⟩ := h
  refine ⟨⟨⟨_, _, _, _, _, _, _, rfl⟩, himage, hckpt, hkeys, hsession, fun d _ => ?_⟩, hledger⟩
  obtain ⟨hdata, hwakes, hhandler, hmode, _⟩ := hbench d
  exact ⟨hdata, hwakes, hhandler, hmode⟩

/-- What leaves the benches, the image, the ledger and the checkpoint reaches nothing of them. -/
theorem reaches_prog (s : State) (p : Program) (hbench : p.bench = s.prog.bench) (himage : p.image = s.prog.image)
    (hledger : p.ledger = s.prog.ledger) (hckpt : p.ckpt = s.prog.ckpt) : s.Reaches b { s with prog := p } := by
  refine ⟨⟨⟨_, _, _, _, _, _, _, rfl⟩, himage, hckpt, rfl, rfl, fun d _ => ?_⟩, hledger⟩
  simp only [bench, hbench, and_self]

/-- An instruction's own bench can become anything. -/
theorem reaches_ownBench (s : State) (b : Fin 5) (n : Bench) (p : Program) (hbench : p.bench = vset s.prog.bench b n)
    (himage : p.image = s.prog.image) (hledger : p.ledger = s.prog.ledger) (hckpt : p.ckpt = s.prog.ckpt) :
    s.Reaches b { s with prog := p } := by
  refine ⟨⟨⟨_, _, _, _, _, _, _, rfl⟩, himage, hckpt, rfl, rfl, fun d hd => ?_⟩, hledger⟩
  have hother : ({ s with prog := p } : State).bench d = s.bench d :=
    (congrArg (vget Bench.init · d.val) hbench).trans (vget_vset_ne fun h => hd (Fin.ext h))
  rw [hother]
  exact ⟨rfl, rfl, rfl, rfl⟩

@[simp] theorem reaches_setBench (s : State) (b : Fin 5) (n : Bench) : s.Reaches b (s.setBench b n) :=
  s.reaches_ownBench b n _ rfl rfl rfl rfl

/-- Of another bench the inbox at most. -/
theorem reaches_sendMail (s : State) (dest : Nat) (e : Event) : s.Reaches b (s.sendMail dest e) := by
  simp only [sendMail]
  split
  · refine ⟨⟨⟨_, _, _, _, _, _, _, rfl⟩, rfl, rfl, rfl, rfl, fun d _ => ?_⟩, rfl⟩
    rw [bench_setBench]
    split
    · next h => rw [h.1]; exact ⟨rfl, rfl, rfl, rfl⟩
    · exact ⟨rfl, rfl, rfl, rfl⟩
  · split
    · exact s.reaches_prog _ rfl rfl rfl rfl
    · exact .refl s

@[simp] theorem reaches_mirror (s : State) (p : WPayload) : s.Reaches b (s.mirror p) := by
  unfold mirror
  split
  · exact .of_prog rfl rfl rfl
  · exact .refl s

@[simp] theorem reaches_ringHost (s : State) (e : Nat) : s.Reaches b (s.ringHost e) := by
  unfold ringHost
  split
  · obtain ⟨o, ho⟩ := s.arise_frame 1
    rw [ho]
    exact .of_prog rfl rfl rfl
  · exact .of_prog rfl rfl rfl

@[simp] theorem reaches_toStore (s : State) (d : Nat) (p : Pos) (op : TackOp) : s.Reaches b (s.toStore d p op) :=
  .of_prog rfl rfl rfl

@[simp] theorem reaches_writeData (s : State) (b : Fin 5) (a : Nat) (xs : List Byte) :
    s.Reaches b (s.writeData b a xs) :=
  reaches_setBench s b _

@[simp] theorem reaches_msend (s : State) (b : Fin 5) (dest : Nat) (msg : List Byte) (p : Pos) :
    s.Reaches b (s.msend b dest msg p) := by
  have hsent := reaches_setBench s b
    { s.bench b with sent := vset (s.bench b).sent dest (vget 0 (s.bench b).sent dest + 1) }
  unfold msend
  dsimp only
  split
  · split
    · exact hsent
    · exact (hsent.trans (reaches_sendMail _ _ _)).trans (reaches_mirror _ _)
  · exact hsent.trans (reaches_sendMail _ _ _)

/-- A message that lands, or is refused FULL, leaves the benches' memories alone. -/
theorem reaches_post (s : State) (mb : Nat) (from_ : Sender) (msg : List Byte) (p : Pos) :
    s.Reaches b (match s.postOut mb from_ msg p with | some u => u | none => s.postRefused mb) := by
  split
  · next u h => exact .of_settles (postOut_settles h)
  · exact .of_settles (s.postRefused_settles mb)

theorem reaches_heldPosts (s : State) (ps : List HeldPost) : s.Reaches b { s with mail.heldPosts := ps } :=
  .of_prog rfl rfl rfl

/-! ### Faults and the end of a position -/

theorem confined_settle (s : State) : s.Confined b s.settle := by
  obtain ⟨hbench, himage, hckpt, hkeys, hsession, hledger, _, _, _, _, _, _, hframe⟩ := s.settle_leaves
  exact ⟨⟨⟨_, _, _, _, _, _, _, hframe⟩, himage, hckpt, hkeys, hsession, fun d _ => hbench d⟩, hledger⟩

theorem reaches_consumed (s : State) (d : Nat) (e : Event) : s.Reaches b (s.consumed d e) := by
  unfold consumed
  split
  · exact .of_prog rfl rfl rfl
  · split
    · exact .of_prog rfl rfl rfl
    · exact .refl s

theorem reaches_discardEvents (s : State) (d : Nat) (es : List Event) : s.Reaches b (s.discardEvents d es) := by
  unfold discardEvents
  refine foldl_leaves _ es (fun s => Reaches.refl s) Reaches.trans (fun s e => ?_) s
  have hdrop : s.Reaches b s.dropEvent := s.reaches_prog _ rfl rfl rfl rfl
  exact hdrop.trans (reaches_consumed _ d e)

theorem confined_haltBench (s : State) (b : Fin 5) : s.Confined b (s.haltBench b) :=
  ((reaches_setBench s b _).trans (reaches_discardEvents _ b _)).then (confined_settle _)

theorem reaches_raiseBench (s : State) (code d cls : Nat) : s.Reaches b (s.raiseBench code d cls) := by
  obtain ⟨p, k, o, q, f, hframe⟩ := s.raiseBench_frame code d cls
  exact .of_settles ⟨s.raiseBench_keeps code d cls, by simp, by simp, p, k, o, q, f, s.mail, hframe⟩

theorem reaches_raiseFault (s : State) (b : Fin 5) (code cls pc arg : Nat) :
    s.Reaches b (s.raiseFault b code cls pc arg) := by
  refine (reaches_raiseBench s code b cls).trans ?_
  simp only [raiseFault]
  generalize s.raiseBench code b cls = t
  exact (t.reaches_prog { t.prog with lastFault := code, lastFaultBench := b } rfl rfl rfl rfl).trans
    (reaches_setBench _ b _)

theorem reaches_voidFrom (s : State) (p : Pos) : s.Reaches b (s.voidFrom p) :=
  s.reaches_prog _ rfl rfl rfl rfl

/-- A bench fault takes back or halts its own bench alone (R138, R141). -/
theorem confined_benchFault (s : State) (b : Fin 5) (h : Handler) (code arg : Nat) :
    s.Confined b (s.benchFault b h code arg) := by
  unfold benchFault
  split
  · exact (reaches_raiseFault s b _ _ _ _).then (confined_haltBench _ b)
  · dsimp only
    generalize hvoid : (if code = 0x8101 ∧ decide (b.val < 4) = true then s.voidFrom h.ev.pos else s) = v
    have hv : s.Reaches b v := by
      subst hvoid
      split
      · exact reaches_voidFrom s _
      · exact .refl s
    generalize (if code = 0x8101 ∧ decide (b.val < 4) = true then clsVoid else clsNote) = cls
    have hraised := hv.trans (reaches_raiseFault v b code cls h.pc arg)
    split
    · exact ((hraised.trans (reaches_setBench _ b _)).trans (reaches_raiseFault _ b _ _ _ _)).then
        (confined_haltBench _ b)
    · refine (hraised.trans ?_).confined
      generalize v.raiseFault b code cls h.pc arg = w
      exact w.reaches_ownBench b _ _ rfl rfl rfl rfl

theorem confined_endHandler (s : State) (b : Fin 5) (h : Handler) : s.Confined b (s.endHandler b h) := by
  unfold endHandler
  dsimp only
  split
  · exact (reaches_setBench s b _).then (confined_settle _)
  · exact (reaches_setBench s b _).then (confined_settle _)

end State

/-! ### One instruction -/

/-- What an instruction of bench `b` leaves is within its reach. -/
def Exec.Reaches (b : Fin 5) (s : State) : Exec → Prop
  | .cont t _ | .goto t _ _ | .finish t _ => s.Reaches b t
  | .fault _ _ => True

section Instruct

variable {b : Fin 5} {s t : State} {h k : Handler}

@[simp] theorem Exec.reaches_cont : (Exec.cont t k).Reaches b s ↔ s.Reaches b t := .rfl

@[simp] theorem Exec.reaches_goto {a : Nat} : (Exec.goto t k a).Reaches b s ↔ s.Reaches b t := .rfl

@[simp] theorem Exec.reaches_finish : (Exec.finish t k).Reaches b s ↔ s.Reaches b t := .rfl

@[simp] theorem Exec.reaches_fault {code arg : Nat} : (Exec.fault code arg).Reaches b s := trivial

theorem State.confined_instruct {c : Nat} {f : State → Handler → Exec} (hf : ∀ h, (f s h).Reaches b s) :
    s.Confined b (s.instruct b c f) := by
  unfold State.instruct
  split
  · exact (State.Reaches.refl s).confined
  · next h _ =>
    split
    · exact s.confined_benchFault b _ _ _
    · dsimp only
      split
      · next t k hcont =>
        have ht := hf { h with used := h.used + c }
        rw [hcont] at ht
        split
        · exact (State.Reaches.trans ht (t.reaches_setBench b _)).then (State.confined_benchFault _ b _ _ _)
        · exact (State.Reaches.trans ht (t.reaches_setBench b _)).confined
      · next t k a hgoto =>
        have ht := hf { h with used := h.used + c }
        rw [hgoto] at ht
        split
        · exact s.confined_benchFault b _ _ _
        · exact (State.Reaches.trans ht (t.reaches_setBench b _)).confined
      · next t k hfinish =>
        have ht := hf { h with used := h.used + c }
        rw [hfinish] at ht
        exact State.Reaches.then ht (t.confined_endHandler b k)
      · exact s.confined_benchFault b _ _ _

/-- The arms that write a register, and those that go on or go elsewhere, leave the state as it is. -/
theorem State.confined_compute {c : Nat} {rd : Fin 16} {f : Handler → Word} : s.Confined b (s.compute b c rd f) :=
  confined_instruct fun _ => .refl s

theorem State.confined_branch {c : Nat} {off : BitVec 18} {g : Handler → Bool} :
    s.Confined b (s.instruct b c fun s h => branch h off (g h) s) := by
  refine confined_instruct fun h => ?_
  unfold branch
  split <;> exact State.Reaches.refl s

theorem call_reaches (h : Handler) (a : Nat) (s : State) : (call h a s).Reaches b s := by
  unfold call
  split
  · trivial
  · exact State.Reaches.refl s

/-! ### Data memory, the ledger and the event -/

theorem State.confined_loadData {rd ra : Fin 16} {imm : BitVec 18} {n : Nat} {f : Nat → Word} :
    s.Confined b (loadData b rd ra imm n f s) := by
  refine confined_instruct fun h => ?_
  dsimp only
  split
  · trivial
  · exact State.Reaches.refl s

theorem State.confined_storeData {rd ra : Fin 16} {imm : BitVec 18} {n : Nat} :
    s.Confined b (storeData b rd ra imm n s) := by
  refine confined_instruct fun h => ?_
  dsimp only
  split
  · trivial
  · exact s.reaches_writeData b _ _

theorem State.confined_readWindow {rd ra : Fin 16} {off : BitVec 8} {n : Nat} :
    s.Confined b (readWindow b rd ra off n s) := by
  refine confined_instruct fun h => ?_
  dsimp only
  split
  · trivial
  · exact State.Reaches.refl s

theorem cancelTack_reaches (s : State) (b : Fin 5) (h : Handler) (x : Word) (op : TackOp) :
    (cancelTack s b h x op).Reaches b s := by
  unfold cancelTack
  split
  · exact s.reaches_toStore b _ _
  · split
    · exact State.Reaches.refl s
    · trivial
  · trivial
  · trivial

/-- LLW reads, and LSW buffers with its handler: the state stands (R194). -/
theorem execLlw_confined {rd ra : Fin 16} {imm : BitVec 18} :
    ∃ t, execLlw b rd ra imm s = .next t ∧ s.Confined b t := by
  refine ⟨_, rfl, State.confined_instruct fun h => ?_⟩
  dsimp only
  repeat' split
  all_goals simp

theorem execLsw_confined {rd ra : Fin 16} {imm : BitVec 18} :
    ∃ t, execLsw b rd ra imm s = .next t ∧ s.Confined b t := by
  refine ⟨_, rfl, State.confined_instruct fun h => ?_⟩
  dsimp only
  repeat' split
  all_goals simp

theorem execLdc_confined {rd ra : Fin 16} {imm : BitVec 18} :
    ∃ t, execLdc b rd ra imm s = .next t ∧ s.Confined b t := by
  refine ⟨_, rfl, State.confined_instruct fun h => ?_⟩
  dsimp only
  repeat' split
  all_goals simp

theorem execEvcpy_confined {ra : Fin 16} : ∃ t, execEvcpy b ra s = .next t ∧ s.Confined b t := by
  refine ⟨_, rfl, State.confined_instruct fun h => ?_⟩
  dsimp only
  repeat' split
  all_goals simp

/-! ### Tacks, messages and wakes -/

/-- TPOST counts the post on its bench and hands the tack to the store (R203, R205). -/
theorem execTpost_confined {rd ra : Fin 16} : ∃ t, execTpost b rd ra s = .next t ∧ s.Confined b t := by
  refine ⟨_, rfl, State.confined_instruct fun h => ?_⟩
  have hpost (n : Bench) (p : Pos) (op : TackOp) : s.Reaches b ((s.setBench b n).toStore b p op) :=
    (s.reaches_setBench b n).trans (State.reaches_toStore _ b p op)
  dsimp only
  repeat' split
  all_goals simp [hpost]

theorem execMsend_confined {rd ra rb : Fin 16} {dest : BitVec 8} :
    ∃ t, execMsend b rd ra rb dest s = .next t ∧ s.Confined b t := by
  refine ⟨_, rfl, State.confined_instruct fun h => ?_⟩
  dsimp only
  repeat' split
  all_goals simp

/-- MPOST lands at once or is refused on bench 4, and is held on a cue bench (R663). -/
theorem execMpost_confined {rd ra rb : Fin 16} {mb : BitVec 8} :
    ∃ t, execMpost b rd ra rb mb s = .next t ∧ s.Confined b t := by
  refine ⟨_, rfl, State.confined_instruct fun h => ?_⟩
  dsimp only
  split
  · trivial
  · split
    · trivial
    · split
      · split
        · exact s.reaches_post _ _ _ _
        · split
          · exact State.Reaches.refl s
          · exact s.reaches_heldPosts _
      · split
        · exact State.Reaches.refl s
        · trivial
      all_goals trivial

theorem execRing_confined {eyelet : BitVec 8} : ∃ t, execRing b eyelet s = .next t ∧ s.Confined b t := by
  refine ⟨_, rfl, State.confined_instruct fun h => ?_⟩
  dsimp only
  repeat' split
  all_goals simp

theorem execRet_confined : ∃ t, execRet b s = .next t ∧ s.Confined b t := by
  refine ⟨_, rfl, State.confined_instruct fun h => ?_⟩
  split
  · trivial
  · exact State.Reaches.refl s

theorem execEndHandler_confined : ∃ t, execEndHandler b s = .next t ∧ s.Confined b t := by
  refine ⟨_, rfl, State.confined_instruct fun h => ?_⟩
  repeat' split
  all_goals simp

theorem execEvf_confined {rd : Fin 16} {field : BitVec 8} :
    ∃ t, execEvf b rd field s = .next t ∧ s.Confined b t := by
  refine ⟨_, rfl, State.confined_instruct fun h => ?_⟩
  split
  · trivial
  · exact State.Reaches.refl s

theorem execTcan_confined {ra : Fin 16} : ∃ t, execTcan b ra s = .next t ∧ s.Confined b t := by
  refine ⟨_, rfl, State.confined_instruct fun h => ?_⟩
  dsimp only
  repeat' split
  all_goals simp [cancelTack_reaches]

theorem execTcank_confined {ra : Fin 16} : ∃ t, execTcank b ra s = .next t ∧ s.Confined b t := by
  refine ⟨_, rfl, State.confined_instruct fun h => ?_⟩
  split
  · trivial
  · exact cancelTack_reaches s _ h _ _

theorem execWake_confined {ra rb : Fin 16} {slot : BitVec 8} :
    ∃ t, execWake b ra rb slot s = .next t ∧ s.Confined b t := by
  refine ⟨_, rfl, State.confined_instruct fun h => ?_⟩
  dsimp only
  split
  · trivial
  · exact s.reaches_setBench _ _

theorem execWcan_confined {slot : BitVec 8} : ∃ t, execWcan b slot s = .next t ∧ s.Confined b t := by
  refine ⟨_, rfl, State.confined_instruct fun h => ?_⟩
  dsimp only
  split
  · trivial
  · exact s.reaches_setBench _ _

theorem execCrcd_confined {rd ra : Fin 16} : ∃ t, execCrcd b rd ra s = .next t ∧ s.Confined b t := by
  refine ⟨_, rfl, State.confined_instruct fun h => ?_⟩
  dsimp only
  repeat' split
  all_goals simp

end Instruct

/-- A bench instruction is confined to its bench. -/
theorem exec_confined {c : Instr} {b : Fin 5} (hb : benchOf c = some b) (s : State) :
    ∃ t, exec c s = .next t ∧ s.Confined b t := by
  cases c
  case add => cases hb; exact ⟨_, rfl, State.confined_compute⟩
  case sub => cases hb; exact ⟨_, rfl, State.confined_compute⟩
  case adds => cases hb; exact ⟨_, rfl, State.confined_compute⟩
  case subs => cases hb; exact ⟨_, rfl, State.confined_compute⟩
  case addus => cases hb; exact ⟨_, rfl, State.confined_compute⟩
  case subus => cases hb; exact ⟨_, rfl, State.confined_compute⟩
  case and => cases hb; exact ⟨_, rfl, State.confined_compute⟩
  case or => cases hb; exact ⟨_, rfl, State.confined_compute⟩
  case xor => cases hb; exact ⟨_, rfl, State.confined_compute⟩
  case shl => cases hb; exact ⟨_, rfl, State.confined_compute⟩
  case shr => cases hb; exact ⟨_, rfl, State.confined_compute⟩
  case sar => cases hb; exact ⟨_, rfl, State.confined_compute⟩
  case rol => cases hb; exact ⟨_, rfl, State.confined_compute⟩
  case slt => cases hb; exact ⟨_, rfl, State.confined_compute⟩
  case sltu => cases hb; exact ⟨_, rfl, State.confined_compute⟩
  case seq => cases hb; exact ⟨_, rfl, State.confined_compute⟩
  case sne => cases hb; exact ⟨_, rfl, State.confined_compute⟩
  case min => cases hb; exact ⟨_, rfl, State.confined_compute⟩
  case max => cases hb; exact ⟨_, rfl, State.confined_compute⟩
  case minu => cases hb; exact ⟨_, rfl, State.confined_compute⟩
  case maxu => cases hb; exact ⟨_, rfl, State.confined_compute⟩
  case clz => cases hb; exact ⟨_, rfl, State.confined_compute⟩
  case popc => cases hb; exact ⟨_, rfl, State.confined_compute⟩
  case mul => cases hb; exact ⟨_, rfl, State.confined_compute⟩
  case mulh => cases hb; exact ⟨_, rfl, State.confined_compute⟩
  case mulhu => cases hb; exact ⟨_, rfl, State.confined_compute⟩
  case div => cases hb; exact ⟨_, rfl, State.confined_compute⟩
  case divu => cases hb; exact ⟨_, rfl, State.confined_compute⟩
  case rem => cases hb; exact ⟨_, rfl, State.confined_compute⟩
  case remu => cases hb; exact ⟨_, rfl, State.confined_compute⟩
  case addi => cases hb; exact ⟨_, rfl, State.confined_compute⟩
  case addis => cases hb; exact ⟨_, rfl, State.confined_compute⟩
  case andi => cases hb; exact ⟨_, rfl, State.confined_compute⟩
  case ori => cases hb; exact ⟨_, rfl, State.confined_compute⟩
  case xori => cases hb; exact ⟨_, rfl, State.confined_compute⟩
  case shli => cases hb; exact ⟨_, rfl, State.confined_compute⟩
  case shri => cases hb; exact ⟨_, rfl, State.confined_compute⟩
  case sari => cases hb; exact ⟨_, rfl, State.confined_compute⟩
  case slti => cases hb; exact ⟨_, rfl, State.confined_compute⟩
  case sltiu => cases hb; exact ⟨_, rfl, State.confined_compute⟩
  case lui => cases hb; exact ⟨_, rfl, State.confined_compute⟩
  case srem => cases hb; exact ⟨_, rfl, State.confined_compute⟩
  case crcb => cases hb; exact ⟨_, rfl, State.confined_compute⟩
  case crcw => cases hb; exact ⟨_, rfl, State.confined_compute⟩
  case beq => cases hb; exact ⟨_, rfl, State.confined_branch⟩
  case bne => cases hb; exact ⟨_, rfl, State.confined_branch⟩
  case blt => cases hb; exact ⟨_, rfl, State.confined_branch⟩
  case bge => cases hb; exact ⟨_, rfl, State.confined_branch⟩
  case bltu => cases hb; exact ⟨_, rfl, State.confined_branch⟩
  case bgeu => cases hb; exact ⟨_, rfl, State.confined_branch⟩
  case jmp => cases hb; exact ⟨_, rfl, State.confined_instruct fun _ => .refl s⟩
  case jr => cases hb; exact ⟨_, rfl, State.confined_instruct fun _ => .refl s⟩
  case nop => cases hb; exact ⟨_, rfl, State.confined_instruct fun _ => .refl s⟩
  case call => cases hb; exact ⟨_, rfl, State.confined_instruct fun h => call_reaches h _ s⟩
  case callr => cases hb; exact ⟨_, rfl, State.confined_instruct fun h => call_reaches h _ s⟩
  case trap => cases hb; exact ⟨_, rfl, State.confined_instruct fun _ => trivial⟩
  case undefinedInstruction => cases hb; exact ⟨_, rfl, State.confined_instruct fun _ => trivial⟩
  case ldw => cases hb; exact ⟨_, rfl, State.confined_loadData⟩
  case ldh => cases hb; exact ⟨_, rfl, State.confined_loadData⟩
  case ldhu => cases hb; exact ⟨_, rfl, State.confined_loadData⟩
  case ldb => cases hb; exact ⟨_, rfl, State.confined_loadData⟩
  case ldbu => cases hb; exact ⟨_, rfl, State.confined_loadData⟩
  case stw => cases hb; exact ⟨_, rfl, State.confined_storeData⟩
  case sth => cases hb; exact ⟨_, rfl, State.confined_storeData⟩
  case stb => cases hb; exact ⟨_, rfl, State.confined_storeData⟩
  case evb => cases hb; exact ⟨_, rfl, State.confined_readWindow⟩
  case evh => cases hb; exact ⟨_, rfl, State.confined_readWindow⟩
  case evw => cases hb; exact ⟨_, rfl, State.confined_readWindow⟩
  case llw => cases hb; exact execLlw_confined
  case lsw => cases hb; exact execLsw_confined
  case ldc => cases hb; exact execLdc_confined
  case evcpy => cases hb; exact execEvcpy_confined
  case tpost => cases hb; exact execTpost_confined
  case msend => cases hb; exact execMsend_confined
  case mpost => cases hb; exact execMpost_confined
  case ring => cases hb; exact execRing_confined
  case ret => cases hb; exact execRet_confined
  case endHandler => cases hb; exact execEndHandler_confined
  case evf => cases hb; exact execEvf_confined
  case tcan => cases hb; exact execTcan_confined
  case tcank => cases hb; exact execTcank_confined
  case wake => cases hb; exact execWake_confined
  case wcan => cases hb; exact execWcan_confined
  case crcd => cases hb; exact execCrcd_confined
  all_goals cases hb

/-- Settles O60: what an instruction leaves is within reach of its bench, its position ended or not. -/
theorem benchInstructionsAreConfined : Obligations.BenchInstructionsAreConfined := by
  unfold Obligations.BenchInstructionsAreConfined
  intro c b s t hb ht
  obtain ⟨u, hu, ⟨hframe, himage, hckpt, hkeys, hsession, hothers⟩, hledger⟩ := exec_confined hb s
  obtain rfl : u = t := Host.Outcome.next.inj (hu.symm.trans ht)
  obtain ⟨_, _, _, _, _, _, _, rfl⟩ := hframe
  exact ⟨rfl, rfl, rfl, rfl, rfl, rfl, rfl, rfl, rfl, rfl, rfl, rfl, rfl, rfl, rfl, rfl, rfl, himage, hledger, hckpt,
    hkeys, hsession, hothers⟩

end Sys2Proof.Machine
end

section
/-! PROOFS. What raising events, faults, alerts, packets and welt frames leaves alone. -/

namespace Sys2Proof.Machine

open Sys2Proof

namespace State

variable {s t u : State}

/-- Nothing differs but what telling of something changes: queues of the benches, the tack store, the bus, the ports,
the welt link and the fault log. -/
structure Tells (s t : State) : Prop where
  keeps : s.keeps t
  frame : ∃ p k o q w f, t = { s with prog := p, tack := k, bus := o, port := q, welt := w, flt := f }

theorem Tells.refl (s : State) : s.Tells s := ⟨s.keeps_refl, _, _, _, _, _, _, rfl⟩

theorem Tells.trans (h : s.Tells t) (k : t.Tells u) : s.Tells u := by
  obtain ⟨hkeeps, _, _, _, _, _, _, rfl⟩ := h
  obtain ⟨kkeeps, _, _, _, _, _, _, rfl⟩ := k
  exact ⟨hkeeps.trans kkeeps, _, _, _, _, _, _, rfl⟩

section Leaves

variable (h : s.Tells t)

include h

theorem Tells.last : t.last = s.last := by obtain ⟨_, _, _, _, _, _, _, rfl⟩ := h; rfl

theorem Tells.dab : t.dab = s.dab := by obtain ⟨_, _, _, _, _, _, _, rfl⟩ := h; rfl

theorem Tells.hearth : t.hearth = s.hearth := by obtain ⟨_, _, _, _, _, _, _, rfl⟩ := h; rfl

theorem Tells.infra : t.infra = s.infra := by obtain ⟨_, _, _, _, _, _, _, rfl⟩ := h; rfl

theorem Tells.radio : t.radio = s.radio := by obtain ⟨_, _, _, _, _, _, _, rfl⟩ := h; rfl

theorem Tells.lanes : t.lanes = s.lanes := by obtain ⟨_, _, _, _, _, _, _, rfl⟩ := h; rfl

theorem Tells.clk : t.clk = s.clk := by obtain ⟨_, _, _, _, _, _, _, rfl⟩ := h; rfl

theorem Tells.regs : t.regs = s.regs := by obtain ⟨_, _, _, _, _, _, _, rfl⟩ := h; rfl

end Leaves

/-- A change that the program plane, the seal, the store, the supplies and the waiting commands do not see, and what
tells of it. -/
theorem Tells.keeps_after (h : t.Tells u) (h1 : t.theSeal = s.theSeal) (h2 : t.store = s.store)
    (h3 : t.supply = s.supply) (h4 : t.pending = s.pending) (h5 : t.prog = s.prog) : s.keeps u :=
  (keeps_of_prog h1 h2 h3 h4 h5).trans h.keeps

theorem deliver_tells (s : State) (b : Nat) (e : Event) : s.Tells (s.deliver b e) := by
  obtain ⟨_, h⟩ := s.deliver_frame b e
  exact ⟨s.deliver_keeps b e, _, _, _, _, _, _, h⟩

theorem reply_tells (s : State) (code id status : Nat) (win : List Byte) : s.Tells (s.reply code id status win) :=
  s.deliver_tells _ _

theorem radioFor_tells (s : State) (code id : Nat) (win : List Byte) : s.Tells (s.radioFor code id win) :=
  s.deliver_tells _ _

theorem raise_tells (s : State) (code unit cls : Nat) : s.Tells (s.raise code unit cls) := by
  obtain ⟨_, _, _, _, _, h⟩ := s.raise_frame code unit cls
  exact ⟨s.raise_keeps code unit cls, _, _, _, _, _, _, h⟩

theorem note_tells (s : State) (code : Nat) : s.Tells (s.note code) := s.raise_tells code _ _

theorem packet_tells (s : State) (ty sub : Nat) (p : Pos) (xs : List Byte) : s.Tells (s.packet ty sub p xs) := by
  obtain ⟨_, _, _, _, _, h⟩ := s.packet_frame ty sub p xs
  exact ⟨s.packet_keeps ty sub p xs, _, _, _, _, _, _, h⟩

theorem mirror_tells (s : State) (p : WPayload) : s.Tells (s.mirror p) := by
  obtain ⟨_, h⟩ := s.mirror_frame p
  exact ⟨s.mirror_keeps p, _, _, _, _, _, _, h⟩

theorem alert_tells (s : State) (i : Nat) : s.Tells (s.alert i) := by
  obtain ⟨_, h⟩ := s.alert_frame i
  exact ⟨keeps_of_prog (by simp) (by simp) (by simp) (by simp) (by simp), _, _, _, _, _, _, h⟩

/-- What a fold tells, when each of its steps only tells. -/
theorem foldl_tells {α : Type} {f : State → α → State} (hf : ∀ (s : State) a, s.Tells (f s a)) (l : List α)
    (s : State) :
    s.Tells (l.foldl f s) :=
  foldl_leaves f l .refl .trans hf s

theorem deliverAll_tells (s : State) (e : Event) : s.Tells (s.deliverAll e) :=
  foldl_tells (fun s b => s.deliver_tells b e) _ s

theorem raiseLast_tells (s : State) (e : Event) : s.Tells (s.raiseLast e) := by
  simp only [raiseLast]
  split
  · exact s.deliver_tells 4 e
  · exact (s.deliverAll_tells e).trans (mirror_tells _ _)

end State

end Sys2Proof.Machine
end

section
/-! PROOFS. The rows of DAB reception (chapter 12). -/

namespace Sys2Proof.Machine

open Sys2Proof

/-- What the search, the sync and the count of misses of a decoder go by is the same. -/
structure Decoder.SameRun (x y : Decoder) : Prop where
  mode : y.mode = x.mode
  lastNull : y.lastNull = x.lastNull
  missed : y.missed = x.missed
  epoch : y.epoch = x.epoch

namespace State

variable {s t u : State}

/-! ### What a decoder's events and its lane's release leave of the decoders -/

/-- Nothing differs of the decoders, nor the PP, nor what `keeps` names. -/
structure SameDab (s t : State) : Prop where
  keeps : s.keeps t
  dab : t.dab = s.dab
  pp : t.last.pp = s.last.pp

theorem SameDab.refl (s : State) : s.SameDab s := ⟨s.keeps_refl, rfl, rfl⟩

theorem SameDab.trans (h : s.SameDab t) (k : t.SameDab u) : s.SameDab u :=
  ⟨h.keeps.trans k.keeps, k.dab.trans h.dab, k.pp.trans h.pp⟩

/-- `trans`, told from the later step. -/
theorem SameDab.after (k : t.SameDab u) (h : s.SameDab t) : s.SameDab u := h.trans k

theorem Tells.sameDab (h : s.Tells t) : s.SameDab t := ⟨h.keeps, h.dab, by rw [h.last]⟩

/-- A change elsewhere than in the decoders, the PP, and what `keeps` names. -/
theorem SameDab.of_prog (h1 : t.theSeal = s.theSeal) (h2 : t.store = s.store) (h3 : t.supply = s.supply)
    (h4 : t.pending = s.pending) (h5 : t.prog = s.prog) (hdab : t.dab = s.dab) (hpp : t.last.pp = s.last.pp) :
    s.SameDab t :=
  ⟨keeps_of_prog h1 h2 h3 h4 h5, hdab, hpp⟩

theorem foldl_sameDab {α : Type} {f : State → α → State} (hf : ∀ (s : State) a, s.SameDab (f s a)) (l : List α)
    (s : State) :
    s.SameDab (l.foldl f s) :=
  foldl_leaves f l .refl .trans hf s

/-- What is told of a decoder that has changed leaves it as it became. -/
theorem SameDab.decoder (h : s.SameDab t) (d : Nat) : t.decoder d = s.decoder d :=
  congrArg (fun v => vget Decoder.init v d) h.dab

@[simp] theorem decoder_setDab_self (s : State) (d : Fin 2) (x : Decoder) : (s.setDab d x).decoder d = x :=
  vget_vset_self d.isLt

theorem setDab_keeps (s : State) (d : Nat) (x : Decoder) : s.keeps (s.setDab d x) :=
  keeps_of_prog rfl rfl rfl rfl rfl

theorem setDab_decoder (s : State) (d : Nat) : s.setDab d (s.decoder d) = s := by
  by_cases h : d < 2 <;> simp [setDab, decoder, vset, vget, h]

theorem lastEvt_sameDab (s : State) (bits : Nat) : s.SameDab (s.lastEvt bits) := by
  simp only [lastEvt]
  exact (alert_tells _ 6).sameDab.after (.of_prog rfl rfl rfl rfl rfl rfl rfl)

theorem lastLoss_tells (s : State) (change : Nat) (a b : Source) : s.Tells (s.lastLoss change a b) :=
  s.raiseLast_tells _

theorem moveTo_sameDab (s : State) (x : Source) : s.SameDab (s.moveTo x) := by
  simp only [moveTo]
  split
  · exact .refl s
  · split
    · refine (lastLoss_tells _ _ _ _).sameDab.after ((note_tells _ _).sameDab.after ((lastEvt_sameDab _ _).after ?_))
      exact .of_prog rfl rfl rfl rfl rfl rfl rfl
    · split
      · refine (lastLoss_tells _ _ _ _).sameDab.after ?_
        exact .of_prog rfl rfl rfl rfl rfl rfl rfl
      · exact .of_prog rfl rfl rfl rfl rfl rfl rfl

theorem watchSource_sameDab (s : State) : s.SameDab s.watchSource := by
  simp only [watchSource]
  split
  · exact .refl s
  · exact s.moveTo_sameDab _

theorem stopSlewing_sameDab (s : State) (n : Nat) : s.SameDab (s.stopSlewing n) :=
  .of_prog rfl rfl rfl rfl rfl rfl rfl

theorem dropSplice_sameDab (s : State) (sp : Splice) : s.SameDab (s.dropSplice sp) := by
  simp only [dropSplice]
  split <;> exact .of_prog rfl rfl rfl rfl rfl rfl rfl

theorem abandonedSplice_sameDab (s : State) : s.SameDab s.abandonedSplice := by
  simp only [abandonedSplice]
  exact (note_tells _ _).sameDab.after (.of_prog rfl rfl rfl rfl rfl rfl rfl)

theorem abandonSplice_sameDab (s : State) (sp : Splice) (status reason : Nat) :
    s.SameDab (s.abandonSplice sp status reason) :=
  ((s.dropSplice_sameDab sp).trans (abandonedSplice_sameDab _)).trans (reply_tells _ _ _ _ _).sameDab

theorem finishSplice_sameDab (s : State) (sp : Splice) : s.SameDab (s.finishSplice sp) := by
  simp only [finishSplice, spliceReply]
  refine (reply_tells _ _ _ _ _).sameDab.after ((radioFor_tells _ _ _ _).sameDab.after ?_)
  exact .of_prog rfl rfl rfl rfl rfl rfl rfl

theorem endFades_sameDab (s : State) (carrier : Nat) : s.SameDab (s.endFades carrier) :=
  foldl_sameDab finishSplice_sameDab _ s

theorem carrierGone_sameDab (s : State) (carrier : Nat) : s.SameDab (s.carrierGone carrier) := by
  simp only [carrierGone]
  refine (endFades_sameDab _ _).after ((foldl_sameDab (fun s sp => s.abandonSplice_sameDab sp _ _) _ _).after
    ((foldl_tells (fun s q => s.reply_tells _ _ _ _) _ _).sameDab.after ?_))
  exact .of_prog rfl rfl rfl rfl rfl rfl rfl

theorem dropCarrier_sameDab (s : State) (carrier : Nat) : s.SameDab (s.dropCarrier carrier) := by
  simp only [dropCarrier]
  generalize hlost : List.foldl _ s _ = u
  have hu : s.SameDab u :=
    hlost ▸ foldl_sameDab (fun s sp => (s.dropSplice_sameDab sp).trans (abandonedSplice_sameDab _)) _ s
  exact hu.trans (.of_prog rfl rfl rfl rfl rfl rfl rfl)

theorem abortAll_tells (s : State) (rs : List (Nat × Nat × List Byte)) : s.Tells (s.abortAll rs) :=
  foldl_tells (fun s _ => s.reply_tells _ _ _ _) _ s

theorem endCapture_sameDab (s : State) (n : Nat) : s.SameDab (s.endCapture n) := by
  simp only [endCapture]
  split
  · exact .of_prog rfl rfl rfl rfl rfl rfl rfl
  · exact .refl s

theorem dropPartials_sameDab (s : State) (n : Nat) : s.SameDab (s.dropPartials n) :=
  .of_prog rfl rfl rfl rfl rfl rfl rfl

theorem poLost_sameDab (s : State) (n : Nat) : s.SameDab (s.poLost n) :=
  .of_prog rfl rfl rfl rfl rfl rfl rfl

theorem freeLane_sameDab (s : State) (n : Nat) : s.SameDab (s.freeLane n) := by
  simp only [freeLane]
  refine (endCapture_sameDab _ n).after <| (dropPartials_sameDab _ n).after <| (poLost_sameDab _ n).after <|
    (carrierGone_sameDab _ n).after ?_
  exact .of_prog rfl rfl rfl rfl rfl rfl rfl

theorem freeWide_sameDab (s : State) (n : Nat) :
    s.SameDab (if (s.lane n).use = LaneUse.free then s else s.freeLane n) := by
  split
  · exact .refl s
  · exact s.freeLane_sameDab n

theorem dabReply_tells (s : State) (code d id status reason : Nat) (rest : List Byte) :
    s.Tells (s.dabReply code d id status reason rest) :=
  s.reply_tells _ _ _ _

theorem dabRaise_tells (s : State) (code d id : Nat) (rest : List Byte) : s.Tells (s.dabRaise code d id rest) :=
  s.radioFor_tells _ _ _

theorem dabSync_tells (s : State) (d : Nat) : s.Tells (s.dabSync d) := s.dabRaise_tells _ _ _ _

/-! ### The changes of a decoder -/

/-- What `keeps` names and the PP stand, and the decoder is `x`. -/
structure BecomesDab (s t : State) (d : Fin 2) (x : Decoder) : Prop where
  keeps : s.keeps t
  pp : t.last.pp = s.last.pp
  decoder : t.decoder d = x

variable {d : Fin 2} {x y : Decoder}

theorem BecomesDab.set (s : State) (d : Fin 2) (x : Decoder) : s.BecomesDab (s.setDab d x) d x :=
  ⟨s.setDab_keeps d x, rfl, decoder_setDab_self s d x⟩

theorem BecomesDab.tell (h : s.BecomesDab t d x) (k : t.SameDab u) : s.BecomesDab u d x :=
  ⟨h.keeps.trans k.keeps, k.pp.trans h.pp, (k.decoder d).trans h.decoder⟩

theorem BecomesDab.trans (h : s.BecomesDab t d x) (k : t.BecomesDab u d y) : s.BecomesDab u d y :=
  ⟨h.keeps.trans k.keeps, k.pp.trans h.pp, k.decoder⟩

theorem SameDab.becomes (h : s.SameDab t) (k : t.BecomesDab u d x) : s.BecomesDab u d x :=
  ⟨h.keeps.trans k.keeps, k.pp.trans h.pp, k.decoder⟩

theorem setDabMode_becomes (s : State) (d : Fin 2) (m : DabMode) :
    s.BecomesDab (s.setDabMode d m) d { s.decoder d with mode := m } := by
  simp only [setDabMode]
  split
  · exact (BecomesDab.set s d _).tell (raise_tells _ _ _ _).sameDab
  · exact .set s d _

/-- Nothing governs that leaves SYNC where the decoder is not in SYNC. -/
theorem setDabMode_of_search (h : (s.decoder d).mode = .search) (m : DabMode) :
    s.setDabMode d m = s.setDab d { s.decoder d with mode := m } := by
  simp [setDabMode, h]

theorem dropGroups_becomes (s : State) (d : Fin 2) :
    s.BecomesDab (s.dropGroups d) d { s.decoder d with sels := (s.decoder d).sels.map fun (q : Selection) => { q with
      groups := q.groups.map fun (g : DGroup) => { g with bytes := none } } } := by
  simp only [dropGroups]
  refine SameDab.becomes (t := { s with intake.abandoned := _ }) ?_ (.set _ d _)
  exact .of_prog rfl rfl rfl rfl rfl rfl rfl

@[simp] theorem dabClear_sels (x : Decoder) (l : List Selection) : dabClear { x with sels := l } = dabClear x := rfl

theorem stopDecoder_becomes (s : State) (d : Fin 2) : 
    s.BecomesDab (s.stopDecoder d) d { dabClear (s.decoder d) with mode := .idle } := by
  have hdrop := s.dropGroups_becomes d
  have hclear := hdrop.trans (.set _ d (dabClear (s.decoder d)))
  simp only [stopDecoder]
  rw [hdrop.decoder, dabClear_sels]
  generalize (s.dropGroups d).setDab d (dabClear (s.decoder d)) = u at hclear
  generalize hids : List.foldl _ u _ = v
  have hv : u.SameDab v := hids ▸ foldl_sameDab (fun s _ => (s.dabReply_tells _ _ _ _ _ _).sameDab) _ u
  have hfree := hclear.tell (hv.trans (freeWide_sameDab v (100 + d)))
  have hidle := hfree.trans (setDabMode_becomes _ d .idle)
  rw [hfree.decoder] at hidle
  exact hidle.tell (carrierGone_sameDab _ _)

theorem dabAbort_becomes (s : State) (d : Fin 2) (reason : Nat) :
    s.BecomesDab (s.dabAbort d reason) d { s.decoder d with
      startReq := none, reqs := [], selDone := []
      sels := ((s.decoder d).sels.filter fun (q : Selection) => !q.fresh).map fun (q : Selection) => { q with
        owed := [], leaving := none } } := by
  simp only [dabAbort]
  refine BecomesDab.tell ?_ ((abortAll_tells _ _).sameDab.after (dropCarrier_sameDab _ _))
  exact (BecomesDab.set s d _).tell (.of_prog rfl rfl rfl rfl rfl rfl rfl)

/-- The other decoder replaced. -/
theorem BecomesDab.other (h : s.BecomesDab t d x) {o : Nat} (ho : o ≠ d) (z : Decoder) :
    s.BecomesDab (t.setDab o z) d x :=
  ⟨h.keeps.trans (t.setDab_keeps o z), h.pp, (vget_vset_ne ho.symm).trans h.decoder⟩

/-- A decoder that fails keeps nothing of its ensemble and takes its next epoch (R527). -/
theorem dabFail_becomes (hfailed : (s.decoder d).failed = false) : ∃ y, s.BecomesDab (s.dabFail d) d
    { dabClear y with mode := .idle } ∧ y.failed = true ∧ y.epoch = ((s.decoder d).epoch + 1) % 256 := by
  simp only [dabFail, hfailed, Bool.false_eq_true, if_false]
  generalize (_ && _ : Bool) = covers
  have hraise := (raise_tells s 0x5204 d (if covers then clsCovered else clsLost)).sameDab
  have hdrop := hraise.becomes (dropGroups_becomes _ d)
  rw [hraise.decoder] at hdrop
  have hepoch := congrArg Decoder.epoch hdrop.decoder
  generalize State.dropGroups _ _ = u at hdrop hepoch
  have hset := hdrop.trans (.set u d { u.decoder d with failed := true, epoch := ((u.decoder d).epoch + 1) % 256 })
  generalize State.setDab u _ _ = v at hset
  have habort := hset.trans (v.dabAbort_becomes d 2)
  generalize State.dabAbort v _ _ = w at habort
  generalize hz : State.dabRaise w _ _ _ _ = z
  have hz := habort.tell (hz ▸ (w.dabRaise_tells _ _ _ _).sameDab)
  have hclear := hz.trans (.set z d (dabClear (z.decoder d)))
  generalize State.setDab z _ _ = z' at hclear
  have hidle := (hclear.tell (z'.freeWide_sameDab (100 + d))).trans (setDabMode_becomes _ d .idle)
  rw [(hclear.tell (z'.freeWide_sameDab (100 + d))).decoder] at hidle
  refine ⟨z.decoder d, ?_, ?_, ?_⟩
  · split
    · exact hidle.other (by omega) _
    · exact hidle
  · rw [hz.decoder, hset.decoder]
  · rw [hz.decoder, hset.decoder]
    exact congrArg (fun n => (n + 1) % 256) hepoch

/-! ### Frames and their misses (R498, R502) -/

section Rows

variable {s : State} {d : Fin 2}

theorem dabReady_becomes (s : State) (d : Fin 2) : ∃ y, s.BecomesDab (s.dabReady d) d y ∧
    (s.dabReady d).last = s.last ∧ (s.decoder d).SameRun y := by
  simp only [dabReady]
  split
  · split
    · exact ⟨_, (BecomesDab.set s d _).tell (dabReply_tells _ _ _ _ _ _ _).sameDab,
        (dabReply_tells _ _ _ _ _ _ _).last, rfl, rfl, rfl, rfl⟩
    · exact ⟨_, .set s d _, rfl, rfl, rfl, rfl, rfl⟩
  · exact ⟨_, ⟨s.keeps_refl, rfl, rfl⟩, rfl, rfl, rfl, rfl, rfl⟩

theorem ficPacket_tells (s : State) (d a : Nat) (fibs : List Fib) : s.Tells (s.ficPacket d a fibs) := by
  simp only [ficPacket]
  split
  · exact packet_tells _ _ _ _ _
  · exact .refl s

/-- A frame kept in the history of R522, once FIG 0/0 has been read. -/
def keptFrame (s : State) (d : Fin 2) (a : Anchor) : State :=
  let x := s.decoder d
  if x.haveFig00 then s.setDab d { x with history := (⟨a, x.cif⟩ :: x.history).take 64 } else s

theorem keptFrame_becomes (s : State) (d : Fin 2) (a : Anchor) : ∃ y, s.BecomesDab (s.keptFrame d a) d y ∧
    (s.keptFrame d a).last = s.last ∧ (s.decoder d).SameRun y := by
  simp only [keptFrame]
  split
  · exact ⟨_, .set s d _, rfl, rfl, rfl, rfl, rfl⟩
  · exact ⟨_, ⟨s.keeps_refl, rfl, rfl⟩, rfl, rfl, rfl, rfl, rfl⟩

/-- A frame without FIBs: the null remembered, the frame kept, its FIC packet, and READY. -/
theorem dabFound_nil (s : State) (d : Fin 2) (a : Anchor) (t foff : Int) : s.dabFound d a t foff [] =
    (((s.setDab d { s.decoder d with
      lastNull := some t, missed := 0, foff := foff
      cif := if (s.decoder d).haveFig00 then ((s.decoder d).cif + 4) % 5000 else 0 }).keptFrame d a).ficPacket d a.a
        []).dabReady d := rfl

theorem dabFound_nil_becomes (s : State) (d : Fin 2) (a : Anchor) (t foff : Int) : ∃ y, s.BecomesDab
    (s.dabFound d a t foff []) d y ∧ (s.dabFound d a t foff []).last = s.last ∧
    Decoder.SameRun { s.decoder d with lastNull := some t, missed := 0 } y := by
  rw [dabFound_nil]
  have hset := BecomesDab.set s d { s.decoder d with
    lastNull := some t, missed := 0, foff := foff
    cif := if (s.decoder d).haveFig00 then ((s.decoder d).cif + 4) % 5000 else 0 }
  generalize hv : s.setDab d _ = v at hset
  have hlast : v.last = s.last := by rw [← hv]; rfl
  obtain ⟨y, hy, hylast, hrun⟩ := v.keptFrame_becomes d a
  have hfic := hy.tell ((v.keptFrame d a).ficPacket_tells d a.a []).sameDab
  obtain ⟨z, hz, hzlast, hzrun⟩ := ((v.keptFrame d a).ficPacket d a.a []).dabReady_becomes d
  rw [hset.decoder] at hrun
  rw [hfic.decoder] at hzrun
  refine ⟨z, hset.trans (hfic.trans hz), ?_, ?_⟩
  · rw [hzlast, (ficPacket_tells _ _ _ _).last, hylast, hlast]
  · exact ⟨hzrun.mode.trans hrun.mode, hzrun.lastNull.trans hrun.lastNull, hzrun.missed.trans hrun.missed,
      hzrun.epoch.trans hrun.epoch⟩

end Rows

end State

section Rows

variable {s : State} {d : Fin 2}

theorem exec_dabFrame_of_search {anchor ago : Nat} {foff : Int} {fibs : List Fib} (hrec : s.reception = true)
    (hmode : (s.decoder d).mode = .search) (hoff : foff.natAbs ≤ 25000) (hnull : (s.decoder d).lastNull = none) :
    exec (.dabFrame d anchor ago foff fibs) s = .next (s.setDab d { s.decoder d with
      lastNull := some ((anchor - rxDelay (s.groupDelay (s.lane (100 + d.val))) 2880 : Nat) -
        (s.last.latched ago).1), foff := foff }) := by
  show execDabFrame d anchor ago foff fibs s = _
  unfold execDabFrame
  dsimp only
  rw [if_pos hrec, hmode]
  dsimp only
  rw [if_neg (Nat.not_lt.mpr hoff), hnull]
  rfl

theorem exec_dabFrame_of_near {anchor ago : Nat} {foff u : Int} {fibs : List Fib} (hrec : s.reception = true)
    (hmode : (s.decoder d).mode = .search) (hoff : foff.natAbs ≤ 25000) (hnull : (s.decoder d).lastNull = some u)
    (ht : ((anchor - rxDelay (s.groupDelay (s.lane (100 + d.val))) 2880 : Nat) : Int) - (s.last.latched ago).1 =
      u + 456 * 65536) :
    exec (.dabFrame d anchor ago foff fibs) s = .next (((s.setDabMode d .sync).dabFound d
      ⟨anchor - rxDelay (s.groupDelay (s.lane (100 + d.val))) 2880, (s.last.latched ago).1, (s.last.latched ago).2⟩
      (u + 456 * 65536) foff fibs).dabSync d) := by
  show execDabFrame d anchor ago foff fibs s = _
  unfold execDabFrame
  dsimp only
  rw [if_pos hrec, hmode]
  dsimp only
  rw [if_neg (Nat.not_lt.mpr hoff), hnull, ht, if_pos]
  exact decide_eq_true (by simp [dabPeriod])

theorem fld_second_digit (s : State) (a : Nat) : s.fld a 7 4 = (s.reg a).toNat / 16 % 16 := by
  simp [State.fld, Word.bits, Nat.shiftRight_eq_div_pow]

theorem exec_dabFrameMissed_of_sync {n : Nat} (hmode : (s.decoder d).mode = .sync) (hmiss : (s.decoder d).missed = n)
    (hfly : n + 1 < Nat.max 2 ((s.reg (0xD00 + 0x20 * d.val)).toNat / 16 % 16)) :
    ∃ u x, s.BecomesDab u d x ∧ x.mode = .sync ∧ x.missed = n + 1 ∧
      x.lastNull = (s.decoder d).lastNull.map (fun u => u + 456 * 65536) ∧
      exec (.dabFrameMissed d) s =
        .next (if 2 ≤ n + 1 then (u.setDabMode d .holdover).dabSync d else u).watchSource := by
  refine ⟨_, _, .set s d { s.decoder d with
    missed := n + 1, lastNull := (s.decoder d).lastNull.map (· + dabPeriod), gap := true
    cif := if (s.decoder d).haveFig00 then ((s.decoder d).cif + 4) % 5000 else 0 }, hmode, rfl, rfl, ?_⟩
  show execDabFrameMissed d s = _
  unfold execDabFrameMissed
  have hf : ¬ Nat.max 2 (s.fld (0xD00 + 0x20 * d) 7 4) ≤ n + 1 := by
    rw [Nat.not_le]
    exact hfly.trans_eq (congrArg _ (fld_second_digit _ _).symm)
  dsimp only
  rw [hmiss, hmode, if_neg (by simp)]
  rw [if_neg hf]
  simp

theorem up_broadcast_iff : s.up .broadcast = true ↔ s.supply.dom[3] = .up := by
  change (some s.supply.dom[3] == some DomMode.up) = true ↔ _
  rw [beq_iff_eq, Option.some.injEq]

theorem exec_acqtimeExpiry_of_due {id : Nat} (hreq : (s.decoder d).startReq = some id)
    (hdue : (s.decoder d).startEdge + Nat.max 8 ((s.reg 0xD40).toNat % 256) * 456 ≤ s.last.edge) :
    exec (.acqtimeExpiry d) s = .next ((((s.setDab d { s.decoder d with startReq := none }).dabReply 11 d id stNone 5
      []).stopDecoder d).watchSource) := by
  show execAcqtimeExpiry d s = _
  unfold execAcqtimeExpiry
  dsimp only
  rw [hreq]
  dsimp only
  rw [if_pos]
  exact hdue

/-- Without selections a boundary only applies the reconfiguration announced for it. -/
theorem exec_cifBoundary_of_noSels {cif : Nat} (hrec : s.reception = true) (hmode : (s.decoder d).mode ≠ .idle)
    (hsels : (s.decoder d).sels = []) (hat : (s.decoder d).changeAt = some cif) :
    ∃ t, exec (.cifBoundary d cif) s = .next t ∧ s.keeps t ∧ t.last = s.last ∧ t.decoder d = { s.decoder d with
      mci := (s.decoder d).nextMci, nextMci := [], changeAt := none } := by
  refine ⟨_, rfl, ?_⟩
  rw [if_neg (by simp [hrec, hmode])]
  have hself : ({ s.decoder d with sels := [] } : Decoder) = s.decoder d :=
    congrArg (fun l => ({ s.decoder d with sels := l } : Decoder)) hsels.symm
  have hleave : s.cifLeave d = { s with intake.abandoned := satAdd 255 s.intake.abandoned 0 } := by
    simp only [State.cifLeave, hsels, List.filter_nil, hself, State.setDab_decoder]
    rfl
  rw [hleave]
  generalize hu : ({ s with intake.abandoned := satAdd 255 s.intake.abandoned 0 } : State) = u
  have hdec : u.decoder d = s.decoder d := by rw [← hu]; rfl
  have hset := State.BecomesDab.set u d { s.decoder d with
    mci := (s.decoder d).nextMci, nextMci := [], changeAt := none }
  have hrec : u.cifReconfigure d cif =
      u.setDab d { s.decoder d with mci := (s.decoder d).nextMci, nextMci := [], changeAt := none } := by
    simp only [State.cifReconfigure, hdec, hat, if_true, hsels, List.foldl_nil]
  rw [hrec]
  generalize hv : u.setDab d _ = v at hset
  have hvlast : v.last = s.last := by rw [← hv, ← hu]; rfl
  have htake := State.BecomesDab.set v d { s.decoder d with
    mci := (s.decoder d).nextMci, nextMci := [], changeAt := none }
  have hin : v.cifTakeIn d cif = v.setDab d { s.decoder d with
      mci := (s.decoder d).nextMci, nextMci := [], changeAt := none } := by
    simp [State.cifTakeIn, hset.decoder, hsels]
  rw [hin]
  exact ⟨(State.keeps_of_prog (by rw [← hu]) (by rw [← hu]) (by rw [← hu]) (by rw [← hu]) (by rw [← hu])).trans
    (hset.trans htake).keeps, hvlast, htake.decoder⟩

/-- RAW delivery of a selection that runs alone: a packet, the decoder as it was (R513). -/
theorem dabDeliver_of_raw {cif a f : Nat} {c : CifSub} {q : Selection} (hsels : (s.decoder d).sels = [q])
    (hid : q.id = c.id) (hfrom : q.fromCif = some f) (hrun : (cif + 5000 - f) % 5000 < 2500) (hraw : q.raw = true)
    (hsup : q.super = false) (hpack : q.packet = false) : s.dabDeliver d cif a c =
      s.packet 1 (d.val * 128 + q.id) ⟨s.last.epoch, a / 65536⟩ (bytesBE 2 cif ++ c.data) := by
  have hpacket := (s.packet_tells 1 (d.val * 128 + q.id) ⟨s.last.epoch, a / 65536⟩
    (bytesBE 2 cif ++ c.data)).sameDab.decoder d
  simp only [State.dabDeliver, hsels, List.find?_cons, hid, beq_self_eq_true]
  simp only [hfrom, Option.any_some, hrun, decide_true, Bool.not_true, Bool.false_eq_true, if_false, hraw, if_true,
    hsup, hpack]
  rw [hid] at hpacket
  rw [hpacket]
  simp only [hsels, List.map_cons, List.map_nil, hid, if_true]
  have hself : ({ s.decoder d with sels := [q] } : Decoder) = s.decoder d :=
    congrArg (fun l => ({ s.decoder d with sels := l } : Decoder)) hsels.symm
  exact (congrArg _ (hself.trans hpacket.symm)).trans (State.setDab_decoder _ d)

/-- A packet that finds room, no run of drops before it, stands at the end of the queue (R689). -/
theorem packet_of_room {ty sub : Nat} {p : Pos} {xs : List Byte} (hen : (s.reg 0x3C0).bit 0 = true)
    (hdrop : s.port.drop = none) (hroom : s.bufUsed + (16 + xs.length) ≤ 262080) :
    s.packet ty sub p xs = s.appendPacket ty sub p xs := by
  simp [State.packet, State.tryPacket, hen, hdrop, hroom]

end Rows

/-- Settles O37: each row by the decoder that it leaves. -/
theorem dabRowsComplete : Obligations.DabRowsComplete := by
  unfold Obligations.DabRowsComplete
  intro s d anchor ago cif foff fibs c
  refine ⟨fun hrec hmode hoff hnull => exec_dabFrame_of_search hrec hmode hoff hnull,
    fun u hrec hmode hoff hnull ht => ?_, fun hmode hmiss => ?_,
    fun hmode hmiss hfly => ?_, fun id hreq hdue => ?_, fun hrec hmode hsels hat => ?_,
    fun q f hrec hmode hsels hid hfrom hrun hraw hsup hpack hen hdrop hroom => ?_, fun hup hfailed => ?_⟩
  · refine ⟨_, exec_dabFrame_of_near hrec hmode hoff hnull ht, ?_⟩
    rw [State.setDabMode_of_search hmode]
    generalize Anchor.mk _ _ _ = a
    have hset := State.BecomesDab.set s d { s.decoder d with mode := .sync }
    generalize hv : s.setDab d _ = v at hset
    have hvlast : v.last = s.last := by rw [← hv]; rfl
    obtain ⟨y, hy, hlast, hrun⟩ := State.dabFound_nil_becomes v d a (u + 456 * 65536) foff
    rw [hset.decoder] at hrun
    have hsync := State.dabSync_tells (v.dabFound d a (u + 456 * 65536) foff []) d
    have hall := (hset.trans hy).tell hsync.sameDab
    refine ⟨hall.keeps, hsync.last.trans (hlast.trans hvlast), ?_⟩
    rw [hall.decoder]
    exact ⟨hrun.mode, hrun.lastNull.trans (congrArg some ht.symm), hrun.missed, hrun.epoch⟩
  · obtain ⟨u, x, hu, hx, hn, hl, hexec⟩ := exec_dabFrameMissed_of_sync hmode hmiss (Nat.le_max_left _ _)
    refine ⟨_, hexec, ?_⟩
    rw [if_neg (by decide)]
    have hall := hu.tell u.watchSource_sameDab
    rw [hall.decoder]
    exact ⟨hall.keeps, hall.pp, hx, hn, hl⟩
  · obtain ⟨u, x, hu, hx, hn, hl, hexec⟩ := exec_dabFrameMissed_of_sync hmode hmiss hfly
    refine ⟨_, hexec, ?_⟩
    rw [if_pos (by decide)]
    have hheld := hu.trans (State.setDabMode_becomes u d .holdover)
    have hall := hheld.tell ((State.dabSync_tells _ d).sameDab.trans (State.watchSource_sameDab _))
    rw [hall.decoder, hu.decoder]
    exact ⟨hall.keeps, hall.pp, rfl, hn⟩
  · refine ⟨_, exec_acqtimeExpiry_of_due hreq hdue, ?_⟩
    have hset := State.BecomesDab.set s d { s.decoder d with startReq := none }
    have hstop := (hset.tell (State.dabReply_tells _ 11 d id stNone 5 []).sameDab).trans (State.stopDecoder_becomes _ d)
    have hall := hstop.tell (State.watchSource_sameDab _)
    rw [hall.decoder]
    exact ⟨hall.keeps, hall.pp, rfl, rfl, rfl⟩
  · exact exec_cifBoundary_of_noSels hrec hmode hsels hat
  · have hexec : exec (.cifDecoded d cif anchor [c]) s = .next (s.dabDeliver d cif anchor c) := by
      show Host.Outcome.next (ite _ s (List.foldl _ s [c])) = _
      rw [if_neg (by simp [hrec, hmode])]
      rfl
    rw [dabDeliver_of_raw hsels hid hfrom hrun hraw hsup hpack] at hexec
    rw [packet_of_room hen hdrop (by simp only [List.length_append, length_bytesBE]; omega)] at hexec
    exact ⟨_, hexec, rfl, rfl, rfl, rfl⟩
  · have hexec : exec (.dabDecoderFailed d) s = .next (s.dabFail d).watchSource := by
      show Host.Outcome.next (ite _ (s.dabFail d).watchSource s) = _
      rw [if_pos (up_broadcast_iff.mpr hup)]
    refine ⟨_, hexec, ?_⟩
    obtain ⟨y, hy, hyfailed, hyepoch⟩ := State.dabFail_becomes hfailed
    have hall := hy.tell (State.watchSource_sameDab _)
    rw [hall.decoder]
    exact ⟨hall.keeps, hall.pp, hyfailed, rfl, hyepoch, rfl⟩

end Sys2Proof.Machine
end

section
/-! PROOFS. An uplink that HR receives in the middle of a transition (R270, R559). -/

namespace Sys2Proof.Machine

open Sys2Proof

/-- What HR receives while a transition or a bubble runs is no frame (R270, R303). -/
theorem exec_hearthFrameRx_of_deaf {s : State} (rx : HearthRx) (hdeaf : (s.chain 2).deaf = true) :
    exec (.hearthFrameRx rx) s = .next s := by
  show execHearthFrameRx rx s = _
  unfold execHearthFrameRx
  cases s.hearth.plan with
  | none => rfl
  | some p => exact congrArg _ (if_pos (by simp [hdeaf]))

/-! ### A frame made of its MAC and its CRC -/

section Frame

variable (mac : List Byte)

/-- A type 1 frame of troupe 0 with SEQ 0 and the payload 0, 0, under the MAC `mac` (Table 13-2). -/
def uplinkBody : List Byte := [1, 0, 0, 0, 2, 0, 0] ++ mac

/-- The frame with its CRC. -/
def uplinkFrame : List Byte := uplinkBody mac ++ bytesBE 2 (crc16 (uplinkBody mac)).toNat

variable {mac} (hmac : mac.length = 4)

include hmac

theorem uplinkFrame_length : (uplinkFrame mac).length = 13 := by
  simp [uplinkFrame, uplinkBody, hmac]

theorem uplinkFrame_take : (uplinkFrame mac).take 11 = uplinkBody mac :=
  List.take_left' (by simp [uplinkBody, hmac])

theorem uplinkFrame_drop : (uplinkFrame mac).drop 11 = bytesBE 2 (crc16 (uplinkBody mac)).toNat :=
  List.drop_left' (by simp [uplinkBody, hmac])

theorem uplinkFrame_mac : ((uplinkFrame mac).drop 7).take 4 = mac :=
  List.take_left' hmac

omit hmac in
theorem uplinkFrame_payload : ((uplinkFrame mac).drop 5).take 2 = [0, 0] := rfl

theorem uplinkFrame_crc : fieldBE (uplinkFrame mac) 11 2 = (crc16 ((uplinkFrame mac).take 11)).toNat := by
  have hbyte : ∀ k, byteAt (uplinkFrame mac) (11 + k) = byteAt (bytesBE 2 (crc16 (uplinkBody mac)).toNat) k := by
    intro k
    rw [← uplinkFrame_drop hmac]
    simp [byteAt, List.getD_eq_getElem?_getD]
  rw [uplinkFrame_take hmac]
  refine .trans ?_ (natBE_bytesBE_two (crc16 (uplinkBody mac)).isLt)
  exact congrArg₂ (fun a b => natBE [a, b]) (hbyte 0) (hbyte 1)

end Frame

/-! ### The state that hears it not -/

/-- A plan whose slots all hear uplinks of troupe 0. -/
def uplinkPlan : Plan :=
  ⟨1, 0, 1, 0, List.replicate 24 2, 1, 0, [], 0, 1, 1, 0, 0, 1, true⟩

def uplinkKey : List Byte := List.replicate 16 0

def uplinkMac : List Byte := hearthMac uplinkKey 0 0 1 0 [0, 0]

theorem uplinkMac_length : uplinkMac.length = 4 := length_hearthMac 0 0 1 0 [0, 0] (by simp [uplinkKey])

/-- HR in RX with a transition under way. -/
def movingHr : Chain := { Chain.init with mode := .rx, trans := some ⟨.rx, 0, none, false, false, 0⟩ }

/-- A running link whose slot hears an uplink while HR moves. -/
def movingHub : State := { State.reset with
  hearth.mode := .running, hearth.plan := some uplinkPlan
  mail.keys.link := [(0, uplinkKey)]
  radio.chain := #v[Chain.init, Chain.init, movingHr] }

def uplinkHeard : HearthRx := ⟨uplinkFrame uplinkMac, 0, 500, 0, 0, 0, 0, 0⟩

/-- Refutes O39: a good uplink that comes while a transition of HR runs is not received (R270), and the statement asks
of HR only that its mode is RX. -/
theorem not_hearthRowsComplete : ¬ Obligations.HearthRowsComplete := by
  unfold Obligations.HearthRowsComplete
  intro h
  obtain ⟨-, -, -, -, -, -, -, -, -, -, -, -, huplink, -⟩ :=
    h movingHub uplinkPlan ⟨none, false, 0, 0, [], none, false⟩ ⟨0, 0, 0, 0, [], 0, false, none, 0⟩ 0 0 uplinkHeard
  obtain ⟨t, hexec, -, -, hok, -⟩ := huplink uplinkKey 0 rfl rfl rfl rfl rfl (by decide) (by decide) (by decide)
    (by decide) (uplinkFrame_length uplinkMac_length) (uplinkFrame_crc uplinkMac_length) rfl (by decide) rfl
    (uplinkFrame_mac uplinkMac_length).symm rfl
  rw [exec_hearthFrameRx_of_deaf uplinkHeard rfl] at hexec
  cases hexec
  exact absurd hok (by decide)

end Sys2Proof.Machine
end

section
/-! PROOFS. The rows of infrared (chapter 14). -/

namespace Sys2Proof.Machine

open Sys2Proof

/-- A channel is in the same state, for the same cause, above the same floor and blind as long. -/
structure IrChan.SameState (x y : IrChan) : Prop where
  mode : y.mode = x.mode
  cause : y.cause = x.cause
  critEdge : y.critEdge = x.critEdge
  floor : y.floor = x.floor
  holdOff : y.holdOff = x.holdOff

theorem IrChan.SameState.refl (x : IrChan) : x.SameState x := ⟨rfl, rfl, rfl, rfl, rfl⟩

theorem IrChan.SameState.trans {x y z : IrChan} (h : x.SameState y) (k : y.SameState z) : x.SameState z :=
  ⟨k.mode.trans h.mode, k.cause.trans h.cause, k.critEdge.trans h.critEdge, k.floor.trans h.floor,
    k.holdOff.trans h.holdOff⟩

namespace State

variable {s t u : State} {c : Fin 2} {x y : IrChan}

/-! ### What a change of the channels leaves alone -/

/-- Of the infrared only the channels differ, and besides them what telling of something changes. -/
structure ChannelsOnly (s t : State) : Prop where
  keeps : s.keeps t
  last : t.last = s.last
  infra : ∃ ch, t.infra = { s.infra with chan := ch }

theorem ChannelsOnly.refl (s : State) : s.ChannelsOnly s := ⟨s.keeps_refl, rfl, _, rfl⟩

theorem ChannelsOnly.trans (h : s.ChannelsOnly t) (k : t.ChannelsOnly u) : s.ChannelsOnly u := by
  obtain ⟨hkeeps, hlast, ch, hinfra⟩ := h
  obtain ⟨kkeeps, klast, ch', kinfra⟩ := k
  exact ⟨hkeeps.trans kkeeps, klast.trans hlast, ch', by rw [kinfra, hinfra]⟩

theorem ChannelsOnly.bias (h : s.ChannelsOnly t) : t.infra.bias = s.infra.bias := by
  obtain ⟨_, _, ch, hinfra⟩ := h
  rw [hinfra]

theorem ChannelsOnly.recentre (h : s.ChannelsOnly t) : t.infra.recentre = s.infra.recentre := by
  obtain ⟨_, _, ch, hinfra⟩ := h
  rw [hinfra]

theorem ChannelsOnly.floods (h : s.ChannelsOnly t) : t.infra.floods = s.infra.floods := by
  obtain ⟨_, _, ch, hinfra⟩ := h
  rw [hinfra]

theorem ChannelsOnly.sent (h : s.ChannelsOnly t) : t.infra.sent = s.infra.sent := by
  obtain ⟨_, _, ch, hinfra⟩ := h
  rw [hinfra]

theorem ChannelsOnly.irOut (h : s.ChannelsOnly t) (i : Nat) : t.irOut i = s.irOut i := by
  obtain ⟨_, _, ch, hinfra⟩ := h
  rw [State.irOut, State.irOut, hinfra]

theorem setIr_channelsOnly (s : State) (c : Nat) (x : IrChan) : s.ChannelsOnly (s.setIr c x) :=
  ⟨keeps_of_prog rfl rfl rfl rfl rfl, rfl, _, rfl⟩

/-- And each channel is in the state it was in. -/
structure ChannelsStay (s t : State) : Prop extends s.ChannelsOnly t where
  chan : ∀ c : Fin 2, (s.ir c).SameState (t.ir c)

theorem ChannelsStay.refl (s : State) : s.ChannelsStay s := ⟨.refl s, fun _ => .refl _⟩

theorem ChannelsStay.trans (h : s.ChannelsStay t) (k : t.ChannelsStay u) : s.ChannelsStay u :=
  ⟨h.toChannelsOnly.trans k.toChannelsOnly, fun c => (h.chan c).trans (k.chan c)⟩

theorem Tells.ir (h : s.Tells t) (c : Nat) : t.ir c = s.ir c :=
  congrArg (fun f : Infra => vget IrChan.init f.chan c) h.infra

theorem Tells.channelsStay (h : s.Tells t) : s.ChannelsStay t :=
  ⟨⟨h.keeps, h.last, s.infra.chan, h.infra⟩, fun c => by rw [h.ir]; exact .refl _⟩

@[simp] theorem ir_setIr_self (s : State) (c : Fin 2) (x : IrChan) : (s.setIr c x).ir c = x := vget_vset_self c.isLt

theorem ir_setIr_ne {n d : Nat} (h : d ≠ n) : (s.setIr n x).ir d = s.ir d := vget_vset_ne h

@[simp] theorem setIr_setIr (s : State) (c : Fin 2) (x y : IrChan) : (s.setIr c x).setIr c y = s.setIr c y := by
  simp [setIr, vset, c.isLt]

theorem setIr_channelsStay (h : (s.ir c).SameState x) : s.ChannelsStay (s.setIr c x) := by
  refine ⟨s.setIr_channelsOnly c x, fun d => ?_⟩
  by_cases hd : d = c
  · rw [hd, ir_setIr_self]; exact h
  · rw [ir_setIr_ne (by omega)]; exact .refl _

theorem irDecide_channelsStay (s : State) (c : Fin 2) (f g : Option IrBurst) (status cause flags : Nat)
    (deliver : List Nat) : s.ChannelsStay (s.irDecide c f g status cause flags deliver) :=
  setIr_channelsStay ⟨rfl, rfl, rfl, rfl, rfl⟩

theorem irBurstOver_channelsStay (s : State) (c : Fin 2) (b : IrBurst) : s.ChannelsStay (s.irBurstOver c b) := by
  simp only [irBurstOver]
  split
  · split <;> exact irDecide_channelsStay _ _ _ _ _ _ _ _
  · split
    · next f _ =>
      have hset : s.ChannelsStay (s.setIr c { s.ir c with
          firsts := (s.ir c).firsts.filter fun (g : IrFirst) => g != f }) :=
        setIr_channelsStay ⟨rfl, rfl, rfl, rfl, rfl⟩
      refine hset.trans ?_
      split <;> exact irDecide_channelsStay _ _ _ _ _ _ _ _
    · exact setIr_channelsStay ⟨rfl, rfl, rfl, rfl, rfl⟩

theorem irCut_channelsStay (s : State) (c : Fin 2) : s.ChannelsStay (s.irCut c) := by
  simp only [irCut]
  have hset : s.ChannelsStay (s.setIr c { s.ir c with burst := none, inMark := false, lead := 0 }) :=
    setIr_channelsStay ⟨rfl, rfl, rfl, rfl, rfl⟩
  split
  · exact hset
  · exact (hset.trans (raise_tells _ _ _ _).channelsStay).trans (irBurstOver_channelsStay _ c _)

theorem irWatch_channelsStay (s : State) (c : Fin 2) : s.ChannelsStay (s.irWatch c) := by
  simp only [irWatch]
  split
  · refine .trans (t := s.setIr c _) ?_ (irCut_channelsStay _ c)
    exact setIr_channelsStay ⟨rfl, rfl, rfl, rfl, rfl⟩
  · exact setIr_channelsStay ⟨rfl, rfl, rfl, rfl, rfl⟩
  · exact .refl s

theorem irWatchAll_channelsStay (s : State) : s.ChannelsStay s.irWatchAll :=
  (s.irWatch_channelsStay 0).trans (irWatch_channelsStay _ 1)

theorem foldl_channelsOnly {α : Type} {f : State → α → State} (hf : ∀ (s : State) a, s.ChannelsOnly (f s a))
    (l : List α) (s : State) : s.ChannelsOnly (l.foldl f s) :=
  foldl_leaves f l .refl .trans hf s

theorem irTxQuiet_channelsOnly (s : State) : s.ChannelsOnly s.irTxQuiet := by
  simp only [irTxQuiet]
  split
  · exact .refl s
  · refine foldl_channelsOnly (fun s c => ?_) _ s
    split
    · exact s.setIr_channelsOnly c _
    · exact .refl s

/-- A channel moves: its state and cause change, and IR_FLOOD tells of it (R593). -/
theorem irMove_tells (s : State) (c : Nat) (m : IrMode) (cause : Nat) :
    (s.setIr c { s.ir c with mode := m, cause := cause }).Tells (s.irMove c m cause) :=
  deliver_tells _ _ _

theorem irMove_ir (s : State) (c : Fin 2) (m : IrMode) (cause : Nat) :
    (s.irMove c m cause).ir c = { s.ir c with mode := m, cause := cause } := by
  rw [(s.irMove_tells c m cause).ir, ir_setIr_self]

theorem irMove_channelsOnly (s : State) (c : Nat) (m : IrMode) (cause : Nat) :
    s.ChannelsOnly (s.irMove c m cause) :=
  (s.setIr_channelsOnly c _).trans (s.irMove_tells c m cause).channelsStay.toChannelsOnly

theorem irRecover_channelsOnly (s : State) (c cause : Nat) : s.ChannelsOnly (s.irRecover c cause) :=
  (s.setIr_channelsOnly c _).trans (irMove_channelsOnly _ c _ _)

theorem irRecover_ir (s : State) (c : Fin 2) (cause : Nat) : (s.irRecover c cause).ir c = { s.ir c with
    mode := .recover, cause := cause, floor := (s.ir c).env, recFrom := s.last.pp * 256 } := by
  rw [irRecover, irMove_ir, ir_setIr_self]
  rfl

theorem irMove_ir_ne (s : State) {c : Fin 2} {d : Nat} (hd : d ≠ c) (m : IrMode) (cause : Nat) :
    (s.irMove c m cause).ir d = s.ir d := by
  rw [(s.irMove_tells c m cause).ir, ir_setIr_ne hd]

theorem irRecover_ir_ne (s : State) {c : Fin 2} {d : Nat} (hd : d ≠ c) (cause : Nat) :
    (s.irRecover c cause).ir d = s.ir d := by
  rw [irRecover, irMove_ir_ne _ hd, ir_setIr_ne hd]

end State

section Rows

variable {s : State} {c : Fin 2} {y : Iq} {us at_ carrier peak : Nat} {b : IrBurst}

/-- What a row of a channel leaves when it only replaces the channel. -/
theorem next_setIr {o : Host.Outcome State Fault Refusal} {x : IrChan} (h : o = .next (s.setIr c x)) :
    ∃ t, o = .next t ∧ s.keeps t ∧ t.last = s.last ∧ t.ir c = x :=
  ⟨_, h, (s.setIr_channelsOnly c x).keeps, rfl, s.ir_setIr_self c x⟩

theorem irMarkStart_of_gap (hburst : (s.ir c).burst = none) (hgap : (s.ir c).endGap ≤ (s.ir c).lead + us) :
    s.irMarkStart c us at_ = s.setIr c { s.ir c with
      inMark := true, lead := (s.ir c).lead + us
      burst := some ⟨at_ - s.groupDelay (s.lane (94 + c.val)) * 19 / 7680, [], false, 0, 0, 255, 0⟩ } := by
  simp only [State.irMarkStart, hburst, if_pos hgap]

theorem irMarkStop_of_first (hburst : (s.ir c).burst = some b) (hdurs : b.durs = [])
    (hglitch : (s.ir c).glitch ≤ us) : s.irMarkStop c us carrier peak = s.setIr c { s.ir c with
      inMark := false, lead := 0
      burst := some { b with
        durs := [us], cSum := b.cSum + carrier * (us - 200), cWt := b.cWt + (us - 200)
        peak := Nat.min b.peak peak } } := by
  have hlong : ¬ us < (s.ir c).glitch := Nat.not_lt.mpr hglitch
  simp [State.irMarkStop, hburst, hdurs, hlong]

/-- How far the sum of IRIN lies from mid-scale. -/
def ambientOff (irin : List Nat) : Nat := ((irin.sum : Int) - 2048 * Nat.max 1 irin.length).natAbs

/-- IRBIAS after 1 ms of IRIN (R585). -/
def ambientBias (s : State) (irin : List Nat) : Nat :=
  if (s.ir 0).mode == .stuck || (s.ir 1).mode == .stuck ||
      decide (ambientOff irin * 10 ≤ 4096 * Nat.max 1 irin.length) then s.infra.bias
  else if 2048 * Nat.max 1 irin.length < irin.sum then Nat.min 1023 (s.infra.bias + 1) else s.infra.bias - 1

/-- The mean of IRIN over 1 ms. -/
def ambientMean (irin : List Nat) : Nat :=
  irin.sum / Nat.max 1 irin.length + (if irin.sum % Nat.max 1 irin.length = 0 then 0
    else bitNat (Config.meanUp irin.sum (Nat.max 1 irin.length)))

theorem exec_irAmbientStep_of_ref {irin : List Nat} (href : s.clk.refOk = true) :
    exec (.irAmbientStep irin) s = .next { s with
      infra.mean := Nat.min 4095 (ambientMean irin), infra.bias := ambientBias s irin
      infra.recentre := s.infra.recentre ||
        decide (4096 * Nat.max 1 irin.length * 4 < ambientOff irin * 10) } :=
  congrArg Host.Outcome.next (if_neg (by simp [href]))

/-- A mark begins after enough space: a burst begins with it (R587). -/
theorem exec_irMarkEdge_of_rise (hrec : s.reception = true) (hmode : (s.ir c).mode = .clear)
    (hblind : s.irBlind c = false) (hmark : (s.ir c).inMark = false) (hburst : (s.ir c).burst = none)
    (hon : envelope y < (s.ir c).on) (hgap : (s.ir c).endGap ≤ (s.ir c).lead + us) :
    exec (.irMarkEdge c y us at_ carrier peak) s = .next (s.setIr c { s.ir c with
      inMark := true, marks := (at_ :: (s.ir c).marks).take 4, lead := (s.ir c).lead + us
      burst := some ⟨at_ - s.groupDelay (s.lane (94 + c.val)) * 19 / 7680, [], false, 0, 0, 255, 0⟩ }) := by
  show execIrMarkEdge c y us at_ carrier peak s = _
  unfold execIrMarkEdge
  dsimp only
  rw [if_neg (by simp [hmode, hrec]), if_neg (by simp [hblind]), if_pos (by simp [hon, hmark])]
  rw [irMarkStart_of_gap (by rw [State.ir_setIr_self]; exact hburst) (by rw [State.ir_setIr_self]; exact hgap),
    State.ir_setIr_self, State.setIr_setIr]
  simp [hon, hmark]
  rfl

/-- A mark no shorter than GLITCH ends: it is the burst's first duration (R587, R589). -/
theorem exec_irMarkEdge_of_fall (hrec : s.reception = true) (hmode : (s.ir c).mode = .clear)
    (hblind : s.irBlind c = false) (hmark : (s.ir c).inMark = true) (hburst : (s.ir c).burst = some b)
    (hdurs : b.durs = []) (hoff : (s.ir c).off < envelope y) (hglitch : (s.ir c).glitch ≤ us) :
    exec (.irMarkEdge c y us at_ carrier peak) s = .next (s.setIr c { s.ir c with
      inMark := false, spaceFrom := at_, lead := 0
      burst := some { b with
        durs := [us], cSum := b.cSum + carrier * (us - 200), cWt := b.cWt + (us - 200)
        peak := Nat.min b.peak peak } }) := by
  show execIrMarkEdge c y us at_ carrier peak s = _
  unfold execIrMarkEdge
  dsimp only
  rw [if_neg (by simp [hmode, hrec]), if_neg (by simp [hblind]), if_neg (by simp [hmark]),
    if_pos (by simp [hoff, hmark])]
  rw [irMarkStop_of_first (by rw [State.ir_setIr_self]; exact hburst) hdurs
    (by rw [State.ir_setIr_self]; exact hglitch), State.ir_setIr_self, State.setIr_setIr]
  simp [hoff, hmark]

/-- A burst that stands alone is decided at its end (R598). -/
theorem exec_irBurstEnd_of_single (hrec : s.reception = true) (hburst : (s.ir c).burst = some b)
    (hmark : (s.ir c).inMark = false) (hblind : s.irBlind c = false) (hcut : b.cut = false)
    (hpair : (s.ir c).pair = false) : exec (.irBurstEnd c) s = .next (s.setIr c { s.ir c with
      burst := none, lead := b.tail, decided := (s.ir c).decided ++
        [⟨some b.closed, none, stOk, 0, 0, [0], s.last.edge⟩] }) := by
  show execIrBurstEnd c s = _
  unfold execIrBurstEnd
  dsimp only
  rw [hburst]
  dsimp only
  rw [if_neg (by simp [hmark, hblind, hrec])]
  have hset : ((s.setIr c { s.ir c with burst := none, lead := b.tail }).ir c).pair = false := by
    rw [State.ir_setIr_self]; exact hpair
  simp only [State.irBurstOver, hset, Bool.not_false, if_true]
  rw [if_neg (by simp [IrBurst.closed, hcut])]
  simp [State.irDecide]

/-- The second burst of a pair decides it with the first (R599). -/
theorem exec_irBurstEnd_of_pair {f : IrFirst} (hrec : s.reception = true) (hburst : (s.ir c).burst = some b)
    (hmark : (s.ir c).inMark = false) (hblind : s.irBlind c = false) (hcut : b.cut = false)
    (hpair : (s.ir c).pair = true) (hpartner : State.irPartner (s.ir c) b.start = some f)
    (hfcut : f.burst.cut = false) : exec (.irBurstEnd c) s = .next (s.setIr c { s.ir c with
      burst := none, lead := b.tail, firsts := (s.ir c).firsts.filter fun g => g != f
      decided := (s.ir c).decided ++ [⟨some f.burst, some b.closed, stOk, 0, 0, [0, 1], s.last.edge⟩] }) := by
  show execIrBurstEnd c s = _
  unfold execIrBurstEnd
  dsimp only
  rw [hburst]
  dsimp only
  rw [if_neg (by simp [hmark, hblind, hrec])]
  have hset : ((s.setIr c { s.ir c with burst := none, lead := b.tail }).ir c).pair = true := by
    rw [State.ir_setIr_self]; exact hpair
  have hfind : State.irPartner ((s.setIr c { s.ir c with burst := none, lead := b.tail }).ir c) b.closed.start =
      some f := by
    rw [State.ir_setIr_self]; exact hpartner
  simp only [State.irBurstOver, hset, hfind, Bool.not_true, Bool.false_eq_true, if_false, hfcut]
  simp [IrBurst.closed, hcut, State.irDecide]

/-- The state in which a channel that was CLEAR moves to FLOOD (R591). -/
def floodBegun (s : State) (c : Fin 2) (z : IrChan) (cause : Nat) : State :=
  { s.setIr c { z with critEdge := s.last.edge, cause := cause } with
    infra.floods := satAdd 255 s.infra.floods 1, infra.evt := s.infra.evt ||| 2 ^ c.val }

/-- Fault 0x7101, once a superframe. -/
def floodFault (s : State) (c : Fin 2) (told : Option (Nat × Nat)) : State :=
  if told = some s.sfMark then s
  else (s.setIr c { s.ir c with faultSf := some s.sfMark }).raise 0x7101 c clsNote

theorem floodFault_channelsStay (s : State) (c : Fin 2) (told : Option (Nat × Nat)) :
    s.ChannelsStay (floodFault s c told) := by
  simp only [floodFault]
  split
  · exact .refl s
  · have hset : s.ChannelsStay (s.setIr c { s.ir c with faultSf := some s.sfMark }) :=
      State.setIr_channelsStay ⟨rfl, rfl, rfl, rfl, rfl⟩
    exact hset.trans (State.raise_tells _ _ _ _).channelsStay

theorem exec_irFloodBlock_of_cause {irin : List Nat} {blk : List Iq} {cause : Nat} (hrec : s.reception = true)
    (hmode : (s.ir c).mode = .clear)
    (hcause : ((s.ir c).block at_ irin blk).criterion (s.ir c).sat at_ = cause) (hne : cause ≠ 0) :
    exec (.irFloodBlock c at_ irin blk) s = .next ((floodFault ((floodBegun s c ((s.ir c).block at_ irin blk)
      cause).irMove c .flood cause) c (s.ir c).faultSf).irWatch c) := by
  show execIrFloodBlock c at_ irin blk s = _
  unfold execIrFloodBlock
  dsimp only
  rw [if_neg (by simp [hmode, hrec]), hcause, if_neg hne, if_neg (by simp [hmode]), State.ir_setIr_self,
    State.setIr_setIr]
  rfl

/-- A block in which a criterion holds sends a CLEAR channel to FLOOD (R590, R591, R593). -/
theorem irFlood_leaves (s : State) (c : Fin 2) (z : IrChan) (cause : Nat) (told : Option (Nat × Nat)) :
    let t := (floodFault ((floodBegun s c z cause).irMove c .flood cause) c told).irWatch c
    s.keeps t ∧ t.last = s.last ∧ (t.ir c).mode = .flood ∧ (t.ir c).cause = cause ∧
      (t.ir c).critEdge = s.last.edge ∧ t.infra.floods = Nat.min 255 (s.infra.floods + 1) := by
  have hkeeps : s.keeps (floodBegun s c z cause) := State.keeps_of_prog rfl rfl rfl rfl rfl
  have hcrit : (floodBegun s c z cause).ir c = { z with critEdge := s.last.edge, cause := cause } :=
    s.ir_setIr_self c _
  have hfloods : (floodBegun s c z cause).infra.floods = Nat.min 255 (s.infra.floods + 1) := rfl
  have hlast : (floodBegun s c z cause).last = s.last := rfl
  generalize floodBegun s c z cause = v at *
  have hmove := v.irMove_channelsOnly c .flood cause
  have hdir := v.irMove_ir c .flood cause
  generalize v.irMove c .flood cause = u at *
  have hstay := (floodFault_channelsStay u c told).trans (State.irWatch_channelsStay _ c)
  have hleft := hmove.trans hstay.toChannelsOnly
  have hstate := hstay.chan c
  rw [hdir, hcrit] at hstate
  exact ⟨hkeeps.trans hleft.keeps, hleft.last.trans hlast, hstate.mode, hstate.cause, hstate.critEdge,
    hleft.floods.trans hfloods⟩

/-- A block in which no criterion holds is taken in. -/
theorem exec_irFloodBlock_of_none {irin : List Nat} {blk : List Iq} (hrec : s.reception = true)
    (hmode : (s.ir c).mode = .clear) (hcause : ((s.ir c).block at_ irin blk).criterion (s.ir c).sat at_ = 0) :
    exec (.irFloodBlock c at_ irin blk) s = .next (s.setIr c ((s.ir c).block at_ irin blk)) := by
  show Host.Outcome.next (ite _ _ _) = _
  rw [if_neg (by simp [hmode, hrec])]
  exact congrArg _ (if_pos hcause)

theorem exec_floodholdExpiry_of_due (hmode : (s.ir c).mode = .flood)
    (hdue : (s.ir c).critEdge + (s.ir c).floodHold ≤ s.last.edge) :
    exec (.floodholdExpiry c) s = .next (s.irRecover c (s.ir c).cause) :=
  congrArg Host.Outcome.next (if_pos ⟨hmode, hdue⟩)

theorem exec_irRecoverEnd_of_quiet (hrec : s.reception = true) (hmode : (s.ir c).mode = .recover)
    (hmark : (s.ir c).inMark = false)
    (hquiet : Nat.max (s.ir c).spaceFrom ((s.ir c).recFrom + irUnits 1000) + irUnits (s.ir c).endGap ≤ at_) :
    exec (.irRecoverEnd c at_) s = .next ((s.irMove c .clear 0).irWatch c) :=
  congrArg Host.Outcome.next (if_pos ⟨hmode, hrec, hmark, hquiet⟩)

theorem exec_irStuck_of_flat {lo hi : Nat} (href : s.clk.refOk = true) (hflat : hi ≤ lo + 4)
    (hclear : (s.ir 0).mode = .clear) (hoff : (s.ir 1).mode = .off) :
    exec (.irStuck lo hi) s =
      .next (((({ s with infra.evt := s.infra.evt ||| 4 } : State).irMove 0 .stuck 6).irWatch 0).note 0x7201) := by
  have hhit : ([0, 1].filter fun c => (s.ir c).mode != .off && (s.ir c).mode != .stuck) = [0] := by
    simp [hclear, hoff]
  show Host.Outcome.next (ite _ _ _) = _
  rw [hhit, if_neg (by simp [href, hflat])]
  rfl

/-- A STUCK channel goes to RECOVER (R594). -/
def releaseStuck (s : State) (d : Fin 2) : State := if (s.ir d).mode = .stuck then s.irRecover d 6 else s

theorem releaseStuck_channelsOnly (s : State) (d : Fin 2) : s.ChannelsOnly (releaseStuck s d) := by
  simp only [releaseStuck]
  split
  · exact s.irRecover_channelsOnly d 6
  · exact .refl s

theorem releaseStuck_mode (s : State) (d : Fin 2) :
    ((releaseStuck s d).ir d).mode = if (s.ir d).mode = .stuck then .recover else (s.ir d).mode := by
  simp only [releaseStuck]
  split
  · rw [s.irRecover_ir d 6]
  · rfl

theorem releaseStuck_ir_ne (s : State) {d e : Fin 2} (h : e ≠ d) : (releaseStuck s d).ir e = s.ir e := by
  simp only [releaseStuck]
  split
  · exact s.irRecover_ir_ne (by omega) 6
  · rfl

theorem exec_irStuckRelease_of_moves {lo hi : Nat} (href : s.clk.refOk = true) (hmoves : lo + 16 < hi) :
    exec (.irStuckRelease lo hi) s = .next (releaseStuck (releaseStuck s 0) 1) :=
  congrArg Host.Outcome.next (if_pos (by simp [href, hmoves]))

theorem releaseBoth_mode (s : State) (c : Fin 2) : ((releaseStuck (releaseStuck s 0) 1).ir c).mode =
    if (s.ir c).mode = .stuck then .recover else (s.ir c).mode := by
  obtain rfl | rfl : c = 0 ∨ c = 1 := by omega
  · rw [releaseStuck_ir_ne _ (by decide)]
    exact releaseStuck_mode s 0
  · have hmode := releaseStuck_mode (releaseStuck s 0) 1
    rwa [releaseStuck_ir_ne s (by decide : (1 : Fin 2) ≠ 0)] at hmode

/-- At a moment that R596 allows IRBIAS is stepped, and channel 0 is blind for 400 µs. -/
theorem exec_recentre_of_ready {n : Nat} (hneed : s.infra.recentre = true) (href : s.clk.refOk = true)
    (hoff : (s.ir 1).mode = .off) (hclear : (s.ir 0).mode = .clear) (hmark : (s.ir 0).inMark = false)
    (hburst : (s.ir 0).burst = none) (hfirsts : (s.ir 0).firsts = []) (hblind : s.irBlind 0 = false)
    (hquiet : (s.ir 0).spaceFrom + irUnits (s.ir 0).endGap ≤ s.last.pp * 256) :
    exec (.recentre n) s = .next ((({ s with infra.bias := Nat.min 1023 n, infra.recentre := false } : State).setIr 0
      { s.ir 0 with holdOff := max (s.ir 0).holdOff (s.last.edge + 2) }).irWatchAll) := by
  show execRecentre n s = _
  unfold execRecentre
  dsimp only
  rw [if_pos (by simp [hneed, href, hoff, hclear, hmark, hburst, hfirsts, hblind, State.irNow, hquiet])]
  refine congrArg (fun u : State => Host.Outcome.next u.irWatchAll) ?_
  generalize hu : ({ s with infra.bias := Nat.min 1023 n, infra.recentre := false } : State) = u
  have hir : u.ir = s.ir := by subst hu; rfl
  have hedge : u.last = s.last := by subst hu; rfl
  simp only [List.foldl_cons, List.foldl_nil, hir, hedge]
  have hon : (s.ir 0).mode ≠ .off := by simp [hclear]
  rw [if_neg hon, State.ir_setIr_ne (by decide), hir, if_pos hoff]

/-- A first burst whose window has passed stands alone, cause 9 (R599). -/
theorem exec_pairWindowExpiry_of_none {f : IrFirst} {rest : List IrFirst} (hfirsts : (s.ir c).firsts = f :: rest)
    (hdue : f.burst.start + (s.ir c).pairMax ≤ s.last.pp * 256) (hburst : (s.ir c).burst = none)
    (hcut : f.burst.cut = false) (hunknown : f.unknown = false) (hwin : f.blindWin = false)
    (hfrom : (s.ir c).blindFrom = none) : exec (.pairWindowExpiry c) s = .next (s.setIr c { s.ir c with
      firsts := rest, decided := (s.ir c).decided ++ [⟨some f.burst, none, stNone, 9, 0, [0], s.last.edge⟩] }) := by
  show execPairWindowExpiry c s = _
  unfold execPairWindowExpiry
  dsimp only
  rw [hfirsts]
  dsimp only
  rw [if_neg (by simp [hburst, State.irNow, hdue]), if_neg (by simp [hcut]), if_neg (by simp [hunknown]),
    if_neg (by simp [hwin, hfrom])]
  simp [State.irDecide]

theorem irCarrier_frame (s : State) (b : Option IrBurst) : ∃ n, (s.irCarrier b).2 = { s with freeCtr := n } := by
  simp only [State.irCarrier]
  split
  · exact ⟨_, rfl⟩
  · split <;> exact ⟨_, rfl⟩

theorem irReport_leaves (s : State) (c : Nat) (d : IrDecided) : s.keeps (s.irReport c d) ∧
    (s.irReport c d).last = s.last ∧ (s.irReport c d).infra.chan = s.infra.chan ∧
    (s.irReport c d).infra.ok = if d.status = stOk then satAdd 255 s.infra.ok 1 else s.infra.ok := by
  simp only [State.irReport]
  generalize hu : List.foldl _ s d.deliver = u
  have htells : s.Tells u := hu ▸ State.foldl_tells (fun s i => State.foldl_tells
    (fun s e => State.deliver_tells s _ _) _ s) _ s
  generalize hv : ({ u with infra.ok := _, infra.single := _, infra.floodCodes := _ } : State) = v
  have hkeeps : u.keeps v := by subst hv; exact State.keeps_of_prog rfl rfl rfl rfl rfl
  have hlast : v.last = u.last := by subst hv; rfl
  have hchan : v.infra.chan = u.infra.chan := by subst hv; rfl
  have hok : v.infra.ok = if d.status = stOk then satAdd 255 u.infra.ok 1 else u.infra.ok := by subst hv; rfl
  obtain ⟨n, hfree⟩ := irCarrier_frame v d.lead
  rw [hfree]
  have htold := State.deliver_tells ({ v with freeCtr := n })
  rw [htells.infra] at hchan hok
  refine ⟨htells.keeps.trans (hkeeps.trans ((State.keeps_of_prog rfl rfl rfl rfl rfl).trans (htold _ _).keeps)), ?_⟩
  refine ⟨(htold _ _).last.trans (hlast.trans htells.last), ?_, ?_⟩
  · exact (congrArg Infra.chan (htold _ _).infra).trans hchan
  · exact (congrArg Infra.ok (htold _ _).infra).trans hok

/-- A code decided before the tick edge is raised, and counted when it is OK (R602). -/
theorem exec_irCode_of_due {d : IrDecided} (hdecided : (s.ir c).decided = [d]) (hedge : d.edge < s.last.edge) :
    exec (.irCode c) s = .next ((s.setIr c { s.ir c with decided := [] }).irReport c d) := by
  show execIrCode c s = _
  unfold execIrCode
  simp [hdecided, hedge]

/-- The waiting code follows the one that has ended (R608). -/
theorem exec_irTxCodeEnd_of_sending {out : Fin 4} {x : IrTx} (hsending : (s.irOut out).sending = some x) :
    exec (.irTxCodeEnd out) s = .next ({ s with
      infra.out := vset s.infra.out out ⟨(s.irOut out).waiting, none⟩
      infra.sent := satAdd 255 s.infra.sent 1 } : State).irTxQuiet.irWatchAll := by
  show execIrTxCodeEnd out s = _
  unfold execIrTxCodeEnd
  dsimp only
  rw [hsending]

end Rows

/-- Settles O38: each row by the state that it answers, and what the watch of the blind intervals leaves of it. -/
theorem infraredRowsComplete : Obligations.InfraredRowsComplete := by
  unfold Obligations.InfraredRowsComplete
  intro s c y us at_ carrier peak lo hi cause n irin blk b out
  refine ⟨fun href => ?_, fun hrec hmode hblind hmark hburst hon hgap => ?_,
    fun hrec hmode hblind hmark hburst hdurs hoff hglitch => ?_, fun hrec hburst hmark hblind hcut hpair => ?_,
    fun f hrec hburst hmark hblind hcut hpair hpartner hfcut => ?_, fun hrec hmode hcause hne => ?_,
    fun hrec hmode hcause => ?_, fun hmode hdue => ?_, fun hrec hmode hmark hquiet => ?_,
    fun href hflat hclear hoff => ?_, fun href hmoves => ?_,
    fun hneed href hoff hclear hmark hburst hfirsts hblind hquiet => ?_,
    fun f rest hfirsts hdue hburst hcut hunknown hwin hfrom => ?_, fun d hdecided hedge => ?_,
    fun h hsending => ?_⟩
  · refine ⟨_, exec_irAmbientStep_of_ref href, rfl, rfl, fun hmod => ?_, fun hnear => ?_,
      fun hzero hone hfar hhigh => ?_, fun hzero hone hfar hlow => ?_, fun hstuck => ?_, rfl⟩
    · exact congrArg (Nat.min 4095) (by simp only [ambientMean, hmod, if_true, Nat.add_zero])
    · exact if_pos (by simp only [ambientOff, hnear, decide_true, Bool.or_true])
    · refine (if_neg ?_).trans (if_pos hhigh)
      simp only [hzero, hone, Bool.or_eq_true, beq_iff_eq, decide_eq_true_eq, false_or, Nat.not_le]
      exact hfar
    · refine (if_neg ?_).trans (if_neg (Nat.not_lt.mpr hlow.le))
      simp only [hzero, hone, Bool.or_eq_true, beq_iff_eq, decide_eq_true_eq, false_or, Nat.not_le]
      exact hfar
    · exact if_pos (by simp [hstuck])
  · exact next_setIr (exec_irMarkEdge_of_rise hrec hmode hblind hmark hburst hon hgap)
  · exact next_setIr (exec_irMarkEdge_of_fall hrec hmode hblind hmark hburst hdurs hoff hglitch)
  · exact next_setIr (exec_irBurstEnd_of_single hrec hburst hmark hblind hcut hpair)
  · exact next_setIr (exec_irBurstEnd_of_pair hrec hburst hmark hblind hcut hpair hpartner hfcut)
  · exact ⟨_, exec_irFloodBlock_of_cause hrec hmode hcause hne, irFlood_leaves s c _ cause _⟩
  · exact next_setIr (exec_irFloodBlock_of_none hrec hmode hcause)
  · refine ⟨_, exec_floodholdExpiry_of_due hmode hdue, ?_⟩
    have hleft := s.irRecover_channelsOnly c (s.ir c).cause
    exact ⟨hleft.keeps, hleft.last, s.irRecover_ir c (s.ir c).cause⟩
  · refine ⟨_, exec_irRecoverEnd_of_quiet hrec hmode hmark hquiet, ?_⟩
    have hmove := s.irMove_channelsOnly c .clear 0
    have hwatch := (s.irMove c .clear 0).irWatch_channelsStay c
    have hstate := hwatch.chan c
    rw [s.irMove_ir c .clear 0] at hstate
    have hleft := hmove.trans hwatch.toChannelsOnly
    exact ⟨hleft.keeps, hleft.last, hstate.mode, hstate.cause, hstate.floor⟩
  · refine ⟨_, exec_irStuck_of_flat href hflat hclear hoff, ?_⟩
    have hkeeps : s.keeps { s with infra.evt := s.infra.evt ||| 4 } := State.keeps_of_prog rfl rfl rfl rfl rfl
    generalize hv : ({ s with infra.evt := s.infra.evt ||| 4 } : State) = v at hkeeps
    have hlast : v.last = s.last := by subst hv; rfl
    have hone : (v.ir 1).mode = .off := by subst hv; exact hoff
    have hmove := v.irMove_channelsOnly 0 .stuck 6
    have hstay := ((v.irMove 0 .stuck 6).irWatch_channelsStay 0).trans
      (State.note_tells ((v.irMove 0 .stuck 6).irWatch 0) 0x7201).channelsStay
    have hleft := hmove.trans hstay.toChannelsOnly
    have hzero := hstay.chan 0
    have hother := hstay.chan 1
    rw [show (v.irMove 0 .stuck 6).ir (0 : Fin 2) = _ from v.irMove_ir 0 .stuck 6] at hzero
    rw [show (v.irMove 0 .stuck 6).ir (1 : Fin 2) = _ from v.irMove_ir_ne (c := 0) (by decide) .stuck 6] at hother
    exact ⟨hkeeps.trans hleft.keeps, hleft.last.trans hlast, hzero.mode, hzero.cause, hother.mode.trans hone⟩
  · have hleft := (releaseStuck_channelsOnly s 0).trans (releaseStuck_channelsOnly _ 1)
    exact ⟨_, exec_irStuckRelease_of_moves href hmoves, hleft.keeps, hleft.last, releaseBoth_mode s c⟩
  · refine ⟨_, exec_recentre_of_ready hneed href hoff hclear hmark hburst hfirsts hblind hquiet, ?_⟩
    have hstay := State.irWatchAll_channelsStay (({ s with
      infra.bias := Nat.min 1023 n, infra.recentre := false } : State).setIr 0
        { s.ir 0 with holdOff := max (s.ir 0).holdOff (s.last.edge + 2) })
    refine ⟨(State.keeps_of_prog rfl rfl rfl rfl rfl).trans hstay.keeps, hstay.last, hstay.bias, hstay.recentre, ?_⟩
    exact (hstay.chan 0).holdOff.trans (congrArg IrChan.holdOff (State.ir_setIr_self _ 0 _))
  · exact next_setIr (exec_pairWindowExpiry_of_none hfirsts hdue hburst hcut hunknown hwin hfrom)
  · refine ⟨_, exec_irCode_of_due hdecided hedge, ?_⟩
    obtain ⟨hkeeps, hlast, hchan, hok⟩ := irReport_leaves (s.setIr c { s.ir c with decided := [] }) c d
    refine ⟨(s.setIr_channelsOnly c _).keeps.trans hkeeps, hlast, ?_, hok⟩
    exact (congrArg (fun v => vget IrChan.init v c) hchan).trans (s.ir_setIr_self c _)
  · refine ⟨_, exec_irTxCodeEnd_of_sending hsending, ?_⟩
    have hleft := (State.irTxQuiet_channelsOnly { s with
      infra.out := vset s.infra.out out ⟨(s.irOut out).waiting, none⟩
      infra.sent := satAdd 255 s.infra.sent 1 }).trans (State.irWatchAll_channelsStay _).toChannelsOnly
    exact ⟨(State.keeps_of_prog rfl rfl rfl rfl rfl).trans hleft.keeps, hleft.last,
      (hleft.irOut out).trans (vget_vset_self out.isLt), hleft.sent⟩

end Sys2Proof.Machine
end

section
/-! PROOFS. Sparse lists whose entries rise, register writes under the gate, and store operations that the energy
allows: what the register rows rest on. -/

namespace Sys2Proof.Machine

open Sys2Proof

/-! ### Rising entries -/

/-- The addresses listed rise, whatever default each stands against. -/
def Rising {α : Type} : List (Nat × α) → Prop
  | [] => True
  | e :: m => Above e.1 m ∧ Rising m

/-- In a list whose addresses rise the address written reads what was written. -/
theorem sget_sput_of_rising {α : Type} [DecidableEq α] {d v : α} {a : Nat} {m : List (Nat × α)} (h : Rising m) :
    sget d (sput d m a v) a = v := by
  by_cases hv : v = d
  · subst hv
    induction m with
    | nil => simp [sput, sget]
    | cons e m ih =>
      obtain ⟨k, w⟩ := e
      obtain ⟨hk, hm⟩ := h
      simp only [sput, if_true]
      split
      · next ha => exact sget_above (above_cons.mpr ⟨ha, fun e he => Nat.lt_trans ha (hk e he)⟩)
      · split
        · next ha => exact sget_above (ha ▸ hk)
        · next ha => simp only [sget, if_neg ha, ih hm]
  · exact sget_sput_ne_default hv

/-- A write against one default leaves every other address as it reads against another. -/
theorem sget_sput_other {α : Type} [DecidableEq α] {d e v : α} {a b : Nat} {m : List (Nat × α)} (h : b ≠ a) :
    sget e (sput d m a v) b = sget e m b := by
  induction m with
  | nil => simp only [sput]; split <;> simp [sget, h]
  | cons x m ih =>
    obtain ⟨k, w⟩ := x
    simp only [sput]
    split
    · split <;> simp [sget, h]
    · split
      · next hk =>
        subst hk
        split <;> simp [sget, h]
      · simp only [sget, ih]

/-- What a seal-view register reads where no entry names it. -/
def sealReset (a : Nat) : Word := if a = 0x623 then 0x00002855#32 else 0

/-- The canonical form of the seal view, one entry at a time. -/
theorem sealWf_cons {k : Nat} {v : Word} {m : List (Nat × Word)} :
    sealWf ((k, v) :: m) = true ↔ v ≠ sealReset k ∧ Above k m ∧ sealWf m = true := by
  induction m generalizing k v with
  | nil => simp [sealWf, Above, sealReset]
  | cons e m ih =>
    obtain ⟨l, w⟩ := e
    have h : sealWf ((k, v) :: (l, w) :: m) = true ↔
        v ≠ sealReset k ∧ k < l ∧ sealWf ((l, w) :: m) = true := by simp [sealWf, sealReset, and_assoc]
    rw [h, above_cons]
    constructor
    · rintro ⟨hv, hk, hm⟩
      exact ⟨hv, ⟨hk, fun e he => Nat.lt_trans hk ((ih.mp hm).2.1 e he)⟩, hm⟩
    · rintro ⟨hv, ⟨hk, _⟩, hm⟩
      exact ⟨hv, hk, hm⟩

theorem rising_of_sealWf {m : List (Nat × Word)} (h : sealWf m = true) : Rising m := by
  induction m with
  | nil => trivial
  | cons e m ih =>
    obtain ⟨_, hk, hm⟩ := sealWf_cons.mp h
    exact ⟨hk, ih hm⟩

theorem State.tablesWf_view {s : State} (h : s.tablesWf = true) : sealWf s.theSeal.view = true := by
  simp only [State.tablesWf, Bool.and_eq_true] at h
  exact h.1.1.1.1.2

theorem State.tablesWf_regs {s : State} (h : s.tablesWf = true) : regsWf s.regs = true := by
  simp only [State.tablesWf, Bool.and_eq_true] at h
  exact h.1.1.1.1.1

namespace State

variable {s : State} {a : Nat} {v : Word}

/-! ### Register writes under the gate -/

theorem domainRefusal_of_up {d : Domain} (hup : s.supply.dom[d.ctorIdx]? = some .up) : s.domainRefusal d = none := by
  simp [domainRefusal, hup]

/-- A write below the STORE range is taken when its line is implemented and its domain up. -/
theorem writeRefusal_of_up {l : RegLine} (hline : regLine a = some l)
    (hup : s.supply.dom[(regDomain a).ctorIdx]? = some .up) (hbusy : a < 0xF00 ∨ s.keeperBusy = false) :
    s.writeRefusal a = none := by
  have hfree : ¬ (0xF00 ≤ a ∧ s.keeperBusy = true) := by
    rintro ⟨ha, hb⟩
    obtain h | h := hbusy
    · omega
    · exact absurd (hb.symm.trans h) (by decide)
  simp [writeRefusal, regRefusal, hline, domainRefusal_of_up hup, hfree]

/-- A good write that nothing refuses has its effect (R623). -/
theorem busRegWrite_of_up {l : RegLine} (h : s.answers = true) (hline : regLine a = some l)
    (hup : s.supply.dom[(regDomain a).ctorIdx]? = some .up) (hbusy : a < 0xF00 ∨ s.keeperBusy = false) :
    s.busRegWrite a v .good = s.regWrite a v := by
  rw [busRegWrite, writeRefusal_of_up hline hup hbusy, busWrite_accepted h]

/-! ### Store operations that the energy allows (R784) -/

theorem checkEnergy_of_energy {need : Nat} (h : need + 40 ≤ s.energy) :
    s.checkEnergy need = (true, { s with store := { s.store with need := need } }) := by
  simp only [checkEnergy]
  rw [if_pos]
  exact h

theorem startOp_of_energy {op : StoreOp} (h : op.need + 40 ≤ s.energy) :
    s.startOp op = (true, { s with store := { s.store with need := op.need, op := some op } }) := by
  simp only [startOp, checkEnergy_of_energy h, if_true]

end State

end Sys2Proof.Machine
end

section
/-! PROOFS. The register rows of the seal (R572–R574). -/

namespace Sys2Proof.Machine

open Sys2Proof

section Rows

variable {s : State} {a : Nat} {v : Word}

theorem regLine_sealView (h1 : 0x622 ≤ a) (h2 : a ≤ 0x644) : regLine a = some (plainLine 0x622 0x644 .rws) := by
  have hall : ∀ i : Fin 35, regLine (0x622 + i.val) = some (plainLine 0x622 0x644 .rws) := by decide
  have ha := hall ⟨a - 0x622, by omega⟩
  rwa [show 0x622 + (a - 0x622) = a by omega] at ha

theorem regDomain_seal (h1 : 0x620 ≤ a) (h2 : a ≤ 0x644) : regDomain a = .keeper := by
  rw [regDomain, if_neg (by omega), if_neg (by omega), if_neg (by omega), if_neg (by omega), if_neg (by omega),
    if_neg (by omega), if_pos (by omega)]

/-- An accepted write of a seal-view register. -/
theorem exec_sealWrite_of_up (h : s.answers = true) (hup : s.supply.dom[1] = .up) (h1 : 0x622 ≤ a) (h2 : a ≤ 0x644) :
    exec (.sealWrite a v .good) s = .next (s.sealWrite a v) := by
  have hline := regLine_sealView h1 h2
  have hwrite : s.busRegWrite a v .good = s.regWrite a v :=
    State.busRegWrite_of_up h hline (by rw [regDomain_seal (by omega) h2, ← hup]; rfl) (.inl (by omega))
  refine congrArg Host.Outcome.next (hwrite.trans ?_)
  simp [State.regWrite, hline, plainLine]

/-- An accepted write of SEAL_CMD. -/
theorem exec_sealCmd_of_up (h : s.answers = true) (hup : s.supply.dom[1] = .up) :
    exec (.sealCmd v .good) s = .next (s.sealCommand v) := by
  have hline : regLine 0x621 = some (plainLine 0x621 0x621 .wo) := by decide
  have hwrite : s.busRegWrite 0x621 v .good = s.regWrite 0x621 v :=
    State.busRegWrite_of_up h hline (by rw [← hup]; rfl) (.inl (by decide))
  refine congrArg Host.Outcome.next (hwrite.trans ?_)
  simp only [State.regWrite, hline]
  rfl

/-- The word of the mask's top is written whole or not at all. -/
theorem sealWrite_fits (hfit : a = 0x62C → v = v &&& State.sealMask a) : ¬ (a = 0x62C ∧ v ≠ v &&& State.sealMask a) :=
  fun h => h.2 (hfit h.1)

theorem sealWrite_staged (hop : s.store.op = none) (hfit : a = 0x62C → v = v &&& State.sealMask a)
    (hsealed : s.theSeal.sealed = false) : s.sealWrite a v =
      { s with theSeal.view := State.viewPut s.theSeal.view a (v &&& State.sealMask a) } := by
  simp only [State.sealWrite]
  rw [if_neg (by simp [hop]), if_neg (sealWrite_fits hfit), if_pos hsealed]

theorem sealReg_viewPut_self (h : sealWf s.theSeal.view = true) :
    ({ s with theSeal.view := State.viewPut s.theSeal.view a v } : State).sealReg a = v :=
  sget_sput_of_rising (rising_of_sealWf h)

theorem sealReg_viewPut_ne {b : Nat} (h : b ≠ a) :
    ({ s with theSeal.view := State.viewPut s.theSeal.view a v } : State).sealReg b = s.sealReg b :=
  sget_sput_other h

end Rows

/-- Settles O45: a write of the seal is staged, programs an amendment, or is refused as loosening. -/
theorem sealRowsComplete : Obligations.SealRowsComplete := by
  unfold Obligations.SealRowsComplete
  intro s v a hans hup hop henergy hwf
  refine ⟨fun hopen hstopped hok htried => ?_, fun hword => ?_, fun h1 h2 hfit hopen => ?_,
    fun h1 h2 hfit hsealed hnew htight hused => ?_, fun h1 h2 hfit hsealed hnew hloose => ?_⟩
  · rw [exec_sealCmd_of_up hans hup, State.sealCommand]
    rw [if_neg (by simp [hopen, hop]), if_neg (by simp [hstopped, hok]), if_neg (by omega),
      State.startOp_of_energy (op := .seal) henergy]
    rfl
  · rw [exec_sealCmd_of_up hans hup, State.sealCommand, if_pos (.inl hword)]
  · refine ⟨_, exec_sealWrite_of_up hans hup h1 h2, ?_⟩
    rw [sealWrite_staged hop hfit hopen]
    exact ⟨rfl, sealReg_viewPut_self (State.tablesWf_view hwf), fun b hb => sealReg_viewPut_ne hb⟩
  · rw [exec_sealWrite_of_up hans hup h1 h2]
    simp only [State.sealWrite]
    rw [if_neg (by simp [hop]), if_neg (sealWrite_fits hfit), if_neg (by simp [hsealed]), if_neg hnew,
      if_neg (by simp [htight]), if_neg (by omega), State.startOp_of_energy (op := .sealWrite) henergy]
    rfl
  · refine ⟨_, exec_sealWrite_of_up hans hup h1 h2, ?_⟩
    simp only [State.sealWrite]
    rw [if_neg (by simp [hop]), if_neg (sealWrite_fits hfit), if_neg (by simp [hsealed]), if_neg hnew, if_pos hloose]
    simp [State.loosened, State.sealResult]

end Sys2Proof.Machine
end

section
/-! PROOFS. What a raised fault and a latched cause leave of the bus (R640, R642). -/

namespace Sys2Proof.Machine

open Sys2Proof

/-- Of the bus only the release of ALERT# and the wish for a Host Notify may differ, and the wish not once Host Notify
has failed (R645). -/
def Bus.Arisen (x y : Bus) : Prop :=
  ∃ r n, y = { x with released := r, notifying := n } ∧ (x.notifyFail = true → n = x.notifying)

theorem Bus.Arisen.refl (x : Bus) : x.Arisen x := ⟨_, _, rfl, fun _ => rfl⟩

theorem Bus.Arisen.trans {x y z : Bus} (h : x.Arisen y) (k : y.Arisen z) : x.Arisen z := by
  obtain ⟨_, _, rfl, hn⟩ := h
  obtain ⟨_, _, rfl, kn⟩ := k
  exact ⟨_, _, rfl, fun hf => (kn hf).trans (hn hf)⟩

namespace State

variable {s : State}

theorem arise_arisen (s : State) (i : Nat) : s.bus.Arisen (s.arise i).bus := by
  simp only [arise]
  split
  · exact ⟨_, _, rfl, fun hf => by simp [hf]⟩
  · exact .refl _

theorem alert_arisen (s : State) (i : Nat) :
    Bus.Arisen { s.bus with latched := s.bus.latched ||| 2 ^ i } (s.alert i).bus := by
  simp only [alert]
  split
  · exact .refl _
  · exact arise_arisen { s with bus.latched := s.bus.latched ||| 2 ^ i } i

theorem logFault_arisen (s : State) (code unit cls : Nat) : s.bus.Arisen (s.logFault code unit cls).2.bus := by
  have hbus : (s.logFault code unit cls).2.bus = (if s.flt.entries.isEmpty then s.arise 2 else s).bus := by
    simp only [logFault]
    repeat' split
    all_goals rfl
  rw [hbus]
  split
  · exact s.arise_arisen 2
  · exact .refl _

theorem dropBegins_arisen (s : State) : s.bus.Arisen s.dropBegins.bus := by
  simp only [dropBegins, radioFor_bus, streamFault_bus, faultEvent_bus]
  exact s.logFault_arisen _ _ _

theorem raise_arisen (s : State) (code unit cls : Nat) : s.bus.Arisen (s.raise code unit cls).bus := by
  have hlog := s.logFault_arisen code unit cls
  simp only [raise]
  split
  · refine hlog.trans ?_
    have hdrop := dropBegins_arisen ((((s.logFault code unit cls).2.faultEvent code unit cls).streamFault
      (s.logFault code unit cls).1).2)
    rwa [streamFault_bus, faultEvent_bus] at hdrop
  · rw [streamFault_bus, faultEvent_bus]
    exact hlog

theorem note_arisen (s : State) (code : Nat) : s.bus.Arisen (s.note code).bus := s.raise_arisen code _ _

/-- A fault noted and a cause latched: of the bus the cause is latched, and else as `Arisen` leaves it. -/
theorem note_alert_arisen (s : State) (code i : Nat) : ∃ r n, ((s.note code).alert i).bus =
    { s.bus with latched := s.bus.latched ||| 2 ^ i, released := r, notifying := n } ∧
      (s.bus.notifyFail = true → n = s.bus.notifying) := by
  obtain ⟨_, _, hnote, hn⟩ := s.note_arisen code
  obtain ⟨r, m, halert, hm⟩ := (s.note code).alert_arisen i
  refine ⟨r, m, ?_, fun hf => ?_⟩
  · rw [halert, hnote]
  · have hfail : (s.note code).bus.notifyFail = true := by rw [hnote]; exact hf
    have hwish : (s.note code).bus.notifying = s.bus.notifying := by rw [hnote]; exact hn hf
    exact (hm hfail).trans hwish

theorem Tells.mail {t : State} (h : s.Tells t) : t.mail = s.mail := by
  obtain ⟨_, _, _, _, _, _, _, rfl⟩ := h
  rfl

end State

end Sys2Proof.Machine
end

section
/-! PROOFS. Alerts, Host Notify and the bus lines (chapter 15). -/

namespace Sys2Proof.Machine

open Sys2Proof

section Rows

variable {s : State}

theorem up_host_of_answers (h : s.answers = true) : s.up .host = true := by
  simp only [State.answers, Bool.and_eq_true] at h
  exact h.1.1.1.1.2

theorem sclStuck_of_answers (h : s.answers = true) : s.bus.sclStuck = false := by
  simp only [State.answers, Bool.and_eq_true, Bool.not_eq_true'] at h
  exact h.1.1.2

theorem sdaStuck_of_answers (h : s.answers = true) : s.bus.sdaStuck = false := by
  simp only [State.answers, Bool.and_eq_true, Bool.not_eq_true'] at h
  exact h.1.2

theorem exec_alertCause (h : s.answers = true) (complete ack : Bool) : exec (.alertCause complete ack) s =
    .next (if complete then { (s.sendRead 0x50 [] (complete && ack) (bytesBE 4 s.causes)).notified with
      bus.latched := s.bus.latched &&& (0xFFFF ^^^ s.causes), bus.released := false, bus.notifyFail := false }
    else s.sendRead 0x50 [] (complete && ack) (bytesBE 4 s.causes)) :=
  congrArg Host.Outcome.next (State.busRead_accepted h 0x50 _)

theorem exec_alertResponse_of_win (h : s.answers = true) (hdriven : s.alertDriven = true) (ack : Bool) :
    exec (.alertResponse true ack) s = .next { s with bus := { s.bus with
      out := bytesBE 1 (2 * s.bus.addr) ++
        if ack then [pecOf (0x19 :: bytesBE 1 (2 * s.bus.addr))] else []
      released := true } } :=
  congrArg Host.Outcome.next (if_pos (by simp [h, hdriven]))

theorem exec_hostNotify_of_wish (h : s.answers = true) (hwish : s.bus.notifying = true)
    (hfirst : s.bus.notifyWait = false) (taken : Bool) :
    exec (.hostNotify taken) s = .next (State.notify s taken) :=
  congrArg Host.Outcome.next (if_pos (by simp [h, hwish, hfirst]))

theorem exec_hostNotifyRetry_of_wait (h : s.answers = true) (hwish : s.bus.notifying = true)
    (hwait : s.bus.notifyWait = true) (taken : Bool) :
    exec (.hostNotifyRetry taken) s = .next (State.notify s taken) :=
  congrArg Host.Outcome.next (if_pos (by simp [h, hwish, hwait]))

theorem State.notifyLost_of_few {out : List Byte} (h : s.bus.notifyTries + 1 < 8) :
    State.notifyLost (s.sendBytes out) = { s with bus := { s.bus with
      out := out, notifyTries := s.bus.notifyTries + 1, notifyWait := true } } := if_pos h

/-- A fault noted and a cause latched after a change of the bus: the rest of what they leave. -/
theorem noted_leaves (s : State) (y : Bus) (code i : Nat) :
    s.keeps ((({ s with bus := y } : State).note code).alert i) ∧
      ((({ s with bus := y } : State).note code).alert i).last = s.last ∧
      ((({ s with bus := y } : State).note code).alert i).mail = s.mail := by
  have htells := (State.note_tells { s with bus := y } code).trans (State.alert_tells _ i)
  exact ⟨htells.keeps_after rfl rfl rfl rfl rfl, htells.last, htells.mail⟩

theorem exec_hostNotifyRetry_of_last (h : s.answers = true) (hwish : s.bus.notifying = true)
    (hwait : s.bus.notifyWait = true) (htries : s.bus.notifyTries = 7) :
    exec (.hostNotifyRetry false) s = .next ((({ s with bus := { s.bus with
      out := State.notifyBytes s, notifying := false, notifyTries := 0, notifyWait := false, notifyFail := true
      evt := s.bus.evt ||| 8 } } : State).note 0x9106).alert 9) := by
  rw [exec_hostNotifyRetry_of_wait h hwish hwait]
  refine congrArg Host.Outcome.next (if_neg (?_ : ¬ s.bus.notifyTries + 1 < 8))
  omega

theorem exec_busstuck_scl (h : s.answers = true) : exec (.busstuck false) s = .next ((({ s with bus := { s.bus with
    sclStuck := true, evt := s.bus.evt ||| 1 } } : State).note 0x9101).alert 7) := by
  show Host.Outcome.next (ite _ s _) = _
  rw [if_neg (by simp [up_host_of_answers h, sclStuck_of_answers h])]
  rfl

theorem exec_busstuck_sda (h : s.answers = true) : exec (.busstuck true) s = .next ((({ s with bus := { s.bus with
    sdaStuck := true, evt := s.bus.evt ||| 2 } } : State).note 0x9102).alert 7) := by
  show Host.Outcome.next (ite _ s _) = _
  rw [if_neg (by simp [up_host_of_answers h, sdaStuck_of_answers h])]
  rfl

theorem exec_alertstuck_of_quiet (h : s.answers = true) (hfree : s.bus.alertStuck = false)
    (hquiet : s.alertDriven = false) : exec .alertstuck s = .next ((({ s with bus := { s.bus with
      alertStuck := true, evt := s.bus.evt ||| 4 } } : State).note 0x9103).alert 8) :=
  congrArg Host.Outcome.next (if_pos (by simp [up_host_of_answers h, hfree, hquiet]))

theorem testBit_or_two_pow (x i : Nat) : (x ||| 2 ^ i).testBit i = true := by
  simp [Nat.testBit_or]

end Rows

/-- Settles O54: each row by the bus that it answers; a fault noted in it changes no more of the bus than `Arisen`. -/
theorem alertAndLineRowsComplete : Obligations.AlertAndLineRowsComplete := by
  unfold Obligations.AlertAndLineRowsComplete
  intro s code refCount hans
  have hhost := up_host_of_answers hans
  refine ⟨?_, ?_, fun hdriven => ⟨?_, ?_⟩, fun hwish hfirst => ?_, fun hwish hfirst htries => ?_,
    fun hwish hwait => ?_, fun hwish hwait htries => ?_, fun hcauses => ?_, ?_, ?_, ?_, fun hfree hquiet => ?_,
    fun hdriven => ?_, rfl, fun y => rfl, fun y hsda hscl hwish htries => ⟨?_, fun hfew => ?_⟩, fun u hsleep => ?_,
    fun u hstretch => ?_⟩
  · exact exec_alertCause hans false true
  · exact exec_alertCause hans true false
  · exact exec_alertResponse_of_win hans hdriven false
  · exact exec_alertResponse_of_win hans hdriven true
  · rw [exec_hostNotify_of_wish hans hwish hfirst]
    rfl
  · rw [exec_hostNotify_of_wish hans hwish hfirst]
    exact congrArg Host.Outcome.next (State.notifyLost_of_few (by omega))
  · rw [exec_hostNotifyRetry_of_wait hans hwish hwait]
    rfl
  · refine ⟨_, exec_hostNotifyRetry_of_last hans hwish hwait htries, ?_, noted_leaves s _ 0x9106 9⟩
    obtain ⟨r, n, hbus, hn⟩ := State.note_alert_arisen { s with bus := { s.bus with
      out := State.notifyBytes s, notifying := false, notifyTries := 0, notifyWait := false, notifyFail := true
      evt := s.bus.evt ||| 8 } } 0x9106 9
    rw [hbus]
    exact ⟨rfl, hn rfl, rfl, rfl, testBit_or_two_pow _ 9⟩
  · exact ⟨_, congrArg Host.Outcome.next (if_pos (by rw [hhost]; exact bne_iff_ne.mpr hcauses)), rfl⟩
  · exact congrArg Host.Outcome.next (if_pos hhost)
  · refine ⟨_, exec_busstuck_scl hans, ?_, noted_leaves s _ 0x9101 7⟩
    obtain ⟨r, n, hbus, -⟩ := State.note_alert_arisen { s with bus := { s.bus with
      sclStuck := true, evt := s.bus.evt ||| 1 } } 0x9101 7
    rw [hbus]
    exact ⟨rfl, rfl, rfl, testBit_or_two_pow _ 7⟩
  · refine ⟨_, exec_busstuck_sda hans, ?_, noted_leaves s _ 0x9102 7⟩
    obtain ⟨r, n, hbus, -⟩ := State.note_alert_arisen { s with bus := { s.bus with
      sdaStuck := true, evt := s.bus.evt ||| 2 } } 0x9102 7
    rw [hbus]
    exact ⟨rfl, rfl, rfl, testBit_or_two_pow _ 7⟩
  · refine ⟨_, exec_alertstuck_of_quiet hans hfree hquiet, ?_, noted_leaves s _ 0x9103 8⟩
    obtain ⟨r, n, hbus, -⟩ := State.note_alert_arisen { s with bus := { s.bus with
      alertStuck := true, evt := s.bus.evt ||| 4 } } 0x9103 8
    rw [hbus]
    exact ⟨rfl, rfl, testBit_or_two_pow _ 8⟩
  · obtain ⟨r, n, hbus, -⟩ := s.note_arisen 0x9105
    have htells := s.note_tells 0x9105
    refine ⟨_, congrArg Host.Outcome.next (if_pos hdriven), ?_, htells.keeps, htells.last, htells.mail⟩
    rw [hbus]
    exact ⟨rfl, rfl⟩
  · exact congrArg Host.Outcome.next ((if_pos (by simp [hsda, hscl, hwish, htries])).trans (if_pos rfl))
  · refine congrArg Host.Outcome.next ((if_pos (by simp [hsda, hscl, hwish, htries])).trans ?_)
    exact if_neg (show y.recoverTries + 1 ≠ 3 by omega)
  · refine ⟨_, congrArg Host.Outcome.next (if_pos hsleep), ?_⟩
    generalize hv : State.setDom _ .host .powering = v
    obtain ⟨_, halert⟩ := v.alert_frame 4
    rw [State.wake, hv, halert, ← hv]
    exact ⟨rfl, rfl, Vector.getElem_set_self _, rfl, rfl, rfl⟩
  · refine ⟨_, congrArg Host.Outcome.next (if_pos hstretch), ?_⟩
    generalize hv : State.nack _ code.toNat nackWake phCommand = v
    have htells := v.note_tells 0x9104
    obtain ⟨r, n, hbus, -⟩ := v.note_arisen 0x9104
    rw [hbus, htells.mail, ← hv]
    refine ⟨rfl, rfl, congrArg (BitVec.ofNat 32) ?_, rfl⟩
    show nackWake + 256 * (code.toNat % 256) + 65536 * phCommand = 11 + 256 * code.toNat
    rw [Nat.mod_eq_of_lt code.isLt]
    exact Nat.add_zero _

end Sys2Proof.Machine
end

section
/-! PROOFS. What resets of the chains and of the hearth link, and moves of the Last between its sources, leave alone. -/

namespace Sys2Proof.Machine

open Sys2Proof

namespace State

variable {s t u : State}

/-! ### The radio side -/

/-- Nothing differs but the chains, the clocks, the hearth link, and what telling of them changes. -/
structure RadioSide (s t : State) : Prop where
  keeps : s.keeps t
  frame : ∃ r c h p k o q w f, t = { s with
    radio := r, clk := c, hearth := h, prog := p, tack := k, bus := o, port := q, welt := w, flt := f }

theorem RadioSide.refl (s : State) : s.RadioSide s := ⟨s.keeps_refl, _, _, _, _, _, _, _, _, _, rfl⟩

theorem RadioSide.trans (h : s.RadioSide t) (k : t.RadioSide u) : s.RadioSide u := by
  obtain ⟨hkeeps, _, _, _, _, _, _, _, _, _, rfl⟩ := h
  obtain ⟨kkeeps, _, _, _, _, _, _, _, _, _, rfl⟩ := k
  exact ⟨hkeeps.trans kkeeps, _, _, _, _, _, _, _, _, _, rfl⟩

/-- `trans`, told from the later step. -/
theorem RadioSide.after (k : t.RadioSide u) (h : s.RadioSide t) : s.RadioSide u := h.trans k

theorem Tells.radioSide (h : s.Tells t) : s.RadioSide t := by
  obtain ⟨hkeeps, _, _, _, _, _, _, rfl⟩ := h
  exact ⟨hkeeps, _, _, _, _, _, _, _, _, _, rfl⟩

theorem RadioSide.of_frame (h : ∃ r c h k o q w f, t = { s with
    radio := r, clk := c, hearth := h, tack := k, bus := o, port := q, welt := w, flt := f }) : s.RadioSide t := by
  obtain ⟨_, _, _, _, _, _, _, _, rfl⟩ := h
  exact ⟨keeps_of_prog rfl rfl rfl rfl rfl, _, _, _, _, _, _, _, _, _, rfl⟩

theorem foldl_radioSide {α : Type} {f : State → α → State} (hf : ∀ (s : State) a, s.RadioSide (f s a)) (l : List α)
    (s : State) : s.RadioSide (l.foldl f s) :=
  foldl_leaves f l .refl .trans hf s

section Leaves

variable (h : s.RadioSide t)

include h

theorem RadioSide.last : t.last = s.last := by obtain ⟨_, _, _, _, _, _, _, _, _, _, rfl⟩ := h; rfl

theorem RadioSide.store : t.store = s.store := by obtain ⟨_, _, _, _, _, _, _, _, _, _, rfl⟩ := h; rfl

theorem RadioSide.supply : t.supply = s.supply := by obtain ⟨_, _, _, _, _, _, _, _, _, _, rfl⟩ := h; rfl

theorem RadioSide.theSeal : t.theSeal = s.theSeal := by obtain ⟨_, _, _, _, _, _, _, _, _, _, rfl⟩ := h; rfl

theorem RadioSide.awl : t.awl = s.awl := by obtain ⟨_, _, _, _, _, _, _, _, _, _, rfl⟩ := h; rfl

theorem RadioSide.regs : t.regs = s.regs := by obtain ⟨_, _, _, _, _, _, _, _, _, _, rfl⟩ := h; rfl

theorem RadioSide.mail : t.mail = s.mail := by obtain ⟨_, _, _, _, _, _, _, _, _, _, rfl⟩ := h; rfl

end Leaves

theorem setChain_radioSide (s : State) (c : Nat) (x : Chain) : s.RadioSide (s.setChain c x) :=
  .of_frame ⟨_, _, _, _, _, _, _, _, rfl⟩

theorem setHr_radioSide (s : State) (m : ChainMode) (entry : Nat) : s.RadioSide (s.setHr m entry) :=
  .of_frame ⟨_, _, _, _, _, _, _, _, rfl⟩

theorem placeBubble_radioSide (s : State) (c : Nat) (kind : BubbleKind) (urgent : Bool) :
    s.RadioSide (s.placeBubble c kind urgent) :=
  (s.setChain_radioSide c _).trans (deliver_tells _ _ _).radioSide

theorem placeCals_radioSide (s : State) (c : Nat) : s.RadioSide (s.placeCals c) := by
  have hplace : ∀ (t : State) (p : Prop) [Decidable p] (urgent : Bool),
      t.RadioSide (if p then t.placeBubble c .synthcal urgent else t) := by
    intro t p _ urgent
    split
    · exact placeBubble_radioSide _ _ _ _
    · exact .refl t
  exact (hplace s _ true).trans (hplace _ _ false)

theorem hlEvent_tells (s : State) (code : Nat) (rest : List Byte) : s.Tells (s.hlEvent code rest) :=
  s.deliver_tells _ _

theorem frameLost_radioSide (s : State) (handle : Word) (cause : Nat) : s.RadioSide (s.frameLost handle cause) := by
  have hnote : ∀ (t : State) (p : Prop) [Decidable p] (code : Nat), t.RadioSide (if p then t.note code else t) := by
    intro t p _ code
    split
    · exact (note_tells t code).radioSide
    · exact .refl t
  simp only [frameLost]
  refine (hlEvent_tells _ _ _).radioSide.after ((hnote _ _ _).after ((hnote _ _ _).after ?_))
  exact .of_frame ⟨_, _, _, _, _, _, _, _, rfl⟩

theorem burstBGone_radioSide (s : State) (f : HFrame) : s.RadioSide (s.burstBGone f) := by
  simp only [burstBGone]
  split
  · exact frameLost_radioSide _ _ _
  · exact .of_frame ⟨_, _, _, _, _, _, _, _, rfl⟩

theorem cancelBs_radioSide (s : State) : s.RadioSide s.cancelBs := by
  simp only [cancelBs]
  refine (foldl_radioSide (fun s b => s.burstBGone_radioSide _) _ _).after ?_
  exact .of_frame ⟨_, _, _, _, _, _, _, _, rfl⟩

theorem dropUnbegun_radioSide (s : State) : s.RadioSide s.dropUnbegun := by
  simp only [dropUnbegun]
  split
  · split
    · exact .refl s
    · split
      · split
        · refine (burstBGone_radioSide _ _).after ?_
          exact .of_frame ⟨_, _, _, _, _, _, _, _, rfl⟩
        · exact .of_frame ⟨_, _, _, _, _, _, _, _, rfl⟩
      · exact .of_frame ⟨_, _, _, _, _, _, _, _, rfl⟩
  · exact .refl s

theorem abandonBurst_radioSide (s : State) : s.RadioSide s.abandonBurst := by
  refine s.dropUnbegun_radioSide.trans ?_
  simp only [abandonBurst]
  split <;> exact .of_frame ⟨_, _, _, _, _, _, _, _, rfl⟩

theorem hearthReset_radioSide (s : State) : s.RadioSide s.hearthReset :=
  s.abandonBurst_radioSide.trans (cancelBs_radioSide _)

theorem abortChain_radioSide (s : State) (c reason : Nat) : s.RadioSide (s.abortChain c reason) := by
  simp only [abortChain]
  have hreqs : ∀ t : State, t.RadioSide (if c = 2 then { t with
      hearth.reqs := [], hearth.startId := 0
      hearth.stopping := t.hearth.stopping.filter fun id => id == 0 } else t) := by
    intro t
    split
    · exact .of_frame ⟨_, _, _, _, _, _, _, _, rfl⟩
    · exact .refl t
  have hsweep : ∀ t : State, t.RadioSide (match t.clk.sweep with
      | some w => if w.mask.testBit c then { t with clk.sweep := none } else t
      | none => t) := by
    intro t
    split
    · split
      · exact .of_frame ⟨_, _, _, _, _, _, _, _, rfl⟩
      · exact .refl t
    · exact .refl t
  exact (abortAll_tells _ _).radioSide.after ((hreqs _).after ((hsweep _).after (s.setChain_radioSide c _)))

theorem endBubbles_radioSide (s : State) (c : Nat) : s.RadioSide (s.endBubbles c) := by
  simp only [endBubbles]
  generalize hu : List.foldl _ _ _ = u
  have hdone : s.RadioSide u := by
    subst hu
    exact (foldl_tells (fun s b => s.deliver_tells _ _) _ _).radioSide.after (s.setChain_radioSide c _)
  split
  · exact hdone
  · exact hdone.trans (u.placeCals_radioSide c)

theorem resetChain_radioSide (s : State) (c : Nat) (failed : Option Nat) : s.RadioSide (s.resetChain c failed) := by
  have hsleep : s.RadioSide (if c = 2 then s.setHr .sleep 0 else s.setChain c { s.chain c with mode := .sleep }) := by
    split
    · exact s.setHr_radioSide _ _
    · exact s.setChain_radioSide _ _
  have htell : ∀ t : State, t.RadioSide (match failed with
      | some code => t.radioEvent 0x0312 (bytesBE 1 c ++ bytesBE 2 code) []
      | none => t) := by
    intro t
    split
    · exact (t.deliver_tells _ _).radioSide
    · exact .refl t
  have hlink : ∀ t : State, t.RadioSide (if c = 2 then t.hearthReset else t) := by
    intro t
    split
    · exact t.hearthReset_radioSide
    · exact .refl t
  simp only [resetChain]
  refine RadioSide.after (.of_frame ⟨_, _, _, _, _, _, _, _, rfl⟩) ((hlink _).after ((endBubbles_radioSide _ c).after
    ((htell _).after ((abortChain_radioSide _ c _).after ((setChain_radioSide _ c _).after hsleep)))))

/-! ### Moves between sources -/

/-- Nothing differs but the Last, its PP standing, and what telling of it changes. -/
structure Moves (s t : State) : Prop where
  keeps : s.keeps t
  pp : t.last.pp = s.last.pp
  frame : ∃ l p k o q w f, t = { s with last := l, prog := p, tack := k, bus := o, port := q, welt := w, flt := f }

theorem Moves.refl (s : State) : s.Moves s := ⟨s.keeps_refl, rfl, _, _, _, _, _, _, _, rfl⟩

theorem Moves.trans (h : s.Moves t) (k : t.Moves u) : s.Moves u := by
  obtain ⟨hkeeps, hpp, _, _, _, _, _, _, _, rfl⟩ := h
  obtain ⟨kkeeps, kpp, _, _, _, _, _, _, _, rfl⟩ := k
  exact ⟨hkeeps.trans kkeeps, kpp.trans hpp, _, _, _, _, _, _, _, rfl⟩

theorem Moves.after (k : t.Moves u) (h : s.Moves t) : s.Moves u := h.trans k

theorem Tells.moves (h : s.Tells t) : s.Moves t := by
  obtain ⟨hkeeps, _, _, _, _, _, _, rfl⟩ := h
  exact ⟨hkeeps, rfl, _, _, _, _, _, _, _, rfl⟩

theorem Moves.of_last {l : Last} (h : l.pp = s.last.pp) : s.Moves { s with last := l } :=
  ⟨keeps_of_prog rfl rfl rfl rfl rfl, h, _, _, _, _, _, _, _, rfl⟩

section Leaves

variable (h : s.Moves t)

include h

theorem Moves.hearth : t.hearth = s.hearth := by obtain ⟨_, _, _, _, _, _, _, _, _, rfl⟩ := h; rfl

theorem Moves.store : t.store = s.store := by obtain ⟨_, _, _, _, _, _, _, _, _, rfl⟩ := h; rfl

theorem Moves.supply : t.supply = s.supply := by obtain ⟨_, _, _, _, _, _, _, _, _, rfl⟩ := h; rfl

end Leaves

theorem lastEvt_moves (s : State) (bits : Nat) : s.Moves (s.lastEvt bits) := by
  simp only [lastEvt]
  exact (alert_tells _ 6).moves.after (.of_last rfl)

theorem moveTo_moves (s : State) (x : Source) : s.Moves (s.moveTo x) := by
  simp only [moveTo]
  split
  · exact .refl s
  · split
    · refine (lastLoss_tells _ _ _ _).moves.after ((note_tells _ _).moves.after ((lastEvt_moves _ _).after ?_))
      exact .of_last rfl
    · split
      · refine (lastLoss_tells _ _ _ _).moves.after ?_
        exact .of_last rfl
      · exact .of_last rfl

theorem watchSource_moves (s : State) : s.Moves s.watchSource := by
  simp only [watchSource]
  split
  · exact .refl s
  · exact s.moveTo_moves _

end State

end Sys2Proof.Machine
end

section
/-! PROOFS. A raised fault leaves the audio ports: its stream packet is not theirs. -/

namespace Sys2Proof.Machine

open Sys2Proof

namespace State

theorem losePacket_aud (s : State) (m : Bool) (pos : Pos) (len : Nat) :
    (s.losePacket m pos len).2.port.aud = s.port.aud := by
  simp only [losePacket]
  split
  · rw [voidFrom_port]
  · rfl

theorem tryPacket_aud (s : State) (ty sub : Nat) (pos : Pos) (xs : List Byte) :
    (s.tryPacket ty sub pos xs).2.port.aud = s.port.aud := by
  simp only [tryPacket]
  split
  · split <;> rfl
  · exact losePacket_aud s _ _ _

@[simp] theorem streamFault_aud (s : State) (e : FaultEntry) : (s.streamFault e).2.port.aud = s.port.aud := by
  simp only [streamFault]
  split
  · exact tryPacket_aud s _ _ _ _
  · rfl

@[simp] theorem dropBegins_aud (s : State) : s.dropBegins.port.aud = s.port.aud := by
  simp [dropBegins]

@[simp] theorem raise_aud (s : State) (code unit cls : Nat) : (s.raise code unit cls).port.aud = s.port.aud := by
  simp only [raise]
  split <;> simp

@[simp] theorem note_aud (s : State) (code : Nat) : (s.note code).port.aud = s.port.aud := s.raise_aud code _ _

theorem packet_aud (s : State) (ty sub : Nat) (pos : Pos) (xs : List Byte) :
    (s.packet ty sub pos xs).port.aud = s.port.aud := by
  simp only [packet]
  split <;> simp [tryPacket_aud]

end State

end Sys2Proof.Machine
end

section
/-! PROOFS. The register rows of the host side, the store, the domains, the ports and the welt link. -/

namespace Sys2Proof.Machine

open Sys2Proof

section Rows

variable {s : State} {v : Word} {a : Nat}

/-! ### What an accepted write comes to -/

/-- A write of a read-write register, past the gate. -/
theorem busRegWrite_rw {l : RegLine} (h : s.answers = true) (hline : regLine a = some l) (hrw : l.access = .rw)
    (hup : s.supply.dom[(regDomain a).ctorIdx]? = some .up) (hbusy : a < 0xF00 ∨ s.keeperBusy = false) :
    s.busRegWrite a v .good = s.writeRw l a v := by
  rw [State.busRegWrite_of_up h hline hup hbusy]
  simp only [State.regWrite, hline, hrw]

/-- A write of a write-only register that the host may always write, past the gate. -/
theorem busRegWrite_wo {l : RegLine} (h : s.answers = true) (hline : regLine a = some l) (hwo : l.access = .wo)
    (hfree : l.owned = false) (hup : s.supply.dom[(regDomain a).ctorIdx]? = some .up)
    (hbusy : a < 0xF00 ∨ s.keeperBusy = false) : s.busRegWrite a v .good = s.regEffect a v := by
  rw [State.busRegWrite_of_up h hline hup hbusy]
  simp only [State.regWrite, hline, hwo, hfree, Bool.false_eq_true, if_false]

theorem dom_host_of_answers (h : s.answers = true) : s.supply.dom[Domain.host.ctorIdx]? = some .up := by
  have hup := up_host_of_answers h
  simpa [State.up] using hup

theorem dom_keeper (h : s.supply.dom[1] = .up) : s.supply.dom[Domain.keeper.ctorIdx]? = some .up := by
  rw [← h]; rfl

theorem dom_bench (h : s.supply.dom[2] = .up) : s.supply.dom[Domain.bench.ctorIdx]? = some .up := by
  rw [← h]; rfl

/-! ### The host side -/

theorem exec_hostreset_of_bit (h : s.answers = true) (hbit : v.bit 0 = true) :
    exec (.hostreset v .good) s = .next (s.setReg 0x300 (v &&& 0x00FFFF00#32)).hostRestart := by
  refine congrArg Host.Outcome.next ((busRegWrite_rw h (by decide :
    regLine 0x300 = some ⟨0x300, 0x300, .rw, false, false, 0x00FFFF00#32, 1#32⟩) rfl (dom_host_of_answers h)
    (.inl (by decide))).trans ?_)
  exact if_pos hbit

theorem exec_eyeMaskWrite_plain (h : s.answers = true) {e : Fin 7} (he : e = 0 ∨ e = 6) :
    exec (.eyeMaskWrite e v .good) s = .next (s.writeEyeMask e.val v) := by
  obtain rfl | rfl := he
  · exact congrArg Host.Outcome.next (busRegWrite_rw (a := 0x328) h (by decide :
      regLine 0x328 = some (rwLine 0x328 0x328 0xFFFFFFFF#32)) rfl (dom_host_of_answers h) (.inl (by decide)))
  · exact congrArg Host.Outcome.next (busRegWrite_rw (a := 0x32E) h (by decide :
      regLine 0x32E = some (rwLine 0x32E 0x32E 0#32)) rfl (dom_host_of_answers h) (.inl (by decide)))

theorem writeRw_benchMask (hup : s.supply.dom[2] = .up) {e : Fin 7} (h1 : 1 ≤ e.val) (h5 : e.val ≤ 5) :
    s.writeRw (cfgLine 0x329 0x32D 0xFFFFFFFF#32) (0x328 + e.val) v = s.queueWrite (0x328 + e.val) v := by
  have hedge : ∀ a, s.atEdge a v = s.queueWrite a v := fun a => if_pos (State.up_bench_iff.mpr hup)
  obtain ⟨i, hi⟩ := e
  interval_cases i <;> exact hedge _

theorem exec_eyeMaskWrite_bench (h : s.answers = true) (hup : s.supply.dom[2] = .up) {e : Fin 7} (h1 : 1 ≤ e.val)
    (h5 : e.val ≤ 5) : exec (.eyeMaskWrite e v .good) s = .next (s.queueWrite (0x328 + e.val) v) := by
  have hline : ∀ e : Fin 7, 1 ≤ e.val → e.val ≤ 5 →
      regLine (0x328 + e.val) = some (cfgLine 0x329 0x32D 0xFFFFFFFF#32) := by decide
  have hdom : ∀ e : Fin 7, regDomain (0x328 + e.val) = .host := by decide
  refine congrArg Host.Outcome.next ((busRegWrite_rw h (hline e h1 h5) rfl ?_ (.inl (by omega))).trans
    (writeRw_benchMask hup h1 h5))
  rw [hdom e]
  exact dom_host_of_answers h

theorem markSlots_get (m : Vector (Option Msg) 16) (stale : Bool) (p : Nat → Msg → Bool) (i : Fin 16) :
    (markSlots m stale p).2.get i = (m.get i).map fun x => if p i x then
      (if stale then { x with stale := true } else { x with orphan := true }) else x := by
  simp only [markSlots, Vector.get_ofFn]
  cases m.get i with
  | none => rfl
  | some x => cases hp : p i x <;> simp [hp]

theorem flagEyelets_mail (s : State) (e : Nat) : (s.flagEyelets e).mail.outb = s.mail.outb ∧
    (s.flagEyelets e).mail.inb = s.mail.inb ∧ (s.flagEyelets e).mail.rung = s.mail.rung ∧
    (s.flagEyelets e).theSeal = s.theSeal := by
  simp only [State.flagEyelets]
  split <;> exact ⟨rfl, rfl, rfl, rfl⟩

theorem markOut_mail (s : State) (stale : Bool) (p : Nat → Msg → Bool) :
    (s.markOut stale p).mail.outb = (markSlots s.mail.outb stale p).2 ∧ (s.markOut stale p).mail.inb = s.mail.inb ∧
      (s.markOut stale p).mail.rung = s.mail.rung ∧ (s.markOut stale p).theSeal = s.theSeal := by
  simp only [State.markOut, and_self]

theorem markIn_mail (s : State) (stale : Bool) (p : Nat → Msg → Bool) :
    (s.markIn stale p).mail.inb = (markSlots s.mail.inb stale p).2 ∧ (s.markIn stale p).mail.outb = s.mail.outb ∧
      (s.markIn stale p).mail.rung = s.mail.rung ∧ (s.markIn stale p).theSeal = s.theSeal := by
  simp only [State.markIn, and_self]

/-- Before bench 4's slots HOSTRESET marks what the host had not read STALE and what it had posted ORPHAN (R677). -/
theorem hostRestart_mail (s : State) :
    s.hostRestart.mail.outb = (markSlots s.mail.outb true fun i _ => decide (i < 12)).2 ∧
    s.hostRestart.mail.inb = (markSlots s.mail.inb false fun i _ => decide (i < 12)).2 ∧
    s.hostRestart.mail.rung = s.mail.rung ∧ s.hostRestart.theSeal = s.theSeal := by
  rw [State.hostRestart]
  obtain ⟨hout, hin, hrung, hseal⟩ := markOut_mail s true fun i _ => decide (i < 12)
  generalize s.markOut true _ = t at *
  obtain ⟨kin, kout, krung, kseal⟩ := markIn_mail t false fun i _ => decide (i < 12)
  generalize t.markIn false _ = u at *
  obtain ⟨lout, lin, lrung, lseal⟩ := flagEyelets_mail u 0
  refine ⟨by rw [lout, kout, hout], by rw [lin, kin, hin], by rw [lrung, krung, hrung], by rw [lseal, kseal, hseal]⟩

theorem writeEyeMask_zero (s : State) (v : Word) :
    s.writeEyeMask 0 v = { s with
      mail := { s.mail with mask := vset s.mail.mask 0 v }, bus := (s.writeEyeMask 0 v).bus } := by
  rw [State.writeEyeMask, if_neg (by decide)]
  dsimp only
  rw [if_pos rfl]
  split
  · obtain ⟨_, h⟩ := State.arise_frame { s with mail.mask := vset s.mail.mask 0 v } 1
    rw [h]
  · rfl

/-! ### The store and the Awl -/

theorem exec_storeBootWrite_of_energy (h : s.answers = true) (hup : s.supply.dom[1] = .up)
    (hbusy : s.keeperBusy = false) (hop : s.store.op = none) (henergy : 80 ≤ s.energy) :
    exec (.storeBootWrite v .good) s =
      .next { s with store := { s.store with need := 40, op := some (.boot (v.toNat % 4)) } } := by
  refine congrArg Host.Outcome.next ((busRegWrite_rw (a := 0xF05) h (by decide :
    regLine 0xF05 = some (rwLine 0xF05 0xF05 3#32)) rfl (dom_keeper hup) (.inr hbusy)).trans ?_)
  show s.writeBoot v = _
  rw [State.writeBoot, if_neg (by simp [hop]), State.startOp_of_energy (op := .boot (v.bits 1 0)) henergy]
  rfl

theorem exec_ivkProgram_of_energy (h : s.answers = true) (hup : s.supply.dom[1] = .up)
    (hbusy : s.keeperBusy = false) (hhold : s.supply.power = .hold) (hivk : s.store.ivk = none)
    (hop : s.store.op = none) (henergy : 440 ≤ s.energy) : exec (.ivkProgram 0x1A7C .good) s =
      .next { s with store := { s.store with need := 400, op := some .ivk } } := by
  refine congrArg Host.Outcome.next ((busRegWrite_wo (a := 0xF30) h (by decide :
    regLine 0xF30 = some (plainLine 0xF30 0xF30 .wo)) rfl rfl (dom_keeper hup) (.inr hbusy)).trans ?_)
  rw [State.regEffect, if_neg (by decide)]
  show s.storeCommand 0x1A7C#32 = _
  rw [State.storeCommand, if_neg (by simp [hop, hhold, hivk]), State.startOp_of_energy (op := .ivk) henergy]
  rfl

theorem exec_awlStart_of_bit (h : s.answers = true) (hup : s.supply.dom[1] = .up) (hbusy : s.keeperBusy = false)
    (hbit : v.bit 0 = true) : exec (.awlStart v .good) s = .next (s.startAwl (s.reg 0xF11).toNat none) := by
  refine congrArg Host.Outcome.next ((busRegWrite_wo (a := 0xF10) h (by decide :
    regLine 0xF10 = some (plainLine 0xF10 0xF10 .wo)) rfl rfl (dom_keeper hup) (.inr hbusy)).trans ?_)
  exact if_pos hbit

theorem startAwl_leaves (hidle : s.awl.running = false) (mask : Nat) :
    (s.startAwl mask none).awl = { s.awl with
      running := true, powerUp := false, mask := mask &&& s.awlRuns, req := none
      defer := ((mask &&& awlAll) &&& (awlAll ^^^ (mask &&& s.awlRuns))) ||| (mask &&& s.awlRuns &&& s.awlPart) } ∧
      (s.startAwl mask none).theSeal = s.theSeal := by
  simp only [State.startAwl, hidle, Bool.false_eq_true, if_false]
  generalize hu : List.foldl _ _ _ = u
  have hside := hu ▸ State.foldl_radioSide (fun s i => s.placeBubble_radioSide (i - 11) .gaincal false) _ _
  exact ⟨hside.awl, hside.theSeal⟩

/-! ### The domains -/

theorem exec_domctrlWrite_of_up (h : s.answers = true) : exec (.domctrlWrite v .good) s = .next (s.writeDomCtrl v) :=
  congrArg Host.Outcome.next (busRegWrite_rw (a := 0x003) h (by decide :
    regLine 0x003 = some (rwLine 0x003 0x003 0x3#32)) rfl (dom_host_of_answers h) (.inl (by decide)))

/-- The removal of HEARTH takes the link with it and leaves the store and the other domains (R32). -/
theorem lowerHearth_leaves (s : State) : s.lowerHearth.hearth = Hearth.init ∧ s.lowerHearth.store = s.store ∧
    s.lowerHearth.supply.dom = s.supply.dom.set 4 .down := by
  simp only [State.lowerHearth]
  have hreset : s.RadioSide (if s.up .hearth then { s.resetChain 2 none with
      tack.failHearth := satAdd 255 (s.resetChain 2 none).tack.failHearth (s.resetChain 2 none).hearth.queue.length }
      else s) := by
    split
    · exact (s.resetChain_radioSide 2 none).trans (.of_frame ⟨_, _, _, _, _, _, _, _, rfl⟩)
    · exact .refl s
  generalize (if s.up .hearth then _ else s) = u at *
  have hmoves := State.watchSource_moves
  refine ⟨(hmoves _).hearth, (hmoves _).store.trans hreset.store, ?_⟩
  rw [(hmoves _).supply]
  exact (congrArg (fun w : Supply => vset w.dom 4 .down) hreset.supply).trans rfl

/-! ### The ports -/

theorem exec_strmCapWrite_of_up (h : s.answers = true) :
    exec (.strmCapWrite v .good) s = .next (s.writeCapture (v &&& 0x00FFFFFF#32)) :=
  congrArg Host.Outcome.next (busRegWrite_rw (a := 0x3C1) h (by decide :
    regLine 0x3C1 = some (rwLine 0x3C1 0x3C1 0x00FFFFFF#32)) rfl (dom_host_of_answers h) (.inl (by decide)))

theorem exec_audCtrlWrite_of_up (h : s.answers = true) (p : Fin 2) (sub : Nat) :
    exec (.audCtrlWrite p sub v .good) s = .next (s.writeAudCtrl p sub (v &&& 0x007F7F7F#32)) := by
  have hline : ∀ p : Fin 2, (regLine (0x3C8 + 4 * p.val)).isSome = true := by decide
  have hdom : ∀ p : Fin 2, regDomain (0x3C8 + 4 * p.val) = .host := by decide
  obtain ⟨l, hl⟩ := Option.isSome_iff_exists.mp (hline p)
  have hopen : s.writeRefusal (0x3C8 + 4 * p.val) = none :=
    State.writeRefusal_of_up hl (by rw [hdom p]; exact dom_host_of_answers h) (.inl (by omega))
  refine congrArg Host.Outcome.next ?_
  rw [hopen]
  exact State.busWrite_accepted h _ _ _ _

theorem audio_setAudio_self (s : State) (p : Fin 2) (x : Audio) : (s.setAudio p x).audio p = x := vget_vset_self p.isLt

theorem audOn_setReg (hwf : regsWf s.regs = true) (p : Fin 2) :
    (s.setReg (0x3C8 + 4 * p.val) v).audOn p = v.bit 6 :=
  congrArg (fun w : Word => w.bit 6) (State.reg_setReg_self hwf)

theorem masked_bit_six : (v &&& 0x007F7F7F#32).bit 6 = v.bit 6 := by
  simp [Word.bit]

/-- A port's markers dropped. -/
theorem dropMarkers_audio (s : State) (p : Fin 2) :
    (s.dropMarkers p).audio p = { s.audio p with markers := [] } := audio_setAudio_self s p _

theorem masked_blocks (v : Word) : (v &&& 0x00FFFFFF#32).bits 23 8 = v.toNat / 256 % 65536 := by
  have hmask : (v &&& 0x00FFFFFF#32).toNat = v.toNat % 2 ^ 24 := by
    rw [BitVec.toNat_and]
    exact Nat.and_two_pow_sub_one_eq_mod v.toNat 24
  simp only [Word.bits, hmask]
  omega

/-- A port switched off is let go of, its markers dropped. -/
theorem writeAudCtrl_off (hwf : regsWf s.regs = true) {p : Fin 2} (sub : Nat) (hoff : v.bit 6 = false) :
    s.writeAudCtrl p sub v = ((s.setReg (0x3C8 + 4 * p.val) v).setAudio p { s.audio p with
      rem := 0, lock := false, muted := false }).dropMarkers p := by
  simp only [State.writeAudCtrl]
  rw [if_pos (by rw [audOn_setReg hwf, hoff]; rfl)]
  rfl

/-- A port switched on that is not mute locks and realigns. -/
theorem writeAudCtrl_on (hwf : regsWf s.regs = true) {p : Fin 2} (sub : Nat) (hon : v.bit 6 = true)
    (hmuted : (s.audio p).muted = false) : s.writeAudCtrl p sub v = ((s.setReg (0x3C8 + 4 * p.val) v).setAudio p
      { s.audio p with
        rem := 0, lock := true, muted := false
        slave := if (s.setReg (0x3C8 + 4 * p.val) v).audSlaved p then (s.audio p).slave else 0 }).realign p sub
          true := by
  have hmute : (s.setReg (0x3C8 + 4 * p.val) v).audio p = s.audio p := rfl
  simp only [State.writeAudCtrl]
  rw [if_neg (by rw [audOn_setReg hwf, hon]; decide)]
  simp only [hmute, hmuted, Bool.false_and, Bool.not_false, Bool.false_eq_true, if_false]

/-- A realignment tells of itself and sets the port's shift and fade. -/
theorem realign_tells (s : State) (p : Fin 2) (sub : Nat) (loud : Bool) : State.Tells
    (s.setAudio p { s.audio p with
      fading := 2 * s.fadeFrames p + 1, shift := (s.wantedStamp p sub : Int) - (s.audio p).read })
    (s.realign p sub loud) := by
  have hnote : ∀ (t : State) (q : Prop) [Decidable q] (code : Nat), t.Tells (if q then t.note code else t) := by
    intro t q _ code
    split
    · exact t.note_tells code
    · exact .refl t
  have hlate : ∀ (t : State) (q : Prop) [Decidable q], t.Tells (if q then t else t.note 0x9304) := by
    intro t q _
    split
    · exact .refl t
    · exact t.note_tells 0x9304
  simp only [State.realign]
  exact (((State.radioFor_tells _ _ _ _).trans (hnote _ _ _)).trans (hlate _ _))

theorem realign_audio (s : State) (p : Fin 2) (sub : Nat) (loud : Bool) : (s.realign p sub loud).audio p =
    { s.audio p with
      fading := 2 * s.fadeFrames p + 1, shift := (s.wantedStamp p sub : Int) - (s.audio p).read } := by
  have hnote : ∀ (t : State) (q : Prop) [Decidable q] (code : Nat),
      (if q then t.note code else t).port.aud = t.port.aud := by
    intro t q _ code
    split <;> simp
  have hlate : ∀ (t : State) (q : Prop) [Decidable q], (if q then t else t.note 0x9304).port.aud = t.port.aud := by
    intro t q _
    split <;> simp
  simp only [State.realign, State.audio, hnote, hlate, State.radioFor_port]
  exact audio_setAudio_self s p _

/-! ### The welt link -/

theorem exec_welt_of_up (h : s.answers = true) (hup : s.supply.dom[2] = .up) :
    exec (.weltAdopt v .good) s = .next (s.writeWelt v) ∧ exec (.weltYield v .good) s = .next (s.writeWelt v) := by
  have hwrite : s.busRegWrite 0xE00 v .good = s.writeWelt v := busRegWrite_rw (a := 0xE00) h (by decide :
    regLine 0xE00 = some ⟨0xE00, 0xE00, .rw, false, false, 0xFF#32, 0x300#32⟩) rfl (dom_bench hup) (.inl (by decide))
  exact ⟨congrArg Host.Outcome.next hwrite, congrArg Host.Outcome.next hwrite⟩

/-- An adoption asked for changes the link alone, and not the role. -/
theorem askAdopt_leaves (s : State) : s.askAdopt = { s with welt := s.askAdopt.welt } ∧
    s.askAdopt.welt.role = s.welt.role ∧ s.askAdopt.welt.adopting = true ∧ s.askAdopt.welt.inSync = false := by
  rw [State.askAdopt]
  dsimp only
  split <;> exact ⟨rfl, rfl, rfl, rfl⟩

/-- With EN as it was, WELT_CTRL takes its two commands alone. -/
theorem writeWelt_of_stay (hen : v.bit 0 = (s.reg 0xE00).bit 0) : s.writeWelt v =
    let t := if v.bit 8 && s.welt.role == .standby then (s.setReg 0xE00 (v &&& 0xFF#32)).askAdopt
      else s.setReg 0xE00 (v &&& 0xFF#32)
    if v.bit 9 && t.welt.role == .active && t.welt.up && t.welt.partner == .standby then
      { t with welt.yielding := true } else t := by
  have hand : ∀ b : Bool, (b && !b) = false ∧ (!b && b) = false := by decide
  have hoff : ((s.reg 0xE00).bit 0 && !v.bit 0) = false := hen ▸ (hand _).1
  have hon : (!(s.reg 0xE00).bit 0 && v.bit 0) = false := hen ▸ (hand _).2
  simp only [State.writeWelt, hoff, hon, Bool.false_and, Bool.false_eq_true, if_false]
  rfl

/-! ### The domains written while the device runs -/

theorem raiseHearth_dom (h3 : s.supply.dom[3] = .up) :
    (s.setDom .hearth .powering).supply.dom[4] = .powering ∧ (s.setDom .hearth .powering).supply.dom[3] = .up := by
  have hset : (s.setDom .hearth .powering).supply.dom = s.supply.dom.set 4 .powering := rfl
  simp only [hset, Vector.getElem_set]
  exact ⟨rfl, h3⟩

theorem writeDomCtrl_run (hrun : s.supply.power = .run) (h3 : s.supply.dom[3] = .up) (hbroad : v.bit 0 = true) :
    s.writeDomCtrl v = if v.bit 1 = false then (if s.supply.dom[4] = .down then s.setReg 0x003 (v &&& 3#32)
      else (s.setReg 0x003 (v &&& 3#32)).lowerHearth)
    else if s.supply.dom[4] = .down then (s.setReg 0x003 (v &&& 3#32)).setDom .hearth .powering
    else s.setReg 0x003 (v &&& 3#32) := by
  have h3' : (s.setReg 0x003 (v &&& 3#32)).supply.dom[3] = .up := h3
  have hlow : (s.setReg 0x003 (v &&& 3#32)).lowerHearth.supply.dom[3] = .up := by
    simp only [(lowerHearth_leaves _).2.2, Vector.getElem_set]
    exact h3
  have hraise := raiseHearth_dom (s := s.setReg 0x003 (v &&& 3#32)) h3
  rw [State.writeDomCtrl]
  dsimp only
  rw [if_neg (by simp [hrun]), hbroad]
  cases v.bit 1
  · simp only [Bool.not_false, if_true, Bool.not_true, Bool.false_eq_true, if_false]
    by_cases h : s.supply.dom[4] = .down
    · simp [h, h3]
    · simp [h, hlow]
  · simp only [Bool.not_true, Bool.false_eq_true, if_false]
    by_cases h : s.supply.dom[4] = .down
    · simp [h, hraise.2]
    · simp [h, h3]

end Rows

/-- Settles O46. -/
theorem hostRegisterRowsComplete : Obligations.HostRegisterRowsComplete := by
  unfold Obligations.HostRegisterRowsComplete
  intro s v e p sub hans hkeeper hbench hfree hwf
  have hregs := State.tablesWf_regs hwf
  refine ⟨fun hbit => ?_, fun he => ?_, fun h1 h5 => ?_, fun he => ?_, fun hop henergy => ?_,
    fun hhold hivk hop henergy => ?_, fun hbit hidle => ?_, fun hrun hmoving hbroad h0 h1 hhearth => ?_,
    fun hrun hmoving hbroad h0 h1 hhearth => ?_, fun hrun => ?_, ?_, fun hoff => ?_, fun hon hmuted => ?_,
    fun hen hadopt hrole => ?_, fun hen hyield hrole hup hpartner => ?_⟩
  · refine ⟨_, exec_hostreset_of_bit hans hbit, ?_⟩
    obtain ⟨hout, hin, hrung, hseal⟩ := hostRestart_mail (s.setReg 0x300 (v &&& 0x00FFFF00#32))
    rw [hout, hin]
    refine ⟨fun i hi => ?_, fun i hi => ?_, hrung, hseal⟩
    · simp [markSlots_get, hi, Option.all_eq_true]
    · simp [markSlots_get, Nat.not_lt.mpr hi]
  · subst he
    have hmask : (s.writeEyeMask 0 v).mail.mask = vset s.mail.mask 0 v := congrArg (fun t => t.mail.mask)
      (writeEyeMask_zero s v)
    refine ⟨s.writeEyeMask 0 v, exec_eyeMaskWrite_plain hans (.inl rfl), ?_, ?_, fun i hi => ?_⟩
    · rw [hmask]
      exact writeEyeMask_zero s v
    · rw [hmask]
      exact vget_vset_self (by decide)
    · rw [hmask]
      exact vget_vset_ne hi
  · exact exec_eyeMaskWrite_bench hans hbench h1 h5
  · rw [exec_eyeMaskWrite_plain hans (.inr he), he]
    rfl
  · exact exec_storeBootWrite_of_energy hans hkeeper hfree hop henergy
  · exact exec_ivkProgram_of_energy hans hkeeper hfree hhold hivk hop henergy
  · obtain ⟨hawl, hseal⟩ := startAwl_leaves hidle (s.reg 0xF11).toNat
    refine ⟨_, exec_awlStart_of_bit hans hkeeper hfree hbit, ?_⟩
    rw [hawl]
    exact ⟨rfl, rfl, rfl, rfl, rfl, hseal⟩
  · refine ⟨_, exec_domctrlWrite_of_up hans, ?_⟩
    rw [writeDomCtrl_run hrun hbroad h0, if_pos h1, if_neg hhearth]
    obtain ⟨hinit, hstore, hdom⟩ := lowerHearth_leaves (s.setReg 0x003 (v &&& 3#32))
    refine ⟨?_, ?_, ?_, hinit, hstore⟩ <;> simp only [hdom, Vector.getElem_set]
    · rfl
    · exact hbroad
    · exact hbench
  · refine ⟨_, exec_domctrlWrite_of_up hans, ?_⟩
    rw [writeDomCtrl_run hrun hbroad h0, if_neg (by simp [h1]), if_pos hhearth]
    exact ⟨rfl, raiseHearth_dom hbroad⟩
  · refine ⟨_, exec_domctrlWrite_of_up hans, ?_⟩
    have hstay : s.writeDomCtrl v = s.setReg 0x003 (v &&& 3#32) := if_pos hrun
    rw [hstay]
    exact ⟨rfl, State.reg_setReg_self hregs⟩
  · refine ⟨_, exec_strmCapWrite_of_up hans, rfl, State.reg_setReg_self hregs, ?_, rfl⟩
    show (v &&& 0x00FFFFFF#32).bits 23 8 = _
    exact masked_blocks v
  · refine ⟨_, exec_audCtrlWrite_of_up hans p sub, ?_⟩
    rw [writeAudCtrl_off hregs sub (masked_bit_six.trans hoff), dropMarkers_audio, audio_setAudio_self]
    exact ⟨State.reg_setReg_self hregs, rfl, rfl, rfl, rfl⟩
  · refine ⟨_, exec_audCtrlWrite_of_up hans p sub, ?_⟩
    rw [writeAudCtrl_on hregs sub (masked_bit_six.trans hon) hmuted, realign_audio, audio_setAudio_self]
    have htells := realign_tells ((s.setReg (0x3C8 + 4 * p.val) (v &&& 0x007F7F7F#32)).setAudio p
      { s.audio p with
        rem := 0, lock := true, muted := false
        slave := if (s.setReg (0x3C8 + 4 * p.val) (v &&& 0x007F7F7F#32)).audSlaved p then (s.audio p).slave else 0 })
      p sub true
    refine ⟨?_, rfl, rfl, htells.last, htells.keeps.1⟩
    rw [State.reg, htells.regs]
    exact State.reg_setReg_self hregs
  · refine ⟨_, (exec_welt_of_up hans hbench).1, ?_⟩
    rw [writeWelt_of_stay hen]
    dsimp only
    have hask : (if v.bit 8 && s.welt.role == .standby then (s.setReg 0xE00 (v &&& 0xFF#32)).askAdopt
        else s.setReg 0xE00 (v &&& 0xFF#32)) = (s.setReg 0xE00 (v &&& 0xFF#32)).askAdopt :=
      if_pos (by simp [hadopt, hrole])
    obtain ⟨hframe, hrole', hadopting, hsync⟩ := askAdopt_leaves (s.setReg 0xE00 (v &&& 0xFF#32))
    rw [hask, if_neg (by simp [hrole', hrole])]
    refine ⟨hframe.trans ?_, hrole'.trans hrole, hadopting, hsync⟩
    rw [hframe]
    rfl
  · refine ⟨_, (exec_welt_of_up hans hbench).2, ?_⟩
    rw [writeWelt_of_stay hen]
    dsimp only
    have hstay : (if v.bit 8 && s.welt.role == .standby then (s.setReg 0xE00 (v &&& 0xFF#32)).askAdopt
        else s.setReg 0xE00 (v &&& 0xFF#32)) = s.setReg 0xE00 (v &&& 0xFF#32) := if_neg (by simp [hrole])
    rw [hstay, if_pos (by simp [hyield, hrole, hup, hpartner])]
    rfl

end Sys2Proof.Machine
end

section
/-! PROOFS. Mailboxes and eyelets of the host (chapter 16). -/

namespace Sys2Proof.Machine

open Sys2Proof

section Mail

variable {s : State} {mb b i : Nat} {bytes : List Byte}

/-! ### A message that lands -/

theorem mirror_of_role (h : s.welt.role ≠ .active) (p : WPayload) : s.mirror p = s :=
  if_neg (by simp [State.mirrors, h])

/-- A queued message is marked so in its slot, and its event delivered; the other blocks stand. -/
theorem queueMail_leaves {m : Msg} (hmb : mb < 16) (hm : vget none s.mail.inb mb = some m) (p : Pos) :
    vget none (s.queueMail mb p).mail.inb mb = some { m with queued := true } ∧
      (s.queueMail mb p).mail.outb = s.mail.outb ∧ (s.queueMail mb p).last = s.last ∧
      (s.queueMail mb p).supply = s.supply ∧ (s.queueMail mb p).store = s.store ∧
      (s.queueMail mb p).prog = (s.deliver m.reader (State.mailEvent mb m p)).prog := by
  simp only [State.queueMail, hm, State.deliver_mail, State.deliver_last, State.deliver_supply, State.deliver_store]
  exact ⟨vget_vset_self hmb, trivial, trivial, trivial, trivial, trivial⟩

/-- The slot that a host message lands in holds it, queued to its bench or not; the outbound slots, the Last, the
supplies and the store stand. -/
theorem landHost_leaves (s : State) (hmb : mb < 16) (bytes : List Byte) :
    (∃ q, vget none (s.landHost mb bytes).mail.inb mb =
      some ⟨bytes, .host, s.now, s.bindOf mb, false, false, false, q⟩) ∧
      (s.landHost mb bytes).mail.outb = s.mail.outb ∧ (s.landHost mb bytes).last = s.last ∧
      (s.landHost mb bytes).supply = s.supply ∧ (s.landHost mb bytes).store = s.store := by
  simp only [State.landHost, State.mirror_mail, State.mirror_last, State.mirror_supply, State.mirror_store]
  have hput : vget none (vset s.mail.inb mb (some ⟨bytes, .host, s.now, s.bindOf mb, false, false, false, false⟩)) mb =
      some ⟨bytes, .host, s.now, s.bindOf mb, false, false, false, false⟩ := vget_vset_self hmb
  split
  · exact ⟨⟨_, hput⟩, rfl, rfl, rfl, rfl⟩
  · obtain ⟨hin, hout, hlast, hsupply, hstore, -⟩ := queueMail_leaves (s := { s with
      mail.inb := vset s.mail.inb mb (some ⟨bytes, .host, s.now, s.bindOf mb, false, false, false, false⟩) })
      hmb hput s.now
    exact ⟨⟨_, hin⟩, hout, hlast, hsupply, hstore⟩

/-- At a bench that runs and takes, a host message lands with its MAIL event (R659). -/
theorem landHost_queue (hup : s.supply.dom[2] = .up) (hrun : (s.bench (s.bindOf mb)).mode = .run)
    (hstandby : s.welt.role ≠ .standby) (hactive : s.welt.role ≠ .active)
    (htakes : (s.bench (s.bindOf mb)).takes = true) (hroom : (s.bench (s.bindOf mb)).queue.length < 1024)
    (hheld : (s.bench (s.bindOf mb)).held = []) (hmb : mb < 16) :
    ((s.landHost mb bytes).bench (s.bindOf mb)).queue = insertEvent (State.mailEvent mb
      ⟨bytes, .host, s.now, s.bindOf mb, false, false, false, false⟩ s.now) (s.bench (s.bindOf mb)).queue := by
  have hbound : s.bindOf mb < 5 := Nat.lt_succ_of_le (Nat.min_le_left _ _)
  generalize hm : (⟨bytes, .host, s.now, s.bindOf mb, false, false, false, false⟩ : Msg) = m
  have hreader : m.reader = s.bindOf mb := hm ▸ rfl
  generalize hu : ({ s with mail.inb := vset s.mail.inb mb (some m) } : State) = u
  have hprog : u.prog = s.prog := hu ▸ rfl
  have hbench : ∀ d, u.bench d = s.bench d := fun d => hu ▸ rfl
  have hwelt : u.welt = s.welt := hu ▸ rfl
  have hwaits : u.hostWaits (s.bindOf mb) = false := by simp [State.hostWaits, hwelt, hstandby, hbench, hrun]
  have hput : vget none u.mail.inb mb = some m := hu ▸ vget_vset_self hmb
  have hland : s.landHost mb bytes = u.queueMail mb s.now := by
    have hrole : (u.queueMail mb s.now).welt.role ≠ .active := by
      simp only [State.queueMail, hput, State.deliver_welt, hwelt]
      exact hactive
    have hnow : u.now = s.now := hu ▸ rfl
    simp only [State.landHost, hm, hu, hwaits, hnow, Bool.false_eq_true, if_false]
    exact mirror_of_role hrole _
  obtain ⟨-, -, -, -, -, hqueued⟩ := queueMail_leaves hmb hput s.now
  have hbench' : (s.landHost mb bytes).bench (s.bindOf mb) =
      (u.deliver (s.bindOf mb) (State.mailEvent mb m s.now)).bench (s.bindOf mb) := by
    rw [hland, ← hreader]
    rw [State.bench, hqueued]
    rfl
  have hup' : u.up .bench = true := State.up_bench_iff.mpr (hu ▸ hup)
  rw [hbench', State.deliver, hup', hbench, htakes]
  simp only [Bool.not_true, Bool.false_eq_true, if_false, if_true]
  rw [State.bench_setBench_self u ⟨s.bindOf mb, hbound⟩, Bench.enqueue, if_pos (by simp [hroom, hheld])]

/-- A device that is not in IDLE with an image, or is moving already, is not woken (R763). -/
theorem mailWake_of_awake (h : s.supply.power ≠ .idle ∨ s.committed = false ∨ s.supply.moving = true) :
    s.mailWake = s := by
  refine if_neg ?_
  rintro ⟨hidle, himage, hstill⟩
  obtain h | h | h := h
  · exact h hidle
  · exact absurd (himage.symm.trans h) (by decide)
  · exact absurd (hstill.symm.trans h) (by decide)

/-- A message in IDLE with a committed image begins the move to RUN: BENCH powers up once KEEPER is up (R763). -/
theorem mailWake_of_idle (hidle : s.supply.power = .idle) (himage : s.committed = true)
    (hstill : s.supply.moving = false) (hhost : s.supply.dom[0] = .up) (hkeeper : s.supply.dom[1] = .up)
    (hbench : s.supply.dom[2] = .down) :
    s.mailWake.supply.moving = true ∧ s.mailWake.supply.dom[2] = .powering ∧ s.mailWake.mail = s.mail := by
  rw [State.mailWake, if_pos ⟨hidle, himage, hstill⟩, State.toRun, State.powerOn, if_pos]
  · exact ⟨rfl, by simp [State.setDom, vset, Domain.ctorIdx], rfl⟩
  · simp [State.depsUp, State.up, Domain.ctorIdx, hkeeper, hhost, hbench]

/-! ### Eyelets -/

theorem bit_or_self (w : Word) {e : Nat} (h : e < 32) : (w ||| BitVec.ofNat 32 (2 ^ e)).bit e = true := by
  rw [Word.bit, BitVec.getLsbD_or, BitVec.getLsbD_ofNat, Nat.testBit_two_pow_self, decide_eq_true h]
  exact Bool.or_true _

/-- An eyelet newly rung sets its bit; unless its mask stops it there, its event is queued (R668, R669). -/
theorem ringBench_leaves (hb : b < 5) (hi : i < 32) (hnew : (vget 0 s.mail.rung (b + 1)).bit i = false) :
    (vget 0 (s.ringBench b i).mail.rung (b + 1)).bit i = true ∧ (s.ringBench b i).mail.inb = s.mail.inb ∧
      (s.ringBench b i).mail.outb = s.mail.outb ∧ (s.ringBench b i).last = s.last ∧
      (s.ringBench b i).supply = s.supply ∧ (s.ringBench b i).store = s.store ∧
      ((vget 0 s.mail.mask (b + 1)).bit i = false →
        s.ringBench b i = { s with mail := { s.mail with rung := (s.ringBench b i).mail.rung } }) := by
  have hset : ∀ w : Word, (vget 0 (vset s.mail.rung (b + 1) (w ||| BitVec.ofNat 32 (2 ^ i))) (b + 1)).bit i = true :=
    fun w => (congrArg (fun x : Word => x.bit i) (vget_vset_self (by omega))).trans (bit_or_self w hi)
  simp only [State.ringBench, hnew, Bool.false_eq_true, if_false]
  by_cases hmask : (vget 0 s.mail.mask (b + 1)).bit i = true
  · simp only [hmask, if_true, State.mirror_mail, State.mirror_last, State.mirror_supply, State.mirror_store]
    split
    · exact ⟨hset _, rfl, rfl, rfl, rfl, rfl, fun h => absurd h (by decide)⟩
    · simp only [State.queueEyelet, State.deliver_mail, State.deliver_last, State.deliver_supply, State.deliver_store,
        true_and]
      exact ⟨hset _, fun h => absurd h (by decide)⟩
  · simp only [hmask, Bool.false_eq_true, if_false]
    exact ⟨hset _, trivial, trivial, trivial, trivial, trivial, fun _ => trivial⟩

/-! ### The bus commands -/

theorem blockRefusal_of_length {count : Nat} (hcount : count = bytes.length) (h1 : 1 ≤ count) (h64 : count ≤ 64) :
    State.blockRefusal count bytes = none := if_neg (by omega)

theorem exec_mbPost_of_empty (h : s.answers = true) {count : Nat} (hcount : count = bytes.length) (h1 : 1 ≤ count)
    (h64 : count ≤ 64) (hrefusal : s.mailRefusal mb = none) (hempty : vget none s.mail.inb mb = none) :
    exec (.mbPost mb count bytes .good) s = .next (s.hostPosts mb bytes) := by
  show execMbPost _ _ _ _ _ = _
  simp only [execMbPost, hempty, hrefusal, blockRefusal_of_length hcount h1 h64, Option.isSome_none, Bool.false_eq_true,
    if_false]
  rw [if_neg (by omega)]
  exact congrArg Host.Outcome.next (State.busWrite_accepted h _ _ _ _)

theorem exec_mbPost_of_full (h : s.answers = true) {count : Nat} {m : Msg} (hmb : mb < 8)
    (hfull : vget none s.mail.inb mb = some m) :
    exec (.mbPost mb count bytes .good) s = .next (s.nack (0x20 + mb) 2 0) := by
  have hrefusal : s.mailRefusal mb = none := by
    rw [State.mailRefusal, if_neg (by omega), if_pos hmb]
  have hfirst : State.firstRefusal [none, some (nackFull, phCommand), State.blockRefusal count bytes] =
    some (nackFull, phCommand) := rfl
  show execMbPost _ _ _ _ _ = _
  simp only [execMbPost, hfull, hrefusal, Option.isSome_some, if_true, hfirst]
  rw [if_neg (by simp)]
  exact congrArg Host.Outcome.next (if_neg (by simp [h]))

theorem exec_mbRead_of_empty (h : s.answers = true) {complete ack : Bool} (hmb : mb < 8)
    (hempty : vget none s.mail.outb mb = none) :
    exec (.mbRead mb complete ack) s = .next (s.nack (0x30 + mb) 3 0) := by
  have hrefusal : s.mailRefusal mb = none := by
    rw [State.mailRefusal, if_neg (by omega), if_pos hmb]
  show execMbRead _ _ _ _ = _
  simp only [execMbRead, hempty, hrefusal, Option.isNone_none, if_true]
  exact congrArg Host.Outcome.next (if_neg (by simp [h]))

theorem exec_mbRead_of_full (h : s.answers = true) {ack : Bool} {m : Msg} (hmb : mb < 8)
    (hfull : vget none s.mail.outb mb = some m) : exec (.mbRead mb true ack) s =
      .next { s.sendRead (0x30 + mb) [] ack (bytesBE 1 m.bytes.length ++ m.bytes) with
        mail := { s.mail with outb := vset s.mail.outb mb none } } := by
  have hrefusal : s.mailRefusal mb = none := by
    rw [State.mailRefusal, if_neg (by omega), if_pos hmb]
  show execMbRead _ _ _ _ = _
  simp only [execMbRead, hfull, hrefusal, Option.isNone_some, Bool.false_eq_true, if_false]
  exact congrArg Host.Outcome.next (State.busRead_accepted h _ _)

theorem exec_eyeletRing_of_bench (h : s.answers = true) (hb : b < 5) (hi : i < 32) :
    exec (.eyeletRing b i .good) s = .next (s.ringBench b i).mailWake := by
  show execEyeletRing _ _ _ _ = _
  rw [execEyeletRing, if_neg (by omega), if_neg (by omega), if_neg (by omega), State.busWrite_accepted h,
    if_neg (by omega)]

theorem exec_eyeletTake (h : s.answers = true) (complete ack : Bool) : exec (.eyeletTake complete ack) s =
    .next (let t := s.sendRead 0x41 [] (complete && ack) (bytesBE 4 s.hostEyelets.toNat)
      if complete then
        { t with mail.rung := vset t.mail.rung 0 (vget 0 t.mail.rung 0 &&& ~~~s.hostEyelets) } else t) :=
  congrArg Host.Outcome.next (State.busRead_accepted h _ _)

/-- A message that stays is marked so once, and told of when the host posted it (R666). -/
theorem exec_mbTimeout_of_first {slot : Fin 16} {m : Msg} (h : s.answers = true) (hm : s.mail.inb.get slot = some m)
    (hfirst : m.timeout = false) : exec (.mbTimeout slot) s = .next (
      let t := { s with
        mail.inb := s.mail.inb.set slot (some { m with timeout := true })
        mail.timeouts := satAdd 255 s.mail.timeouts 1 }
      if m.sender = .host then (t.alert 3).raise 0x9201 slot.val clsNote else t) := by
  show execMbTimeout _ _ = _
  simp only [execMbTimeout, hm, hfirst, up_host_of_answers h]
  rfl

end Mail

/-- Settles O52. -/
theorem mailboxRowsComplete : Obligations.MailboxRowsComplete := by
  unfold Obligations.MailboxRowsComplete
  intro s mb count endpoint eyelet bytes m slot ack hans
  have hhost : s.supply.dom[0] = .up := by
    simpa [State.up, Domain.ctorIdx] using up_host_of_answers hans
  refine ⟨fun hmb ⟨hcount, h1, h64⟩ hempty ⟨hup, hrun, hstandby, hactive, htakes, hroom, hheld⟩ hawake => ?_,
    fun hmb ⟨hcount, h1, h64⟩ hempty hasleep hkeeper hbench => ?_,
    fun hmb _ hfull => exec_mbPost_of_full hans hmb hfull,
    fun h8 h12 ⟨hcount, h1, h64⟩ hkeeper hopen hempty => ?_, fun hmb hfull => ?_,
    fun hmb hempty => exec_mbRead_of_empty hans hmb hempty, fun hawake hb hi hset => ?_, fun hawake hb hi hnew => ?_,
    exec_eyeletTake hans false ack, rfl, ?_, fun hm hfirst => ?_, fun hm hagain => ?_⟩
  · have hrefusal : s.mailRefusal mb = none := by
      rw [State.mailRefusal, if_neg (by omega), if_pos hmb]
    obtain ⟨⟨q, hin⟩, hout, hlast, hsupply, hstore⟩ := landHost_leaves s (Nat.lt_trans hmb (by decide)) bytes
    have hposts : s.hostPosts mb bytes = s.landHost mb bytes := by
      rw [State.hostPosts, if_pos hmb]
      refine mailWake_of_awake ?_
      rw [State.committed, hsupply, hstore]
      exact hawake
    refine ⟨_, State.mailEvent mb ⟨bytes, .host, s.now, s.bindOf mb, false, false, false, false⟩ s.now,
      exec_mbPost_of_empty hans hcount h1 h64 hrefusal hempty, rfl, rfl, ?_⟩
    rw [hposts]
    exact ⟨landHost_queue hup hrun hstandby hactive htakes hroom hheld (Nat.lt_trans hmb (by decide)),
      ⟨_, hin, rfl, rfl, rfl⟩, hlast, hout⟩
  · have hrefusal : s.mailRefusal mb = none := by
      rw [State.mailRefusal, if_neg (by omega), if_pos hmb]
    obtain ⟨⟨q, hin⟩, hout, hlast, hsupply, hstore⟩ := landHost_leaves s (Nat.lt_trans hmb (by decide)) bytes
    simp only [not_or, not_not, Bool.not_eq_true, Bool.not_eq_false] at hasleep
    obtain ⟨hidle, himage, hstill⟩ := hasleep
    obtain ⟨hmoving, hpowering, hmail⟩ := mailWake_of_idle (s := s.landHost mb bytes) (by rw [hsupply]; exact hidle)
      (by rw [State.committed, hstore]; exact himage) (by rw [hsupply]; exact hstill)
      (by simp only [hsupply]; exact hhost)
      (by simp only [hsupply]; exact hkeeper) (by simp only [hsupply]; exact hbench)
    refine ⟨_, exec_mbPost_of_empty hans hcount h1 h64 hrefusal hempty, ?_⟩
    rw [State.hostPosts, if_pos hmb]
    exact ⟨hmoving, hpowering, _, by rw [hmail]; exact hin, rfl⟩
  · have hrefusal : s.mailRefusal mb = none := by
      rw [State.secureOpen, Bool.and_eq_true, beq_iff_eq, Bool.or_eq_true, beq_iff_eq, beq_iff_eq] at hopen
      rw [State.mailRefusal, if_neg (by omega), if_neg (by omega), hkeeper]
      exact if_pos ⟨hopen.1, .inl (by omega)⟩
    rw [exec_mbPost_of_empty hans hcount h1 h64 hrefusal hempty, State.hostPosts, if_neg (by omega)]
  · refine ⟨_, exec_mbRead_of_full hans hmb hfull, rfl, vget_vset_self (by omega), fun i hi => vget_vset_ne hi⟩
  · rw [exec_eyeletRing_of_bench hans hb hi, State.ringBench, if_pos hset, mailWake_of_awake hawake]
  · obtain ⟨hbit, hin, hout, hlast, hsupply, hstore, hframe⟩ := ringBench_leaves (s := s) hb hi hnew
    have hstays : (s.ringBench endpoint eyelet).mailWake = s.ringBench endpoint eyelet := by
      refine mailWake_of_awake ?_
      rw [State.committed, hsupply, hstore]
      exact hawake
    refine ⟨_, exec_eyeletRing_of_bench hans hb hi, ?_⟩
    rw [hstays]
    exact ⟨hbit, hin, hout, hlast, hframe⟩
  · exact ⟨_, exec_eyeletTake hans true ack, rfl, rfl, vget_vset_self (by decide), fun i hi => vget_vset_ne hi⟩
  · refine ⟨_, exec_mbTimeout_of_first hans hm hfirst, ?_⟩
    dsimp only
    split
    · next hsender =>
      rw [State.raise_mail, State.alert_mail]
      refine ⟨?_, rfl, fun hne => absurd hsender hne⟩
      exact Vector.getElem_set_self slot.isLt
    · refine ⟨?_, rfl, fun _ => rfl⟩
      exact Vector.getElem_set_self slot.isLt
  · show execMbTimeout _ _ = _
    simp only [execMbTimeout, hm, hagain]
    rfl

end Sys2Proof.Machine
end

section
/-! PROOFS. Sessions (R678–R683). -/

namespace Sys2Proof.Machine

open Sys2Proof

section Sessions

variable {s : State}

/-- A session closed: what is left of it, and its key forgotten (R683). -/
theorem closeSession_leaves (s : State) :
    s.closeSession.mail = { s.mail with session := s.closeSession.mail.session } ∧
      s.closeSession.mail.session.mode = .closed ∧ s.closeSession.mail.session.step = none ∧
      (s.mail.session.mode ≠ .closed ∨ s.mail.session.step ≠ none → s.closeSession.mail.session.key = []) ∧
      s.closeSession.mail.session.locked = s.mail.session.locked ∧
      s.closeSession.theSeal = s.theSeal ∧ s.closeSession.store = s.store ∧ s.closeSession.last = s.last := by
  rw [State.closeSession]
  split
  · next h =>
    obtain ⟨hmode, hstep⟩ := h
    have hnone : s.mail.session.step = none := Option.isNone_iff_eq_none.mp hstep
    exact ⟨rfl, hmode, hnone, fun ho => ho.elim (absurd hmode) (absurd hnone), rfl, rfl, rfl, rfl⟩
  · simp only [State.alert_mail, State.alert_theSeal, State.alert_store, State.alert_last, implies_true, and_self]

theorem keeperRefusal_of_idle (hup : s.supply.dom[1] = .up) (hidle : s.keeperBusy = false) :
    s.keeperRefusal = none := by
  rw [State.keeperRefusal, State.domainRefusal_of_up (dom_keeper hup)]
  exact if_neg (by simp [hidle])

theorem step_of_idle (hidle : s.keeperBusy = false) : s.mail.session.step = none := by
  simp only [State.keeperBusy, Bool.or_eq_false_iff] at hidle
  obtain ⟨⟨⟨⟨hstep, -⟩, -⟩, -⟩, -⟩ := hidle
  simpa using hstep

/-! ### Opening -/

theorem exec_sessOpen_of_challenge (h : s.answers = true) (hfree : s.keeperRefusal = none)
    (hopen : s.mail.session.locked = false) {kind : Nat} (hkind : kind = 1 ∨ kind = 2) :
    exec (.sessOpen kind .good) s = .next { s.closeSession.sessionAsked with
      mail := { s.closeSession.sessionAsked.mail with
        session := { s.closeSession.sessionAsked.mail.session with step := some (.opening kind) } } } := by
  show execSessOpen _ _ _ = _
  simp only [execSessOpen, State.openSession, hfree, hopen, Bool.false_eq_true, and_false, if_false]
  rw [if_neg (by omega), if_neg (by omega), State.busWrite_accepted h, if_neg (by omega)]

theorem exec_sessOpenInstall_of_hold (h : s.answers = true) (hfree : s.keeperRefusal = none)
    (hopen : s.mail.session.locked = false) (hhold : s.supply.power = .hold) (hhak : s.mail.keys.hak = none) :
    exec (.sessOpenInstall .good) s = .next (({ s.closeSession.sessionAsked with
      mail.session.mode := SessMode.open_, mail.session.kind := 3 } : State).alert 10) := by
  show execSessOpenInstall _ _ = _
  simp only [execSessOpenInstall, State.openSession, hfree, hopen, hhold, hhak, Bool.false_eq_true, and_false, if_false]
  rw [if_neg (by omega), if_neg (by simp), State.busWrite_accepted h]
  exact congrArg Host.Outcome.next (if_pos trivial)

theorem exec_sessOpen_of_locked (h : s.answers = true) (hfree : s.keeperRefusal = none)
    (hlocked : s.mail.session.locked = true) (kind : Nat) :
    exec (.sessOpen kind .good) s = .next ((s.nack 0x70 9 0).note 0x9204) := by
  show execSessOpen _ _ _ = _
  simp only [execSessOpen, State.openSession, hfree, hlocked, if_true]
  rw [if_pos ⟨h, trivial, trivial⟩]
  exact congrArg (fun t => Host.Outcome.next (State.note t 0x9204)) (if_neg (by simp [h]))

/-! ### The challenge and its answer -/

theorem exec_sessChal_of_challenge (h : s.answers = true) (hfree : s.keeperRefusal = none)
    (hchal : s.mail.session.mode = .challenge) : exec (.sessChal false) s = .next { s.sessionAsked with
      bus.out := bytesBE 1 16 ++ s.mail.session.nonce ++ bytesBE 4 s.mail.session.number ++
        bytesBE 1 s.mail.session.kind ++ List.replicate 3 0 } := by
  show execSessChal _ _ = _
  simp only [execSessChal, hfree, hchal, if_true]
  refine congrArg Host.Outcome.next ((State.busRead_accepted h _ _).trans ?_)
  simp only [State.sendRead, State.sendBytes, Bool.false_eq_true, if_false, List.append_nil]

theorem exec_sessResp_of_challenge (h : s.answers = true) (hfree : s.keeperRefusal = none)
    (hchal : s.mail.session.mode = .challenge) {bytes : List Byte} (hlength : bytes.length = 16) :
    exec (.sessResp 16 bytes .good) s = .next { s with mail := { s.mail with
      session := { s.mail.session with step := some (.response bytes), asked := true } } } := by
  show execSessResp _ _ _ _ = _
  have hnone : State.firstRefusal [s.keeperRefusal,
      if s.mail.session.mode = .challenge then none else some (nackSession, phCommand),
      State.blockRefusal 16 bytes] = none := by
    rw [hfree, if_pos hchal, blockRefusal_of_length hlength.symm (by decide) (by decide)]
    rfl
  simp only [execSessResp, if_true, hnone]
  rw [if_neg (by omega)]
  exact congrArg Host.Outcome.next (State.busWrite_accepted h _ _ _ _)

theorem byteAt_range {xs : List Byte} {n : Nat} (h : xs.length = n) : (List.range n).map (byteAt xs) = xs := by
  refine List.ext_getElem (by simp [h]) fun i hi hi' => ?_
  simp [byteAt, hi']

theorem sessionResponse_of_good {bytes hak : List Byte} (hhak : s.mail.keys.hak = some hak)
    (hgood : (State.sessionMac hak 1 s.mail.session.nonce (bytes.take 8) s.mail.session.kind).take 8 = bytes.drop 8) :
    s.sessionResponse bytes = ({ s with mail.session := { s.mail.session with
      mode := .open_, hostNonce := bytes.take 8
      key := State.sessionMac hak 2 s.mail.session.nonce (bytes.take 8) s.mail.session.kind
      rxCount := 0, txCount := 0, failures := 0, step := none } } : State).alert 10 := by
  simp only [State.sessionResponse, hhak, hgood, beq_self_eq_true, if_true, Option.getD_some]

theorem sessionResponse_of_bad {bytes hak : List Byte} (hhak : s.mail.keys.hak = some hak)
    (hbad : (State.sessionMac hak 1 s.mail.session.nonce (bytes.take 8) s.mail.session.kind).take 8 ≠ bytes.drop 8) :
    s.sessionResponse bytes = { s.closeSession.note 0x9203 with
      mail.session.failures := s.mail.session.failures + 1
      mail.session.locked := decide (4 ≤ s.mail.session.failures + 1) } := by
  simp only [State.sessionResponse, hhak, beq_eq_false_iff_ne.mpr hbad, Bool.false_eq_true, if_false]

/-! ### The end of a session -/

theorem exec_sessClose_zero (h : s.answers = true) :
    exec (.sessClose 0 .good) s = .next s.closeSession.sessionAsked := by
  show execSessClose _ _ _ = _
  simp only [execSessClose, if_true]
  exact congrArg Host.Outcome.next (State.busWrite_accepted h _ _ _ _)

end Sessions

/-- Settles O53. -/
theorem sessionRowsComplete : Obligations.SessionRowsComplete := by
  unfold Obligations.SessionRowsComplete
  intro s kind bytes nonce hak hans hup x idle closed mac
  have hfree : idle → s.keeperRefusal = none := keeperRefusal_of_idle hup
  have hmac : ∀ label, mac label = State.sessionMac hak label x.nonce (bytes.take 8) x.kind := fun label => by
    simp only [State.sessionMac, bytesBE_one]
    rfl
  obtain ⟨hmail, hclosed, hstep, hkey, hlocked, hseal, hstore, hlast⟩ := closeSession_leaves s
  have hkeys : s.closeSession.mail.keys = s.mail.keys := congrArg (fun m => m.keys) hmail
  have hin : s.closeSession.mail.inb = s.mail.inb := congrArg (fun m => m.inb) hmail
  refine ⟨fun hidle hopen hkind => ?_, fun hidle hopen hhold hhak => ?_, fun hidle hlocked => ?_,
    fun hidle hchal => ?_, fun hidle hchal hlength => exec_sessResp_of_challenge hans (hfree hidle) hchal hlength,
    fun hopening hlength => ?_, fun hresponse hhak hgood => ?_, fun hresponse hhak hbad => ?_, ?_, fun hmode => ?_,
    fun hlocked => ?_⟩
  · exact ⟨_, exec_sessOpen_of_challenge hans (hfree hidle) hopen hkind, rfl, hclosed, congrArg (fun m => m.keys) hmail,
      hstore⟩
  · refine ⟨_, exec_sessOpenInstall_of_hold hans (hfree hidle) hopen hhold hhak, ?_⟩
    rw [State.alert_mail]
    exact ⟨rfl, rfl, congrArg (fun m => m.keys) hmail⟩
  · refine ⟨_, exec_sessOpen_of_locked hans (hfree hidle) hlocked kind, State.note_mail _ _, ?_⟩
    obtain ⟨_, _, hbus, -⟩ := (s.nack 0x70 9 0).note_arisen 0x9204
    rw [hbus]
    rfl
  · refine ⟨_, exec_sessChal_of_challenge hans (hfree hidle) hchal, ?_, rfl⟩
    simp only [bytesBE_one, List.append_assoc]
    rfl
  · refine ⟨_, (show exec (.sessionStepDone nonce) s = execSessionStepDone nonce s from rfl).trans
      (congrArg Host.Outcome.next (by rw [hopening])), ?_⟩
    simp only [byteAt_range hlength, State.alert_mail, State.alert_theSeal]
    exact ⟨rfl, trivial⟩
  · rw [hmac] at hgood
    refine ⟨_, (show exec (.sessionStepDone nonce) s = execSessionStepDone nonce s from rfl).trans
      (congrArg Host.Outcome.next (by rw [hresponse])), ?_⟩
    simp only [sessionResponse_of_good hhak hgood, State.alert_mail, hmac]
    rfl
  · rw [hmac] at hbad
    refine ⟨_, (show exec (.sessionStepDone nonce) s = execSessionStepDone nonce s from rfl).trans
      (congrArg Host.Outcome.next (by rw [hresponse])), ?_⟩
    simp only [sessionResponse_of_bad hhak hbad]
    have hforgot := hkey (.inr (by simp [show s.mail.session.step = _ from hresponse]))
    have htells := s.closeSession.note_tells 0x9203
    generalize s.closeSession.note 0x9203 = t at *
    rw [← htells.mail] at hclosed hforgot hstep hkeys hin
    exact ⟨⟨hclosed, hforgot, hstep, hkeys, hin, htells.keeps.1.trans hseal, htells.keeps.2.1.trans hstore⟩, rfl, rfl⟩
  · exact ⟨_, exec_sessClose_zero hans, fun hmode => ⟨hclosed, hkey (.inl hmode), hstep, hkeys, hin, hseal, hstore⟩,
      hclosed⟩
  · exact ⟨_, rfl, ⟨hclosed, hkey (.inl hmode), hstep, hkeys, hin, hseal, hstore⟩, hlast⟩
  · exact congrArg Host.Outcome.next (if_pos hlocked)

end Sys2Proof.Machine
end

section
/-! PROOFS. The journal and what is written to it (R779–R781). -/

namespace Sys2Proof.Machine

open Sys2Proof

namespace State

variable {s t u : State}

/-- Nothing differs but the journal, what the last hold-up check found, and what telling of it changes. -/
def Journals (s t : State) : Prop := ∃ j q n e, State.Tells
  { s with store := { s.store with journal := j, journalSeq := q, need := n, evt := e } } t

theorem Tells.setStore (h : s.Tells t) (x : Store) : State.Tells { s with store := x } { t with store := x } := by
  obtain ⟨⟨hseal, -, hsupply, hpending, himage, hledger, hckpt, hbench⟩, p, k, o, q, w, f, hframe⟩ := h
  exact ⟨⟨hseal, rfl, hsupply, hpending, himage, hledger, hckpt, hbench⟩, p, k, o, q, w, f,
    congrArg (fun u : State => { u with store := x }) hframe⟩

theorem Tells.journals (h : s.Tells t) : s.Journals t := ⟨_, _, _, _, h⟩

theorem Journals.refl (s : State) : s.Journals s := (Tells.refl s).journals

theorem Journals.trans (h : s.Journals t) (k : t.Journals u) : s.Journals u := by
  obtain ⟨j, q, n, e, htells⟩ := h
  obtain ⟨j', q', n', e', ktells⟩ := k
  have hstore : t.store = { s.store with journal := j, journalSeq := q, need := n, evt := e } := htells.keeps.2.1
  have h' := htells.setStore { s.store with journal := j', journalSeq := q', need := n', evt := e' }
  refine ⟨j', q', n', e', h'.trans ?_⟩
  rw [hstore] at ktells
  exact ktells

section Leaves

variable (h : s.Journals t)

include h

theorem Journals.last : t.last = s.last := by obtain ⟨_, _, _, _, h⟩ := h; exact h.last

theorem Journals.mail : t.mail = s.mail := by obtain ⟨_, _, _, _, h⟩ := h; exact h.mail

theorem Journals.clk : t.clk = s.clk := by obtain ⟨_, _, _, _, h⟩ := h; exact h.clk

theorem Journals.theSeal : t.theSeal = s.theSeal := by obtain ⟨_, _, _, _, h⟩ := h; exact h.keeps.1

theorem Journals.supply : t.supply = s.supply := by obtain ⟨_, _, _, _, h⟩ := h; exact h.keeps.2.2.1

theorem Journals.image : t.prog.image = s.prog.image := by obtain ⟨_, _, _, _, h⟩ := h; exact h.keeps.2.2.2.2.1

/-- Of the store only the journal, its count, and the last check's findings may differ. -/
theorem Journals.store : ∃ j q n e,
    t.store = { s.store with journal := j, journalSeq := q, need := n, evt := e } := by
  obtain ⟨j, q, n, e, h⟩ := h
  exact ⟨j, q, n, e, h.keeps.2.1⟩

end Leaves

theorem journalAdd_journals (s : State) (r : List Byte) : s.Journals (s.journalAdd r) :=
  ⟨_, s.store.journalSeq, s.store.need, s.store.evt, .refl _⟩

theorem checkEnergy_journals (s : State) (need : Nat) : s.Journals (s.checkEnergy need).2 := by
  simp only [checkEnergy]
  split
  · exact ⟨s.store.journal, s.store.journalSeq, need, s.store.evt, .refl _⟩
  · exact ⟨s.store.journal, s.store.journalSeq, need, s.store.evt ||| 1, note_tells _ _⟩

theorem journalTidy_journals (s : State) : s.Journals s.journalTidy := by
  simp only [journalTidy]
  split
  · next oldest rest _ =>
    split
    · exact .refl s
    · split
      · exact s.checkEnergy_journals 2000
      · refine (s.checkEnergy_journals 2000).trans ?_
        have hrest : (s.checkEnergy 2000).2.Journals
            { (s.checkEnergy 2000).2 with store.journal := rest } := ⟨rest, _, _, _, .refl _⟩
        exact hrest.trans (foldl_leaves _ _ .refl .trans (fun s b => s.journalAdd_journals b) _)
  · exact .refl s

/-- A record written changes the journal, and tells of a check that failed (R779–R781). -/
theorem journalPut_journals (s : State) (k : JKind) (step : Nat) (body : List Byte) :
    s.Journals (s.journalPut k step body) := by
  have hseq : s.Journals { s with store.journalSeq := s.store.journalSeq + 1 } := ⟨_, _, _, _, .refl _⟩
  exact (hseq.trans (journalAdd_journals _ _)).trans (journalTidy_journals _)

theorem instPut_journals (s : State) (step : Nat) (target : Bool) : s.Journals (s.instPut step target) :=
  s.journalPut_journals _ _ _

/-- The energy is as it was, for its capacitance and voltage stand. -/
theorem Journals.energy (h : s.Journals t) : t.energy = s.energy := by
  obtain ⟨_, _, _, _, hstore⟩ := h.store
  simp only [State.energy, hstore]

end State

end Sys2Proof.Machine
end

section
/-! PROOFS. The end of a calibration commit (R334, R794, R795). -/

namespace Sys2Proof.Machine

open Sys2Proof

variable {s : State}

/-- A commit that another sweep waits for is followed at once by that sweep's own commit, where the energy allows it
(R334). -/
theorem commitEnds_of_due (hdue : s.store.commitDue = true) (henergy : 2040 ≤ s.energy) :
    s.commitEnds.store.commit = .erase := by
  simp only [State.commitEnds]
  have hput := s.journalPut_journals .cal calStepRecord
    (State.calBody s.nextCalSlot s.store.calSlot ((kget s.store.calSlots s.nextCalSlot).getD []))
  generalize s.journalPut .cal calStepRecord _ = t at *
  have henergy' : t.energy = s.energy := hput.energy
  obtain ⟨_, _, _, _, hstore⟩ := hput.store
  have hdue' : t.store.commitDue = true := by rw [hstore]; exact hdue
  rw [if_pos hdue', State.startCommit, if_neg (by simp), State.checkEnergy_of_energy]
  · rfl
  · rw [← henergy'] at henergy
    exact henergy

/-- A commit at its CAL record, with the commit of a sweep that has ended meanwhile due and the energy there. -/
def commitDueState : State :=
  { State.reset with
    store := { State.reset.store with commit := .record, commitDue := true, c := 100000, vhold := 5000 } }

/-- Refutes O49: a commit that ends while the commit of another sweep is due is not IDLE, for that one begins at once
(R334). -/
theorem not_storeCompletionsFollowTheirKinds : ¬ Obligations.StoreCompletionsFollowTheirKinds := by
  unfold Obligations.StoreCompletionsFollowTheirKinds
  intro h
  obtain ⟨-, -, -, -, -, -, -, -, -, -, -, -, hrecord, -⟩ := h commitDueState false 0 0 0 (by decide)
  obtain ⟨t, hexec, -, -, -, -, hidle, -⟩ := hrecord rfl
  obtain rfl : t = commitDueState.commitEnds := (Host.Outcome.next.inj hexec).symm
  exact absurd (hidle.symm.trans (commitEnds_of_due (s := commitDueState) rfl (by decide))) (by decide)

end Sys2Proof.Machine
end

section
/-! PROOFS. Provisioning commands (R679, R684, R784, R785). -/

namespace Sys2Proof.Machine

open Sys2Proof

section Keys

variable {s : State} {m : Msg} {cmd : List Byte}

/-! ### The Keeper takes and answers -/

/-- What the Keeper has of a message once it took it: the slot empty and the host's counter one on (R680). -/
def State.taken (s : State) (mb : Nat) : State :=
  { s.emptySlot mb with mail.session.rxCount := s.mail.session.rxCount + 1 }

/-- The Keeper acts on a good message of its command in a PROVISION session. -/
theorem keeperTake_of_good (hup : s.supply.dom[1] = .up) (hopen : s.mail.session.mode = .open_)
    (hkind : s.mail.session.kind = 2) {mb : Nat} (hm : vget none s.mail.inb mb = some m)
    (hbody : s.secureBody mb m.bytes = some cmd) {known : List Nat} {code : Nat} (hcode : fieldBE cmd 0 1 = code)
    (hknown : known.contains code = true) (act : List Byte → State → State) :
    s.keeperTake mb known code act = act cmd (s.taken mb) := by
  have hdom : s.up .keeper = true := by simp [State.up, Domain.ctorIdx, hup]
  have hsecure : s.secureOpen = true := by simp [State.secureOpen, hopen, hkind]
  simp only [State.keeperTake, hm, hdom, hsecure, hbody, hcode, hknown, hkind]
  rfl

/-- Nothing differs but the bus, the outbound slots and the count of what the device sent in the session. -/
def State.Answers (s t : State) : Prop := ∃ o x b, t = { s with
  bus := b, mail := { s.mail with outb := o, session := { s.mail.session with txCount := x } } }

theorem postOut_answers {t : State} {mb : Nat} {f : Sender} {xs : List Byte} {p : Pos}
    (h : s.postOut mb f xs p = some t) : s.Answers t := by
  rw [State.postOut] at h
  split at h
  · exact absurd h (by simp)
  · obtain rfl := (Option.some.inj h).symm
    obtain ⟨b, hb⟩ := s.arise_frame 0
    dsimp only
    split
    · rw [hb]
      exact ⟨_, s.mail.session.txCount, b, rfl⟩
    · exact ⟨_, s.mail.session.txCount, s.bus, rfl⟩

theorem keeperReply_answers (s : State) (mb : Nat) (bytes : List Byte) : s.Answers (s.keeperReply mb bytes) := by
  have hrefl : s.Answers s := ⟨s.mail.outb, s.mail.session.txCount, s.bus, rfl⟩
  rw [State.keeperReply]
  split
  · simp only [State.keeperPost]
    split
    · next u hu =>
      obtain ⟨o, x, b, rfl⟩ := postOut_answers hu
      exact ⟨o, _, b, rfl⟩
    · exact hrefl
  · exact hrefl

/-! ### What a good command lacks: nothing (R684) -/

section Refuses

variable {k : Keys}

theorem refuses_one (hn : fieldBE cmd 0 1 = 1) (hlength : cmd.length = 20) (hid : fieldBE cmd 1 1 ≠ 0)
    (hroom : k.show_.length < 16) : k.refuses cmd = none := by
  simp only [Keys.refuses, hn]
  rw [if_neg (by simp [hlength, hid]), if_neg (by omega)]

theorem refuses_two (hn : fieldBE cmd 0 1 = 2) (hlength : cmd.length = 2) (hid : fieldBE cmd 1 1 ≠ 0) :
    k.refuses cmd = none := by
  simp only [Keys.refuses, hn]
  exact if_neg (by simp [hlength, hid])

theorem refuses_key (hn : fieldBE cmd 0 1 = 3 ∨ fieldBE cmd 0 1 = 6) (hlength : cmd.length = 17) :
    k.refuses cmd = none := by
  obtain hn | hn := hn <;> simp only [Keys.refuses, hn] <;> exact if_neg (by simp [hlength])

theorem refuses_four (hn : fieldBE cmd 0 1 = 4) (hlength : cmd.length = 18) (hslot : fieldBE cmd 1 1 ≤ 15) :
    k.refuses cmd = none := by
  simp only [Keys.refuses, hn]
  exact if_neg (by omega)

theorem refuses_five (hn : fieldBE cmd 0 1 = 5) (hlength : cmd.length = 2) (hslot : fieldBE cmd 1 1 ≤ 15) :
    k.refuses cmd = none := by
  simp only [Keys.refuses, hn]
  exact if_neg (by omega)

end Refuses

/-! ### The store write begins -/

theorem provisionRow_of_good (hfree : s.store.op = none) (hup : s.supply.dom[1] = .up)
    (hopen : s.mail.session.mode = .open_) (hkind : s.mail.session.kind = 2)
    (hm : vget none s.mail.inb 8 = some m) (hbody : s.secureBody 8 m.bytes = some cmd) {code : Nat}
    (hcode : fieldBE cmd 0 1 = code) (hknown : provCodes.contains code = true) :
    s.provisionRow code = State.provision cmd (s.taken 8) := by
  rw [State.provisionRow, if_neg (by simp [hfree]), keeperTake_of_good hup hopen hkind hm hbody hcode hknown]

theorem provision_of_energy (hgood : s.mail.keys.refuses cmd = none) (henergy : 2040 ≤ s.energy) :
    s.provision cmd = { s with
      mail := { s.mail with provCmd := some cmd }, store := { s.store with need := 2000, op := some .key } } := by
  simp only [State.provision, hgood, State.startOp_of_energy (op := .key) henergy, if_true]
  rfl

/-- Without the energy the command is answered so, and nothing of the key store changes (R785). -/
theorem provision_of_no_energy (hgood : s.mail.keys.refuses cmd = none) (henergy : s.energy < 2040) :
    (s.provision cmd).mail.keys = s.mail.keys ∧ (s.provision cmd).store =
      { s.store with need := 2000, evt := s.store.evt ||| 1 } := by
  have hcheck : s.startOp .key = (false, ({ s with
      store.need := 2000, store.evt := s.store.evt ||| 1 } : State).note 0x1203) := by
    have hlow : ¬ (StoreOp.key.need + 40 ≤ ({ s with store.need := StoreOp.key.need } : State).energy) := by
      show ¬ (2000 + 40 ≤ s.energy)
      omega
    simp only [State.startOp, State.checkEnergy]
    rw [if_neg hlow]
    rfl
  simp only [State.provision, hgood, hcheck, Bool.false_eq_true, if_false]
  have htells := ({ s with store.need := 2000, store.evt := s.store.evt ||| 1 } : State).note_tells 0x1203
  obtain ⟨o, x, b, hanswer⟩ := keeperReply_answers (({ s with
    store.need := 2000, store.evt := s.store.evt ||| 1 } : State).note 0x1203) 8 (cmd.take 1 ++ bytesBE 1 3)
  rw [hanswer]
  exact ⟨congrArg (fun x => x.keys) htells.mail, htells.keeps.2.1⟩

/-- The new HAK of an INSTALL session is taken in clear (R679). -/
theorem exec_hakSet_of_install (hfree : s.store.op = none) (hup : s.supply.dom[1] = .up)
    (hopen : s.mail.session.mode = .open_) (hkind : s.mail.session.kind = 3)
    (hm : vget none s.mail.inb 8 = some m) (hlength : m.bytes.length = 16) (henergy : 2040 ≤ s.energy) :
    exec .hakSet s = .next { s with
      store := { s.store with need := 2000, op := some .key }
      mail := { s.mail with inb := vset s.mail.inb 8 none, provCmd := some (6 :: m.bytes) } } := by
  have hdom : s.up .keeper = true := by simp [State.up, Domain.ctorIdx, hup]
  have hstart : (s.emptySlot 8).startOp .key = _ := State.startOp_of_energy (op := .key) henergy
  show execHakSet s = _
  rw [execHakSet, if_pos ⟨hopen, hkind⟩, if_neg (by simp [hfree])]
  simp only [State.installHak, hm, hdom, hlength, hstart]
  rfl

/-! ### The store write is done -/

/-- A key store copy verified leaves the key store that the command makes of it (R684). -/
theorem keyDone_leaves (hcmd : s.mail.provCmd = some cmd) :
    (s.keyDone true).mail.keys = s.mail.keys.apply cmd ∧ (s.keyDone true).mail.provCmd = none ∧
      (s.keyDone true).store.op = s.store.op ∧ (s.keyDone true).theSeal = s.theSeal ∧
      (s.keyDone true).last = s.last := by
  simp only [State.keyDone, hcmd, if_true]
  generalize (bytesBE 1 _ ++ bytesBE 4 _ : List Byte) = body
  have hput := State.journalPut_journals { s with
    mail.provCmd := none, mail.keys := s.mail.keys.apply cmd } .key 0 body
  generalize State.journalPut _ .key 0 body = t at *
  obtain ⟨_, _, _, _, hstore⟩ := hput.store
  split
  · obtain ⟨hmail, -, -, -, -, hseal, hstore', hlast⟩ := closeSession_leaves t
    rw [hmail, hput.mail, hstore', hstore, hseal, hput.theSeal, hlast, hput.last]
    exact ⟨rfl, rfl, rfl, rfl, rfl⟩
  · obtain ⟨o, x, b, hanswer⟩ := keeperReply_answers t 8 (cmd.take 1 ++ bytesBE 1 0)
    simp only [hanswer, hput.mail, hstore, hput.theSeal, hput.last, and_self]

theorem exec_storeOpDone_key (hop : s.store.op = some .key) (hgood : s.supply.failing = false) :
    exec (.storeOpDone true) s = .next (State.keyDone { s with store.op := none } true) := by
  show execStoreOpDone true s = _
  rw [execStoreOpDone]
  simp only [hop]
  rw [if_neg (show ¬ (s.supply.failing = true) by simp [hgood])]
  rfl

end Keys

/-- Settles O47. -/
theorem keyRowsComplete : Obligations.KeyRowsComplete := by
  unfold Obligations.KeyRowsComplete
  intro s m cmd k n asked begins done
  have hbegins : ∀ (c : Instr) (code : Nat), exec c s = .next (s.provisionRow code) → asked → 2040 ≤ s.energy →
      fieldBE cmd 0 1 = code → provCodes.contains code = true → k.refuses cmd = none → begins c := by
    rintro c code hexec ⟨hfree, hup, hopen, hkind, hm, hbody⟩ henergy hcode hknown hgood
    refine ⟨_, hexec, ?_⟩
    rw [provisionRow_of_good hfree hup hopen hkind hm hbody hcode hknown,
      provision_of_energy (s := s.taken 8) hgood henergy]
    exact ⟨rfl, rfl, vget_vset_self (by decide), rfl, rfl⟩
  have hdone : done (k.apply cmd) := fun hop hgood hcmd => by
    obtain ⟨hkeys, hprov, hfree, hseal, hlast⟩ := keyDone_leaves (s := { s with store.op := none }) hcmd
    exact ⟨_, exec_storeOpDone_key hop hgood, hkeys, hprov, hfree, hseal, hlast⟩
  have happly : ∀ {c : Nat} {x : Keys}, (n = c → k.apply cmd = x) → n = c → done x := fun h hn => h hn ▸ hdone
  refine ⟨fun hasked henergy => ⟨fun hn hlength hid hroom => ?_, fun hn hlength hid => ?_, fun hn hlength => ?_,
    fun hn hlength hslot => ?_, fun hn hlength hslot => ?_, fun hn hlength => ?_⟩,
    fun ⟨hfree, hup, hopen, hkind, hm, hbody⟩ henergy hn hlength => ?_,
    fun hfree hup hopen hkind hm hlength henergy => exec_hakSet_of_install hfree hup hopen hkind hm hlength henergy,
    happly fun hn => ?_, happly fun hn => ?_, happly fun hn => ?_, happly fun hn => ?_, happly fun hn => ?_,
    happly fun hn => ?_⟩
  · exact hbegins .showSet 1 rfl hasked henergy hn (by decide) (refuses_one hn hlength hid hroom)
  · exact hbegins .showDel 2 rfl hasked henergy hn (by decide) (refuses_two hn hlength hid)
  · exact hbegins .siteSet 3 rfl hasked henergy hn (by decide) (refuses_key (.inl hn) hlength)
  · exact hbegins .linkSet 4 rfl hasked henergy hn (by decide) (refuses_four hn hlength hslot)
  · exact hbegins .linkDel 5 rfl hasked henergy hn (by decide) (refuses_five hn hlength hslot)
  · have ⟨_, _, _, hkind, _, _⟩ := hasked
    exact hbegins .hakSet 6 (congrArg Host.Outcome.next (if_neg (by simp [hkind]))) hasked henergy hn (by decide)
      (refuses_key (.inr hn) hlength)
  · obtain ⟨hkeys, hstore⟩ := provision_of_no_energy (s := s.taken 8) (refuses_key (.inl hn) hlength) henergy
    refine ⟨_, rfl, ?_⟩
    rw [provisionRow_of_good hfree hup hopen hkind hm hbody hn (by decide), hkeys, hstore]
    exact ⟨rfl, hfree, rfl, rfl⟩
  all_goals
    simp only [Keys.apply, show fieldBE cmd 0 1 = _ from hn]

end Sys2Proof.Machine
end

section
/-! PROOFS. The install commands (R786–R792). -/

namespace Sys2Proof.Machine

open Sys2Proof

section Install

variable {s t u : State} {m : Msg} {cmd : List Byte}

/-- What no install command changes: the keys, the seal, the Last, the image held and which bank is active. -/
def State.Installs (s t : State) : Prop := t.mail.keys = s.mail.keys ∧ t.theSeal = s.theSeal ∧ t.last = s.last ∧
  t.prog.image = s.prog.image ∧ t.store.active = s.store.active

theorem State.Installs.trans (h : s.Installs t) (k : t.Installs u) : s.Installs u := by
  obtain ⟨hkeys, hseal, hlast, himage, hactive⟩ := h
  obtain ⟨kkeys, kseal, klast, kimage, kactive⟩ := k
  exact ⟨kkeys.trans hkeys, kseal.trans hseal, klast.trans hlast, kimage.trans himage, kactive.trans hactive⟩

/-- What the install commands read of the store besides the journal stands, and so does all else that they leave. -/
structure State.Recorded (s t : State) : Prop where
  installs : s.Installs t
  store : ∃ j q n e, t.store = { s.store with journal := j, journalSeq := q, need := n, evt := e }

theorem State.Journals.recorded (h : s.Journals t) : s.Recorded t := by
  refine ⟨⟨congrArg (fun x => x.keys) h.mail, h.theSeal, h.last, h.image, ?_⟩, h.store⟩
  obtain ⟨_, _, _, _, hstore⟩ := h.store
  rw [hstore]

theorem State.Answers.recorded (h : s.Answers t) : s.Recorded t := by
  obtain ⟨_, _, _, rfl⟩ := h
  exact ⟨⟨rfl, rfl, rfl, rfl, rfl⟩, _, _, _, _, rfl⟩

theorem State.Recorded.trans (h : s.Recorded t) (k : t.Recorded u) : s.Recorded u := by
  obtain ⟨hin, _, _, _, _, hstore⟩ := h
  obtain ⟨kin, j, q, n, e, kstore⟩ := k
  exact ⟨hin.trans kin, j, q, n, e, by rw [kstore, hstore]⟩

theorem instReply_recorded (s : State) (op : StoreOp) (status : Nat) : s.Recorded (s.instReply op status) := by
  unfold State.instReply
  split <;> exact (keeperReply_answers s 9 _).recorded

section Leaves

variable (h : s.Recorded t)

include h

theorem State.Recorded.bank (b : Bool) : t.bank b = s.bank b := by
  obtain ⟨-, _, _, _, _, hstore⟩ := h
  simp only [State.bank, hstore]

theorem State.Recorded.inst : t.store.inst = s.store.inst := by obtain ⟨-, _, _, _, _, hstore⟩ := h; rw [hstore]

theorem State.Recorded.op : t.store.op = s.store.op := by obtain ⟨-, _, _, _, _, hstore⟩ := h; rw [hstore]

theorem State.Recorded.target : t.store.target = s.store.target := by obtain ⟨-, _, _, _, _, hstore⟩ := h; rw [hstore]

theorem State.Recorded.recheck : t.store.recheck = s.store.recheck := by
  obtain ⟨-, _, _, _, _, hstore⟩ := h
  rw [hstore]

end Leaves

/-! ### An operation begins -/

theorem instStart_of_energy {op : StoreOp} (h : op.need + 40 ≤ s.energy) : s.instStart op =
    State.instStarted { s with store := { s.store with need := op.need, op := some op, recheck := none } } op := by
  simp only [State.instStart, State.startOp_of_energy h, if_true]

theorem installRow_of_good (hfree : s.store.op = none) (hup : s.supply.dom[1] = .up)
    (hopen : s.mail.session.mode = .open_) (hkind : s.mail.session.kind = 2)
    (hm : vget none s.mail.inb 9 = some m) (hbody : s.secureBody 9 m.bytes = some cmd) {code : Nat}
    (hcode : fieldBE cmd 0 1 = code) (hknown : instCodes.contains code = true) (act : List Byte → State → State) :
    s.installRow code act = act cmd (s.taken 9) := by
  simp only [State.installRow, hfree]
  exact keeperTake_of_good hup hopen hkind hm hbody hcode hknown act

theorem taken_installs (s : State) (mb : Nat) : s.Installs (s.taken mb) := ⟨rfl, rfl, rfl, rfl, rfl⟩

/-! ### The banks -/

/-- A bank replaced: that bank, the other as it was, and nothing else of the store. -/
theorem setBank_leaves (s : State) (b : Bool) (x : Bank) : s.Installs (s.setBank b x) ∧
    (s.setBank b x).bank b = x ∧ (s.setBank b x).bank (!b) = s.bank (!b) ∧
    ∃ y z, (s.setBank b x).store = { s.store with bankA := y, bankB := z } := by
  cases b <;> exact ⟨⟨rfl, rfl, rfl, rfl, rfl⟩, rfl, rfl, _, _, rfl⟩

/-- The same for a bank found invalid, with what the Keeper answers and records around it. -/
theorem spoilBank_leaves (s : State) (b : Bool) : s.Installs (s.spoilBank b) ∧
    ((s.spoilBank b).bank b).valid = false ∧ (s.spoilBank b).bank (!b) = s.bank (!b) ∧
    ∃ y z, (s.spoilBank b).store = { s.store with bankA := y, bankB := z } := by
  obtain ⟨hin, hself, hother, hstore⟩ := setBank_leaves s b { s.bank b with valid := false, ver := 0, digest := [] }
  exact ⟨hin, congrArg (fun x => x.valid) hself, hother, hstore⟩

/-! ### The commands, acted on -/

/-- The state in which an install's erase begins, before its bank is emptied and its record written (R787). -/
def State.eraseStarted (s : State) (n : Nat) : State := { s with
  store := { s.store with
    imgLen := n, need := 200, op := some .instErase, recheck := none, inst := .erasing, target := s.targetBank, got := 0
    chunk := [], chunksLost := 0
    previous := if s.store.previous = some s.targetBank then none else s.store.previous } }

theorem instBegin_of_good (hop : s.store.op = none) (hrecheck : s.store.recheck = none)
    (herasing : s.store.inst ≠ .erasing) (hprogramming : s.store.inst ≠ .programming)
    (hverifying : s.store.inst ≠ .verifying) (hlength : cmd.length = 5) (hlow : 128 ≤ fieldBE cmd 1 4)
    (hhigh : fieldBE cmd 1 4 ≤ 1048576) (henergy : 240 ≤ s.energy) :
    s.instBegin cmd = ((s.eraseStarted (fieldBE cmd 1 4)).setBank s.targetBank ⟨[], false, 0, []⟩).instPut 1
      s.targetBank := by
  simp only [State.instBegin]
  rw [if_neg (by simp [herasing, hprogramming, hverifying, hrecheck, hop]), if_neg (by omega)]
  exact instStart_of_energy (s := { s with store.imgLen := fieldBE cmd 1 4 }) (op := .instErase) henergy

/-- BEGIN erases the bank that is not active, and leaves the other (R787). -/
theorem eraseStarted_leaves (s : State) (n : Nat) :
    let t := ((s.eraseStarted n).setBank s.targetBank ⟨[], false, 0, []⟩).instPut 1 s.targetBank
    s.Installs t ∧ t.store.inst = .erasing ∧ t.store.op = some .instErase ∧ t.store.imgLen = n ∧
      t.store.target = s.targetBank ∧ t.store.got = 0 ∧ t.store.chunk = [] ∧
      (t.bank s.targetBank).valid = false ∧ t.bank (!s.targetBank) = s.bank (!s.targetBank) := by
  intro t
  have hstart : s.Installs (s.eraseStarted n) := ⟨rfl, rfl, rfl, rfl, rfl⟩
  obtain ⟨hbank, hself, hother, y, z, hstore⟩ := setBank_leaves (s.eraseStarted n) s.targetBank ⟨[], false, 0, []⟩
  have hput : State.Recorded _ t := (State.instPut_journals _ 1 s.targetBank).recorded
  obtain ⟨hrecord, _, _, _, _, hstore'⟩ := id hput
  refine ⟨(hstart.trans hbank).trans hrecord, ?_, ?_, ?_, ?_, ?_, ?_, ?_, ?_⟩
  case refine_7 => rw [hput.bank, hself]
  case refine_8 => exact (hput.bank _).trans hother
  all_goals
    rw [hstore', hstore]
    rfl

/-- DATA takes the next chunk alone, and programs a page once 256 bytes are held (R788). -/
theorem instData_of_next (hop : s.store.op = none) (hrecheck : s.store.recheck = none)
    (hinst : s.store.inst = .programming) (hlow : 5 ≤ cmd.length) (hhigh : cmd.length ≤ 52)
    (hnext : fieldBE cmd 1 3 = s.instNext) (hroom : s.instNext + (cmd.drop 4).length ≤ s.store.imgLen)
    (henergy : 80 ≤ s.energy) : s.Installs (s.instData cmd) ∧ (s.instData cmd).store.inst = .programming ∧
      (s.instData cmd).store.chunk = s.store.chunk ++ cmd.drop 4 ∧ (s.instData cmd).store.op =
        if 256 ≤ (s.store.chunk ++ cmd.drop 4).length then some .instPage else none := by
  simp only [State.instData]
  rw [if_pos (by simp only [hinst, hlow, hhigh, hnext, hroom, beq_self_eq_true, decide_true, Bool.and_self])]
  by_cases hpage : 256 ≤ (s.store.chunk ++ cmd.drop 4).length
  · rw [if_pos ⟨hpage, by simp [hop], by simp [hrecheck]⟩, if_pos hpage,
      instStart_of_energy (op := .instPage) (by exact henergy)]
    exact ⟨⟨rfl, rfl, rfl, rfl, rfl⟩, hinst, rfl, rfl⟩
  · rw [if_neg (fun h => hpage h.1), if_neg hpage]
    exact ⟨⟨rfl, rfl, rfl, rfl, rfl⟩, hinst, rfl, hop⟩

theorem instData_of_other (hnext : fieldBE cmd 1 3 ≠ s.instNext) :
    s.instData cmd = { s with store := { s.store with chunksLost := s.store.chunksLost + 1 } } := by
  simp only [State.instData, beq_eq_false_iff_ne.mpr hnext, Bool.and_false, Bool.false_and, Bool.false_eq_true,
    if_false]

/-- END begins the verification of a whole image (R789). -/
theorem instEnd_of_whole {key : List Word} (hinst : s.store.inst = .programming) (hwhole : s.store.imgLen ≤ s.instNext)
    (hivk : s.store.ivk = some key) (henergy : 80 ≤ s.energy) : s.Installs (s.instEnd cmd) ∧
      (s.instEnd cmd).store.inst = .verifying ∧ (s.instEnd cmd).store.op = some (.instRecord 3) := by
  have hend : s.instEnd cmd = State.instPut { s with store := { s.store with
      need := 40, op := some (.instRecord 3), recheck := none, inst := .verifying } } 3 s.store.target := by
    rw [State.instEnd, if_neg (by simp [hinst, hwhole]), if_neg (by simp [hivk]),
      instStart_of_energy (op := .instRecord 3) henergy]
    rfl
  rw [hend]
  generalize hu : ({ s with store := _ } : State) = u
  have hstart : s.Installs u := hu ▸ ⟨rfl, rfl, rfl, rfl, rfl⟩
  have hput := (u.instPut_journals 3 s.store.target).recorded
  exact ⟨hstart.trans hput.installs, hput.inst.trans (hu ▸ rfl), hput.op.trans (hu ▸ rfl)⟩

/-- A record begun leaves the install's step until it is written (R792). -/
theorem instStart_record {k : Nat} (hk : k ≠ 3) (henergy : 80 ≤ s.energy) : s.instStart (.instRecord k) =
    { s with store := { s.store with need := 40, op := some (.instRecord k), recheck := none } } := by
  rw [instStart_of_energy (op := .instRecord k) henergy, State.instStarted.eq_def]
  split
  · next h => exact absurd h (by simp)
  · next h => exact absurd (StoreOp.instRecord.inj h) hk
  · rfl

theorem instRevert_of_good {b : Bool} (hprevious : s.store.previous = some b) (hvalid : (s.bank b).valid = true)
    (hdigest : imageDigest (s.bank b).bytes = (s.bank b).digest) :
    s.instRevert cmd = s.instStart (.instRecord 6) := by
  simp only [State.instRevert, hprevious, hvalid, hdigest, beq_self_eq_true, Bool.and_self, if_true]

/-- ABORT ends an install that is not committed, its target INVALID (Table 19-14). -/
theorem instAbort_leaves (hnone : s.store.inst ≠ .none) (hcommitted : s.store.inst ≠ .committed) :
    s.Installs (s.instAbort cmd) ∧ (s.instAbort cmd).store.inst = .none ∧ (s.instAbort cmd).store.op = none ∧
      ((s.instAbort cmd).bank s.store.target).valid = false ∧
      (s.instAbort cmd).bank (!s.store.target) = s.bank (!s.store.target) := by
  simp only [State.instAbort]
  rw [if_neg (by simp [hnone, hcommitted])]
  generalize hu : ({ s with store := _ } : State) = u
  have hstart : s.Installs u := hu ▸ ⟨rfl, rfl, rfl, rfl, rfl⟩
  have hbank : ∀ b, u.bank b = s.bank b := hu ▸ fun b => rfl
  obtain ⟨hspoil, hself, hother, y, z, hstore⟩ := spoilBank_leaves u s.store.target
  have hreply := (keeperReply_answers (u.spoilBank s.store.target) 9 (bytesBE 1 0x15 ++ bytesBE 1 0)).recorded
  rw [hreply.inst, hreply.op, hreply.bank, hreply.bank, hself, hother, hbank, hstore]
  exact ⟨(hstart.trans hspoil).trans hreply.installs, hu ▸ rfl, hu ▸ rfl, rfl, rfl⟩

theorem exec_instAbort_of_good (hop : s.store.op = none ∨ s.store.op = some .instErase ∨ s.store.op = some .instPage)
    (hup : s.supply.dom[1] = .up) (hopen : s.mail.session.mode = .open_) (hkind : s.mail.session.kind = 2)
    (hm : vget none s.mail.inb 9 = some m) (hbody : s.secureBody 9 m.bytes = some cmd)
    (hcode : fieldBE cmd 0 1 = 0x15) : exec .instAbort s = .next ((s.taken 9).instAbort cmd) := by
  have htake := keeperTake_of_good hup hopen hkind hm hbody hcode (known := instCodes) (by decide) State.instAbort
  show execInstAbort s = _
  rw [execInstAbort, State.installRow]
  obtain hop | hop | hop := hop <;> simp only [hop, htake]
  rfl

/-! ### The ends of an erase and of a verification -/

theorem exec_instEraseDone_of_erase (hop : s.store.op = some .instErase) : exec .instEraseDone s =
    .next ((State.instPut { s with store.op := none, store.inst := .programming } 2 s.store.target).instReply
      .instErase 0) :=
  congrArg Host.Outcome.next (if_pos hop)

theorem instFail_leaves (s : State) : s.Installs s.instFail ∧ s.instFail.store.inst = .failed ∧
    s.instFail.store.op = s.store.op ∧ (s.instFail.bank s.store.target).valid = false ∧
    s.instFail.bank (!s.store.target) = s.bank (!s.store.target) := by
  obtain ⟨hin, hself, hother, y, z, hstore⟩ := spoilBank_leaves { s with store.inst := .failed } s.store.target
  rw [State.instFail, hstore]
  exact ⟨hin, rfl, rfl, hself, hother⟩

theorem exec_instVerifyDone_of_good {key : List Word} (hop : s.store.op = none) (hrecheck : s.store.recheck = none)
    (hinst : s.store.inst = .verifying) (hivk : s.store.ivk = some key)
    (hsignature : signatureOk key (s.bank s.store.target).bytes = true)
    (hform : imageOk (s.bank s.store.target).bytes = true) :
    exec .instVerifyDone s = .next (s.instStart (.instRecord 4)) := by
  show execInstVerifyDone s = _
  simp only [execInstVerifyDone]
  rw [if_neg (by simp [hinst, hop, hrecheck])]
  simp only [hivk, hsignature, hform, Bool.not_true, Bool.false_eq_true, if_false]

theorem exec_instVerifyDone_of_forged {key : List Word} (hop : s.store.op = none) (hrecheck : s.store.recheck = none)
    (hinst : s.store.inst = .verifying) (hivk : s.store.ivk = some key)
    (hsignature : signatureOk key (s.bank s.store.target).bytes = false) :
    exec .instVerifyDone s = .next (((s.instReply (.instRecord 4) 6).instFail).note 0xB211) := by
  show execInstVerifyDone s = _
  simp only [execInstVerifyDone]
  rw [if_neg (by simp [hinst, hop, hrecheck])]
  simp only [hivk, hsignature, Bool.not_false, if_true]

/-! ### The energy checked again -/

theorem setBank_instPut_leaves (s : State) (b : Bool) (x : Bank) (k : Nat) :
    s.Installs ((s.setBank b x).instPut k b) ∧ ((s.setBank b x).instPut k b).store.op = s.store.op ∧
      ((s.setBank b x).instPut k b).store.recheck = s.store.recheck := by
  obtain ⟨hbank, -, -, y, z, hstore⟩ := setBank_leaves s b x
  have hput := ((s.setBank b x).instPut_journals k b).recorded
  exact ⟨hbank.trans hput.installs, hput.op.trans (by rw [hstore]), hput.recheck.trans (by rw [hstore])⟩

theorem instStarted_leaves (s : State) (op : StoreOp) : s.Installs (s.instStarted op) ∧
    (s.instStarted op).store.op = s.store.op ∧ (s.instStarted op).store.recheck = s.store.recheck := by
  rw [State.instStarted.eq_def]
  split
  · exact setBank_instPut_leaves { s with
      store.inst := .erasing, store.target := s.targetBank, store.got := 0, store.chunk := [], store.chunksLost := 0
      store.previous := if s.store.previous = some s.targetBank then none else s.store.previous } s.targetBank _ 1
  · have hput := (State.instPut_journals { s with store.inst := .verifying } 3 s.store.target).recorded
    exact ⟨hput.installs, hput.op, hput.recheck⟩
  · exact ⟨⟨rfl, rfl, rfl, rfl, rfl⟩, rfl, rfl⟩

/-- An operation refused for energy is begun once the energy is there (R785). -/
theorem exec_energyRecheck_of_energy {op : StoreOp} {i : Nat} (hrecheck : s.store.recheck = some (op, i))
    (hop : s.store.op = none) (hi : i < 99) (henergy : op.need + 40 ≤ s.energy) :
    exec .energyRecheck s = .next (State.instStarted { s with store := { s.store with
      need := op.need, op := some op, recheck := none } } op) := by
  show execEnergyRecheck s = _
  simp only [execEnergyRecheck, hrecheck]
  rw [if_neg (by simp [hop]), if_pos (by omega),
    instStart_of_energy (s := { s with store.recheck := some (op, i + 1) }) henergy]

/-- Without the energy it is counted and waits on (R785). -/
theorem energyRecheck_of_no_energy {op : StoreOp} {i : Nat} (hrecheck : s.store.recheck = some (op, i))
    (hop : s.store.op = none) (hi : i < 99) (henergy : s.energy < op.need + 40) :
    ∃ t, exec .energyRecheck s = .next t ∧ s.Installs t ∧ t.store =
      { s.store with need := op.need, recheck := some (op, i + 1), evt := s.store.evt ||| 1 } := by
  generalize hu : ({ s with store := { s.store with
    need := op.need, recheck := some (op, i + 1), evt := s.store.evt ||| 1 } } : State) = u
  have hstore : u.store = { s.store with need := op.need, recheck := some (op, i + 1), evt := s.store.evt ||| 1 } :=
    hu ▸ rfl
  have hstart : s.Installs u := hu ▸ ⟨rfl, rfl, rfl, rfl, rfl⟩
  have htells := u.note_tells 0x1203
  have hlow : ¬ (op.need + 40 ≤ State.energy { s with store := { s.store with
      need := op.need, recheck := some (op, i + 1) } }) :=
    Nat.not_le.mpr henergy
  have hcheck : State.startOp { s with store := { s.store with recheck := some (op, i + 1) } } op =
      (false, u.note 0x1203) := by
    simp only [State.startOp, State.checkEnergy, ← hu]
    rw [if_neg hlow]
    rfl
  have hnote : (u.note 0x1203).store = u.store := htells.keeps.2.1
  refine ⟨{ u.note 0x1203 with store := { (u.note 0x1203).store with recheck := some (op, i + 1) } }, ?_, ?_, ?_⟩
  · show execEnergyRecheck s = _
    simp only [execEnergyRecheck, hrecheck]
    rw [if_neg (by simp [hop]), if_pos (by omega), State.instStart, hcheck]
    rfl
  · exact (hstart.trans htells.journals.recorded.installs).trans ⟨rfl, rfl, rfl, rfl, rfl⟩
  · rw [hnote, hstore]

end Install

/-- Settles O48. -/
theorem installRowsComplete : Obligations.InstallRowsComplete := by
  unfold Obligations.InstallRowsComplete
  intro s m cmd key b x asked free others n chunk image
  have hothers : ∀ {t : State}, s.Installs t → others t := fun h => h
  have hrow : ∀ (c : Instr) (code : Nat) (act : List Byte → State → State), exec c s = .next (s.installRow code act) →
      asked code → x.op = none → instCodes.contains code = true → exec c s = .next (act cmd (s.taken 9)) := by
    rintro c code act hexec ⟨hup, hopen, hkind, hm, hbody, hcode⟩ hop hknown
    rw [hexec, installRow_of_good hop hup hopen hkind hm hbody hcode hknown]
  have htaken := taken_installs s 9
  refine ⟨fun hasked ⟨hop, hrecheck⟩ herasing hprogramming hverifying hlength hlow hhigh henergy => ?_,
    fun hasked ⟨hop, hrecheck⟩ hinst hlow hhigh hnext hroom henergy => ?_,
    fun hasked ⟨hop, hrecheck⟩ hnext => ?_, fun hasked ⟨hop, hrecheck⟩ hinst hwhole hivk henergy => ?_,
    fun hasked ⟨hop, hrecheck⟩ hinst henergy => ?_,
    fun hasked ⟨hop, hrecheck⟩ hprevious hvalid hdigest henergy => ?_,
    fun ⟨hup, hopen, hkind, hm, hbody, hcode⟩ hop hnone hcommitted => ?_, fun hop => ?_,
    fun ⟨hop, hrecheck⟩ hinst hivk hsignature hform henergy => ?_,
    fun ⟨hop, hrecheck⟩ hinst hivk hsignature => ?_, fun op i hrecheck hop hi henergy => ?_,
    fun op i hrecheck hop hi henergy => ?_⟩
  · refine ⟨_, hrow .instBegin 0x10 State.instBegin rfl hasked hop (by decide), ?_⟩
    rw [instBegin_of_good (s := s.taken 9) hop hrecheck herasing hprogramming hverifying hlength hlow hhigh henergy]
    obtain ⟨hin, hrest⟩ := eraseStarted_leaves (s.taken 9) n
    exact ⟨hothers (htaken.trans hin), hrest⟩
  · obtain ⟨hin, hrest⟩ := instData_of_next (s := s.taken 9) hop hrecheck hinst hlow hhigh hnext hroom henergy
    exact ⟨_, hrow .instData 0x11 State.instData rfl hasked hop (by decide), hothers (htaken.trans hin), hrest⟩
  · refine ⟨_, hrow .instData 0x11 State.instData rfl hasked hop (by decide), ?_⟩
    rw [instData_of_other (s := s.taken 9) hnext]
    exact ⟨hothers ⟨rfl, rfl, rfl, rfl, rfl⟩, rfl⟩
  · obtain ⟨hin, hrest⟩ := instEnd_of_whole (cmd := cmd) (s := s.taken 9) hinst hwhole hivk henergy
    exact ⟨_, hrow .instEnd 0x12 State.instEnd rfl hasked hop (by decide), hothers (htaken.trans hin), hrest⟩
  · refine ⟨_, hrow .instCommit 0x13 State.instCommit rfl hasked hop (by decide), ?_⟩
    rw [State.instCommit, if_pos (show (s.taken 9).store.inst = .verified from hinst),
      instStart_record (s := s.taken 9) (by decide) henergy]
    exact ⟨hothers ⟨rfl, rfl, rfl, rfl, rfl⟩, hinst, rfl⟩
  · refine ⟨_, hrow .instRevert 0x14 State.instRevert rfl hasked hop (by decide), ?_⟩
    rw [instRevert_of_good (s := s.taken 9) hprevious hvalid hdigest,
      instStart_record (s := s.taken 9) (by decide) henergy]
    exact ⟨hothers ⟨rfl, rfl, rfl, rfl, rfl⟩, rfl⟩
  · obtain ⟨hin, hrest⟩ := instAbort_leaves (cmd := cmd) (s := s.taken 9) hnone hcommitted
    exact ⟨_, exec_instAbort_of_good hop hup hopen hkind hm hbody hcode, hothers (htaken.trans hin), hrest⟩
  · refine ⟨_, exec_instEraseDone_of_erase hop, ?_⟩
    have hput := (State.instPut_journals { s with store.op := none, store.inst := .programming } 2
      s.store.target).recorded.trans (instReply_recorded _ .instErase 0)
    exact ⟨hothers hput.installs, hput.inst, hput.op, hput.target⟩
  · refine ⟨_, exec_instVerifyDone_of_good hop hrecheck hinst hivk hsignature hform, ?_⟩
    rw [instStart_record (by decide) henergy]
    exact ⟨hothers ⟨rfl, rfl, rfl, rfl, rfl⟩, hinst, rfl⟩
  · refine ⟨_, exec_instVerifyDone_of_forged hop hrecheck hinst hivk hsignature, ?_⟩
    have hreply := instReply_recorded s (.instRecord 4) 6
    obtain ⟨hin, hinst', hop', hself, hother⟩ := instFail_leaves (s.instReply (.instRecord 4) 6)
    have hnote := (State.note_tells (s.instReply (.instRecord 4) 6).instFail 0xB211).journals.recorded
    rw [hreply.target] at hself hother
    rw [hnote.inst, hnote.op, hnote.bank, hnote.bank]
    exact ⟨hothers ((hreply.installs.trans hin).trans hnote.installs), hinst', hop'.trans (hreply.op.trans hop), hself,
      hother.trans (hreply.bank _)⟩
  · obtain ⟨hin, hop', hrecheck'⟩ := instStarted_leaves { s with store := { s.store with
      need := op.need, op := some op, recheck := none } } op
    exact ⟨_, exec_energyRecheck_of_energy hrecheck hop hi henergy, hothers hin, hop', hrecheck'⟩
  · obtain ⟨t, hexec, hin, hstore⟩ := energyRecheck_of_no_energy hrecheck hop hi henergy
    refine ⟨t, hexec, hothers hin, ?_⟩
    rw [hstore]
    exact ⟨hop, rfl, rfl⟩

end Sys2Proof.Machine
end

section
/-! PROOFS. The stream port and the audio ports (chapter 17). -/

namespace Sys2Proof.Machine

open Sys2Proof

section Ports

variable {s : State} {p : Fin 2}

theorem setAudio_keeps (s : State) (p : Nat) (x : Audio) : s.keeps (s.setAudio p x) :=
  State.keeps_of_prog rfl rfl rfl rfl rfl

/-! ### Frames -/

theorem slotOf_zero (wide : Bool) : slotOf wide 0 = 0 := by cases wide <;> decide

/-- A frame sent counts, steps the read point, and carries a sample or zeros (R701, R702, R708). -/
theorem sendFrame_audio (s : State) (p : Fin 2) : ∃ y : Audio, (s.sendFrame p).audio p = y ∧
    y.frames = ((s.audio p).frames + 1) % 2 ^ 32 ∧ y.markers = (s.audio p).markers ∧ y.routed = (s.audio p).routed ∧
    (s.audSample p = none → y.sentL = 0 ∧ y.sentR = 0) ∧
    (∀ l r, s.audSample p = some (l, r) → (s.audio p).fading = 0 →
      y.sentL = slotOf ((s.audCtrl p).bit 2) l ∧ y.sentR = slotOf ((s.audCtrl p).bit 2) r) := by
  refine ⟨_, audio_setAudio_self s p _, rfl, rfl, rfl, fun hnone => ?_, fun l r hsome hfading => ?_⟩
  · simp only [State.audStep, hnone, Option.getD_none, or_true, if_true, slotOf_zero, and_self]
  · simp only [State.audStep, hsome, Option.getD_some, hfading, true_or, if_true, and_self]

/-- What a fold of packets tells, and that the audio ports stand. -/
theorem foldl_packet_leaves {f : Marker → Pos} {g : Marker → List Byte} {ty sub : Nat} (l : List Marker) (s : State) :
    s.Tells (l.foldl (fun (s : State) m => s.packet ty sub (f m) (g m)) s) ∧
      (l.foldl (fun (s : State) m => s.packet ty sub (f m) (g m)) s).port.aud = s.port.aud := by
  induction l generalizing s with
  | nil => exact ⟨.refl s, rfl⟩
  | cons m l ih =>
    obtain ⟨htells, haud⟩ := ih (s.packet ty sub (f m) (g m))
    exact ⟨(s.packet_tells ty sub (f m) (g m)).trans htells, haud.trans (s.packet_aud ty sub (f m) (g m))⟩

/-- The markers due by a stamp leave the port. -/
theorem produceMarkers_leaves (s : State) (p : Fin 2) (t : Nat) : s.keeps (s.produceMarkers p t) ∧
    (s.produceMarkers p t).last = s.last ∧ (s.produceMarkers p t).audio p = { s.audio p with
      markers := (s.audio p).markers.filter fun (m : Marker) => !decide (m.due * 65536 ≤ t) } := by
  simp only [State.produceMarkers]
  generalize hu : s.setAudio p _ = u
  have hself : u.audio p = { s.audio p with
    markers := (s.audio p).markers.filter fun (m : Marker) => !decide (m.due * 65536 ≤ t) } :=
    hu ▸ audio_setAudio_self s p _
  obtain ⟨htells, haud⟩ := foldl_packet_leaves (f := fun m => ⟨m.epoch, m.due⟩)
    (g := fun m => bytesBE 4 (s.audio p).frames ++ bytesBE 4 m.handle.toNat ++ m.payload) (ty := 9) (sub := p)
    ((s.audio p).markers.filter fun (m : Marker) => decide (m.due * 65536 ≤ t)) u
  refine ⟨(hu ▸ setAudio_keeps s p _ : s.keeps u).trans htells.keeps, htells.last.trans (hu ▸ rfl), ?_⟩
  rw [State.audio, haud]
  exact hself

/-- What a frame leaves: it is counted, and its markers that were due are gone. -/
theorem exec_audioFrame_of_sends (hsends : s.audSends p = true) : ∃ t, exec (.audioFrame p) s = .next t ∧ s.keeps t ∧
    t.last = s.last ∧ (t.audio p).frames = ((s.audio p).frames + 1) % 2 ^ 32 ∧
    (t.audio p).routed = (s.audio p).routed ∧
    (t.audio p).markers = (if (s.audSample p).isSome then (s.audio p).markers.filter fun (m : Marker) =>
      !decide (m.due * 65536 ≤ (s.audio p).read) else (s.audio p).markers) ∧
    (s.audSample p = none → (t.audio p).sentL = 0 ∧ (t.audio p).sentR = 0) ∧
    (∀ l r, s.audSample p = some (l, r) → (s.audio p).fading = 0 → (t.audio p).sentL =
      slotOf ((s.audCtrl p).bit 2) l ∧ (t.audio p).sentR = slotOf ((s.audCtrl p).bit 2) r) := by
  obtain ⟨y, hy, hframes, hmarkers, hrouted, hnone, hsome⟩ := sendFrame_audio s p
  refine ⟨_, congrArg Host.Outcome.next (if_pos hsends), ?_⟩
  dsimp only
  split
  · next hsample =>
    obtain ⟨hkeeps, hlast, haudio⟩ := produceMarkers_leaves (s.sendFrame p) p (s.audio p).read
    rw [haudio, hy]
    refine ⟨(setAudio_keeps s p _).trans hkeeps, hlast, hframes, hrouted, ?_, hnone, hsome⟩
    rw [hmarkers]
  · rw [hy]
    exact ⟨setAudio_keeps s p _, rfl, hframes, hrouted, hmarkers, hnone, hsome⟩

/-! ### Placement and clocks -/

theorem exec_audioTrackMeasure_of_near (hsends : s.audSends p = true) (sub : Nat) (clk : Int)
    (hnear : (s.trackError p sub).natAbs ≤ s.alignMax p * 65536) :
    exec (.audioTrackMeasure p sub clk) s = .next (s.free16.2.setAudio p { s.audio p with
      err := roundDiv (s.trackError p sub) 256, ratio := (s.free16.1.toNat % 1001 : Int) - 500
      slave := if s.audSlaved p then -clk else 0 }) := by
  refine congrArg Host.Outcome.next ((if_pos hsends).trans ?_)
  exact if_neg (Nat.not_lt.mpr hnear)

theorem exec_audioClockLoss_of_slave (hup : s.supply.dom[0] = .up) (hon : s.audOn p = true)
    (hslave : s.audSlaved p = true) (hheard : (s.audio p).muted = false) : exec (.audioClockLoss p) s =
      .next ((s.setAudio p { s.audio p with muted := true, lock := false }).note 0x9302) := by
  have hhost : s.up .host = true := by simp [State.up, Domain.ctorIdx, hup]
  exact congrArg Host.Outcome.next (if_pos (by simp [hhost, hon, hslave, hheard]))

theorem exec_audioClockReturn_of_muted (hup : s.supply.dom[0] = .up) (hon : s.audOn p = true)
    (hmuted : (s.audio p).muted = true) (sub : Nat) : exec (.audioClockReturn p sub) s =
      .next ((s.setAudio p { s.audio p with muted := false, lock := true }).realign p sub false) := by
  have hhost : s.up .host = true := by simp [State.up, Domain.ctorIdx, hup]
  exact congrArg Host.Outcome.next (if_pos (by simp [hhost, hon, hmuted]))

/-- The placement goes by the output that a port is routed from, and not by its clock. -/
theorem wantedStamp_setAudio {x : Audio} (hrouted : x.routed = (s.audio p).routed) (sub : Nat) :
    (s.setAudio p x).wantedStamp p sub = s.wantedStamp p sub := by
  simp only [State.wantedStamp, State.presentation, audio_setAudio_self, hrouted]
  rfl

end Ports

/-- Settles O40. -/
theorem portRowsComplete : Obligations.PortRowsComplete := by
  unfold Obligations.PortRowsComplete
  intro s p sub clk a wide err sends
  refine ⟨fun k rest hen hup hlock hqueue => ?_, rfl, fun hsends hnone => ?_, fun hsends hnone => ?_,
    fun l r hsends hsample hfading => ?_, fun m v hsends hsample hm hdue => ?_, fun hsends hnear => ?_,
    fun hup hon hslave hheard => ?_, fun hup hon hmuted => ?_⟩
  · have hhost : s.up .host = true := by simp [State.up, Domain.ctorIdx, hup]
    refine congrArg Host.Outcome.next ((if_pos ?_).trans ?_)
    · simp only [Bool.and_eq_true]
      exact ⟨⟨⟨trivial, hen⟩, hhost⟩, hlock⟩
    · simp only [hqueue]
  · obtain ⟨t, hexec, hkeeps, hlast, hframes, hrouted, hmarkers, -⟩ := exec_audioFrame_of_sends hsends
    refine ⟨t, hexec, hkeeps, hlast, hframes, ?_, hrouted⟩
    rw [hmarkers, hnone]
    exact ite_self _
  · obtain ⟨t, hexec, hkeeps, hlast, hframes, -, hmarkers, hzero, -⟩ := exec_audioFrame_of_sends hsends
    obtain ⟨hleft, hright⟩ := hzero hnone
    refine ⟨t, hexec, hkeeps, hlast, hframes, hleft, hright, ?_⟩
    rw [hmarkers, hnone]
    rfl
  · obtain ⟨t, hexec, hkeeps, hlast, hframes, -, -, -, hsome⟩ := exec_audioFrame_of_sends hsends
    exact ⟨t, hexec, hkeeps, hlast, hframes, hsome l r hsample hfading⟩
  · obtain ⟨t, hexec, hkeeps, hlast, hframes, -, hmarkers, -⟩ := exec_audioFrame_of_sends hsends
    refine ⟨t, hexec, hkeeps, hlast, hframes, ?_⟩
    have hgone : (t.audio p).markers = [] := by
      rw [hmarkers, hsample, show (s.audio p).markers = [m] from hm]
      simp [show m.due * 65536 ≤ (s.audio p).read from hdue]
    exact hgone
  · refine ⟨_, exec_audioTrackMeasure_of_near hsends sub clk hnear, rfl, (s.free16.1.toNat % 1001 : Int) - 500, ?_, ?_,
      audio_setAudio_self s.free16.2 p _⟩ <;> omega
  · refine ⟨_, exec_audioClockLoss_of_slave hup hon hslave hheard, ?_⟩
    generalize hu : s.setAudio p _ = u
    have hkeeps : s.keeps u := hu ▸ setAudio_keeps s p _
    have htells := u.note_tells 0x9302
    refine ⟨hkeeps.trans htells.keeps, htells.last.trans (hu ▸ rfl), ?_⟩
    rw [State.audio, State.note_aud]
    exact hu ▸ audio_setAudio_self s p _
  · refine ⟨_, exec_audioClockReturn_of_muted hup hon hmuted sub, ?_⟩
    generalize hu : s.setAudio p _ = u
    have haudio : u.audio p = { a with muted := false, lock := true } := hu ▸ audio_setAudio_self s p _
    have hwant : u.wantedStamp p sub = s.wantedStamp p sub := 
      hu ▸ wantedStamp_setAudio (x := { a with muted := false, lock := true }) rfl sub
    have htells := realign_tells u p sub false
    have hkeeps : s.keeps u := hu ▸ setAudio_keeps s p _
    refine ⟨(hkeeps.trans (setAudio_keeps u p _)).trans htells.keeps, htells.last.trans (hu ▸ rfl), ?_⟩
    have hfade : u.fadeFrames p = s.fadeFrames p := hu ▸ rfl
    rw [realign_audio, haudio, hwant, hfade]

end Sys2Proof.Machine
end

section
/-! PROOFS. What a change of the Last's source, a role's change and a tack's delivery leave of the welt link. -/

namespace Sys2Proof.Machine

open Sys2Proof

/-- Of the link only the frames held, the shadow queue, the tacks dispatched in silence and the sticky bits differ; the
frames held not on a member that is not ACTIVE, for it mirrors nothing. -/
def Welt.Sends (x y : Welt) : Prop := ∃ u n a b c d, y =
  { x with unacked := u, txSeq := n, shadow := a, shadowLost := b, silent := c, evt := d } ∧
    (x.role ≠ .active → u = x.unacked)

theorem Welt.Sends.refl (x : Welt) : x.Sends x := ⟨_, _, _, _, _, _, rfl, fun _ => rfl⟩

theorem Welt.Sends.trans {x y z : Welt} (h : x.Sends y) (k : y.Sends z) : x.Sends z := by
  obtain ⟨_, _, _, _, _, _, rfl, hu⟩ := h
  obtain ⟨_, _, _, _, _, _, rfl, ku⟩ := k
  exact ⟨_, _, _, _, _, _, rfl, fun hrole => (ku hrole).trans (hu hrole)⟩

namespace State

variable {s t u : State}

/-- The PP and the seal stand, and of the link what `Sends` keeps. -/
structure Speaks (s t : State) : Prop where
  pp : t.last.pp = s.last.pp
  theSeal : t.theSeal = s.theSeal
  welt : s.welt.Sends t.welt

theorem Speaks.refl (s : State) : s.Speaks s := ⟨rfl, rfl, .refl _⟩

theorem Speaks.trans (h : s.Speaks t) (k : t.Speaks u) : s.Speaks u :=
  ⟨k.pp.trans h.pp, k.theSeal.trans h.theSeal, h.welt.trans k.welt⟩

theorem Speaks.after (k : t.Speaks u) (h : s.Speaks t) : s.Speaks u := h.trans k

section Leaves

variable (h : s.Speaks t)

include h

/-- What the rows of the link tell of it stands. -/
theorem Speaks.link : t.welt.role = s.welt.role ∧ t.welt.up = s.welt.up ∧ t.welt.partner = s.welt.partner ∧
    t.welt.deciding = s.welt.deciding ∧ t.welt.adopting = s.welt.adopting ∧ t.welt.take = s.welt.take ∧
    t.welt.arbitrating = s.welt.arbitrating := by
  obtain ⟨_, _, _, _, _, _, hwelt, -⟩ := h.welt
  rw [hwelt]
  exact ⟨rfl, rfl, rfl, rfl, rfl, rfl, rfl⟩

/-- A member that is not ACTIVE holds the frames that it held. -/
theorem Speaks.unacked (hrole : s.welt.role ≠ .active) : t.welt.unacked = s.welt.unacked := by
  obtain ⟨_, _, _, _, _, _, hwelt, hu⟩ := h.welt
  rw [hwelt]
  exact hu hrole

end Leaves

theorem Speaks.of_same (h1 : t.last.pp = s.last.pp) (h2 : t.theSeal = s.theSeal) (h3 : t.welt = s.welt) : s.Speaks t :=
  ⟨h1, h2, h3 ▸ .refl _⟩

theorem foldl_speaks {α : Type} {f : State → α → State} (hf : ∀ (s : State) a, s.Speaks (f s a)) (l : List α)
    (s : State) : s.Speaks (l.foldl f s) :=
  foldl_leaves f l .refl .trans hf s

/-! ### Telling -/

theorem deliver_speaks (s : State) (b : Nat) (e : Event) : s.Speaks (s.deliver b e) :=
  .of_same (by simp) (by simp) (by simp)

theorem raise_speaks (s : State) (code unit cls : Nat) : s.Speaks (s.raise code unit cls) :=
  .of_same (by simp) (by simp) (by simp)

theorem note_speaks (s : State) (code : Nat) : s.Speaks (s.note code) := s.raise_speaks code _ _

theorem alert_speaks (s : State) (i : Nat) : s.Speaks (s.alert i) := .of_same (by simp) (by simp) (by simp)

theorem packet_speaks (s : State) (ty sub : Nat) (p : Pos) (xs : List Byte) : s.Speaks (s.packet ty sub p xs) :=
  .of_same (by simp) (by simp) (by simp)

theorem mirror_speaks (s : State) (p : WPayload) : s.Speaks (s.mirror p) := by
  by_cases h : s.welt.role = .active
  · refine ⟨by simp, by simp, ?_⟩
    rw [mirror]
    split
    · exact ⟨_, _, _, _, _, _, rfl, fun hrole => absurd h hrole⟩
    · exact .refl _
  · rw [mirror_of_role h]
    exact .refl s

theorem raiseLast_speaks (s : State) (e : Event) : s.Speaks (s.raiseLast e) := by
  simp only [raiseLast]
  split
  · exact s.deliver_speaks 4 e
  · exact (foldl_speaks (fun s b => s.deliver_speaks b e) _ s).trans (mirror_speaks _ _)

/-! ### The Last's source -/

theorem lastEvt_speaks (s : State) (bits : Nat) : s.Speaks (s.lastEvt bits) :=
  (alert_speaks _ 6).after (.of_same rfl rfl rfl)

theorem moveTo_speaks (s : State) (x : Source) : s.Speaks (s.moveTo x) := by
  simp only [moveTo]
  split
  · exact .refl s
  · split
    · refine (raiseLast_speaks _ _).after ((note_speaks _ _).after ((lastEvt_speaks _ _).after ?_))
      exact .of_same rfl rfl rfl
    · split
      · refine (raiseLast_speaks _ _).after ?_
        exact .of_same rfl rfl rfl
      · exact .of_same rfl rfl rfl

theorem watchSource_speaks (s : State) : s.Speaks s.watchSource := by
  simp only [watchSource]
  split
  · exact .refl s
  · exact s.moveTo_speaks _

theorem bestSource_speaks (s : State) : s.Speaks s.bestSource := by
  simp only [bestSource]
  split
  · exact .refl s
  · exact s.moveTo_speaks _

theorem endCorrection_speaks (s : State) : s.Speaks s.endCorrection := by
  simp only [endCorrection]
  split <;> exact .of_same rfl rfl rfl

/-! ### What waited -/

theorem queueMail_speaks (s : State) (mb : Nat) (p : Pos) : s.Speaks (s.queueMail mb p) := by
  simp only [queueMail]
  split
  · exact .of_same (by simp) (by simp) (by simp)
  · exact .refl s

theorem queueWaiting_speaks (s : State) (b : Nat) (p : Pos) : s.Speaks (s.queueWaiting b p) := by
  simp only [queueWaiting]
  split
  · exact .refl s
  · exact (foldl_speaks (fun s i => .of_same (by simp [queueEyelet]) (by simp [queueEyelet])
      (by simp [queueEyelet])) _ _).after (foldl_speaks (fun s mb => s.queueMail_speaks mb p) _ _)

theorem queueHeldHost_speaks (s : State) : s.Speaks s.queueHeldHost := by
  refine foldl_speaks (fun s b => ?_) _ s
  split
  · exact s.queueWaiting_speaks b _
  · exact .refl s

theorem recordTo_speaks (s : State) (mask : Nat) (e : Event) : s.Speaks (s.recordTo mask e) := by
  refine foldl_speaks (fun s b => ?_) _ s
  split
  · exact s.deliver_speaks b e
  · exact .refl s

/-! ### Tacks handed over -/

theorem frameLost_speaks (s : State) (handle : Word) (cause : Nat) : s.Speaks (s.frameLost handle cause) := by
  simp only [frameLost]
  have hnote : ∀ (t : State) (q : Prop) [Decidable q] (code : Nat), t.Speaks (if q then t.note code else t) := by
    intro t q _ code
    split
    · exact t.note_speaks code
    · exact .refl t
  refine (deliver_speaks _ _ _).after ((hnote _ _ _).after ((hnote _ _ _).after ?_))
  exact .of_same rfl rfl rfl

theorem hearthDispatch_speaks (s : State) (handle : Word) (tparam : Nat) (payload : List Byte) :
    s.Speaks (s.hearthDispatch handle tparam payload) := by
  simp only [hearthDispatch]
  split
  · exact s.frameLost_speaks _ _
  · split
    · exact s.frameLost_speaks _ _
    · split
      · exact s.frameLost_speaks _ _
      · split
        · exact s.frameLost_speaks _ _
        · split
          · exact s.frameLost_speaks _ _
          · exact .of_same rfl rfl rfl

theorem irBurstOver_speaks (s : State) (c : Fin 2) (b : IrBurst) : s.Speaks (s.irBurstOver c b) := by
  simp only [irBurstOver]
  split
  · split <;> exact .of_same rfl rfl rfl
  · split
    · split <;> exact .of_same rfl rfl rfl
    · exact .of_same rfl rfl rfl

theorem irCut_speaks (s : State) (c : Fin 2) : s.Speaks (s.irCut c) := by
  simp only [irCut]
  split
  · exact .of_same rfl rfl rfl
  · exact (irBurstOver_speaks _ c _).after ((raise_speaks _ _ _ _).after (.of_same rfl rfl rfl))

theorem irWatch_speaks (s : State) (c : Fin 2) : s.Speaks (s.irWatch c) := by
  simp only [irWatch]
  split
  · exact (irCut_speaks _ c).after (.of_same rfl rfl rfl)
  · exact .of_same rfl rfl rfl
  · exact .refl s

theorem irWatchAll_speaks (s : State) : s.Speaks s.irWatchAll := (s.irWatch_speaks 0).trans (irWatch_speaks _ 1)

theorem irSend_speaks (s : State) (out prof : Nat) (payload : List Byte) (handle : Word) :
    s.Speaks (s.irSend out prof payload handle) := by
  simp only [irSend]
  split
  · exact (raise_speaks _ _ _ _).after (.of_same rfl rfl rfl)
  · split
    · exact (irWatchAll_speaks _).after (.of_same rfl rfl rfl)
    · split
      · exact .of_same rfl rfl rfl
      · exact (raise_speaks _ _ _ _).after (.of_same rfl rfl rfl)

theorem ringHost_speaks (s : State) (e : Nat) : s.Speaks (s.ringHost e) := .of_same (by simp) (by simp) (by simp)

theorem postRefused_speaks (s : State) (mb : Nat) : s.Speaks (s.postRefused mb) := by
  simp only [postRefused]
  split
  · exact .of_same rfl rfl rfl
  · exact (raise_speaks _ _ _ _).after (.of_same rfl rfl rfl)

theorem mailTack_speaks (s : State) (x : Tack) (p : Pos) : s.Speaks (s.mailTack x p) := by
  simp only [mailTack]
  split
  · exact s.ringHost_speaks _
  · split
    · next v hv =>
      obtain ⟨_, _, _, rfl⟩ := postOut_answers hv
      exact (ringHost_speaks _ _).after (.of_same rfl rfl rfl)
    · exact (s.postRefused_speaks _).trans (.of_same rfl rfl rfl)

theorem audioMarker_speaks (s : State) (p : Nat) (handle : Word) (due : Pos) (payload : List Byte) :
    s.Speaks (s.audioMarker p handle due payload) := by
  simp only [audioMarker]
  split <;> exact .of_same rfl rfl rfl

theorem handTack_speaks (s : State) (x : Tack) (p : Pos) : s.Speaks (s.handTack x p) := by
  simp only [handTack]
  split
  · exact s.hearthDispatch_speaks _ _ _
  · split
    · exact s.irSend_speaks _ _ _ _
    · split
      · exact .of_same rfl rfl rfl
      · split
        · exact s.mailTack_speaks x p
        · split
          · exact s.audioMarker_speaks _ _ _ _
          · exact s.packet_speaks _ _ _ _

end State

end Sys2Proof.Machine
end

section
/-! PROOFS. The rows of the welt link (R711–R744). -/

namespace Sys2Proof.Machine

open Sys2Proof

section Link

variable {s : State}

/-! ### A change of role -/

/-- A role taken, with no decision pending, and its PAIR event. -/
theorem setRole_leaves (s : State) (r : Role) (cause : Nat) :
    (s.setRole r cause).welt = { s.welt with role := r, deciding := false } ∧
      (s.setRole r cause).last = s.last ∧ (s.setRole r cause).theSeal = s.theSeal := by
  simp only [State.setRole, State.deliver_welt, State.deliver_last, State.deliver_theSeal, and_self]

/-- A change of the shadow queue, of the tacks dispatched in silence and of the sticky bits alone. -/
theorem speaks_of_welt {t : State} {a c : _} {b d : Nat} (h1 : t.last = s.last) (h2 : t.theSeal = s.theSeal)
    (h3 : t.welt = { s.welt with shadow := a, shadowLost := b, silent := c, evt := d }) : s.Speaks t :=
  ⟨congrArg (fun x => x.pp) h1, h2, _, _, _, _, _, _, h3, fun _ => rfl⟩

theorem weltEvt_speaks (s : State) (i : Nat) : s.Speaks (s.weltEvt i) := speaks_of_welt rfl rfl rfl

theorem releaseShadow_speaks (s : State) : s.Speaks s.releaseShadow :=
  (State.foldl_speaks (fun s e => s.recordTo_speaks _ e) _ _).after (speaks_of_welt rfl rfl rfl)

theorem settleWindow_speaks (s : State) : s.Speaks s.settleWindow := by
  simp only [State.settleWindow]
  have hfail : ∀ (s : State) (e : Tack × Pos), s.Speaks (s.failAmbiguous e.1) := by
    intro s e
    simp only [State.failAmbiguous]
    repeat' split
    all_goals exact .of_same rfl rfl rfl
  have hnote : ∀ (t : State) (b : Bool), t.Speaks (if b then t else t.note 0xA204) := by
    intro t b
    cases b
    · exact t.note_speaks _
    · exact .refl t
  have htacks := fun b => (hnote _ b).after
    ((State.foldl_speaks hfail (s.windowTacks.filter fun e => !e.1.idempotent) _).after
      (State.foldl_speaks (fun s e => s.handTack_speaks e.1 e.2) (s.windowTacks.filter fun e => e.1.idempotent) s))
  exact (htacks (s.windowTacks.filter fun e => !e.1.idempotent).isEmpty).trans (speaks_of_welt rfl rfl rfl)

/-- What a member is that leaves its partner, before its benches take their own inputs (R720). -/
def State.parted (s : State) (cause : Nat) : State :=
  { s.setRole .parted cause with
    welt := { (s.setRole .parted cause).welt with
      adopting := false, arbitrating := true, absences := 0, heard := false, ambiguous := s.welt.role == .standby
      conf := if s.welt.role = .standby then (s.setRole .parted cause).welt.conf
        else (s.setRole .parted cause).now } }

theorem becomeParted_speaks (s : State) (cause : Nat) : (s.parted cause).Speaks (s.becomeParted cause) := by
  have hparted : s.becomeParted cause = if s.welt.role = .standby then
    ((s.parted cause).releaseShadow.queueHeldHost).watchSource else s.parted cause := rfl
  rw [hparted]
  split
  · exact ((releaseShadow_speaks _).trans (State.queueHeldHost_speaks _)).trans (State.watchSource_speaks _)
  · exact .refl _

/-- What a PARTED member's link is, and what stands (R720, R727, R729). -/
theorem becomeParted_leaves (s : State) (cause : Nat) : (s.becomeParted cause).welt.role = .parted ∧
    (s.becomeParted cause).welt.up = s.welt.up ∧ (s.becomeParted cause).welt.unacked = s.welt.unacked ∧
    (s.becomeParted cause).welt.deciding = false ∧ (s.becomeParted cause).welt.adopting = false ∧
    (s.becomeParted cause).last.pp = s.last.pp ∧ (s.becomeParted cause).theSeal = s.theSeal := by
  obtain ⟨hwelt, hlast, hseal⟩ := setRole_leaves s .parted cause
  have hspeaks := becomeParted_speaks s cause
  obtain ⟨hrole, hup, -, hdeciding, hadopting, -, -⟩ := hspeaks.link
  have hset : (s.parted cause).welt.role = .parted ∧ (s.parted cause).welt.up = s.welt.up ∧
      (s.parted cause).welt.unacked = s.welt.unacked ∧ (s.parted cause).welt.deciding = false := by
    rw [State.parted, hwelt]
    exact ⟨rfl, rfl, rfl, rfl⟩
  obtain ⟨krole, kup, kunacked, kdeciding⟩ := hset
  have hunacked := hspeaks.unacked (by rw [krole]; simp)
  exact ⟨hrole.trans krole, hup.trans kup, hunacked.trans kunacked, hdeciding.trans kdeciding, hadopting,
    hspeaks.pp.trans (congrArg (fun x => x.pp) hlast), hspeaks.theSeal.trans hseal⟩

/-- The link down, before the member takes another role for it (R716). -/
def State.unlinked (s : State) : State := State.note (State.weltEvt { s with
  welt.up := false, welt.hbRun := 0, welt.hbMiss := 0, welt.unacked := [], welt.txSeq := 1
  welt.rxSeq := 0, welt.yielding := false, welt.sendFull := false } 0) 0xA101

theorem linkDown_eq_unlinked (hup : s.welt.up = true) : s.linkDown = match s.unlinked.welt.role with
    | .standby => s.unlinked.becomeParted 1
    | .active => s.unlinked.setRole .active 1
    | .parted => { s.unlinked with
        welt := { s.unlinked.welt with ambiguous := false, conf := s.unlinked.now, heard := false } }
    | _ => s.unlinked := by
  rw [State.linkDown, if_neg (by simp [hup])]
  rfl

/-- A STANDBY member whose link goes down is PARTED (R716, R720). -/
theorem linkDown_of_standby (hup : s.welt.up = true) (hrole : s.welt.role = .standby) :
    s.linkDown.welt.role = .parted ∧ s.linkDown.welt.up = false ∧ s.linkDown.welt.unacked = [] ∧
      s.linkDown.last.pp = s.last.pp ∧ s.linkDown.theSeal = s.theSeal := by
  have hrole' : s.unlinked.welt.role = .standby := by
    rw [State.unlinked, State.note_welt]
    exact hrole
  obtain ⟨prole, pup, punacked, -, -, ppp, pseal⟩ := becomeParted_leaves s.unlinked 1
  simp only [linkDown_eq_unlinked hup, hrole']
  refine ⟨prole, pup.trans ?_, punacked.trans ?_, ppp.trans ?_, pseal.trans ?_⟩ <;> simp only [State.unlinked,
    State.note_welt, State.note_last, State.note_theSeal] <;> rfl

/-! ### Heartbeats -/

/-- A frame acknowledged changes the frames held alone. -/
theorem weltAck_leaves (s : State) (ack : Nat) :
    ∃ u, s.weltAck ack = { s with welt := { s.welt with unacked := u } } ∧ (s.welt.unacked = [] → u = []) := by
  rw [State.weltAck]
  split
  · exact ⟨_, rfl, fun h => by rw [h, List.drop_nil]⟩
  · exact ⟨s.welt.unacked, rfl, id⟩

theorem exec_heartbeatSend_of_active (hon : s.weltOn = true) {q : Pos} (hrole : s.welt.role = .active)
    (hdone : s.tack.lastDone = some q) (hheld : s.weltHeld < 524288) : exec .heartbeatSend s = .next { s with
      welt := { s.welt with conf := q, beat := some { s.heartbeat with conf := q.pp } } } := by
  show execHeartbeatSend s = _
  rw [execHeartbeatSend, if_neg (by simp [hon])]
  split
  · next p _ hp =>
    obtain rfl : p = q := Option.some.inj (hp.symm.trans hdone)
    exact congrArg Host.Outcome.next (if_neg (Nat.not_le.mpr hheld))
  · next hnot => exact absurd hdone (hnot q hrole)

/-- What a heartbeat of a partner with the same digest tells, the link alone changing (R716, R721). -/
theorem heartbeatTold_leaves (s : State) {hb : Heartbeat} (hdigest : hb.digest = s.pairingDigest) :
    ∃ w, s.heartbeatTold hb = { s with welt := w } ∧ w.up = s.welt.up ∧ w.role = s.welt.role ∧
      w.deciding = s.welt.deciding ∧ w.hbRun = s.welt.hbRun ∧ w.hbMiss = 0 ∧ w.partner = hb.role ∧
      w.digestOk = true ∧ (s.welt.unacked = [] → w.unacked = []) ∧ (s.welt.role = .standby →
        w.conf = ⟨hb.pos.epoch, hb.conf⟩ ∧ w.troupeSeq = hb.troupeSeq) := by
  obtain ⟨u, hack, hnil⟩ := weltAck_leaves s hb.ack
  simp only [State.heartbeatTold, hack]
  split
  · exact ⟨_, rfl, rfl, rfl, rfl, rfl, rfl, rfl, beq_iff_eq.mpr hdigest, hnil, fun _ => ⟨rfl, rfl⟩⟩
  · next hrole => exact ⟨_, rfl, rfl, rfl, rfl, rfl, rfl, rfl, beq_iff_eq.mpr hdigest, hnil, fun h => absurd h hrole⟩

theorem exec_heartbeatRx_of_told (hon : s.weltOn = true) {hb : Heartbeat} {b : Bool} {u : State}
    (hrun : (s.heartbeatTold hb).heartbeatRun = (b, u)) (hup : u.welt.up = true) (hok : u.welt.digestOk = true) :
    exec (.heartbeatRx hb) s = .next (u.pairUp b) := by
  show execHeartbeatRx hb s = _
  simp only [execHeartbeatRx, hon, hrun, hup, hok, Bool.not_true, Bool.false_eq_true, if_false]

theorem exec_heartbeatMissed_of_on (hon : s.weltOn = true) : exec .heartbeatMissed s = .next (
    let t := { s with welt := { s.welt with hbMiss := Nat.min 4 (s.welt.hbMiss + 1), hbRun := 0 } }
    if 4 ≤ Nat.min 4 (s.welt.hbMiss + 1) then t.linkDown else t) :=
  congrArg Host.Outcome.next (if_neg (by simp [hon]))

/-! ### The roles -/

/-- A member that becomes STANDBY asks for its partner's checkpoint (R721, R732). -/
theorem becomeStandby_leaves (s : State) (cause : Nat) : (s.becomeStandby cause).welt.role = .standby ∧
    (s.becomeStandby cause).welt.adopting = true ∧ (s.becomeStandby cause).last.pp = s.last.pp ∧
    (s.becomeStandby cause).theSeal = s.theSeal := by
  simp only [State.becomeStandby]
  generalize hu : ({ s.endCorrection with welt := _ } : State) = u
  obtain ⟨hwelt, hlast, hseal⟩ := setRole_leaves u .standby cause
  have hbest := State.bestSource_speaks (u.setRole .standby cause)
  obtain ⟨hframe, hrole, hadopting, -⟩ := askAdopt_leaves (u.setRole .standby cause).bestSource
  have hend := s.endCorrection_speaks
  refine ⟨hrole.trans (hbest.link.1.trans ?_), hadopting, ?_, ?_⟩
  · rw [hwelt]
  · rw [hframe]
    exact hbest.pp.trans ((congrArg (fun x => x.pp) hlast).trans ((hu ▸ rfl : u.last.pp = _).trans hend.pp))
  · rw [hframe]
    exact hbest.theSeal.trans (hseal.trans ((hu ▸ rfl : u.theSeal = _).trans hend.theSeal))

/-- A STANDBY member that takes the role its partner yields is ACTIVE (Edges of Roles). -/
theorem takeRole_leaves (s : State) : s.takeRole.welt.role = .active ∧ s.takeRole.welt.partner = .standby ∧
    s.takeRole.last.pp = s.last.pp := by
  simp only [State.takeRole]
  generalize hu : ({ s with welt := _ } : State) = u
  obtain ⟨hwelt, hlast, -⟩ := setRole_leaves u .active 2
  have hspeaks := (((releaseShadow_speaks (u.setRole .active 2)).trans (State.queueHeldHost_speaks _)).trans
    (settleWindow_speaks _)).trans (State.bestSource_speaks _)
  obtain ⟨hrole, -, hpartner, -⟩ := hspeaks.link
  refine ⟨hrole.trans ?_, hpartner.trans ?_, hspeaks.pp.trans ?_⟩
  · rw [hwelt]
  · rw [hwelt]
    exact hu ▸ rfl
  · rw [hlast]
    exact hu ▸ rfl

/-- The takeover leaves the member ACTIVE, its position marked (R738, R742). -/
theorem takeOver_leaves (s : State) : s.takeOver.welt.role = .active ∧
    s.takeOver.welt.take = s.last.pp % 2 ^ 32 ∧ s.takeOver.welt.arbitrating = false ∧
    s.takeOver.last.pp = s.last.pp := by
  simp only [State.takeOver]
  generalize hu : ({ s with welt := _ } : State) = u
  obtain ⟨hwelt, hlast, -⟩ := setRole_leaves u .active 2
  have hsettled := settleWindow_speaks (u.setRole .active 2)
  generalize (u.setRole .active 2).settleWindow = v at *
  have hspeaks := ((hsettled.trans (weltEvt_speaks v 1)).trans (State.raise_speaks _ 0xA201 0xFF clsCovered)).trans
    (State.bestSource_speaks _)
  obtain ⟨hrole, -, -, -, -, htake, harbitrating⟩ := hspeaks.link
  refine ⟨hrole.trans ?_, htake.trans ?_, harbitrating.trans ?_, hspeaks.pp.trans ?_⟩
  · rw [hwelt]
  · rw [hwelt]
    exact hu ▸ rfl
  · rw [hwelt]
    exact hu ▸ rfl
  · rw [hlast]
    exact hu ▸ rfl

end Link

/-- Settles O41. -/
theorem weltLinkRowsComplete : Obligations.WeltLinkRowsComplete := by
  unfold Obligations.WeltLinkRowsComplete
  intro s hb q hon w parts
  have hparts : ∀ (c : Instr) (u : State), exec c s = .next u.linkDown → u.welt.up = true →
      u.welt.role = .standby → u.last.pp = s.last.pp → u.theSeal = s.theSeal → parts c := by
    intro c u hexec hup hrole hpp hseal
    obtain ⟨prole, pup, punacked, ppp, pseal⟩ := linkDown_of_standby hup hrole
    exact ⟨_, hexec, prole, pup, punacked, ppp.trans hpp, pseal.trans hseal⟩
  refine ⟨fun hrole hdone hheld => exec_heartbeatSend_of_active hon hrole hdone hheld, ⟨rfl, rfl, rfl⟩,
    fun hup hrole hdecided hdigest => ?_, fun hdown hfour hnil hrole hdecided hdigest hpartner => ?_, fun hmiss => ?_,
    fun hmiss hup hrole => ?_, fun hpartner hup hrole => ?_, fun hup hrole => ?_, fun hheld => ?_,
    fun hup hrole hyields => ?_, fun hup hrole hpartner => ?_, fun hmay => ?_, fun hdeciding => ?_⟩
  · obtain ⟨v, htold, vup, vrole, vdeciding, -, vmiss, vpartner, vok, -, vconf⟩ := heartbeatTold_leaves s hdigest
    obtain ⟨hconf, hseq⟩ := vconf hrole
    have hrun : (s.heartbeatTold hb).heartbeatRun = (false, { s with welt := v }) := by
      rw [htold]
      exact if_pos (vup.trans hup)
    have hpair : State.pairUp { s with welt := v } false = { s with welt := { v with mismatch := false } } := by
      simp only [State.pairUp, vdeciding.trans hdecided, vrole.trans hrole, Bool.false_eq_true, if_false]
    refine ⟨_, exec_heartbeatRx_of_told hon hrun (vup.trans hup) vok, ?_⟩
    rw [hpair]
    exact ⟨rfl, vrole.trans hrole, vmiss, vpartner, hconf, hseq⟩
  · obtain ⟨v, htold, vup, vrole, vdeciding, vrun, -, vpartner, vok, vnil, -⟩ := heartbeatTold_leaves s hdigest
    have hrun : (s.heartbeatTold hb).heartbeatRun = (true, { s with
        welt := { v with up := true, hbRun := 4, txSeq := 1, rxSeq := 0, unacked := [] } }) := by
      simp only [htold, State.heartbeatRun, vup.trans hdown, vnil hnil, vrun.trans hfour, Bool.false_eq_true, if_false]
      rfl
    have hpair : State.pairUp { s with
        welt := { v with up := true, hbRun := 4, txSeq := 1, rxSeq := 0, unacked := [] } } true =
          { s with welt := { v with
            up := true, hbRun := 4, txSeq := 1, rxSeq := 0, unacked := [], mismatch := false } } := by
      simp only [State.pairUp, vdeciding.trans hdecided, vrole.trans hrole, vpartner.trans hpartner,
        Bool.false_eq_true, if_false]
      rfl
    refine ⟨_, exec_heartbeatRx_of_told hon hrun rfl vok, ?_⟩
    rw [hpair]
    exact ⟨rfl, rfl, vrole.trans hrole, rfl⟩
  · have hmin : Nat.min 4 (s.welt.hbMiss + 1) = s.welt.hbMiss + 1 := 
      Nat.min_eq_right (Nat.le_of_lt (Nat.succ_lt_succ hmiss))
    rw [exec_heartbeatMissed_of_on hon, hmin]
    exact congrArg Host.Outcome.next (if_neg (Nat.not_le.mpr (Nat.succ_lt_succ hmiss)))
  · refine hparts _ { s with welt := { s.welt with hbMiss := 4, hbRun := 0 } } ?_ hup hrole rfl rfl
    have hmin : Nat.min 4 (s.welt.hbMiss + 1) = 4 := by
      rw [show s.welt.hbMiss = 3 from hmiss]
      rfl
    rw [exec_heartbeatMissed_of_on hon, hmin]
    rfl
  · exact hparts _ _ (congrArg Host.Outcome.next (if_pos ⟨hon, hpartner⟩)) (by simpa using hup) (by simpa using hrole)
      (by simp) (by simp)
  · exact hparts _ _ (congrArg Host.Outcome.next (if_pos hon)) (by simpa using hup) (by simpa using hrole)
      (by simp) (by simp)
  · exact congrArg Host.Outcome.next (if_neg (by simpa [List.isEmpty_iff] using hheld))
  · obtain ⟨srole, sadopting, spp, sseal⟩ := becomeStandby_leaves { s with welt.partner := .active } 2
    refine ⟨_, (congrArg Host.Outcome.next ((if_pos ⟨hon, hup⟩).trans ?_)), srole, sadopting, spp, sseal⟩
    simp only [State.swapRoles, show s.welt.role = .active from hrole]
    exact if_pos hyields
  · obtain ⟨trole, tpartner, tpp⟩ := takeRole_leaves s
    refine ⟨_, (congrArg Host.Outcome.next ((if_pos ⟨hon, hup⟩).trans ?_)), trole, tpartner, tpp⟩
    simp only [State.swapRoles, show s.welt.role = .standby from hrole]
    exact if_pos hpartner
  · exact ⟨_, congrArg Host.Outcome.next (if_pos hmay), takeOver_leaves s⟩
  · obtain ⟨prole, -, -, pdeciding, -, ppp, -⟩ := becomeParted_leaves s 1
    exact ⟨_, congrArg Host.Outcome.next (if_pos (by simp [hon, show s.welt.deciding = true from hdeciding])), prole,
      pdeciding, ppp⟩

end Sys2Proof.Machine
end

section
/-! PROOFS. What the publication of a copied position leaves on a STANDBY member (R35, R44). -/

namespace Sys2Proof.Machine

open Sys2Proof

namespace State

variable {s t u : State}

/-- The Last, the seal and the SEQ of the last frame taken stand. -/
structure Works (s t : State) : Prop where
  last : t.last = s.last
  theSeal : t.theSeal = s.theSeal
  rxSeq : t.welt.rxSeq = s.welt.rxSeq

theorem Works.refl (s : State) : s.Works s := ⟨rfl, rfl, rfl⟩

theorem Works.trans (h : s.Works t) (k : t.Works u) : s.Works u :=
  ⟨k.last.trans h.last, k.theSeal.trans h.theSeal, k.rxSeq.trans h.rxSeq⟩

theorem Works.after (k : t.Works u) (h : s.Works t) : s.Works u := h.trans k

theorem foldl_works {α : Type} {f : State → α → State} (hf : ∀ (s : State) a, s.Works (f s a)) (l : List α)
    (s : State) : s.Works (l.foldl f s) :=
  foldl_leaves f l .refl .trans hf s

theorem Works.of_welt (h1 : t.last = s.last) (h2 : t.theSeal = s.theSeal) (h3 : t.welt = s.welt) : s.Works t :=
  ⟨h1, h2, by rw [h3]⟩

theorem deliver_works (s : State) (b : Nat) (e : Event) : s.Works (s.deliver b e) :=
  .of_welt (by simp) (by simp) (by simp)

theorem raise_works (s : State) (code unit cls : Nat) : s.Works (s.raise code unit cls) :=
  .of_welt (by simp) (by simp) (by simp)

theorem mirror_works (s : State) (p : WPayload) : s.Works (s.mirror p) := by
  refine ⟨by simp, by simp, ?_⟩
  rw [mirror]
  split <;> rfl

theorem watchTacks_works (s : State) : s.Works s.watchTacks := by
  simp only [watchTacks]
  split
  · split
    · exact .of_welt rfl rfl rfl
    · exact (raise_works _ _ _ _).after (.of_welt rfl rfl rfl)
  · exact .of_welt rfl rfl rfl

theorem complete_works (s : State) (x : Tack) (status reason : Nat) (p : Pos) (lateness : Nat) :
    s.Works (s.complete x status reason p lateness) := by
  simp only [complete]
  split
  · exact (deliver_works _ _ _).after (.of_welt rfl rfl rfl)
  · exact .of_welt rfl rfl rfl

theorem applyStep_works (s : State) (st : StepMade) : s.Works (s.applyStep st) := by
  simp only [applyStep]
  exact (watchTacks_works _).after ((foldl_works (fun _ _ => complete_works _ _ _ _ _ _) _ _).after
    (.of_welt rfl rfl rfl))

theorem digestReport_works (s : State) (p : Pos) : s.Works (s.digestReport p) := by
  simp only [digestReport]
  generalize hu : ({ s with tack := _, welt := _ } : State) = u
  have hwork : s.Works u := hu ▸ ⟨rfl, rfl, rfl⟩
  have hsent : s.Works ((u.alert 5).mirror (.digest
      ⟨sfOf p.pp, p.epoch, s.tack.inReport, s.tack.crc ^^^ 0xFFFFFFFF#32, s.voidAt p⟩)) :=
    (mirror_works _ _).after (hwork.trans (.of_welt (by simp) (by simp) (by simp)))
  split
  · exact hsent.trans (.of_welt (by simp) (by simp) (by simp))
  · exact hsent

theorem enterAt_works (s : State) (d : Due) : s.Works (s.enterAt d) := by
  simp only [enterAt]
  refine (watchTacks_works _).after ((foldl_works (fun s x => ?_) _ _).after ((foldl_works (fun s x => ?_) _ _).after
    ((watchTacks_works _).after ((foldl_works (fun s x => complete_works _ _ _ _ _ _) _ _).after
      (.of_welt rfl rfl rfl)))))
  · split
    · exact .refl s
    · split
      · exact .of_welt rfl rfl rfl
      · exact (raise_works _ _ _ _).after ((complete_works _ _ _ _ _ _).after (.of_welt rfl rfl rfl))
  · split
    · exact complete_works _ _ _ _ _ _
    · exact complete_works _ _ _ _ _ _
    · exact .refl s

theorem storeWork_works (s : State) : s.Works s.storeWork := by
  simp only [storeWork]
  split
  · exact .refl s
  · next d ds _ =>
    have hsteps : s.Works (d.steps.foldl (fun s st => s.applyStep st) s) := foldl_works applyStep_works _ _
    generalize hv : (if d.stepped then s else _ : State) = v
    have hstepped : s.Works v := by
      subst hv
      split
      · exact .refl s
      · split
        · split
          · exact hsteps.trans (.of_welt rfl rfl rfl)
          · exact (hsteps.trans (digestReport_works _ _)).trans (.of_welt rfl rfl rfl)
        · exact hsteps.trans (.of_welt rfl rfl rfl)
    split
    · exact (hstepped.trans (enterAt_works _ _)).trans (.of_welt rfl rfl rfl)
    · exact hstepped

theorem storePublish_works (s : State) (step : Option Nat) : s.Works (s.storePublish step) := by
  simp only [storePublish]
  split
  · exact .refl s
  · exact (storeWork_works _).after (.of_welt rfl rfl rfl)

theorem watchLag_works (s : State) : s.Works s.watchLag := by
  obtain ⟨x, b, h | h⟩ := s.watchLag_cases <;> rw [h]
  · exact .of_welt rfl rfl rfl
  · exact (raise_works _ _ _ _).after (.of_welt rfl rfl rfl)

/-! ### The parts of a publication -/

/-- What is held at a position ages by a step of the epoch. -/
def agedFor (s : State) (e : Nat) : State := if e = s.last.epoch then s else s.ageItems e

/-- The position opened to the benches, in RUN. -/
def openedAt (s : State) (p : Pos) : State :=
  if s.supply.power = .run then ({ s with prog.opened := s.prog.opened ++ [p] }).watchLag else s

/-- A slot of the hearth link begins at a multiple of 19. -/
def slotBegun (s : State) (p : Pos) : State :=
  if p.pp % 19 = 0 then
    { s with hearth := { s.hearth with
        slotStart := p.pp, slotEdge := s.last.edge, slotCorr := s.last.corrNow, slotEpoch := p.epoch
        slotDue := true, deadSlot := false } }
  else s

/-- A superframe begins at a multiple of 456. -/
def framesStarted (s : State) (p : Pos) : State :=
  if p.pp % 456 = 0 then
    { s with hearth := { s.hearth with
        queue := s.hearth.queue.map fun (f : HFrame) => { f with starts := f.starts + 1 } } }
  else s

/-- The Last at a position. -/
def lastAt (s : State) (p : Pos) : State := { s with last := { s.last with pp := p.pp, epoch := p.epoch } }

theorem publish_eq (s : State) (p : Pos) (step : Option Nat) : s.publish p step =
    ((((((s.agedFor p.epoch).lastAt p).mirror (.tick p)).openedAt p).storePublish step).slotBegun p).framesStarted p :=
  rfl

theorem agedFor_works (s : State) (e : Nat) : s.Works (s.agedFor e) := by
  rw [agedFor]
  split
  · exact .refl s
  · exact .of_welt rfl rfl rfl

theorem openedAt_works (s : State) (p : Pos) : s.Works (s.openedAt p) := by
  rw [openedAt]
  split
  · exact (watchLag_works _).after (.of_welt rfl rfl rfl)
  · exact .refl s

theorem slotBegun_works (s : State) (p : Pos) : s.Works (s.slotBegun p) := by
  rw [slotBegun]
  split
  · exact .of_welt rfl rfl rfl
  · exact .refl s

theorem framesStarted_works (s : State) (p : Pos) : s.Works (s.framesStarted p) := by
  rw [framesStarted]
  split
  · exact .of_welt rfl rfl rfl
  · exact .refl s

/-- A position published: the Last takes its PP and epoch. -/
theorem publish_leaves (s : State) (p : Pos) (step : Option Nat) :
    (s.publish p step).last.pp = p.pp ∧ (s.publish p step).last.epoch = p.epoch ∧
      (s.publish p step).theSeal = s.theSeal ∧ (s.publish p step).welt.rxSeq = s.welt.rxSeq := by
  have hage := s.agedFor_works p.epoch
  generalize hu : (s.agedFor p.epoch).lastAt p = u
  have hlast : u.last.pp = p.pp ∧ u.last.epoch = p.epoch := hu ▸ ⟨rfl, rfl⟩
  have hseal : u.theSeal = s.theSeal := hu ▸ hage.theSeal
  have hseq : u.welt.rxSeq = s.welt.rxSeq := hu ▸ hage.rxSeq
  have hwork := ((((u.mirror_works (.tick p)).trans (openedAt_works _ p)).trans (storePublish_works _ step)).trans
    (slotBegun_works _ p)).trans (framesStarted_works _ p)
  rw [publish_eq, hu]
  exact ⟨hwork.last ▸ hlast.1, hwork.last ▸ hlast.2, hwork.theSeal.trans hseal, hwork.rxSeq.trans hseq⟩

/-! ### A step of the epoch -/

theorem frameLost_works (s : State) (handle : Word) (cause : Nat) : s.Works (s.frameLost handle cause) := by
  simp only [frameLost]
  have hnote : ∀ (t : State) (q : Prop) [Decidable q] (code : Nat), t.Works (if q then t.note code else t) := by
    intro t q _ code
    split
    · exact t.raise_works code _ _
    · exact .refl t
  exact (deliver_works _ _ _).after ((hnote _ _ _).after ((hnote _ _ _).after (.of_welt rfl rfl rfl)))

theorem burstBGone_works (s : State) (f : HFrame) : s.Works (s.burstBGone f) := by
  simp only [burstBGone]
  split
  · exact s.frameLost_works _ _
  · exact .of_welt rfl rfl rfl

theorem hearthStep_works (s : State) : s.Works s.hearthStep := by
  have hcancel : s.Works s.cancelBs :=
    (foldl_works (fun s (b : SchedB) => s.burstBGone_works b.frame) _ _).after (.of_welt rfl rfl rfl)
  have hdrop : ∀ t : State, t.Works t.dropUnbegun := by
    intro t
    simp only [dropUnbegun]
    split
    · split
      · exact .refl t
      · split
        · split
          · exact (burstBGone_works _ _).after (.of_welt rfl rfl rfl)
          · exact .of_welt rfl rfl rfl
        · exact .of_welt rfl rfl rfl
    · exact .refl t
  simp only [hearthStep]
  split
  · exact hcancel.trans (hdrop _)
  · exact (hcancel.trans (hdrop _)).trans (.of_welt rfl rfl rfl)

theorem replaceBubbles_works (s : State) : s.Works s.replaceBubbles := by
  simp only [replaceBubbles]
  refine (foldl_works (fun s e => ?_) _ _).after (foldl_works (fun s c => .of_welt (by simp) (by simp) (by simp)) _ _)
  exact (deliver_works _ _ _).after (.of_welt (by simp) (by simp) (by simp))

/-- A position copied from the active is the Last's (R44). -/
theorem copyTick_leaves (s : State) (p : Pos) : (s.copyTick p).last.pp = p.pp ∧ (s.copyTick p).last.epoch = p.epoch ∧
    (s.copyTick p).theSeal = s.theSeal ∧ (s.copyTick p).welt.rxSeq = s.welt.rxSeq := by
  simp only [copyTick]
  have htick : s.Works (if s.welt.adopting then { s with welt.ticks := s.welt.ticks ++ [p] } else s) := by
    split
    · exact ⟨rfl, rfl, rfl⟩
    · exact .refl s
  generalize (if s.welt.adopting then { s with welt.ticks := s.welt.ticks ++ [p] } else s) = u at *
  split
  · obtain ⟨hpp, hepoch, hseal, hseq⟩ := u.publish_leaves p (some s.last.pp)
    have hstep := (replaceBubbles_works (u.publish p (some s.last.pp))).trans (hearthStep_works _)
    generalize (u.publish p (some s.last.pp)).replaceBubbles.hearthStep = v at *
    exact ⟨(congrArg (fun l : Last => l.pp) hstep.last).trans hpp,
      (congrArg (fun l : Last => l.epoch) hstep.last).trans hepoch,
      hstep.theSeal.trans (hseal.trans htick.theSeal), hstep.rxSeq.trans (hseq.trans htick.rxSeq)⟩
  · obtain ⟨hpp, hepoch, hseal, hseq⟩ := u.publish_leaves p none
    exact ⟨hpp, hepoch, hseal.trans htick.theSeal, hseq.trans htick.rxSeq⟩

end State

end Sys2Proof.Machine
end

section
/-! PROOFS. The frames of an active member, and the adoption (R724–R735). -/

namespace Sys2Proof.Machine

open Sys2Proof

section Frames

variable {s : State} {h : WHead} {b d : Nat} {e : Event}

/-! ### Frames taken in order -/

/-- The state in which the next frame in order is used: its ACK and its SEQ taken (R713). -/
def State.inOrder (s : State) (h : WHead) : State :=
  { s.weltAck h.ack with welt := { (s.weltAck h.ack).welt with rxSeq := h.seq } }

theorem inOrder_leaves (s : State) (h : WHead) : ∃ u, s.inOrder h =
    { s with welt := { s.welt with unacked := u, rxSeq := h.seq } } := by
  obtain ⟨u, hack, -⟩ := weltAck_leaves s h.ack
  exact ⟨u, by rw [State.inOrder, hack]⟩

theorem weltTake_of_next (hon : s.weltOn = true) (hcrc : h.crcOk = true)
    (hseq : h.seq = (s.welt.rxSeq + 1) % 65536) (f : State → State) : s.weltTake h f = f (s.inOrder h) := by
  obtain ⟨u, hack, -⟩ := weltAck_leaves s h.ack
  have hnext : h.seq = ((s.weltAck h.ack).welt.rxSeq + 1) % 65536 := by rw [hack]; exact hseq
  simp only [State.weltTake, hon, hcrc, Bool.not_true, Bool.false_eq_true, if_false]
  exact if_pos hnext

theorem standbyTake_of_next (hon : s.weltOn = true) (hcrc : h.crcOk = true)
    (hseq : h.seq = (s.welt.rxSeq + 1) % 65536) (hrole : s.welt.role = .standby) (f : State → State) :
    s.standbyTake h f = f (s.inOrder h) := by
  obtain ⟨u, hu⟩ := inOrder_leaves s h
  rw [State.standbyTake, weltTake_of_next hon hcrc hseq]
  refine if_pos ?_
  rw [hu]
  exact hrole

/-! ### Events queued to the benches -/

/-- What a mirrored event's queueing leaves beyond the benches' queues. -/
structure Queues (s t : State) : Prop where
  last : t.last = s.last
  mail : t.mail = s.mail
  supply : t.supply = s.supply
  rxSeq : t.welt.rxSeq = s.welt.rxSeq

theorem Queues.refl (s : State) : Queues s s := ⟨rfl, rfl, rfl, rfl⟩

theorem Queues.trans {t u : State} (h : Queues s t) (k : Queues t u) : Queues s u :=
  ⟨k.last.trans h.last, k.mail.trans h.mail, k.supply.trans h.supply, k.rxSeq.trans h.rxSeq⟩

theorem mirrorTo_queues (s : State) (b : Nat) (e : Event) : Queues s (s.mirrorTo b e) := by
  simp only [State.mirrorTo, State.keepMirrored]
  split <;> exact ⟨by simp, by simp, by simp, by simp⟩

theorem mirrorTo_bench (s : State) (b d : Nat) (e : Event) : (s.mirrorTo b e).bench d = (s.deliver b e).bench d := by
  simp only [State.mirrorTo, State.keepMirrored]
  split <;> rfl

/-- The bench takes an event now, with room for it. -/
structure Ready (s : State) (b : Nat) : Prop where
  bound : b < 5
  up : s.up .bench = true
  takes : (s.bench b).takes = true
  room : (s.bench b).queue.length < 1024
  free : (s.bench b).held = []

theorem mirrorTo_self (hready : Ready s b) (e : Event) :
    ((s.mirrorTo b e).bench b).queue = insertEvent e (s.bench b).queue ∧
      ((s.mirrorTo b e).bench b).data = (s.bench b).data := by
  obtain ⟨hbound, hup, htakes, hroom, hfree⟩ := hready
  have hself : (s.deliver b e).bench b = (s.bench b).enqueue e := by
    rw [State.deliver, hup, htakes]
    exact State.bench_setBench_self s ⟨b, hbound⟩ _
  rw [mirrorTo_bench, hself, Bench.enqueue, if_pos (by simp [hroom, hfree])]
  exact ⟨rfl, rfl⟩

theorem mirrorTo_other (h : d ≠ b) (e : Event) : (s.mirrorTo b e).bench d = s.bench d := by
  rw [mirrorTo_bench]
  simp only [State.deliver]
  split
  · rfl
  · split
    · exact State.bench_setBench_ne h
    · split <;> rfl

theorem Ready.of_bench {t : State} (h : Ready s b) (hbench : t.bench b = s.bench b) (hsupply : t.supply = s.supply) :
    Ready t b :=
  ⟨h.bound, (congrArg (fun x : Supply => x.dom[Domain.bench.ctorIdx]? == some .up) hsupply).trans h.up,
    hbench ▸ h.takes, hbench ▸ h.room, hbench ▸ h.free⟩

/-- A mirrored event queued to the benches of a list that a mask names. -/
def mirrorAll (p : Nat → Bool) (e : Event) (s : State) (l : List Nat) : State :=
  l.foldl (fun (s : State) i => if p i then s.mirrorTo i e else s) s

section All

variable {p : Nat → Bool}

theorem mirrorAll_queues (e : Event) (s : State) (l : List Nat) : Queues s (mirrorAll p e s l) := by
  refine foldl_leaves _ l .refl .trans (fun s i => ?_) s
  split
  · exact mirrorTo_queues s i e
  · exact .refl s

theorem mirrorAll_other {l : List Nat} (h : b ∉ l) (e : Event) (s : State) :
    (mirrorAll p e s l).bench b = s.bench b := by
  induction l generalizing s with
  | nil => rfl
  | cons x l ih =>
    obtain ⟨hne, hnot⟩ := not_or.mp (mt List.mem_cons.mpr h)
    have hstep : (if p x then s.mirrorTo x e else s).bench b = s.bench b := by
      split
      · exact mirrorTo_other hne e
      · rfl
    exact (ih hnot _).trans hstep

/-- The one bench of the list that the mask names and that is ready gets the event, once. -/
theorem mirrorAll_self {l : List Nat} (hnodup : l.Nodup) (hmem : b ∈ l) (hp : p b = true) (hready : Ready s b)
    (e : Event) : ((mirrorAll p e s l).bench b).queue = insertEvent e (s.bench b).queue ∧
      ((mirrorAll p e s l).bench b).data = (s.bench b).data := by
  induction l generalizing s with
  | nil => exact absurd hmem (by simp)
  | cons x l ih =>
    obtain ⟨hnot, hnodup'⟩ := List.nodup_cons.mp hnodup
    by_cases hx : x = b
    · subst hx
      have hcons : mirrorAll p e s (x :: l) = mirrorAll p e (s.mirrorTo x e) l :=
        congrArg (fun t => mirrorAll p e t l) (if_pos hp)
      rw [hcons, mirrorAll_other hnot]
      exact mirrorTo_self hready e
    · have hmem' : b ∈ l := (List.mem_cons.mp hmem).resolve_left (Ne.symm hx)
      have hstep : (if p x then s.mirrorTo x e else s).bench b = s.bench b ∧
          (if p x then s.mirrorTo x e else s).supply = s.supply := by
        split
        · exact ⟨mirrorTo_other (Ne.symm hx) e, (mirrorTo_queues s x e).supply⟩
        · exact ⟨rfl, rfl⟩
      have hrest := ih hnodup' hmem' (hready.of_bench hstep.1 hstep.2)
      rw [hstep.1] at hrest
      exact hrest

end All

theorem putStream_queues (s : State) (x : Stream) : Queues s (s.putStream x) ∧ (s.putStream x).prog = s.prog :=
  ⟨⟨rfl, rfl, rfl, rfl⟩, rfl⟩

theorem shadow_queues {t : State} (h : Queues s t ∧ t.prog = s.prog) (x : List Event) :
    Queues s { t with welt.shadow := x } ∧ ({ t with welt.shadow := x } : State).prog = s.prog :=
  ⟨h.1.trans ⟨rfl, rfl, rfl, rfl⟩, h.2⟩

/-- A message of the active's bench 4 waits at its destination (R147). -/
theorem copyB4_leaves (hready : Ready s b) (e : Event) : (s.copyB4 b e).welt.rxSeq = s.welt.rxSeq ∧
    (s.copyB4 b e).last = s.last ∧
    (s.copyB4 b e).bench b = { s.bench b with inbox := (s.bench b).inbox ++ [e] } := by
  have hkeep : ∀ t : State, (t.keepMirrored b e).welt.rxSeq = t.welt.rxSeq ∧ (t.keepMirrored b e).last = t.last ∧
      (t.keepMirrored b e).prog = t.prog := by
    intro t
    rw [State.keepMirrored]
    split <;> exact ⟨rfl, rfl, rfl⟩
  have hsend : s.sendMail b e = s.setBench b { s.bench b with inbox := (s.bench b).inbox ++ [e] } :=
    if_pos hready.takes
  obtain ⟨hrx, hlast, hprog⟩ := hkeep (s.sendMail b e)
  rw [hsend] at hrx hlast hprog
  rw [State.copyB4, hsend]
  refine ⟨hrx, hlast, ?_⟩
  rw [State.bench, hprog]
  exact State.bench_setBench_self s ⟨b, hready.bound⟩ _

/-- A record is marked as seen, and what its benches queue by stands (R726). -/
theorem markMirrored_leaves (s : State) (e : Event) :
    Queues s (s.markMirrored e) ∧ (s.markMirrored e).prog = s.prog := by
  unfold State.markMirrored
  refine shadow_queues ?_ _
  dsimp only
  generalize (e.field 7).toNat = id
  generalize (e.field 8).toNat = seq
  generalize (e.field 9).toNat = gen
  split
  · generalize Stream.mark _ _ _ = m
    split
    · exact putStream_queues s _
    · exact putStream_queues s _
  · split
    · exact ⟨.refl s, rfl⟩
    · exact putStream_queues s _

/-! ### Digests and adoptions -/

/-- What a comparison of two reports leaves, with the word of WELT_DIGCMP and whether they are equal (R735, R736). -/
def State.compared (s : State) (d : Word) (same : Bool) : State :=
  let s := { s with welt.digCmp := d }
  if same then { s with welt.matches_ := s.welt.matches_ + 1 }
  else
    let s := { s with
      welt.mismatches := satAdd 255 s.welt.mismatches 1, welt.diverged := true }
    ((s.note 0xA301).setRole .standby 7).askAdopt

theorem compareOne_eq (s : State) (a c : DigestRep) : ∃ d, s.compareOne a c = if a.void || c.void then
    (if s.welt.adopting then s else s.askAdopt)
    else s.compared d (a.sf == c.sf && a.count == c.count && a.crc == c.crc) := ⟨_, rfl⟩

/-- Equal reports of both members match (R735). -/
theorem compareOne_self {rep : DigestRep} (hvoid : rep.void = false) : ∃ d, s.compareOne rep rep = { s with
    welt := { s.welt with digCmp := d, matches_ := s.welt.matches_ + 1 } } := by
  obtain ⟨d, hd⟩ := compareOne_eq s rep rep
  have hsame : (rep.sf == rep.sf && rep.count == rep.count && rep.crc == rep.crc) = true := by simp
  rw [if_neg (by simp [hvoid]), hsame] at hd
  exact ⟨d, hd⟩

theorem compareDigests_of_equal {rep : DigestRep} (hrole : s.welt.role = .standby) (hsync : s.welt.inSync = true)
    (hreports : s.welt.reports = [rep]) (htheirs : s.welt.theirs = [rep]) (hvoid : rep.void = false) :
    ∃ d, s.compareDigests = { s with
      welt := { s.welt with reports := [], theirs := [], digCmp := d, matches_ := s.welt.matches_ + 1 } } := by
  rw [State.compareDigests, if_neg (by simp [hrole, hsync]), hreports, htheirs]
  exact compareOne_self (s := { s with welt.reports := [], welt.theirs := [] }) hvoid

/-- The benches of a checkpoint taken: of the state only they differ. -/
theorem foldl_adoptBench_leaves (p : Pos) (l : List (BenchCkpt × Nat)) (s : State) : ∃ q,
    l.foldl (fun (s : State) (x : BenchCkpt × Nat) => s.adoptBench x.1 p x.2) s = { s with prog := q } := by
  induction l generalizing s with
  | nil => exact ⟨_, rfl⟩
  | cons x l ih =>
    obtain ⟨q, hq⟩ := ih (s.adoptBench x.1 p x.2)
    exact ⟨q, hq⟩

/-- The adopted state stands: its ledger, its tacks, its streams and its position (R733, R734). -/
theorem adopt_leaves (s : State) (a : Adopted) : (s.adopt a).welt.role = .standby ∧
    (s.adopt a).welt.adopting = false ∧ (s.adopt a).welt.inSync = true ∧
    (s.adopt a).prog.ledger = canon 0 a.ckpt.ledger ∧ (s.adopt a).tack.pending = a.tacks ∧
    (s.adopt a).intake.streams = a.streams ∧ (s.adopt a).last.pp = a.pp ∧ (s.adopt a).last.epoch = a.epoch ∧
    (s.adopt a).theSeal = s.theSeal := by
  obtain ⟨q, hq⟩ := foldl_adoptBench_leaves a.ckpt.pos (a.ckpt.benches.zip [0, 1, 2, 3, 4]) s
  simp only [State.adopt, hq]
  generalize hu : ({ s with prog := _, tack := _, intake := _, last := _, welt := _ } : State) = u
  obtain ⟨hwelt, hlast, hseal⟩ := setRole_leaves u .standby 3
  have hkeeps : u.keeps (u.setRole .standby 3) :=
    (State.keeps_of_prog (t := { u with welt.role := .standby, welt.deciding := false }) rfl rfl rfl rfl rfl).trans
      (State.deliver_keeps _ 4 _)
  have htack : (u.setRole .standby 3).tack = u.tack := State.deliver_tack _ 4 _
  have hintake : (u.setRole .standby 3).intake = u.intake := State.deliver_intake _ 4 _
  obtain ⟨-, -, -, -, -, hledger, -, -⟩ := hkeeps
  rw [hwelt, hlast, hseal, htack, hintake, hledger, ← hu]
  exact ⟨rfl, rfl, rfl, rfl, rfl, rfl, rfl, rfl, rfl⟩

/-- An adoption that was not complete in time is begun again once (R733). -/
theorem failAdoption_of_first (hrole : s.welt.role = .standby) (hfails : s.welt.adoptFails = 0) :
    s.failAdoption.welt.role = .standby ∧ s.failAdoption.welt.adopting = true ∧
      s.failAdoption.welt.adoptFails = 1 ∧ s.failAdoption.last = s.last := by
  generalize hu : (State.note { s with welt.adoptFails := 1 } 0xA302) = u
  have hfail : s.failAdoption = u.askAdopt := by
    simp only [State.failAdoption, hfails]
    exact (if_neg (by decide)).trans (congrArg State.askAdopt hu)
  have hwelt : u.welt = { s.welt with adoptFails := 1 } := by rw [← hu, State.note_welt]
  have hlast : u.last = s.last := by rw [← hu, State.note_last]
  have hfails' : u.askAdopt.welt.adoptFails = u.welt.adoptFails := by
    rw [State.askAdopt]
    dsimp only
    split <;> rfl
  obtain ⟨hframe, hask, hadopting, -⟩ := askAdopt_leaves u
  rw [hfail, hask, hadopting, hfails', hwelt]
  refine ⟨hrole, rfl, rfl, ?_⟩
  rw [hframe]
  exact hlast

/-- The second time in a row the member is PARTED (R720, R733). -/
theorem failAdoption_of_second (hfails : s.welt.adoptFails = 1) :
    s.failAdoption.welt.role = .parted ∧ s.failAdoption.welt.adopting = false := by
  have hfail : s.failAdoption = (State.note { s with welt.adoptFails := 2 } 0xA302).becomeParted 6 := by
    simp only [State.failAdoption, hfails]
    exact if_pos (by decide)
  obtain ⟨hrole, -, -, -, hadopting, -, -⟩ := becomeParted_leaves (State.note { s with welt.adoptFails := 2 } 0xA302) 6
  rw [hfail]
  exact ⟨hrole, hadopting⟩

end Frames

/-- Settles O42. -/
theorem weltFramesComplete : Obligations.WeltFramesComplete := by
  unfold Obligations.WeltFramesComplete
  intro s h pos e b i app blk page rep a hon hcrc hseq got takes queued
  obtain ⟨u, hgot⟩ := inOrder_leaves s h
  have hupb : s.up .bench = true := by
    rw [State.weltOn, Bool.and_eq_true] at hon
    exact hon.2
  refine ⟨fun hrole => ?_, fun hrole => ?_⟩
  · have hnext : ∀ f, s.standbyTake h f = f (s.inOrder h) := standbyTake_of_next hon hcrc hseq hrole
    have hrole' : (s.inOrder h).welt.role = .standby := by rw [hgot]; exact hrole
    have hseq' : (s.inOrder h).welt.rxSeq = h.seq := rfl
    have hready : takes → Ready (s.inOrder h) b := fun ⟨hbound, htakes, hroom, hfree⟩ => by
      rw [hgot]
      exact ⟨hbound, hupb, htakes, hroom, hfree⟩
    have hqueued : ∀ (c : Instr) (x : Event) (t : State), exec c s = .next t → Queues (s.inOrder h) t →
        (t.bench b).queue = insertEvent x ((s.inOrder h).bench b).queue →
        (t.bench b).data = ((s.inOrder h).bench b).data → queued c x := by
      rintro c x t hexec ⟨hlast, hmail, -, hrx⟩ hqueue hdata
      rw [hgot] at hlast hmail hqueue hdata
      exact ⟨t, hexec, hrx, hlast, hmail, hqueue, hdata⟩
    refine ⟨?_, fun htakes hb => ?_, fun htakes => ?_, fun htakes => ?_, fun htakes hb => ?_, ?_,
      fun hsync hreports htheirs hvoid => ?_, ?_, fun hadopting => ?_, fun hadopting hfails => ?_,
      fun hadopting hfails => ?_⟩
    · obtain ⟨hpp, hepoch, hseal, hrx⟩ := (s.inOrder h).copyTick_leaves pos
      refine ⟨_, congrArg Host.Outcome.next (hnext _), hrx, hpp, hepoch, hseal.trans ?_⟩
      rw [hgot]
    · obtain ⟨hmark, hprog⟩ := markMirrored_leaves (s.inOrder h) e
      have hbench : ((s.inOrder h).markMirrored e).bench b = (s.inOrder h).bench b := by
        rw [State.bench, hprog]
        rfl
      obtain ⟨hqueue, hdata⟩ := mirrorAll_self (p := fun i => (2 ^ b).testBit i) (l := [0, 1, 2, 3]) (by decide)
        (by simp; omega) Nat.testBit_two_pow_self ((hready htakes).of_bench hbench hmark.supply) e
      rw [hbench] at hqueue hdata
      exact hqueued _ _ _ (congrArg Host.Outcome.next (hnext _))
        (hmark.trans (mirrorAll_queues (p := fun i => (2 ^ b).testBit i) e _ _)) hqueue hdata
    · obtain ⟨hqueue, hdata⟩ := mirrorAll_self (p := fun _ => true) (l := [0, 1, 2, 3, 4]) (by decide)
        (by have := htakes.1; simp; omega) rfl (hready htakes) e.asPartner
      exact hqueued _ _ _ (congrArg Host.Outcome.next (hnext _)) (mirrorAll_queues (p := fun _ => true) _ _ _) hqueue
        hdata
    · obtain ⟨hqueue, hdata⟩ := mirrorTo_self (hready htakes) (State.eyeletEvent i pos).fromPartner
      exact hqueued _ _ _ (congrArg Host.Outcome.next (hnext _)) (mirrorTo_queues _ _ _) hqueue hdata
    · obtain ⟨hrx, hlast, hbench⟩ := copyB4_leaves (hready htakes) e
      refine ⟨_, congrArg Host.Outcome.next (hnext _), hrx, ?_⟩
      rw [hbench, hlast, hgot]
      refine ⟨rfl, rfl, rfl, ?_⟩
      simp [State.bench]
    · refine congrArg Host.Outcome.next ((hnext _).trans ?_)
      have hedge : (s.inOrder h).last.edge = s.last.edge := by rw [hgot]
      rw [← hedge]
      rfl
    · obtain ⟨d, hequal⟩ := compareDigests_of_equal (s := { s.inOrder h with
        welt.theirs := (s.inOrder h).welt.theirs ++ [rep] }) (rep := rep) hrole' (by rw [hgot]; exact hsync)
        (by rw [hgot]; exact hreports) (by rw [hgot]; simp [htheirs]) hvoid
      refine ⟨_, congrArg Host.Outcome.next (hnext _), ?_⟩
      rw [hequal, hgot]
      exact ⟨rfl, hrole, rfl, rfl, rfl⟩
    · exact congrArg Host.Outcome.next (hnext _)
    · exact ⟨_, congrArg Host.Outcome.next (if_pos ⟨hon, hrole, hadopting⟩), adopt_leaves s a⟩
    · exact ⟨_, congrArg Host.Outcome.next (if_pos ⟨hon, hrole, hadopting⟩), failAdoption_of_first hrole hfails⟩
    · exact ⟨_, congrArg Host.Outcome.next (if_pos ⟨hon, hrole, hadopting⟩), failAdoption_of_second hfails⟩
  · refine congrArg Host.Outcome.next ((weltTake_of_next hon hcrc hseq _).trans (if_pos ?_))
    rw [hgot]
    exact hrole

end Sys2Proof.Machine
end

section
/-! PROOFS. What the removal of domains and the moves between power states leave alone (chapter 19). -/

namespace Sys2Proof.Machine

open Sys2Proof

namespace State

variable {s t u : State}

/-! ### Resets of blocks spare the host's side -/

/-- The mailboxes, the seal, the store, the supplies, the Awl and the waiting commands stand. -/
structure Spares (s t : State) : Prop where
  mail : t.mail = s.mail
  theSeal : t.theSeal = s.theSeal
  store : t.store = s.store
  supply : t.supply = s.supply
  awl : t.awl = s.awl
  pending : t.pending = s.pending

theorem Spares.refl (s : State) : s.Spares s := ⟨rfl, rfl, rfl, rfl, rfl, rfl⟩

theorem Spares.trans (h : s.Spares t) (k : t.Spares u) : s.Spares u :=
  ⟨k.mail.trans h.mail, k.theSeal.trans h.theSeal, k.store.trans h.store, k.supply.trans h.supply,
    k.awl.trans h.awl, k.pending.trans h.pending⟩

/-- `trans`, told from the later step. -/
theorem Spares.after (k : t.Spares u) (h : s.Spares t) : s.Spares u := h.trans k

theorem Tells.spares (h : s.Tells t) : s.Spares t := by
  obtain ⟨⟨_, _, _, hpending, _⟩, _, _, _, _, _, _, rfl⟩ := h
  exact ⟨rfl, rfl, rfl, rfl, rfl, rfl⟩

theorem RadioSide.spares (h : s.RadioSide t) : s.Spares t := by
  obtain ⟨_, _, _, _, _, _, _, _, _, _, rfl⟩ := h
  exact ⟨rfl, rfl, rfl, rfl, rfl, rfl⟩

theorem Moves.spares (h : s.Moves t) : s.Spares t := by
  obtain ⟨_, _, _, _, _, _, _, _, _, rfl⟩ := h
  exact ⟨rfl, rfl, rfl, rfl, rfl, rfl⟩

theorem foldl_spares {α : Type} {f : State → α → State} (hf : ∀ (s : State) a, s.Spares (f s a)) (l : List α)
    (s : State) : s.Spares (l.foldl f s) :=
  foldl_leaves f l .refl .trans hf s

theorem setChain_spares (s : State) (c : Nat) (x : Chain) : s.Spares (s.setChain c x) :=
  (s.setChain_radioSide c x).spares

theorem dropSplice_spares (s : State) (sp : Splice) : s.Spares (s.dropSplice sp) := by
  simp only [dropSplice]
  split <;> exact ⟨rfl, rfl, rfl, rfl, rfl, rfl⟩

theorem abandonedSplice_spares (s : State) : s.Spares s.abandonedSplice := by
  simp only [abandonedSplice]
  exact (note_tells _ _).spares.after ⟨rfl, rfl, rfl, rfl, rfl, rfl⟩

theorem abandonSplice_spares (s : State) (sp : Splice) (status reason : Nat) :
    s.Spares (s.abandonSplice sp status reason) :=
  ((s.dropSplice_spares sp).trans (abandonedSplice_spares _)).trans (reply_tells _ _ _ _ _).spares

theorem finishSplice_spares (s : State) (sp : Splice) : s.Spares (s.finishSplice sp) := by
  simp only [finishSplice, spliceReply]
  exact (reply_tells _ _ _ _ _).spares.after ((radioFor_tells _ _ _ _).spares.after ⟨rfl, rfl, rfl, rfl, rfl, rfl⟩)

theorem carrierGone_spares (s : State) (carrier : Nat) : s.Spares (s.carrierGone carrier) := by
  simp only [carrierGone, endFades]
  refine (foldl_spares finishSplice_spares _ _).after ((foldl_spares
    (fun s sp => s.abandonSplice_spares sp _ _) _ _).after
    ((foldl_tells (fun s q => s.reply_tells _ _ _ _) _ _).spares.after ⟨rfl, rfl, rfl, rfl, rfl, rfl⟩))

theorem dropCarrier_spares (s : State) (carrier : Nat) : s.Spares (s.dropCarrier carrier) := by
  simp only [dropCarrier]
  generalize hlost : List.foldl _ s _ = u
  have hu : s.Spares u :=
    hlost ▸ foldl_spares (fun s sp => (s.dropSplice_spares sp).trans (abandonedSplice_spares _)) _ s
  exact hu.trans ⟨rfl, rfl, rfl, rfl, rfl, rfl⟩

theorem endCapture_spares (s : State) (n : Nat) : s.Spares (s.endCapture n) := by
  simp only [endCapture]
  split
  · exact ⟨rfl, rfl, rfl, rfl, rfl, rfl⟩
  · exact .refl s

theorem dropPartials_spares (s : State) (n : Nat) : s.Spares (s.dropPartials n) := ⟨rfl, rfl, rfl, rfl, rfl, rfl⟩

theorem poLost_spares (s : State) (n : Nat) : s.Spares (s.poLost n) := ⟨rfl, rfl, rfl, rfl, rfl, rfl⟩

theorem freeLane_spares (s : State) (n : Nat) : s.Spares (s.freeLane n) := by
  simp only [freeLane]
  refine (endCapture_spares _ n).after <| (dropPartials_spares _ n).after <| (poLost_spares _ n).after <|
    (carrierGone_spares _ n).after ?_
  exact ⟨rfl, rfl, rfl, rfl, rfl, rfl⟩

theorem resetLane_spares (s : State) (n : Nat) : s.Spares (s.resetLane n) := by
  simp only [resetLane]
  exact (abortAll_tells _ _).spares.after ((dropCarrier_spares _ n).after ⟨rfl, rfl, rfl, rfl, rfl, rfl⟩)

/-- A lane not in use is left as it is. -/
theorem lanes_spares {f : State → Nat → State} (hf : ∀ (s : State) n, s.Spares (f s n)) (l : List Nat) (s : State) :
    s.Spares (l.foldl (fun (s : State) n => if (s.lane n).use = .free then s else f s n) s) := by
  refine foldl_spares (fun s n => ?_) l s
  split
  · exact .refl s
  · exact hf s n

theorem abortReception_spares (s : State) : s.Spares s.abortReception := by
  simp only [abortReception]
  have hlanes := lanes_spares resetLane_spares (List.range 102) s
  generalize List.foldl _ s _ = u at hlanes
  refine (abortAll_tells _ _).spares.after (hlanes.trans ?_)
  exact ⟨rfl, rfl, rfl, rfl, rfl, rfl⟩

theorem setDabMode_spares (s : State) (d : Nat) (m : DabMode) : s.Spares (s.setDabMode d m) := by
  simp only [setDabMode]
  split
  · exact (raise_tells _ _ _ _).spares.after ⟨rfl, rfl, rfl, rfl, rfl, rfl⟩
  · exact ⟨rfl, rfl, rfl, rfl, rfl, rfl⟩

theorem dabAbort_spares (s : State) (d reason : Nat) : s.Spares (s.dabAbort d reason) := by
  simp only [dabAbort]
  exact (abortAll_tells _ _).spares.after ((dropCarrier_spares _ _).after ⟨rfl, rfl, rfl, rfl, rfl, rfl⟩)

/-- The search begun anew (R526). -/
theorem dabSearch_spares (s : State) (d : Nat) : s.Spares (((s.setDabMode d .search).setDab d
    { (s.setDabMode d .search).decoder d with lastNull := none, missed := 0, cif := 0 }).dabSync d) := by
  refine (dabSync_tells _ d).spares.after ((s.setDabMode_spares d .search).trans ?_)
  exact ⟨rfl, rfl, rfl, rfl, rfl, rfl⟩

theorem dabReset_spares (s : State) (d : Nat) : s.Spares (s.dabReset d) := by
  unfold dabReset
  extract_lets v x w y z
  have hw : s.Spares w := ⟨rfl, rfl, rfl, rfl, rfl, rfl⟩
  have hz : s.Spares z := (foldl_tells (fun s q => s.dabRaise_tells _ _ _ _) _ _).spares.after
    ((dabAbort_spares w d 0).after hw)
  split
  · exact hz
  · exact (dabSearch_spares z d).after hz

theorem rxOff_spares (s : State) (c : Nat) : s.Spares (s.rxOff c) := by
  simp only [rxOff]
  split
  · exact (freeLane_spares _ _).after ((freeLane_spares _ _).after ⟨rfl, rfl, rfl, rfl, rfl, rfl⟩)
  · exact ⟨rfl, rfl, rfl, rfl, rfl, rfl⟩

/-! ### Domains removed -/

/-- Domain `d` is down, and the rest of the supplies, the seal, the Awl and the waiting commands stand. -/
structure Removes (s t : State) (d : Domain) : Prop where
  theSeal : t.theSeal = s.theSeal
  awl : t.awl = s.awl
  pending : t.pending = s.pending
  supply : t.supply = { s.supply with dom := vset s.supply.dom d.ctorIdx .down }

variable {d : Domain}

theorem setDom_removes (s : State) (d : Domain) : s.Removes (s.setDom d .down) d := ⟨rfl, rfl, rfl, rfl⟩

theorem Removes.tell (h : s.Removes t d) (k : t.Spares u) : s.Removes u d :=
  ⟨k.theSeal.trans h.theSeal, k.awl.trans h.awl, k.pending.trans h.pending, k.supply.trans h.supply⟩

theorem Spares.removes (h : s.Spares t) (k : t.Removes u d) : s.Removes u d :=
  ⟨k.theSeal.trans h.theSeal, k.awl.trans h.awl, k.pending.trans h.pending, h.supply ▸ k.supply⟩

theorem clearRegs_spares (s : State) (lo hi : Nat) : s.Spares (s.clearRegs lo hi) := ⟨rfl, rfl, rfl, rfl, rfl, rfl⟩

theorem watchSource_removes (s : State) (d : Domain) : s.Removes (s.setDom d .down).watchSource d ∧
    (s.setDom d .down).watchSource.mail = s.mail ∧ (s.setDom d .down).watchSource.store = s.store := by
  have hwatch := (s.setDom d .down).watchSource_moves.spares
  exact ⟨(s.setDom_removes d).tell hwatch, hwatch.mail, hwatch.store⟩

theorem lowerHearth_eq (s : State) : ∃ u, s.Spares u ∧ s.lowerHearth = (u.setDom .hearth .down).watchSource := by
  have hreset : s.Spares (if s.up .hearth then { s.resetChain 2 none with
      tack.failHearth := satAdd 255 (s.resetChain 2 none).tack.failHearth (s.resetChain 2 none).hearth.queue.length }
      else s) := by
    split
    · exact ((s.resetChain_radioSide 2 none).trans (.of_frame ⟨_, _, _, _, _, _, _, _, rfl⟩)).spares
    · exact .refl s
  simp only [lowerHearth]
  generalize (if s.up .hearth then _ else s) = v at *
  refine ⟨_, hreset.trans ?_, rfl⟩
  exact ⟨rfl, rfl, rfl, rfl, rfl, rfl⟩

theorem lowerHearth_removes (s : State) : s.Removes s.lowerHearth .hearth ∧ s.lowerHearth.mail = s.mail ∧
    s.lowerHearth.store = s.store := by
  obtain ⟨u, hspares, hu⟩ := s.lowerHearth_eq
  obtain ⟨hremoves, hmail, hstore⟩ := u.watchSource_removes .hearth
  rw [hu]
  exact ⟨hspares.removes hremoves, hmail.trans hspares.mail, hstore.trans hspares.store⟩

theorem lowerBroadcast_eq (s : State) :
    ∃ u, s.Spares u ∧ s.lowerBroadcast = (u.setDom .broadcast .down).watchSource := by
  have hreset : s.Spares (if s.up .broadcast then
      (List.range 102).foldl (fun (s : State) n => if (s.lane n).use = .free then s else s.freeLane n)
        ((((((s.resetChain 0 none).resetChain 1 none).abortReception).dabReset 0).dabReset 1).rxOff 0 |>.rxOff 1)
      else s) := by
    split
    · have habort := ((s.resetChain_radioSide 0 none).spares.trans (resetChain_radioSide _ 1 none).spares).trans
        (abortReception_spares _)
      have hdab := (habort.trans (dabReset_spares _ 0)).trans (dabReset_spares _ 1)
      exact ((hdab.trans (rxOff_spares _ 0)).trans (rxOff_spares _ 1)).trans (lanes_spares freeLane_spares _ _)
    · exact .refl s
  simp only [lowerBroadcast]
  generalize (if s.up .broadcast then _ else s) = v at *
  refine ⟨_, hreset.trans ?_, rfl⟩
  exact ⟨rfl, rfl, rfl, rfl, rfl, rfl⟩

theorem lowerBroadcast_removes (s : State) : s.Removes s.lowerBroadcast .broadcast ∧
    s.lowerBroadcast.mail = s.mail ∧ s.lowerBroadcast.store = s.store := by
  obtain ⟨u, hspares, hu⟩ := s.lowerBroadcast_eq
  obtain ⟨hremoves, hmail, hstore⟩ := u.watchSource_removes .broadcast
  rw [hu]
  exact ⟨hspares.removes hremoves, hmail.trans hspares.mail, hstore.trans hspares.store⟩

/-- Nothing differs but the messages of the mailboxes, what waits for a ring, and what is counted of them. -/
def Marks (s t : State) : Prop := ∃ m, t = { s with mail := m } ∧ m.keys = s.mail.keys ∧
  m.session = s.mail.session

theorem Marks.refl (s : State) : s.Marks s := ⟨_, rfl, rfl, rfl⟩

theorem Marks.trans (h : s.Marks t) (k : t.Marks u) : s.Marks u := by
  obtain ⟨m, rfl, hkeys, hsess⟩ := h
  obtain ⟨n, rfl, kkeys, ksess⟩ := k
  exact ⟨n, rfl, kkeys.trans hkeys, ksess.trans hsess⟩

theorem flagEyelets_marks (s : State) (e : Nat) : s.Marks (s.flagEyelets e) := by
  simp only [flagEyelets]
  split
  · exact .refl s
  · exact ⟨_, rfl, rfl, rfl⟩

theorem markIn_marks (s : State) (stale : Bool) (p : Nat → Msg → Bool) : s.Marks (s.markIn stale p) :=
  ⟨_, rfl, rfl, rfl⟩

theorem markOut_marks (s : State) (stale : Bool) (p : Nat → Msg → Bool) : s.Marks (s.markOut stale p) :=
  ⟨_, rfl, rfl, rfl⟩

theorem marksBenches_marks (s : State) : s.Marks s.marksBenches := by
  unfold marksBenches
  extract_lets v w x
  have hx : s.Marks x := ((s.markIn_marks _ _).trans (markOut_marks _ _ _)).trans
    (foldl_leaves _ _ .refl .trans (fun s e => s.flagEyelets_marks e) _)
  clear_value x
  exact hx.trans ⟨_, rfl, rfl, rfl⟩

theorem lowerBench_leaves (s : State) : s.Removes s.lowerBench .bench ∧
    s.lowerBench.mail.keys = s.mail.keys ∧ s.lowerBench.mail.session = s.mail.session ∧
    (s.lowerBench.store = s.store ∨ s.lowerBench.store = s.abandonCommit.store) := by
  obtain ⟨m, hmarks, hkeys, hsession⟩ := s.marksBenches_marks
  simp only [lowerBench, hmarks]
  split
  · exact ⟨⟨rfl, rfl, rfl, rfl⟩, hkeys, hsession, .inl rfl⟩
  · exact ⟨⟨rfl, rfl, rfl, rfl⟩, hkeys, hsession, .inr rfl⟩

/-- What a move to IDLE leaves of the host's side. -/
structure Idles (s t : State) : Prop where
  keys : t.mail.keys = s.mail.keys
  theSeal : t.theSeal = s.theSeal
  pending : t.pending = s.pending
  awl : t.awl = { s.awl with running := false }
  supply : t.supply = { s.supply with
    power := .idle, moving := false, starting := false
    dom := vset (vset (vset s.supply.dom 4 .down) 3 .down) 2 .down }
  store : t.store = s.store ∨ t.store = s.abandonCommit.store

theorem toIdle_idles (s : State) : s.Idles s.toIdle := by
  obtain ⟨hhearth, hmail, hstore⟩ := s.lowerHearth_removes
  obtain ⟨hbroad, bmail, bstore⟩ := s.lowerHearth.lowerBroadcast_removes
  obtain ⟨hbench, ckeys, -, cstore⟩ := s.lowerHearth.lowerBroadcast.lowerBench_leaves
  simp only [toIdle, setPower]
  generalize s.lowerHearth.lowerBroadcast.lowerBench = u at *
  have halert := (alert_tells { u with
    awl.running := false, supply.moving := false, supply.starting := false, supply.power := .idle } 4).spares
  have hsupply := hbench.supply
  rw [hbroad.supply, hhearth.supply] at hsupply
  constructor
  case keys => rw [halert.mail, ← hmail, ← bmail]; exact ckeys
  case theSeal => exact halert.theSeal.trans (hbench.theSeal.trans (hbroad.theSeal.trans hhearth.theSeal))
  case pending => exact halert.pending.trans (hbench.pending.trans (hbroad.pending.trans hhearth.pending))
  case awl =>
    rw [halert.awl]
    exact congrArg (fun a : Awl => { a with running := false }) (hbench.awl.trans (hbroad.awl.trans hhearth.awl))
  case supply =>
    rw [halert.supply]
    exact congrArg (fun w : Supply => { w with moving := false, starting := false, power := .idle }) hsupply
  case store =>
    rw [halert.store]
    rw [← hstore, ← bstore]
    refine cstore.imp id fun h => h.trans ?_
    simp only [abandonCommit, bstore, hstore]

end State

end Sys2Proof.Machine
end

section
/-! PROOFS. The rows of the Awl (chapter 19). -/

namespace Sys2Proof.Machine

open Sys2Proof

variable {s t : State} {res : AwlResult} {m : Msg}

/-! ### The masks of a run -/

/-- The tests that a run finds failing are tests of Table 19-7. -/
theorem AwlResult.fails_lt (r : AwlResult) : r.fails < 2 ^ 19 := by
  have hbit : ∀ (p : Prop) [Decidable p] (k : Nat), k < 19 → (if p then 0 else 2 ^ k) < 2 ^ 19 := by
    intro p _ k hk
    split
    · decide
    · exact Nat.pow_lt_pow_right (by decide) hk
  simp only [AwlResult.fails]
  refine Nat.or_lt_two_pow (Nat.or_lt_two_pow (Nat.or_lt_two_pow (Nat.or_lt_two_pow (Nat.or_lt_two_pow
    ?_ ?_) ?_) ?_) ?_) ?_
  · exact Nat.and_lt_two_pow _ (by decide)
  all_goals exact hbit _ _ (by decide)

theorem AwlResult.fails_all (r : AwlResult) : r.fails &&& awlAll = r.fails :=
  (Nat.and_two_pow_sub_one_eq_mod _ 19).trans (Nat.mod_eq_of_lt r.fails_lt)

namespace State

/-- The masks of a run are taken, and nothing else differs but the hold-up measurement of the store. -/
theorem awlTake_frame (s : State) (run : Nat) (res : AwlResult) : ∃ pass warn details c h,
    s.awlTake run res = { s with
      awl := { s.awl with pass := pass, fail := res.fails &&& run, warn := warn, details := details }
      store := { s.store with c := c, vhold := h } } := by
  by_cases hold : run.testBit 18 = true
  · exact ⟨_, _, _, _, _, (if_pos hold).trans rfl⟩
  · exact ⟨_, _, _, s.store.c, s.store.vhold, (if_neg hold).trans rfl⟩

theorem awlRaise_tells (s : State) : s.Tells s.awlRaise := foldl_tells (fun s _ => s.note_tells _) _ s

theorem awlFaults_tells (s : State) : s.Tells s.awlFaults := by
  have hnote : ∀ (t : State) (p : Prop) [Decidable p] (code : Nat), t.Tells (if p then t.note code else t) := by
    intro t p _ code
    split
    · exact t.note_tells code
    · exact .refl t
  exact (hnote s _ _).trans (hnote _ _ _)

theorem bootRecord_leaves (s : State) : s.bootRecord.mail = s.mail ∧ s.bootRecord.theSeal = s.theSeal ∧
    s.bootRecord.supply = s.supply ∧ s.bootRecord.awl = s.awl ∧ s.bootRecord.store.boot = s.store.boot ∧
    s.bootRecord.store.active = s.store.active ∧ s.bootRecord.store.ivk = s.store.ivk := by
  have hnote := (note_tells { s with store.need := StoreOp.need (.boot s.store.boot), store.evt := s.store.evt ||| 1 }
    0x1203).spares
  simp only [bootRecord, startOp, checkEnergy]
  split
  · split
    · exact ⟨rfl, rfl, rfl, rfl, rfl, rfl, rfl⟩
    · exact ⟨hnote.mail, hnote.theSeal, hnote.supply, hnote.awl, (congrArg Store.boot hnote.store).trans rfl,
        (congrArg Store.active hnote.store).trans rfl, (congrArg Store.ivk hnote.store).trans rfl⟩
  · exact ⟨rfl, rfl, rfl, rfl, rfl, rfl, rfl⟩

end State

/-! ### A run on demand -/

/-- The masks of a run without FAIL and without the hold-up measurement. -/
theorem awlTake_of_passed {run : Nat} (hpass : res.fails &&& run = 0) (hhold : run.testBit 18 = false) :
    s.awlTake run res = { s with
      awl.pass := run &&& (0x7FFFF ^^^ (res.warn &&& run &&& 4)), awl.fail := 0, awl.warn := res.warn &&& run &&& 4
      awl.details := res.found.filter fun (e : Nat × List Byte) => run.testBit e.1 } := by
  have hwarn : res.warn &&& run &&& bitsOf [2] &&& (awlAll ^^^ 0) = res.warn &&& run &&& 4 := by
    rw [Nat.and_assoc]
    exact congrArg (res.warn &&& run &&& ·) (by decide)
  simp only [State.awlTake, hpass, hhold, hwarn, Bool.false_and, Bool.false_eq_true, if_false, Nat.or_zero, Nat.zero_or]
  rfl

theorem awlReply_tells (s : State) (id status reason : Nat) : s.Tells (s.awlReply id status reason) :=
  s.reply_tells _ _ _ _

/-- What the end of a run on demand tells of its masks: codes, what a FAIL brings, and the reply to its request. -/
def State.tellRun (s : State) (req : Option Nat) : State :=
  let s := (testsOf s.awl.fail).foldl (fun (s : State) i => s.awlFailUnit i) s.awlRaise
  match req with
  | some id => s.awlReply id (if s.awl.defer = 0 then stOk else stDeferred) 0
  | none => s

theorem exec_awlRunEnd_of_ended (hrun : s.awl.running = true) (hpu : s.awl.powerUp = false)
    (hloop : s.loopbackWaits = false) : exec (.awlRunEnd res) s = .next (State.tellRun
      { s.awlTake s.awl.mask (s.awlSeen res) with awl.running := false, awl.req := none } s.awl.req) :=
  congrArg Host.Outcome.next (if_neg (by simp [hrun, hpu, hloop]))

theorem State.tellRun_tells (h : s.awl.fail = 0) (req : Option Nat) : s.Tells (s.tellRun req) := by
  have hnone : testsOf 0 = [] := by decide
  simp only [State.tellRun, h, hnone, List.foldl_nil]
  split
  · exact s.awlRaise_tells.trans (awlReply_tells _ _ _ _)
  · exact s.awlRaise_tells

/-- A run without FAIL leaves its masks and raises no more than its warnings (R774, R775). -/
theorem exec_awlRunEnd_of_passed (hrun : s.awl.running = true) (hpu : s.awl.powerUp = false)
    (hloop : s.loopbackWaits = false) (hpass : (s.awlSeen res).fails &&& s.awl.mask = 0)
    (hhold : s.awl.mask.testBit 18 = false) : ∃ t, exec (.awlRunEnd res) s = .next t ∧ s.keeps t ∧
      t.last = s.last ∧ t.awl.running = false ∧ t.awl.req = none ∧ t.awl.fail = 0 ∧
      t.awl.warn = res.warn &&& s.awl.mask &&& 4 ∧ t.awl.pass = s.awl.mask &&& (0x7FFFF ^^^ t.awl.warn) := by
  refine ⟨_, exec_awlRunEnd_of_ended hrun hpu hloop, ?_⟩
  rw [awlTake_of_passed hpass hhold]
  generalize hu : ({ s with
    awl.pass := _, awl.fail := _, awl.warn := _, awl.details := _, awl.running := _, awl.req := _ } : State) = u
  have hkeeps : s.keeps u := hu ▸ State.keeps_of_prog rfl rfl rfl rfl rfl
  have htells := State.tellRun_tells (s := u) (hu ▸ rfl) s.awl.req
  have hawl := htells.spares.awl
  exact ⟨hkeeps.trans htells.keeps, htells.last.trans (hu ▸ rfl), hawl ▸ hu ▸ rfl, hawl ▸ hu ▸ rfl, hawl ▸ hu ▸ rfl,
    hawl ▸ hu ▸ rfl, hawl ▸ hu ▸ rfl⟩

/-! ### The service of MB0 in AWL_HOLD (R771) -/

/-- The message of MB0 is taken, its answer stands there, and the supplies and the seal are as they were. -/
def State.Answered (s t : State) (bytes : List Byte) : Prop :=
  vget none t.mail.inb 0 = none ∧
  (∃ r, vget none t.mail.outb 0 = some r ∧ r.bytes = bytes ∧ r.sender = .keeper) ∧
  t.supply = s.supply ∧ t.theSeal = s.theSeal

theorem awlMessage_of_waiting {code : Nat} (hpower : s.supply.power = .hold) (hrun : s.awl.running = false)
    (hmsg : vget none s.mail.inb 0 = some m) (hcode : fieldBE m.bytes 0 1 = code) :
    s.awlMessage code = some m.bytes := by
  simp only [State.awlMessage, hpower, hrun, hmsg, hcode, and_self, if_true, Option.bind_some]

/-- A message lands in an EMPTY slot (R658), and at most an alert tells of it. -/
theorem postOut_of_empty {mb : Nat} (h : vget none s.mail.outb mb = none) (f : Sender) (xs : List Byte) (p : Pos) :
    ∃ b, s.postOut mb f xs p = some { s with
      bus := b, mail.outb := vset s.mail.outb mb (some ⟨xs, f, p, 0, false, false, false, false⟩) } := by
  obtain ⟨b, hb⟩ := s.arise_frame 0
  simp only [State.postOut, h]
  split
  · exact ⟨b, by rw [hb]⟩
  · exact ⟨s.bus, rfl⟩

theorem awlAnswer_answered (hout : vget none s.mail.outb 0 = none) (bytes : List Byte) :
    s.Answered (s.awlAnswer bytes) bytes ∧ (s.awlAnswer bytes).awl = s.awl := by
  have hin : vget none (vset s.mail.inb 0 none) 0 = none := vget_vset_self (by decide)
  generalize hu : ({ s with mail := { s.mail with inb := vset s.mail.inb 0 none } } : State) = u
  have huout : vget none u.mail.outb 0 = none := hu ▸ hout
  obtain ⟨b, hb⟩ := postOut_of_empty huout .keeper bytes u.now
  have hanswer : s.awlAnswer bytes = { u with
      bus := b, mail.outb := vset u.mail.outb 0 (some ⟨bytes, .keeper, u.now, 0, false, false, false, false⟩) } := by
    simp only [State.awlAnswer, hu, hb, Option.getD_some]
  rw [hanswer, ← hu]
  exact ⟨⟨hin, ⟨_, vget_vset_self (by decide), rfl, rfl⟩, rfl, rfl⟩, rfl⟩

theorem exec_awlDetail_of_waiting (hpower : s.supply.power = .hold) (hrun : s.awl.running = false)
    (hmsg : vget none s.mail.inb 0 = some m) (hcode : fieldBE m.bytes 0 1 = 2) :
    exec .awlDetail s = .next (s.awlAnswer ([2, BitVec.ofNat 8 (fieldBE m.bytes 1 1),
      if s.awl.pass.testBit (fieldBE m.bytes 1 1) then 0 else if s.awl.fail.testBit (fieldBE m.bytes 1 1) then 1
        else if s.awl.warn.testBit (fieldBE m.bytes 1 1) then 2 else 3] ++
      ((kget s.awl.details (fieldBE m.bytes 1 1)).getD []).take 60)) := by
  show execAwlDetail s = _
  simp only [execAwlDetail, awlMessage_of_waiting hpower hrun hmsg hcode, bytesBE_one, apply_ite (BitVec.ofNat 8)]
  rfl

/-- The state that answers a RERUN: the masks of the run, and the codes of its FAIL and WARN. -/
def State.rerun (s : State) (run : Nat) (res : AwlResult) : State :=
  ({ s.awlTake run res with awl.powerUp := false, awl.mask := run, awl.defer := 0 }).awlRaise

theorem rerun_leaves (s : State) (run : Nat) (res : AwlResult) : (s.rerun run res).awl.mask = run ∧
    (s.rerun run res).awl.fail = res.fails &&& run ∧ (s.rerun run res).mail = s.mail ∧
    (s.rerun run res).supply = s.supply ∧ (s.rerun run res).theSeal = s.theSeal := by
  obtain ⟨pass, warn, details, c, h, htake⟩ := s.awlTake_frame run res
  have hraise := (State.awlRaise_tells { s.awlTake run res with
    awl.powerUp := false, awl.mask := run, awl.defer := 0 }).spares
  rw [htake] at hraise
  simp only [State.rerun, htake]
  exact ⟨hraise.awl ▸ rfl, hraise.awl ▸ rfl, hraise.mail, hraise.supply, hraise.theSeal⟩

theorem exec_awlRerun_of_waiting (hpower : s.supply.power = .hold) (hrun : s.awl.running = false)
    (hmsg : vget none s.mail.inb 0 = some m) (hcode : fieldBE m.bytes 0 1 = 1) :
    exec (.awlRerun res) s = .next (
      let t := s.rerun (fieldBE m.bytes 1 4 &&& awlAll) res
      t.awlAnswer (bytesBE 1 1 ++ bytesBE 4 t.awl.pass ++ bytesBE 4 t.awl.fail ++ bytesBE 4 t.awl.warn)) := by
  show execAwlRerun res s = _
  simp only [execAwlRerun, awlMessage_of_waiting hpower hrun hmsg hcode]
  rfl

/-- RERUN is taken from MB0 and answered with the masks of the run (Table 19-9). -/
theorem exec_awlRerun_answers (hpower : s.supply.power = .hold) (hrun : s.awl.running = false)
    (hmsg : vget none s.mail.inb 0 = some m) (hout : vget none s.mail.outb 0 = none)
    (hcode : fieldBE m.bytes 0 1 = 1) : ∃ t, exec (.awlRerun res) s = .next t ∧
      t.awl.mask = fieldBE m.bytes 1 4 &&& 0x7FFFF ∧ t.awl.fail = res.fails &&& (fieldBE m.bytes 1 4 &&& 0x7FFFF) ∧
      s.Answered t (1 :: (bytesBE 4 t.awl.pass ++ bytesBE 4 t.awl.fail ++ bytesBE 4 t.awl.warn)) := by
  refine ⟨_, exec_awlRerun_of_waiting hpower hrun hmsg hcode, ?_⟩
  obtain ⟨hmask, hfail, hmail, hsupply, hseal⟩ := rerun_leaves s (fieldBE m.bytes 1 4 &&& awlAll) res
  generalize s.rerun (fieldBE m.bytes 1 4 &&& awlAll) res = t at *
  obtain ⟨⟨hin, hanswer, ksupply, kseal⟩, hawl⟩ := awlAnswer_answered (s := t) (by rw [hmail]; exact hout)
    (bytesBE 1 1 ++ bytesBE 4 t.awl.pass ++ bytesBE 4 t.awl.fail ++ bytesBE 4 t.awl.warn)
  refine ⟨(congrArg Awl.mask hawl).trans hmask, (congrArg Awl.fail hawl).trans hfail, hin, ?_, ksupply.trans hsupply,
    kseal.trans hseal⟩
  rw [hawl]
  exact hanswer

/-! ### The end of the power-up Awl (R769) -/

/-- The state that the power-up Awl leaves before AWL_HOLD is kept or left. -/
def State.powerUpDone (s : State) (res : AwlResult) : State :=
  ((s.awlTake awlAll res).awlEnded.awlRaise).awlFaults.bootRecord

theorem exec_powerUpAwlEnd_of_running (hpower : s.supply.power = .hold) (hrun : s.awl.running = true)
    (hpu : s.awl.powerUp = true) : exec (.powerUpAwlEnd res) s = .next (s.powerUpDone res).awlLeave :=
  congrArg Host.Outcome.next (if_neg (by simp [hpower, hrun, hpu]))

theorem powerUpDone_leaves (s : State) (res : AwlResult) : (s.powerUpDone res).mail = s.mail ∧
    (s.powerUpDone res).theSeal = s.theSeal ∧ (s.powerUpDone res).supply = s.supply ∧
    (s.powerUpDone res).awl.running = false ∧ (s.powerUpDone res).awl.fail = res.fails ∧
    (s.powerUpDone res).awl.cause = s.awl.cause ∧ (s.powerUpDone res).store.boot = s.store.boot ∧
    (s.powerUpDone res).store.active = s.store.active ∧ (s.powerUpDone res).store.ivk = s.store.ivk := by
  obtain ⟨pass, warn, details, c, h, htake⟩ := s.awlTake_frame awlAll res
  rw [res.fails_all] at htake
  simp only [State.powerUpDone, htake]
  generalize hu : State.awlEnded _ = u
  have htells := (u.awlRaise_tells.trans (State.awlFaults_tells _)).spares
  obtain ⟨bmail, bseal, bsupply, bawl, bboot, bactive, bivk⟩ := u.awlRaise.awlFaults.bootRecord_leaves
  subst hu
  rw [bmail, bseal, bsupply, bawl, bboot, bactive, bivk, htells.mail, htells.theSeal, htells.supply, htells.awl,
    htells.store]
  exact ⟨rfl, rfl, rfl, rfl, rfl, rfl, rfl, rfl, rfl⟩

/-- A test that failed keeps AWL_HOLD, with cause 1 (Table 19-8). -/
theorem awlLeave_of_fail (h : s.awl.fail ≠ 0) : s.awlLeave = { s with awl.cause := 1 } := by
  have hcause : s.holdCause = 1 := if_pos h
  simp only [State.awlLeave, hcause]

/-- AWL_HOLD is left when nothing holds it. -/
theorem awlLeave_of_sound (hfail : s.awl.fail = 0) (hcommitted : s.committed = true) (hivk : s.store.ivk.isSome = true)
    (hcause : s.awl.cause = 0) :
    s.awlLeave = if s.leaveHold.store.boot % 2 = 1 then s.leaveHold.toRun else s.leaveHold := by
  have hzero : s.holdCause = 0 := by
    simp [State.holdCause, hfail, hcommitted, Option.isNone_eq_false_iff.mpr hivk, hcause]
  simp only [State.awlLeave, hzero]

/-- With BENCH down and what it depends on up, a move to RUN begins there (R18, R760). -/
theorem toRun_of_down (h0 : s.supply.dom[0] = .up) (h1 : s.supply.dom[1] = .up) (h2 : s.supply.dom[2] = .down) :
    s.toRun = { s with supply := { s.supply with moving := true, dom := vset s.supply.dom 2 .powering } } := by
  have hdeps : State.depsUp { s with supply.moving := true } .bench = true := by
    simp [State.depsUp, State.up, Domain.ctorIdx, h0, h1]
  have hdown : s.supply.dom[Domain.bench.ctorIdx]? = some .down := by simp [Domain.ctorIdx, h2]
  exact if_pos ⟨hdeps, hdown⟩

/-- The power-up Awl without a FAIL, with a committed image, an IVK and no other cause, leaves AWL_HOLD. -/
theorem exec_powerUpAwlEnd_of_sound (hpower : s.supply.power = .hold) (hrun : s.awl.running = true)
    (hpu : s.awl.powerUp = true) (hfails : res.fails = 0) (hcommitted : s.committed = true)
    (hivk : s.store.ivk.isSome = true) (hcause : s.awl.cause = 0) : ∃ u, u.mail.keys = s.mail.keys ∧
      u.awl.running = false ∧ u.awl.cause = 0 ∧ u.supply = { s.supply with
        power := .idle, moving := false, starting := false
        dom := vset (vset (vset s.supply.dom 4 .down) 3 .down) 2 .down } ∧
      exec (.powerUpAwlEnd res) s = .next (if s.store.boot % 2 = 1 then u.toRun else u) := by
  obtain ⟨hmail, -, hsupply, hrunning, hfail, kcause, hboot, hactive, kivk⟩ := powerUpDone_leaves s res
  have hexec := exec_powerUpAwlEnd_of_running (res := res) hpower hrun hpu
  generalize s.powerUpDone res = v at *
  have hidles := v.toIdle_idles
  have hkeptBoot : v.leaveHold.store.boot = v.store.boot := by
    show v.toIdle.store.boot = _
    rcases hidles.store with h | h <;> rw [h]
    rfl
  rw [awlLeave_of_sound (hfail.trans hfails) ((congrArg Option.isSome hactive).trans hcommitted)
    ((congrArg Option.isSome kivk).trans hivk) (kcause.trans hcause), hkeptBoot, hboot] at hexec
  refine ⟨v.leaveHold, hidles.keys.trans (congrArg Mail.keys hmail), ?_, rfl, ?_, hexec⟩
  · exact (congrArg Awl.running hidles.awl).trans rfl
  · exact hidles.supply.trans (by rw [hsupply])

/-! ### The tests of the loopbacks and the lanes (R766, R767) -/

theorem BrLoop.ok_iff (y : BrLoop) : y.ok = true ↔ -630 ≤ y.level ∧ y.level ≤ -570 ∧ 300 ≤ y.image := by
  simp only [BrLoop.ok, Bool.and_eq_true, decide_eq_true_eq]
  omega

theorem LaneTest.ok_iff (y : LaneTest) : y.ok = true ↔ -50 ≤ y.level ∧ y.level ≤ 50 ∧ y.residueOk = true := by
  simp only [LaneTest.ok, Bool.and_eq_true, decide_eq_true_eq, ← and_assoc]
  exact and_congr_left fun _ => by omega

/-- The bits of a mask that has bit `k` alone, and that where `p` does not hold. -/
theorem testBit_ite_zero (p : Prop) [Decidable p] (k i : Nat) :
    (if p then 0 else 2 ^ k : Nat).testBit i = (!decide p && decide (k = i)) := by
  by_cases h : p <;> simp [h, Nat.testBit_two_pow]

theorem AwlResult.testBit_fails (r : AwlResult) : r.fails.testBit 11 = !r.br0.ok ∧ r.fails.testBit 12 = !r.br1.ok := by
  have h11 : (0x307FF : Nat).testBit 11 = false := by decide
  have h12 : (0x307FF : Nat).testBit 12 = false := by decide
  simp only [AwlResult.fails, Nat.testBit_or, Nat.testBit_and, testBit_ite_zero, h11, h12]
  simp

/-- Settles O50: the rows of the Awl. -/
theorem awlRowsComplete : Obligations.AwlRowsComplete := by
  unfold Obligations.AwlRowsComplete
  intro s res m mask hold answered run i ends sound
  refine ⟨?runEnd, ?rerun, ?detail, ?failed, ?idle, ?autorun, BrLoop.ok_iff, LaneTest.ok_iff, res.testBit_fails⟩
  case runEnd => exact exec_awlRunEnd_of_passed
  case rerun =>
    rintro ⟨hpower, hrun, hmsg, hout⟩ hcode
    exact exec_awlRerun_answers hpower hrun hmsg hout hcode
  case detail =>
    rintro ⟨hpower, hrun, hmsg, hout⟩ hcode
    obtain ⟨hanswered, hawl⟩ := awlAnswer_answered hout _
    exact ⟨_, exec_awlDetail_of_waiting hpower hrun hmsg hcode, hawl, hanswered⟩
  case failed =>
    rintro ⟨hpower, hrun, hpu⟩ hfails
    obtain ⟨-, hseal, hsupply, hrunning, hfail, -, -, -, -⟩ := powerUpDone_leaves s res
    refine ⟨_, exec_powerUpAwlEnd_of_running hpower hrun hpu, ?_⟩
    rw [awlLeave_of_fail (by rwa [hfail])]
    exact ⟨(congrArg Supply.power hsupply).trans hpower, hrunning, rfl, hseal⟩
  case idle =>
    rintro ⟨⟨hpower, hrun, hpu⟩, hfails, hcommitted, hivk, hcause⟩ hboot
    obtain ⟨u, hkeys, hrunning, kcause, hsupply, hexec⟩ :=
      exec_powerUpAwlEnd_of_sound hpower hrun hpu hfails hcommitted hivk hcause
    rw [if_neg (by omega)] at hexec
    exact ⟨u, hexec, congrArg Supply.power hsupply, hrunning, kcause, hkeys⟩
  case autorun =>
    rintro ⟨⟨hpower, hrun, hpu⟩, hfails, hcommitted, hivk, hcause⟩ hboot h0 h1
    obtain ⟨u, hkeys, hrunning, kcause, hsupply, hexec⟩ :=
      exec_powerUpAwlEnd_of_sound hpower hrun hpu hfails hcommitted hivk hcause
    have hmove := toRun_of_down (s := u) (by rw [hsupply]; simpa [vset] using h0)
      (by rw [hsupply]; simpa [vset] using h1)
      (by rw [hsupply]; simp [vset])
    rw [if_pos hboot, hmove] at hexec
    exact ⟨_, hexec, congrArg Supply.power hsupply, rfl, by simp [vset], hrunning⟩

end Sys2Proof.Machine
end

section
/-! PROOFS. What a reset keeps, and how AWL_HOLD is entered after it (chapter 19). -/

namespace Sys2Proof.Machine

open Sys2Proof

namespace State

variable {s t u : State}

/-! ### The journal recovered -/

/-- Nothing differs but the store, whose active bank stands. -/
def StoreOnly (s t : State) : Prop := ∃ x, t = { s with store := x } ∧ x.active = s.store.active

theorem StoreOnly.refl (s : State) : s.StoreOnly s := ⟨_, rfl, rfl⟩

theorem StoreOnly.trans (h : s.StoreOnly t) (k : t.StoreOnly u) : s.StoreOnly u := by
  obtain ⟨x, rfl, hx⟩ := h
  obtain ⟨y, rfl, hy⟩ := k
  exact ⟨y, rfl, hy.trans hx⟩

theorem setBank_storeOnly (s : State) (b : Bool) (x : Bank) : s.StoreOnly (s.setBank b x) := by
  cases b <;> exact ⟨_, rfl, rfl⟩

/-- The journal is recovered in the store alone, and at most a torn record is told of. -/
theorem recoverJournal_eq (s : State) : ∃ u, s.StoreOnly u ∧
    (s.recoverJournal = u ∨ s.recoverJournal = u.note 0xB301) := by
  unfold recoverJournal
  extract_lets torn commit cut added tornRec boot told u src v
  have hadded : s.StoreOnly added := by
    simp only [added]
    split <;> exact ⟨_, rfl, rfl⟩
  have hu : s.StoreOnly u := hadded.trans ⟨_, rfl, rfl⟩
  have hv : s.StoreOnly v := by
    simp only [v]
    split
    · exact hu
    · clear_value u
      split
      · exact (hu.trans ⟨_, rfl, rfl⟩).trans (setBank_storeOnly _ _ _)
      · split <;> exact hu.trans ⟨_, rfl, rfl⟩
  clear_value v
  refine ⟨v, hv, ?_⟩
  split
  · exact .inr rfl
  · exact .inl rfl

/-! ### Entering AWL_HOLD -/

/-- What the store's recovery and the table's load leave: all but the store, the table, and what is told of them. -/
structure Recovers (s t : State) : Prop where
  mail : t.mail = s.mail
  theSeal : t.theSeal = s.theSeal
  pending : t.pending = s.pending
  last : t.last = s.last
  regs : t.regs = s.regs
  hearth : t.hearth = s.hearth
  supply : t.supply = s.supply
  welt : t.welt = s.welt
  awl : t.awl = s.awl
  refIn : t.clk.refIn = s.clk.refIn
  bus : s.bus.Arisen t.bus
  active : t.store.active = s.store.active

theorem Recovers.trans (h : s.Recovers t) (k : t.Recovers u) : s.Recovers u where
  mail := k.mail.trans h.mail
  theSeal := k.theSeal.trans h.theSeal
  pending := k.pending.trans h.pending
  last := k.last.trans h.last
  regs := k.regs.trans h.regs
  hearth := k.hearth.trans h.hearth
  supply := k.supply.trans h.supply
  welt := k.welt.trans h.welt
  awl := k.awl.trans h.awl
  refIn := k.refIn.trans h.refIn
  bus := h.bus.trans k.bus
  active := k.active.trans h.active

theorem StoreOnly.recovers (h : s.StoreOnly t) : s.Recovers t := by
  obtain ⟨x, rfl, hx⟩ := h
  exact ⟨rfl, rfl, rfl, rfl, rfl, rfl, rfl, rfl, rfl, rfl, .refl _, hx⟩

theorem note_recovers (s : State) (code : Nat) : s.Recovers (s.note code) :=
  have h := (s.note_tells code)
  ⟨h.spares.mail, h.spares.theSeal, h.spares.pending, h.last, h.regs, h.hearth, h.spares.supply, s.raise_welt _ _ _,
    h.spares.awl, by rw [h.clk], s.note_arisen code, by rw [h.spares.store]⟩

theorem recoverJournal_recovers (s : State) : s.Recovers s.recoverJournal := by
  obtain ⟨u, hu, h | h⟩ := s.recoverJournal_eq
  · exact h ▸ hu.recovers
  · exact h ▸ hu.recovers.trans (u.note_recovers _)

theorem loadTable_recovers (s : State) : s.Recovers s.loadTable := by
  simp only [loadTable]
  generalize (if (s.standing .cal).isNone = true then _ else _ : Option (List (Nat × CalEntry))) = slot
  cases slot with
  | some x => exact ⟨rfl, rfl, rfl, rfl, rfl, rfl, rfl, rfl, rfl, rfl, .refl _, rfl⟩
  | none =>
    generalize hu : ({ s with clk.table := [], store.calEmpty := true } : State) = u
    have hempty : s.Recovers u := hu ▸ ⟨rfl, rfl, rfl, rfl, rfl, rfl, rfl, rfl, rfl, rfl, .refl _, rfl⟩
    exact hempty.trans (u.note_recovers _)

/-- What AWL_HOLD finds after a reset, and how it stands there (R754). -/
structure Holds (s t : State) : Prop where
  supply : ∃ bit, t.supply = { s.supply with
    power := .hold, hiZ := false, dom := #v[.up, .up, .up, .down, .down], rstCause := s.supply.rstCause + 256 * bit }
  running : t.awl.running = true
  mail : t.mail = s.mail
  theSeal : t.theSeal = s.theSeal
  pending : t.pending = s.pending
  last : t.last = s.last
  regs : t.regs = s.regs
  hearth : t.hearth = s.hearth
  welt : t.welt = s.welt
  refIn : t.clk.refIn = s.clk.refIn
  active : t.store.active = s.store.active
  addr : t.bus.addr = 0x38 + 3 * s.bus.strap1 + s.bus.strap0
  strap0 : t.bus.strap0 = s.bus.strap0
  strap1 : t.bus.strap1 = s.bus.strap1

/-- AWL_HOLD before the journal is recovered. -/
def holdBegun (s : State) : State := { s with
  supply.power := .hold, supply.hiZ := false, supply.dom := #v[.up, .up, .up, .down, .down]
  bus.addr := 0x38 + 3 * s.bus.strap1 + s.bus.strap0
  awl := Awl.init
  supply.rstCause := s.supply.rstCause +
    256 * bitNat (match s.freshFail with | some r => failNames r | none => false) }

/-- The BOOT values of the journal, HOLD of them the cause of the hold (Table 19-8). -/
def bootTaken (s : State) : State :=
  { s with store.boot := s.store.boot % 2, awl.cause := 4 * (s.store.boot / 2 % 2) }

theorem enterHold_eq (s : State) : s.enterHold = s.holdBegun.recoverJournal.bootTaken.loadTable := rfl

theorem enterHold_holds (s : State) : s.Holds s.enterHold := by
  have hjournal := s.holdBegun.recoverJournal_recovers
  have htable := s.holdBegun.recoverJournal.bootTaken.loadTable_recovers
  obtain ⟨r, n, hbus, -⟩ := hjournal.bus.trans htable.bus
  rw [enterHold_eq]
  generalize s.holdBegun.recoverJournal = u at *
  exact {
    supply := ⟨_, htable.supply.trans hjournal.supply⟩
    running := (congrArg Awl.running htable.awl).trans (congrArg Awl.running hjournal.awl)
    mail := htable.mail.trans hjournal.mail
    theSeal := htable.theSeal.trans hjournal.theSeal
    pending := htable.pending.trans hjournal.pending
    last := htable.last.trans hjournal.last
    regs := htable.regs.trans hjournal.regs
    hearth := htable.hearth.trans hjournal.hearth
    welt := htable.welt.trans hjournal.welt
    refIn := htable.refIn.trans hjournal.refIn
    active := htable.active.trans hjournal.active
    addr := congrArg Bus.addr hbus
    strap0 := (congrArg Bus.strap0 hbus).trans rfl
    strap1 := (congrArg Bus.strap1 hbus).trans rfl }

/-! ### Resets (R753–R757) -/

/-- What every reset keeps (Table 19-3). -/
structure Keeps (s t : State) : Prop where
  keys : t.mail.keys = s.mail.keys
  sealed : t.theSeal.sealed = s.theSeal.sealed
  otp : t.theSeal.otp = s.theSeal.otp
  active : t.store.active = s.store.active
  pending : t.pending = s.pending

theorem Keeps.trans (h : s.Keeps t) (k : t.Keeps u) : s.Keeps u :=
  ⟨k.keys.trans h.keys, k.sealed.trans h.sealed, k.otp.trans h.otp, k.active.trans h.active, k.pending.trans h.pending⟩

theorem Spares.kept (h : s.Spares t) : s.Keeps t :=
  ⟨by rw [h.mail], by rw [h.theSeal], by rw [h.theSeal], by rw [h.store], h.pending⟩

theorem Holds.kept (h : s.Holds t) : s.Keeps t :=
  ⟨by rw [h.mail], by rw [h.theSeal], by rw [h.theSeal], h.active, h.pending⟩

theorem Idles.kept (h : s.Idles t) : s.Keeps t :=
  ⟨h.keys, by rw [h.theSeal], by rw [h.theSeal], by rcases h.store with k | k <;> rw [k]; rfl, h.pending⟩

theorem wipe_kept (s : State) (sole : Bool) : s.Keeps (s.wipe sole) := ⟨rfl, rfl, rfl, rfl, rfl⟩

end State

end Sys2Proof.Machine
end

section
/-! PROOFS. The power commands (chapter 19). -/

namespace Sys2Proof.Machine

open Sys2Proof

variable {s t : State}

/-- A command that its state allows takes effect. -/
theorem powerCommand_of_ok (h : s.answers = true) (code data : Nat) {ok : Bool} (hok : ok = true)
    (f : State → State) : s.powerCommand code data ok .good f = f s := by
  rw [State.powerCommand, hok, if_pos rfl, State.busWrite_accepted h]

theorem exec_powerIdle_of_awake (h : s.answers = true) (hpower : s.supply.power ≠ .hold) :
    exec (.powerIdle .good) s = .next (if s.supply.power = .run then s.toIdle else s) :=
  congrArg Host.Outcome.next (powerCommand_of_ok h _ _ (bne_iff_ne.mpr hpower) _)

theorem exec_powerRun_of_ok (h : s.answers = true)
    (hok : s.supply.power = .run ∨ s.supply.power = .idle ∧ s.committed = true) :
    exec (.powerRun .good) s = .next (if s.supply.power = .idle ∧ s.supply.moving = false then s.toRun else s) :=
  congrArg Host.Outcome.next (powerCommand_of_ok h _ _ (by simpa using hok) _)

/-- A refused command changes what a NACK records, and nothing else. -/
theorem exec_powerRun_of_uncommitted (h : s.answers = true) (hpower : s.supply.power = .idle)
    (hnone : s.committed = false) : exec (.powerRun .good) s = .next (s.nack 5 12 1) := by
  show execPowerRun .good s = _
  simp [execPowerRun, State.powerCommand, State.busWrite, State.busGate, h, hpower, hnone, nackState, phData]

theorem exec_powerSleep_of_ok (h : s.answers = true) (hok : s.sleepOk = true) :
    exec (.powerSleep .good) s = .next s.toSleep :=
  congrArg Host.Outcome.next (powerCommand_of_ok h _ _ hok _)

theorem exec_holdExitNormal_of_passed (h : s.answers = true) (hpower : s.supply.power = .hold)
    (hrun : s.awl.running = false) (hfail : s.awl.fail = 0) : exec (.holdExitNormal .good) s = .next s.leaveHold :=
  congrArg Host.Outcome.next (powerCommand_of_ok h _ _ (by simp [hpower, hrun, hfail]) _)

theorem exec_holdExitDegraded_of_ok (h : s.answers = true) (hpower : s.supply.power = .hold)
    (hok : s.degradeOk = true) : exec (.holdExitDegraded .good) s = .next
      (({ s with awl.degraded := true }).raise 0x1120 0xFF clsCovered).leaveHold :=
  congrArg Host.Outcome.next (powerCommand_of_ok h _ _ (by simp [hpower, hok]) _)

theorem exec_deviceReset_good (h : s.answers = true) :
    exec (.deviceReset 0x96 0x69 .good) s = .next (s.restart 8).enterHold :=
  congrArg Host.Outcome.next (State.busWrite_accepted h _ _ _ _)

theorem exec_deviceReset_absent (h : s.answers = true) :
    exec (.deviceReset 0x96 0x69 .absent) s = .next (s.nack 0xF0 6 3) := by
  show execDeviceReset 0x96 0x69 .absent s = _
  simp [execDeviceReset, State.busWrite, State.busGate, h, pecCheck, nackPec, phEnd]

theorem exec_deviceReset_badGuard (h : s.answers = true) :
    exec (.deviceReset 0x96 0x68 .good) s = .next (s.nack 0xF0 10 1) := by
  show execDeviceReset 0x96 0x68 .good s = _
  simp [execDeviceReset, State.busWrite, State.busGate, h, nackGuard, phData]

/-! ### Sleep (R758) -/

/-- KEEPER's marks touch the mailboxes and the alert alone. -/
theorem marksKeeper_frame (s : State) : ∃ m b, s.marksKeeper = { s with mail := m, bus := b } ∧
    m.keys = s.mail.keys ∧ b.sleepAlert = s.bus.sleepAlert := by
  unfold State.marksKeeper
  extract_lets keeper u w
  obtain ⟨m, hu, hkeys, -⟩ : s.Marks u := (s.markIn_marks _ _).trans (State.markOut_marks _ _ _)
  clear_value u
  simp only [State.closeSession]
  split
  · exact ⟨{ m with rung := vset m.rung 6 0 }, s.bus, by subst hu; rfl, hkeys, rfl⟩
  · generalize hw : ({ u with mail := _ } : State) = w
    obtain ⟨b, hb⟩ := w.alert_frame 10
    obtain ⟨r, n, hbus, -⟩ := w.alert_arisen 10
    rw [hb] at hbus ⊢
    subst hw hu
    exact ⟨_, b, rfl, hkeys, (congrArg Bus.sleepAlert hbus).trans rfl⟩

theorem lowerKeeper_leaves (s : State) : s.Keeps s.lowerKeeper ∧
    s.lowerKeeper.supply = { s.supply with dom := vset s.supply.dom 1 .down } ∧
    s.lowerKeeper.mail.session.mode = .closed ∧ s.lowerKeeper.bus.sleepAlert = s.bus.sleepAlert ∧
    s.lowerKeeper.store.journal = s.store.journal := by
  obtain ⟨m, b, hmarks, hkeys, hsleep⟩ := marksKeeper_frame s
  simp only [State.lowerKeeper, hmarks]
  exact ⟨⟨hkeys, rfl, rfl, rfl, rfl⟩, rfl, rfl, hsleep, rfl⟩

theorem lowerHost_leaves (s : State) : s.Keeps s.lowerHost ∧
    s.lowerHost.supply = { s.supply with dom := vset s.supply.dom 0 .down } ∧
    s.lowerHost.mail.session = s.mail.session ∧ s.lowerHost.bus.sleepAlert = s.bus.sleepAlert ∧
    s.lowerHost.store = s.store := by
  refine ⟨⟨?_, ?_, ?_, ?_, ?_⟩, rfl, ?_, ?_, ?_⟩ <;> simp only [State.lowerHost, State.setDom, State.clearRegs]

theorem toSleep_eq (s : State) : s.toSleep = {
    ({ s with bus.sleepAlert := s.alertDriven } : State).lowerKeeper.lowerHost with supply.power := .sleep } := rfl

/-- Only the Sole stays powered, and holds ALERT# at its level (R635, R758). -/
theorem toSleep_leaves (s : State) : s.Keeps s.toSleep ∧ s.toSleep.supply = { s.supply with
      power := .sleep, dom := vset (vset s.supply.dom 1 .down) 0 .down } ∧
    s.toSleep.mail.session.mode = .closed ∧ s.toSleep.bus.sleepAlert = s.alertDriven ∧
    s.toSleep.store.journal = s.store.journal := by
  obtain ⟨hkeeps, hsupply, hclosed, hsleep, hjournal⟩ := lowerKeeper_leaves { s with bus.sleepAlert := s.alertDriven }
  rw [toSleep_eq]
  generalize State.lowerKeeper _ = u at *
  obtain ⟨kkeeps, ksupply, ksession, ksleep, kstore⟩ := lowerHost_leaves u
  generalize u.lowerHost = v at *
  obtain ⟨hkeys, hsealed, hotp, hactive, hpending⟩ := hkeeps.trans kkeeps
  exact ⟨⟨hkeys, hsealed, hotp, hactive, hpending⟩,
    congrArg (fun w : Supply => { w with power := .sleep }) (ksupply.trans (by rw [hsupply])),
    (congrArg Session.mode ksession).trans hclosed, ksleep.trans hsleep,
    (congrArg Store.journal kstore).trans hjournal⟩

/-! ### Restarts (R753) -/

theorem restart_leaves (s : State) (cause : Nat) : s.Keeps (s.restart cause) ∧
    (s.restart cause).supply = { s.supply with
      power := .reset, dom := #v[.down, .down, .down, .down, .down], moving := false, starting := false
      rstCause := cause } ∧
    (s.restart cause).last = Last.init ∧ (s.restart cause).regs = [] ∧ (s.restart cause).hearth = Hearth.init ∧
    (s.restart cause).theSeal.buckets = s.theSeal.buckets ∧ (s.restart cause).mail.session = Session.init ∧
    (s.restart cause).store = s.store := by
  unfold State.restart State.wipe
  exact ⟨⟨rfl, rfl, rfl, rfl, rfl⟩, rfl, rfl, rfl, rfl, rfl, rfl, rfl⟩

/-- HOLD_EXIT leaves the hold as a move to IDLE does, its cause gone (Table 19-10). -/
theorem leaveHold_leaves (s : State) : s.Keeps s.leaveHold ∧ s.leaveHold.supply = { s.supply with
      power := .idle, moving := false, starting := false
      dom := vset (vset (vset s.supply.dom 4 .down) 3 .down) 2 .down } ∧
    s.leaveHold.awl = { s.awl with running := false, cause := 0 } := by
  have hidles := s.toIdle_idles
  obtain ⟨hkeys, hsealed, hotp, hactive, hpending⟩ := hidles.kept
  exact ⟨⟨hkeys, hsealed, hotp, hactive, hpending⟩, hidles.supply,
    congrArg (fun a : Awl => { a with cause := 0 }) hidles.awl⟩

/-- The domains that a move to IDLE removes, and those that it leaves. -/
theorem idle_dom {v w : Supply} (h : w = { v with
      power := .idle, moving := false, starting := false, dom := vset (vset (vset v.dom 4 .down) 3 .down) 2 .down }) :
    w.power = .idle ∧ w.dom[2] = .down ∧ w.dom[3] = .down ∧ w.dom[4] = .down ∧ w.dom[0] = v.dom[0] ∧
      w.dom[1] = v.dom[1] := by
  subst h
  simp [vset]

/-- Settles O55: the power commands. -/
theorem powerCommandsComplete : Obligations.PowerCommandsComplete := by
  unfold Obligations.PowerCommandsComplete
  intro s h x kept toIdle
  have hkept : ∀ t, s.Keeps t → kept t := fun t ⟨hkeys, hsealed, hotp, hactive, hpending⟩ =>
    ⟨hkeys, hsealed, hotp, hactive, hpending⟩
  refine ⟨?idle, ?stays, ?run, ?goesOn, ?uncommitted, ?sleep, ?exit, ?degraded, ?reset, ?absent, ?guard⟩
  case absent => exact exec_deviceReset_absent h
  case guard => exact exec_deviceReset_badGuard h
  case idle =>
    intro hpower
    have hexec := exec_powerIdle_of_awake h (hpower.trans_ne (by decide))
    have hidles := s.toIdle_idles
    obtain ⟨kpower, h2, h3, h4, h0, h1⟩ := idle_dom hidles.supply
    rw [if_pos hpower] at hexec
    exact ⟨_, hexec, hkept _ hidles.kept, kpower, h2, h3, h4, h0, h1, congrArg Awl.running hidles.awl⟩
  case stays =>
    intro hpower
    have hexec := exec_powerIdle_of_awake h (hpower.trans_ne (by decide))
    rwa [if_neg (hpower.trans_ne (by decide))] at hexec
  case run =>
    intro hpower hcommitted hmoving h1 h2
    have hexec := exec_powerRun_of_ok h (.inr ⟨hpower, hcommitted⟩)
    rw [if_pos ⟨hpower, hmoving⟩, toRun_of_down (by simpa [Domain.ctorIdx] using dom_host_of_answers h) h1 h2] at hexec
    refine ⟨_, hexec, rfl, ?_⟩
    simp [vset, x]
  case goesOn =>
    rintro (hpower | ⟨hpower, hcommitted, hmoving⟩)
    · have hexec := exec_powerRun_of_ok h (.inl hpower)
      rwa [if_neg fun hm => absurd (hpower.symm.trans hm.1) (by decide)] at hexec
    · have hexec := exec_powerRun_of_ok h (.inr ⟨hpower, hcommitted⟩)
      rwa [if_neg fun hm => absurd (hmoving.symm.trans hm.2) (by decide)] at hexec
  case uncommitted => exact exec_powerRun_of_uncommitted h
  case sleep =>
    intro hok
    obtain ⟨hkeeps, hsupply, hclosed, hsleep, hjournal⟩ := toSleep_leaves s
    refine ⟨_, exec_powerSleep_of_ok h hok, hkept _ hkeeps, ?_⟩
    rw [hsupply]
    exact ⟨rfl, by simp [vset], by simp [vset], hclosed, hsleep, hjournal⟩
  case exit =>
    intro hpower hrun hfail
    obtain ⟨hkeeps, hsupply, hawl⟩ := leaveHold_leaves s
    obtain ⟨kpower, h2, h3, h4, h0, h1⟩ := idle_dom hsupply
    exact ⟨_, exec_holdExitNormal_of_passed h hpower hrun hfail, hkept _ hkeeps, kpower, h2, h3, h4, h0, h1,
      congrArg Awl.running hawl⟩
  case degraded =>
    intro hpower hok
    have hexec := exec_holdExitDegraded_of_ok h hpower hok
    generalize hu : ({ s with awl.degraded := true } : State) = u at hexec
    have hraise := (u.raise_tells 0x1120 0xFF clsCovered).spares
    have hsu : s.Keeps u := hu ▸ ⟨rfl, rfl, rfl, rfl, rfl⟩
    have hsupply : (u.raise 0x1120 0xFF clsCovered).supply = x := hraise.supply.trans (hu ▸ rfl)
    have hdegraded : (u.raise 0x1120 0xFF clsCovered).awl.degraded = true := by rw [hraise.awl, ← hu]
    have hv := hsu.trans hraise.kept
    generalize u.raise 0x1120 0xFF clsCovered = v at *
    obtain ⟨hkeeps, ksupply, hawl⟩ := leaveHold_leaves v
    rw [hsupply] at ksupply
    obtain ⟨kpower, h2, h3, h4, h0, h1⟩ := idle_dom ksupply
    exact ⟨⟨_, hexec, hkept _ (hv.trans hkeeps), kpower, h2, h3, h4, h0, h1, congrArg Awl.running hawl⟩, _, hexec,
      (congrArg Awl.degraded hawl).trans hdegraded, congrArg Awl.cause hawl⟩
  case reset =>
    obtain ⟨hkeeps, hsupply, hlast, hregs, hhearth, hbuckets, hsession, -⟩ := restart_leaves s 8
    have hexec := exec_deviceReset_good h
    have hholds := (s.restart 8).enterHold_holds
    generalize s.restart 8 = u at *
    obtain ⟨bit, ksupply⟩ := hholds.supply
    rw [hsupply] at ksupply
    refine ⟨_, hexec, hkept _ (hkeeps.trans hholds.kept), ?_⟩
    rw [ksupply, hholds.last, hholds.regs, hholds.hearth, hholds.theSeal, hholds.mail]
    refine ⟨rfl, ?_, rfl, hholds.running, hlast, hregs, hhearth, hbuckets, hsession⟩
    show (8 + 256 * bit) % 256 = 8
    omega

end Sys2Proof.Machine
end

section
/-! PROOFS. Journal records and the record that stands for its kind (R779–R781). -/

namespace Sys2Proof

/-! ### Numbers read back from the bytes between others -/

/-- A field of a list is what stands there between the bytes before it and those after it. -/
theorem fieldBE_between {as bs cs : List Byte} {i n : Nat} (hi : as.length = i) (hn : bs.length = n) :
    fieldBE (as ++ bs ++ cs) i n = natBE bs := by
  subst hi hn
  refine congrArg natBE (List.ext_getElem (by simp) fun k hk hk' => ?_)
  simp only [List.getElem_map, List.getElem_range, byteAt, List.append_assoc, List.getD_eq_getElem?_getD]
  rw [List.getElem?_append_right (by omega), Nat.add_sub_cancel_left, List.getElem?_append_left hk',
    List.getElem?_eq_getElem hk', Option.getD_some]

theorem natBE_bytesBE_one {v : Nat} (h : v < 256) : natBE (bytesBE 1 v) = v := by
  simp [natBE, bytesBE, h]

theorem natBE_bytesBE_four {v : Nat} (h : v < 2 ^ 32) : natBE (bytesBE 4 v) = v := by
  simp [natBE, bytesBE]
  omega

namespace Machine

variable {k : JKind} {seq step : Nat} {body : List Byte}

theorem jkindOf_code (k : JKind) : jkindOf k.code = some k := by cases k <;> rfl

theorem JKind.code_lt (k : JKind) : k.code < 256 := by cases k <;> decide

/-- The body of a record, padded to its 50 bytes. -/
def padded (body : List Byte) : List Byte := (body ++ List.replicate 50 0).take 50

theorem length_padded (body : List Byte) : (padded body).length = 50 := by simp [padded]

/-- The 60 bytes of a record before its CRC. -/
def jrecHead (k : JKind) (seq step : Nat) (body : List Byte) : List Byte :=
  bytesBE 4 0x4A524E4C ++ (bytesBE 4 seq ++ (bytesBE 1 k.code ++ (bytesBE 1 step ++ padded body)))

theorem length_jrecHead : (jrecHead k seq step body).length = 60 := by simp [jrecHead, length_padded]

theorem jrecBytes_eq : jrecBytes k seq step body =
    jrecHead k seq step body ++ bytesBE 4 (crc32c (jrecHead k seq step body)).toNat := by
  simp only [jrecBytes, jrecHead, padded, List.append_assoc]

/-- The fields of a record lie as Table 19-12 says. -/
theorem fieldBE_jrecBytes {as bs cs : List Byte} {i n v : Nat} (hhead : jrecHead k seq step body = as ++ bs ++ cs)
    (hi : as.length = i) (hn : bs.length = n) (hv : natBE bs = v) : fieldBE (jrecBytes k seq step body) i n = v := by
  rw [jrecBytes_eq, hhead, List.append_assoc (as ++ bs)]
  exact (fieldBE_between hi hn).trans hv

/-- A record is read as it was written (Table 19-12). -/
theorem jrecOf_jrecBytes (hseq : seq < 2 ^ 32) (hstep : step < 256) :
    jrecOf (jrecBytes k seq step body) = some ⟨k, seq, step, padded body⟩ := by
  have hmagic : fieldBE (jrecBytes k seq step body) 0 4 = 0x4A524E4C :=
    fieldBE_jrecBytes (as := []) rfl rfl (length_bytesBE 4 _) (natBE_bytesBE_four (by decide))
  have hsequence : fieldBE (jrecBytes k seq step body) 4 4 = seq :=
    fieldBE_jrecBytes (List.append_assoc _ _ _).symm (length_bytesBE 4 _) (length_bytesBE 4 _)
      (natBE_bytesBE_four hseq)
  have hkind : fieldBE (jrecBytes k seq step body) 8 1 = k.code :=
    fieldBE_jrecBytes (as := bytesBE 4 0x4A524E4C ++ bytesBE 4 seq) (cs := bytesBE 1 step ++ padded body)
      (by simp only [jrecHead, List.append_assoc]) (by simp) (length_bytesBE 1 _) (natBE_bytesBE_one k.code_lt)
  have hstepped : fieldBE (jrecBytes k seq step body) 9 1 = step :=
    fieldBE_jrecBytes (as := bytesBE 4 0x4A524E4C ++ bytesBE 4 seq ++ bytesBE 1 k.code) (cs := padded body)
      (by simp only [jrecHead, List.append_assoc]) (by simp) (length_bytesBE 1 _) (natBE_bytesBE_one hstep)
  have hcrc : fieldBE (jrecBytes k seq step body) 60 4 = (crc32c ((jrecBytes k seq step body).take 60)).toNat := by
    have htake : (jrecBytes k seq step body).take 60 = jrecHead k seq step body := by
      rw [jrecBytes_eq, List.take_left' length_jrecHead]
    rw [htake, jrecBytes_eq, ← List.append_nil (_ ++ bytesBE 4 _)]
    exact (fieldBE_between length_jrecHead (length_bytesBE 4 _)).trans (natBE_bytesBE_four (BitVec.isLt _))
  have hbody : ((jrecBytes k seq step body).drop 10).take 50 = padded body := by
    have hsplit : jrecBytes k seq step body =
        (bytesBE 4 0x4A524E4C ++ bytesBE 4 seq ++ bytesBE 1 k.code ++ bytesBE 1 step) ++
          (padded body ++ bytesBE 4 (crc32c (jrecHead k seq step body)).toNat) := by
      rw [jrecBytes_eq]
      simp only [jrecHead, List.append_assoc]
    rw [hsplit, List.drop_left' (by simp), List.take_left' (length_padded body)]
  rw [jrecOf, if_pos ⟨hmagic, hcrc⟩, hkind, hsequence, hstepped, hbody, jkindOf_code, Option.map_some]

/-! ### The record that stands -/

/-- The record of a kind that a search keeps, after one more record. -/
def keepRec (k : JKind) (best : Option JRec) (r : JRec) : Option JRec :=
  if r.kind = k ∧ best.all (fun (b : JRec) => b.seq < r.seq) = true then some r else best

theorem keepRec_of_later {r : JRec} {best : Option JRec} (hkind : r.kind = k) (h : ∀ y ∈ best, y.seq < r.seq) :
    keepRec k best r = some r := by
  refine if_pos ⟨hkind, ?_⟩
  cases best with
  | none => rfl
  | some b => simpa using h b rfl

/-- A record later than every other is the one that stands for its kind. -/
theorem foldl_keepRec {r : JRec} (hkind : r.kind = k) (l : List JRec) : ∀ best : Option JRec,
    (∀ y ∈ l, y = r ∨ y.seq < r.seq) → (best = some r ∨ r ∈ l ∧ ∀ y ∈ best, y.seq < r.seq) →
    l.foldl (keepRec k) best = some r := by
  induction l with
  | nil =>
    intro best _ hbest
    exact hbest.elim id fun h => absurd h.1 (by simp)
  | cons x xs ih =>
    intro best hl hbest
    have hxs : ∀ y ∈ xs, y = r ∨ y.seq < r.seq := fun y hy => hl y (List.mem_cons_of_mem _ hy)
    refine ih _ hxs ?_
    rcases hbest with rfl | ⟨hmem, hbest⟩
    · refine .inl (if_neg fun h => ?_)
      have hlater : r.seq < x.seq := by simpa using h.2
      rcases hl x (List.mem_cons_self ..) with rfl | hx <;> omega
    · rcases List.mem_cons.mp hmem with rfl | hmem
      · exact .inl (keepRec_of_later hkind hbest)
      · rcases hl x (List.mem_cons_self ..) with rfl | hx
        · exact .inl (keepRec_of_later hkind hbest)
        · refine .inr ⟨hmem, fun y hy => ?_⟩
          simp only [keepRec] at hy
          split at hy
          · obtain rfl := Option.some.inj hy
            exact hx
          · exact hbest y hy

/-! ### What a write leaves in the journal -/

/-- The sectors of a journal after a record is appended. -/
def appended (j : List (List (List Byte))) (r : List Byte) : List (List (List Byte)) :=
  if j.isEmpty ∨ 64 ≤ (j.getLastD []).length then (if j.length < 32 then j ++ [[r]] else j)
  else j.dropLast ++ [j.getLastD [] ++ [r]]

/-- The record is appended to its sector, or the journal has no room for it. -/
theorem appended_cases (j : List (List (List Byte))) (r : List Byte) :
    (∃ front cur, appended j r = front ++ [cur ++ [r]] ∧ j.flatten = front.flatten ++ cur) ∨
      appended j r = j ∧ 32 ≤ j.length := by
  simp only [appended]
  split
  · split
    · exact .inl ⟨j, [], rfl, by simp⟩
    · exact .inr ⟨rfl, by omega⟩
  · next h =>
    obtain ⟨hne, -⟩ : j ≠ [] ∧ _ := by simpa using h
    refine .inl ⟨j.dropLast, j.getLastD [], rfl, ?_⟩
    conv_lhs => rw [← List.dropLast_append_getLast hne]
    simp [List.getLastD_eq_getLast?, List.getLast?_eq_some_getLast hne]

variable {j : List (List (List Byte))} {r x : List Byte}

theorem mem_appended_of_mem (h : x ∈ j.flatten) : x ∈ (appended j r).flatten := by
  rcases appended_cases j r with ⟨front, cur, heq, hflat⟩ | ⟨heq, -⟩
  · rw [heq, List.flatten_append]
    rw [hflat] at h
    simp only [List.mem_append] at h ⊢
    exact h.imp id fun h => by simp [h]
  · rwa [heq]

theorem mem_of_mem_appended (h : x ∈ (appended j r).flatten) : x = r ∨ x ∈ j.flatten := by
  rcases appended_cases j r with ⟨front, cur, heq, hflat⟩ | ⟨heq, -⟩
  · rw [heq] at h
    rw [hflat]
    simp only [List.flatten_append, List.flatten_cons, List.flatten_nil, List.append_nil, List.mem_append,
      List.mem_singleton] at h ⊢
    tauto
  · exact .inr (heq ▸ h)

namespace State

variable {s : State}

theorem standing_eq (s : State) (k : JKind) :
    s.standing k = (s.store.journal.flatten.filterMap jrecOf).foldl (keepRec k) none := rfl

theorem journalAdd_journal (s : State) (r : List Byte) : (s.journalAdd r).store.journal = appended s.store.journal r :=
  rfl

theorem foldl_journalAdd_mem (l : List (List Byte)) (s : State) :
    (∀ x ∈ (l.foldl journalAdd s).store.journal.flatten, x ∈ l ∨ x ∈ s.store.journal.flatten) ∧
      ∀ x ∈ s.store.journal.flatten, x ∈ (l.foldl journalAdd s).store.journal.flatten := by
  induction l generalizing s with
  | nil => exact ⟨fun _ h => .inr h, fun _ h => h⟩
  | cons r rs ih =>
    obtain ⟨hfrom, hto⟩ := ih (s.journalAdd r)
    refine ⟨fun x hx => ?_, fun x hx => hto x (mem_appended_of_mem hx)⟩
    rcases hfrom x hx with h | h
    · exact .inl (List.mem_cons_of_mem _ h)
    · exact (mem_of_mem_appended h).imp (fun h : x = r => h ▸ List.mem_cons_self) id

theorem checkEnergy_journal (s : State) (need : Nat) : (s.checkEnergy need).2.store.journal = s.store.journal := by
  simp only [checkEnergy]
  split
  · rfl
  · exact (congrArg Store.journal (note_tells _ _).spares.store).trans rfl

/-- What lies in a journal whose oldest sector was erased lay there before, and what lies in its last sector stays. -/
theorem journalTidy_mem (s : State) : (∀ x ∈ s.journalTidy.store.journal.flatten, x ∈ s.store.journal.flatten) ∧
    ∀ front cur, s.store.journal = front ++ [cur] → ∀ x ∈ cur, x ∈ s.journalTidy.store.journal.flatten := by
  have hlast : ∀ front cur, s.store.journal = front ++ [cur] → ∀ x ∈ cur, x ∈ s.store.journal.flatten :=
    fun front cur h x hx => by simp [h, hx]
  simp only [journalTidy]
  split
  · next oldest rest hj =>
    split
    · exact ⟨fun _ h => h, hlast⟩
    · next hfull =>
      split
      · exact ⟨fun x hx => by rwa [checkEnergy_journal] at hx, fun front cur h x hx => by
          rw [checkEnergy_journal]
          exact hlast front cur h x hx⟩
      · generalize hkeep : oldest.filter _ = keep
        obtain ⟨hfrom, hto⟩ := foldl_journalAdd_mem keep
          { (s.checkEnergy 2000).2 with store.journal := rest }
        refine ⟨fun x hx => ?_, fun front cur h x hx => hto x ?_⟩
        · rw [hj, List.flatten_cons, List.mem_append]
          exact (hfrom x hx).imp (fun h => (List.mem_filter.mp (hkeep ▸ h)).1) id
        · cases front with
          | nil =>
            rw [hj] at h
            obtain ⟨-, hrest⟩ : oldest = cur ∧ rest = [] := by simpa using h
            exact absurd (by simp [hrest]) fun hn => hfull (.inl hn)
          | cons y front =>
            rw [hj] at h
            obtain ⟨-, hrest⟩ : oldest = y ∧ rest = front ++ [cur] := by simpa using h
            show x ∈ rest.flatten
            simp [hrest, hx]
  · exact ⟨fun _ h => h, hlast⟩

/-- A record written into a journal with room, later than every other, stands for its kind. -/
theorem standing_journalPut (hroom : s.store.journal.length < 32) (hseq : s.store.journalSeq + 1 < 2 ^ 32)
    (hlater : ∀ y ∈ s.store.journal.flatten.filterMap jrecOf, y.seq ≤ s.store.journalSeq) (hstep : step < 256) :
    (s.journalPut k step body).standing k = some ⟨k, s.store.journalSeq + 1, step, padded body⟩ := by
  generalize hr : jrecBytes k (s.store.journalSeq + 1) step body = r
  have hread : jrecOf r = some ⟨k, s.store.journalSeq + 1, step, padded body⟩ := hr ▸ jrecOf_jrecBytes hseq hstep
  have hput : s.journalPut k step body =
      ({ s with store.journalSeq := s.store.journalSeq + 1 }.journalAdd r).journalTidy := hr ▸ rfl
  generalize hu : ({ s with store.journalSeq := s.store.journalSeq + 1 } : State).journalAdd r = u at hput
  have hj : u.store.journal = appended s.store.journal r := hu ▸ rfl
  obtain ⟨hfrom, hstays⟩ := u.journalTidy_mem
  rw [hput, standing_eq]
  refine foldl_keepRec (k := k) (r := ⟨k, _, step, padded body⟩) rfl _ none (fun y hy => ?_)
    (.inr ⟨?_, fun y hy => by simp at hy⟩)
  · obtain ⟨x, hx, hxy⟩ := List.mem_filterMap.mp hy
    rcases mem_of_mem_appended (hj ▸ hfrom x hx) with rfl | hmem
    · exact .inl (Option.some.inj (hxy.symm.trans hread))
    · exact .inr (Nat.lt_succ_of_le (hlater y (List.mem_filterMap.mpr ⟨x, hmem, hxy⟩)))
  · rcases appended_cases s.store.journal r with ⟨front, cur, heq, -⟩ | ⟨-, hfull⟩
    · exact List.mem_filterMap.mpr ⟨r, hstays front _ (hj.trans heq) r (by simp), hread⟩
    · omega

end State

end Machine

end Sys2Proof
end

section
/-! PROOFS. The supplies, the resets and the domains (chapter 19). -/

namespace Sys2Proof.Machine

open Sys2Proof

variable {s t u : State} {pins : Straps} {mv mh : Nat} {bytes : List Byte}

/-! ### Out of reset (R748, R750, R755) -/

/-- The device is in AWL_HOLD, its first domains up and the Awl running, at the address of its straps. -/
structure State.InHold (t : State) : Prop where
  power : t.supply.power = .hold
  dom : t.supply.dom = #v[.up, .up, .up, .down, .down]
  running : t.awl.running = true
  hiZ : t.supply.hiZ = false
  addr : t.bus.addr = 0x38 + 3 * t.bus.strap1 + t.bus.strap0

theorem inHold_of_holds (h : s.Holds t) : t.InHold := by
  obtain ⟨bit, hsupply⟩ := h.supply
  exact ⟨congrArg Supply.power hsupply, congrArg Supply.dom hsupply, h.running, congrArg Supply.hiZ hsupply, by
    rw [h.strap0, h.strap1]; exact h.addr⟩

/-- The causes of a reset but for bit 8, which tells of a fresh POWERFAIL record. -/
theorem rstCause_of_holds (h : s.Holds t) : t.supply.rstCause % 256 = s.supply.rstCause % 256 := by
  obtain ⟨bit, hsupply⟩ := h.supply
  rw [hsupply]
  exact Nat.add_mul_mod_self_left _ _ _

/-- A device that nothing holds in reset leaves it. -/
theorem leaveReset_of_good (hpower : s.supply.power = .reset) (hvsys : s.supply.vsysGood = true)
    (hvio : s.supply.vioGood = true) (hpin : s.supply.resetPin = true) (hfail : s.supply.failing = false)
    (htest : s.supply.testHigh = false) : s.leaveReset = s.enterHold :=
  if_pos ⟨hpower, hvsys, hvio, hpin, hfail, htest⟩

/-- The pins are as a sampling found them. -/
structure State.Strapped (t : State) (pins : Straps) : Prop where
  strap0 : t.bus.strap0 = Nat.min 2 pins.addr0
  strap1 : t.bus.strap1 = Nat.min 2 pins.addr1
  pri : t.welt.pri = pins.weltPri
  refIn : t.clk.refIn = (decide (3400 ≤ pins.refCount) && decide (pins.refCount ≤ 4300))

theorem sampleStraps_strapped (s : State) (pins : Straps) : (s.sampleStraps pins).Strapped pins := ⟨rfl, rfl, rfl, rfl⟩

theorem State.Strapped.holds (h : s.Strapped pins) (k : s.Holds t) : t.Strapped pins :=
  ⟨k.strap0.trans h.strap0, k.strap1.trans h.strap1, (congrArg Welt.pri k.welt).trans h.pri, k.refIn.trans h.refIn⟩

theorem sampleStraps_kept (s : State) (pins : Straps) : s.Keeps (s.sampleStraps pins) := ⟨rfl, rfl, rfl, rfl, rfl⟩

/-- VSYS found good, before the device may leave reset. -/
def State.vsysFound (s : State) (pins : Straps) : State := ({ s with
  supply.vsysGood := true, supply.vio33 := pins.vio33
  supply.rstCause := if s.supply.failing ∨ s.freshFail.isSome = true then 2 else 1 } : State).sampleStraps pins

theorem exec_vsysGood_of_low (h : s.supply.vsysGood = false) :
    exec (.vsysGood pins) s = .next (s.vsysFound pins).leaveReset :=
  congrArg Host.Outcome.next (if_neg (by simp [h]))

theorem exec_vsysGood_of_good (h : s.supply.vsysGood = true) : exec (.vsysGood pins) s = .next s :=
  congrArg Host.Outcome.next (if_pos h)

theorem vsysFound_kept (s : State) (pins : Straps) : s.Keeps (s.vsysFound pins) := ⟨rfl, rfl, rfl, rfl, rfl⟩

theorem exec_vioGood_eq (s : State) : exec .vioGood s = .next (State.leaveReset { s with
    supply.vioGood := true, supply.hiZ := s.supply.hiZ && !s.supply.vsysGood }) := rfl

theorem exec_resetRelease_of_low (h : s.supply.resetPin = false) : exec (.resetRelease pins) s = .next
    ((({ s with supply.resetPin := true } : State).sampleStraps pins).leaveReset) :=
  congrArg Host.Outcome.next (if_neg (by simp [h]))

theorem exec_resetRelease_of_high (h : s.supply.resetPin = true) : exec (.resetRelease pins) s = .next s :=
  congrArg Host.Outcome.next (if_pos h)

/-! ### Power failures and RESET# (R750, R751, R753) -/

/-- The device waits in reset with every domain down. -/
structure State.Dark (t : State) : Prop where
  power : t.supply.power = .reset
  last : t.last = Last.init
  dom : t.supply.dom = #v[.down, .down, .down, .down, .down]

theorem wipe_leaves (s : State) (sole : Bool) : s.Keeps (s.wipe sole) ∧ (s.wipe sole).Dark ∧
    (s.wipe sole).store = s.store ∧ (s.wipe sole).supply = { s.supply with
      power := .reset, dom := #v[.down, .down, .down, .down, .down], moving := false, starting := false } := by
  unfold State.wipe
  exact ⟨⟨rfl, rfl, rfl, rfl, rfl⟩, ⟨rfl, rfl, rfl⟩, rfl, rfl⟩

/-- What a POWERFAIL finds: the outputs high-impedance and the domains removed (R750). -/
def State.failBegun (s : State) : State :=
  let s := if s.store.op = some .instErase then { s with store.op := none } else s
  let s := if s.store.commit = .record then s.commitEnds else s
  { s with
    supply.vsysGood := false, supply.hiZ := true, supply.power := .reset
    supply.dom := #v[.down, .down, .down, .down, .down] }

theorem exec_powerfail_of_good (h : s.supply.vsysGood = true) : exec .powerfail s = .next
    (if s.failBegun.store.op.isSome then { s.failBegun with supply.failing := true }
    else s.failBegun.failEnds s.opNamed) :=
  congrArg Host.Outcome.next (if_neg (by simp [h]))

/-- No operation, or an erase, is cut with nothing of the store's journal changed. -/
theorem failBegun_of_idle (hop : s.store.op = none ∨ s.store.op = some .instErase)
    (hcommit : s.store.commit ≠ .record) :
    s.failBegun = { s with
      store.op := none, supply.vsysGood := false, supply.hiZ := true, supply.power := .reset
      supply.dom := #v[.down, .down, .down, .down, .down] } := by
  have hcut : (if s.store.op = some .instErase then { s with store.op := none } else s : State) =
      { s with store.op := none } := by
    rcases hop with h | h
    · rw [if_neg (by simp [h])]
      exact h ▸ rfl
    · exact if_pos h
  simp only [State.failBegun, hcut]
  rw [if_neg hcommit]

/-- What resets keep, the supplies, and the operation that runs stand. -/
structure State.Cuts (s t : State) : Prop where
  kept : s.Keeps t
  supply : t.supply = s.supply
  op : t.store.op = s.store.op

theorem State.Cuts.trans (h : s.Cuts t) (k : t.Cuts u) : s.Cuts u :=
  ⟨h.kept.trans k.kept, k.supply.trans h.supply, k.op.trans h.op⟩

theorem journals_cuts (h : s.Journals t) : s.Cuts t := by
  obtain ⟨j, q, n, e, htells⟩ := h
  have hspares := htells.spares
  obtain ⟨hkeys, hsealed, hotp, hactive, hpending⟩ := hspares.kept
  exact ⟨⟨hkeys, hsealed, hotp, hactive, hpending⟩, hspares.supply, (congrArg Store.op hspares.store).trans rfl⟩

/-- A commit begun or abandoned, as its check says. -/
theorem commitBegun_cuts {r : Bool × State} (h : s.Cuts r.2) :
    s.Cuts (if r.1 then { r.2 with store.commit := .erase } else r.2.abandonCommit) := by
  split
  · exact h.trans ⟨⟨rfl, rfl, rfl, rfl, rfl⟩, rfl, rfl⟩
  · exact h.trans ⟨⟨rfl, rfl, rfl, rfl, rfl⟩, rfl, rfl⟩

theorem startCommit_cuts (s : State) : s.Cuts s.startCommit := by
  unfold State.startCommit
  split
  · exact ⟨⟨rfl, rfl, rfl, rfl, rfl⟩, rfl, rfl⟩
  · exact commitBegun_cuts (journals_cuts (s.checkEnergy_journals 2000))

theorem commitEnds_cuts (s : State) : s.Cuts s.commitEnds := by
  simp only [State.commitEnds]
  have hcal := journals_cuts <| s.journalPut_journals .cal calStepRecord
    (State.calBody s.nextCalSlot s.store.calSlot ((kget s.store.calSlots s.nextCalSlot).getD []))
  generalize s.journalPut .cal calStepRecord _ = v at *
  generalize hw : ({ v with
    store.calSlot := _, store.calPrev := _, store.commit := _, store.commitDue := _, store.sweepLost := _ } : State) = w
  have hvw : v.Cuts w := hw ▸ ⟨⟨rfl, rfl, rfl, rfl, rfl⟩, rfl, rfl⟩
  split
  · exact (hcal.trans hvw).trans (startCommit_cuts w)
  · exact hcal.trans hvw

/-- The operation that runs goes on, but an erase (R751). -/
theorem failBegun_leaves {op : StoreOp} (hop : s.store.op = some op) (herase : op ≠ .instErase) :
    s.Keeps s.failBegun ∧ s.failBegun.store.op = some op ∧ s.failBegun.supply = { s.supply with
      vsysGood := false, hiZ := true, power := .reset, dom := #v[.down, .down, .down, .down, .down] } := by
  have hcut : (if s.store.op = some .instErase then { s with store.op := none } else s : State) = s :=
    if_neg (by simp [hop, herase])
  have hcommit : s.Cuts (if s.store.commit = .record then s.commitEnds else s) := by
    split
    · exact commitEnds_cuts s
    · exact ⟨⟨rfl, rfl, rfl, rfl, rfl⟩, rfl, rfl⟩
  simp only [State.failBegun, hcut]
  generalize (if s.store.commit = .record then s.commitEnds else s) = v at *
  obtain ⟨⟨hkeys, hsealed, hotp, hactive, hpending⟩, hsupply, hkop⟩ := hcommit
  exact ⟨⟨hkeys, hsealed, hotp, hactive, hpending⟩, hkop.trans hop, by rw [hsupply]⟩

/-- The sequence ends with its record, and the device holds a power-on reset (R751). -/
theorem failEnds_leaves (hvsys : s.supply.vsysGood = false) (named : Nat × Nat) : s.Keeps (s.failEnds named) ∧
    (s.failEnds named).Dark ∧ (s.failEnds named).supply = { s.supply with
      power := .reset, dom := #v[.down, .down, .down, .down, .down], moving := false, starting := false
      failing := false } ∧
    (s.failEnds named).store = (s.journalPut .powerfail 0 (bytesBE 1 named.1 ++ bytesBE 1 named.2)).store := by
  have hput := journals_cuts (s.journalPut_journals .powerfail 0 (bytesBE 1 named.1 ++ bytesBE 1 named.2))
  simp only [State.failEnds]
  generalize s.journalPut .powerfail 0 _ = v at *
  obtain ⟨hkeeps, hdark, hstore, hsupply⟩ := wipe_leaves v false
  rw [hput.supply] at hsupply
  generalize v.wipe false = w at *
  have hstays : State.leaveReset { w with supply := { w.supply with failing := false } } =
      { w with supply := { w.supply with failing := false } } :=
    if_neg fun h => absurd (h.2.1.symm.trans ((congrArg Supply.vsysGood hsupply).trans hvsys)) (by decide)
  obtain ⟨hkeys, hsealed, hotp, hactive, hpending⟩ := hput.kept.trans hkeeps
  rw [hstays]
  exact ⟨⟨hkeys, hsealed, hotp, hactive, hpending⟩, ⟨hdark.power, hdark.last, hdark.dom⟩,
    congrArg (fun x : Supply => { x with failing := false }) hsupply, hstore⟩

theorem exec_vholdFloor_of_low (h : s.supply.vsysGood = false) :
    exec .vholdFloor s = .next { s.wipe false with supply.failing := false } :=
  congrArg Host.Outcome.next (if_neg (by simp [h]))

theorem exec_pinReset_of_awake (hfail : s.supply.failing = false) (hpower : s.supply.power ≠ .reset) :
    exec .pinReset s = .next { s.restart 4 with supply.resetPin := false } := by
  show execPinReset s = _
  have hneg : ¬(s.supply.failing = true ∨ s.supply.power = .reset) := by simp [hfail, hpower]
  simp only [execPinReset, if_neg hneg]

theorem exec_pinReset_of_reset (hpower : s.supply.power = .reset) :
    exec .pinReset s = .next { s with supply.resetPin := false } := by
  show execPinReset s = _
  have hpos : s.supply.failing = true ∨ s.supply.power = .reset := .inr hpower
  simp only [execPinReset, if_pos hpos]

/-! ### WAKE and the readings (R312, R762, R831) -/

theorem exec_wakePin_of_asleep (hpin : s.supply.wakePin = false) (hpower : s.supply.power = .sleep) :
    exec (.wakePin true mv) s = .next (State.wake { s with supply.wakePin := true } mv) :=
  congrArg Host.Outcome.next (if_pos ⟨by simp [hpin], hpower⟩)

theorem exec_wakePin_low (s : State) (mv : Nat) :
    exec (.wakePin false mv) s = .next { s with supply.wakePin := false } :=
  congrArg Host.Outcome.next (if_neg (by simp))

theorem wake_leaves (s : State) (mv : Nat) : s.Keeps (s.wake mv) ∧ (s.wake mv).mail = s.mail ∧
    (s.wake mv).clk.refIn = (decide (3400 ≤ mv) && decide (mv ≤ 4300)) ∧
    (s.wake mv).supply = { s.supply with power := .idle, dom := vset s.supply.dom 0 .powering } := by
  obtain ⟨b, hb⟩ := State.alert_frame (State.setDom { s with
    supply.power := .idle, clk.refIn := State.refChosen mv, clk.refOk := true } .host .powering) 4
  rw [State.wake, hb]
  exact ⟨⟨rfl, rfl, rfl, rfl, rfl⟩, rfl, rfl, rfl⟩

theorem exec_supplySample_of_powered (h : s.powerCode ≠ 0) : exec (.supplySample mv mh) s = .next { s with
    store := { s.store with vsys := Nat.min 65535 mv, vhold := Nat.min 65535 mh } } :=
  congrArg Host.Outcome.next (if_neg h)

theorem exec_vholdLow_of_powered (h : s.powerCode ≠ 0) : exec .vholdLow s = .next (s.note 0x1204) :=
  congrArg Host.Outcome.next (if_neg h)

/-! ### Domains that come up (R18, R760) -/

theorem setDom_kept (s : State) (d : Domain) (m : DomMode) : s.Keeps (s.setDom d m) := ⟨rfl, rfl, rfl, rfl, rfl⟩

theorem exec_domainUp_of_powering {d : Domain} (hdom : s.supply.dom[d.ctorIdx]? = some .powering)
    (hdeps : s.depsUp d = true) : exec (.domainPowerUpDone d) s = .next (s.domainUp d) :=
  congrArg Host.Outcome.next (if_pos ⟨hdom, hdeps⟩)

theorem exec_domainUp_of_waiting {d : Domain} (hdeps : s.depsUp d = false) :
    exec (.domainPowerUpDone d) s = .next s :=
  congrArg Host.Outcome.next (if_neg fun h => absurd (h.2.symm.trans hdeps) (by decide))

theorem powerOn_of_down {d : Domain} (hdeps : s.depsUp d = true) (hdom : s.supply.dom[d.ctorIdx]? = some .down) :
    s.powerOn d = s.setDom d .powering :=
  if_pos ⟨hdeps, hdom⟩

theorem domainUp_host (h1 : s.supply.dom[1] = .down) : s.domainUp .host = { s with
    bus := { s.bus with stretching := false }
    supply := { s.supply with dom := vset (vset s.supply.dom 0 .up) 1 .powering } } := by
  refine powerOn_of_down ?_ ?_
  · simp [State.depsUp, State.up, State.setDom, vset, Domain.ctorIdx]
  · simpa [State.setDom, vset, Domain.ctorIdx] using h1

theorem domainUp_keeper (h0 : s.supply.dom[0] = .up) : s.domainUp .keeper = { s with
    supply := { s.supply with
      dom := if s.supply.moving = true ∧ s.supply.dom[2] = .down then vset (vset s.supply.dom 1 .up) 2 .powering
        else vset s.supply.dom 1 .up } } := by
  have hdeps : (s.setDom .keeper .up).depsUp .bench = true := by
    simp [State.depsUp, State.up, State.setDom, vset, Domain.ctorIdx, h0]
  have hdom : (s.setDom .keeper .up).supply.dom[Domain.bench.ctorIdx]? = some s.supply.dom[2] := by
    simp [State.setDom, vset, Domain.ctorIdx]
  show (if s.supply.moving then (s.setDom .keeper .up).powerOn .bench else s.setDom .keeper .up) = _
  simp only [State.powerOn, hdeps, hdom, true_and, Option.some.injEq, ← ite_and]
  by_cases h : s.supply.moving = true ∧ s.supply.dom[2] = .down
  · simp only [if_pos h]
    rfl
  · simp only [if_neg h]
    rfl

/-- BENCH up, its table loaded, before the image: the Last stops where the reference is absent (R77). -/
def State.benchRaised (s : State) : State :=
  let s := (({ s.setDom .bench .up with clk.limp := !s.clk.sysLock } : State).loadTable).markBench
  if s.clk.refOk then s else s.stopLast

/-- What a domain's coming up leaves for the image: the flash, the registers and what resets keep. -/
structure State.Ready (s t : State) : Prop where
  kept : s.Keeps t
  supply : t.supply = s.supply
  regs : t.regs = s.regs
  loadable : t.loadable = s.loadable

theorem State.Ready.trans (h : s.Ready t) (k : t.Ready u) : s.Ready u :=
  ⟨h.kept.trans k.kept, k.supply.trans h.supply, k.regs.trans h.regs, k.loadable.trans h.loadable⟩

theorem loadable_congr (h : t.store = s.store) : t.loadable = s.loadable := by
  have hbank : ∀ b, t.bank b = s.bank b := fun b => by rw [State.bank, State.bank, h]
  rw [State.loadable, State.loadable, h]
  simp only [hbank]

theorem tells_ready (h : s.Tells t) : s.Ready t :=
  ⟨h.spares.kept, h.spares.supply, h.regs, loadable_congr h.spares.store⟩

theorem loadTable_ready (s : State) : s.Ready s.loadTable := by
  simp only [State.loadTable]
  generalize (if (s.standing .cal).isNone = true then _ else _ : Option (List (Nat × CalEntry))) = slot
  cases slot with
  | some x => exact ⟨⟨rfl, rfl, rfl, rfl, rfl⟩, rfl, rfl, rfl⟩
  | none =>
    generalize hu : ({ s with clk.table := [], store.calEmpty := true } : State) = u
    have hempty : s.Ready u := hu ▸ ⟨⟨rfl, rfl, rfl, rfl, rfl⟩, rfl, rfl, rfl⟩
    exact hempty.trans (tells_ready (u.note_tells _))

theorem markBench_ready (s : State) : s.Ready s.markBench := by
  unfold State.markBench
  split <;> exact ⟨⟨rfl, rfl, rfl, rfl, rfl⟩, rfl, rfl, rfl⟩

theorem stopLast_ready (s : State) : s.Ready s.stopLast := by
  simp only [State.stopLast, State.lastEvt]
  split
  · exact ⟨⟨rfl, rfl, rfl, rfl, rfl⟩, rfl, rfl, rfl⟩
  · refine .trans ?_ (tells_ready (((State.alert_tells _ 6).trans (State.note_tells _ 0x2102)).trans
      (State.lastLoss_tells _ 1 _ .none)))
    exact ⟨⟨rfl, rfl, rfl, rfl, rfl⟩, rfl, rfl, rfl⟩

theorem benchRaised_ready (s : State) : (s.setDom .bench .up).Ready s.benchRaised := by
  have hlimp : (s.setDom .bench .up).Ready { s.setDom .bench .up with clk.limp := !s.clk.sysLock } :=
    ⟨⟨rfl, rfl, rfl, rfl, rfl⟩, rfl, rfl, rfl⟩
  have hmarked := (hlimp.trans (loadTable_ready _)).trans (markBench_ready _)
  unfold State.benchRaised
  generalize State.markBench _ = u at *
  show (s.setDom .bench .up).Ready (if u.clk.refOk then u else u.stopLast)
  split
  · exact hmarked
  · exact hmarked.trans (stopLast_ready u)

theorem domainUp_bench (hmoving : s.supply.moving = true) :
    s.domainUp .bench = s.benchRaised.loadImage.runReady := by
  have hmove : s.benchRaised.supply.moving = true := (congrArg Supply.moving (benchRaised_ready s).supply).trans hmoving
  exact if_pos hmove

/-- With both radio domains asked for, both power up (R760). -/
theorem powerRadio_of_both (h : (s.reg 0x003).toNat % 4 = 3) :
    s.powerRadio = (s.setDom .broadcast .powering).setDom .hearth .powering := by
  have h0 : s.fld 0x003 0 0 = 1 := by
    simp only [State.fld, Word.bits, Nat.shiftRight_zero, Nat.zero_add, Nat.sub_zero, Nat.pow_one]
    omega
  have h1 : (s.setDom .broadcast .powering).fld 0x003 1 1 = 1 := by
    show (s.reg 0x003).toNat >>> 1 % 2 = 1
    rw [Nat.shiftRight_eq_div_pow]
    omega
  simp only [State.powerRadio, h0, if_true, h1]

/-- Nothing is ready while a domain powers up. -/
theorem runReady_of_powering (h : s.supply.dom[3] = .powering) : s.runReady = s :=
  if_neg fun hr => hr.2.2.1 h

theorem runReady_of_still (h : s.supply.moving = false) : s.runReady = s :=
  if_neg fun hr => absurd (hr.1.symm.trans h) (by decide)

theorem loadImage_of_good (hload : s.loadable = some bytes) (hok : imageOk bytes = true) :
    s.loadImage = State.powerRadio { s with
      prog.image := some (imageOf bytes), prog.ledger := (imageOf bytes).ledger } := by
  simp only [State.loadImage, hload, hok, if_true]

theorem loadImage_of_none (hload : s.loadable = none) : s.loadImage = s.loadFailed 0xB212 := by
  simp only [State.loadImage, hload]

/-- A load that failed leads to AWL_HOLD with cause LOADFAIL. -/
theorem loadFailed_leaves (s : State) (code : Nat) : s.Keeps (s.loadFailed code) ∧
    (s.loadFailed code).supply = { s.supply with power := .hold, moving := false } ∧
    (s.loadFailed code).awl.cause = 5 := by
  have hnote := (s.note_tells code).spares
  obtain ⟨b, hb⟩ := State.alert_frame { s.note code with
    awl.cause := 5, awl.running := false, supply.moving := false, supply.power := .hold } 4
  have hfail : s.loadFailed code = _ := hb
  rw [hfail]
  generalize s.note code = u at *
  obtain ⟨hkeys, hsealed, hotp, hactive, hpending⟩ := hnote.kept
  exact ⟨⟨hkeys, hsealed, hotp, hactive, hpending⟩,
    congrArg (fun x : Supply => { x with power := .hold, moving := false }) hnote.supply, rfl⟩

theorem bits_of_mod_four {v : Word} (h : v.toNat % 4 = 3) : v.bit 0 = true ∧ v.bit 1 = true := by
  simp only [Word.bit, BitVec.getLsbD, Nat.testBit_eq_decide_div_mod_eq, decide_eq_true_eq]
  omega

/-- The state that the move to RUN reaches, with both radio domains up and no configuration block (R760). -/
theorem runReady_of_up {i : Image} (hmoving : s.supply.moving = true) (h2 : s.supply.dom[2] = .up)
    (h3 : s.supply.dom[3] = .up) (h4 : s.supply.dom[4] = .up) (hctl : (s.reg 0x003).toNat % 4 = 3)
    (himage : s.prog.image = some i) (hconfig : i.config = []) : s.Keeps s.runReady ∧ s.runReady.prog = s.prog ∧
      s.runReady.supply = { s.supply with moving := false, starting := true, power := .run } := by
  have hup : s.up .bench = true := by simp [State.up, Domain.ctorIdx, h2]
  generalize hu : State.setPower { s with supply.moving := false, supply.starting := true } .run = u
  have hready : s.runReady = (u.writeDomCtrl (u.reg 0x003)).applyConfig :=
    (if_pos ⟨hmoving, hup, by simp [h3], by simp [h4]⟩).trans (hu ▸ rfl)
  obtain ⟨b, hb⟩ := State.alert_frame { s with
    supply.moving := false, supply.starting := true, supply.power := .run } 4
  obtain rfl : u = { s with bus := b, supply.moving := false, supply.starting := true, supply.power := .run } :=
    hu.symm.trans hb
  obtain ⟨hbit0, hbit1⟩ := bits_of_mod_four hctl
  have hwrite := writeDomCtrl_run (v := s.reg 0x003) (s := { s with
    bus := b, supply.moving := false, supply.starting := true, supply.power := .run }) rfl h3 hbit0
  rw [if_neg (by simp [hbit1]), if_neg (h4.trans_ne (by decide))] at hwrite
  have hempty : ∀ t : State, t.prog = s.prog → t.applyConfig = t := by
    intro t ht
    simp only [State.applyConfig, ht, himage, hconfig, List.foldl_nil]
  rw [hready.trans ((congrArg State.applyConfig hwrite).trans (hempty (State.setReg _ _ _) rfl))]
  exact ⟨⟨rfl, rfl, rfl, rfl, rfl⟩, rfl, rfl⟩

theorem markHearth_leaves (s : State) : s.Keeps s.markHearth ∧ s.markHearth.supply = s.supply ∧
    s.markHearth.prog = s.prog ∧ s.markHearth.regs = s.regs := by
  unfold State.markHearth
  split <;> exact ⟨⟨rfl, rfl, rfl, rfl, rfl⟩, rfl, rfl, rfl⟩

/-- What an erase or no operation names in a POWERFAIL record fits its two bytes. -/
theorem padded_two (x y : Nat) :
    padded (bytesBE 1 x ++ bytesBE 1 y) = [BitVec.ofNat 8 x, BitVec.ofNat 8 y] ++ List.replicate 48 0 := by
  simp only [padded, bytesBE_one]
  rfl

/-- Settles O56: the supplies, the resets and the domains. -/
theorem supplyRowsComplete : Obligations.SupplyRowsComplete := by
  unfold Obligations.SupplyRowsComplete
  intro s pins mv mh bytes x kept enters strapped dark
  have hkept : ∀ t, s.Keeps t → kept t := fun t ⟨hkeys, hsealed, hotp, hactive, hpending⟩ =>
    ⟨hkeys, hsealed, hotp, hactive, hpending⟩
  have hdark : ∀ t, t.Dark → dark t := fun t ⟨hpower, hlast, hdom⟩ => ⟨hpower, hlast, hdom⟩
  have hstrapped : ∀ t, t.Strapped pins → strapped t := fun t ⟨h0, h1, hpri, href⟩ => ⟨h0, h1, hpri, href⟩
  have henters : ∀ (c : Instr) (p : State → Prop) (u : State), exec c s = .next u.enterHold → s.Keeps u →
      p u.enterHold → enters c p := by
    intro c p u hexec hk hp
    obtain ⟨hpower, hdom, hrunning, hhiZ, haddr⟩ := inHold_of_holds u.enterHold_holds
    exact ⟨_, hexec, hkept _ (hk.trans u.enterHold_holds.kept), hp, hpower, hdom, hrunning, hhiZ, haddr⟩
  refine ⟨?vsys, exec_vsysGood_of_good, ?test, ?vio, ?release, exec_resetRelease_of_high, ?failIdle, ?failBusy, ?floor,
    ?pin, exec_pinReset_of_reset, ?wake, exec_wakePin_low s mv, exec_supplySample_of_powered, ?low, ?host, ?keeper,
    ?bench, ?waits, ?unloadable, ?hearth⟩
  case vsys =>
    intro hvsys hvio hpin hfail hpower htest
    have hexec := exec_vsysGood_of_low (pins := pins) hvsys
    rw [leaveReset_of_good (s := s.vsysFound pins) hpower rfl hvio hpin hfail htest] at hexec
    have hholds := (s.vsysFound pins).enterHold_holds
    obtain ⟨bit, hsupply⟩ := hholds.supply
    have hstraps : (s.vsysFound pins).Strapped pins := ⟨rfl, rfl, rfl, rfl⟩
    refine henters _ _ _ hexec (vsysFound_kept s pins) ⟨hstrapped _ (hstraps.holds hholds),
      congrArg Supply.vio33 hsupply, (rstCause_of_holds hholds).trans ?_⟩
    show (if s.supply.failing ∨ s.freshFail.isSome = true then 2 else 1) % 256 = _
    simp only [show s.supply.failing = false from hfail, Bool.false_eq_true, false_or]
    split <;> rfl
  case test =>
    intro hvsys hpower htest
    refine ⟨_, exec_vsysGood_of_low hvsys, ?_⟩
    have hstays : (s.vsysFound pins).leaveReset = s.vsysFound pins :=
      if_neg fun h => absurd (h.2.2.2.2.2.symm.trans htest) (by decide)
    rw [hstays]
    exact ⟨hkept _ (vsysFound_kept s pins), hpower, rfl⟩
  case vio =>
    intro hvsys hpin hfail hpower htest
    have hexec := exec_vioGood_eq s
    generalize hu : ({ s with
      supply.vioGood := true, supply.hiZ := s.supply.hiZ && !s.supply.vsysGood } : State) = u at hexec
    rw [leaveReset_of_good (hu ▸ hpower) (hu ▸ hvsys) (hu ▸ rfl) (hu ▸ hpin) (hu ▸ hfail) (hu ▸ htest)] at hexec
    exact henters _ _ u hexec (hu ▸ ⟨rfl, rfl, rfl, rfl, rfl⟩)
      ((rstCause_of_holds u.enterHold_holds).trans (hu ▸ rfl))
  case release =>
    intro hpin hvsys hvio hfail hpower htest
    have hexec := exec_resetRelease_of_low (pins := pins) hpin
    generalize hu : ({ s with supply.resetPin := true } : State).sampleStraps pins = u at hexec
    rw [leaveReset_of_good (hu ▸ hpower) (hu ▸ hvsys) (hu ▸ hvio) (hu ▸ rfl) (hu ▸ hfail) (hu ▸ htest)] at hexec
    have hstraps : u.Strapped pins := hu ▸ sampleStraps_strapped _ pins
    exact henters _ _ u hexec (hu ▸ ⟨rfl, rfl, rfl, rfl, rfl⟩)
      ⟨hstrapped _ (hstraps.holds u.enterHold_holds), (rstCause_of_holds u.enterHold_holds).trans (hu ▸ rfl)⟩
  case failIdle =>
    intro hvsys hop hcommit hfail hroom hseq hlater
    have hexec := exec_powerfail_of_good hvsys
    rw [failBegun_of_idle hop hcommit] at hexec
    generalize hu : ({ s with
      store.op := none, supply.vsysGood := false, supply.hiZ := true, supply.power := .reset
      supply.dom := #v[.down, .down, .down, .down, .down] } : State) = u at hexec
    have hnone : u.store.op = none := hu ▸ rfl
    rw [if_neg (by simp [hnone])] at hexec
    obtain ⟨hkeeps, kdark, hsupply, hstore⟩ := failEnds_leaves (s := u) (hu ▸ rfl) s.opNamed
    have hrecord := State.standing_journalPut (s := u) (k := .powerfail) (step := 0)
      (body := bytesBE 1 s.opNamed.1 ++ bytesBE 1 s.opNamed.2) (hu ▸ hroom) (hu ▸ hseq) (hu ▸ hlater) (by decide)
    have hsu : s.Keeps u := hu ▸ ⟨rfl, rfl, rfl, rfl, rfl⟩
    refine ⟨_, ⟨.powerfail, u.store.journalSeq + 1, 0, padded (bytesBE 1 s.opNamed.1 ++ bytesBE 1 s.opNamed.2)⟩, hexec,
      hkept _ (hsu.trans hkeeps), hdark _ kdark, ?_, ?_, ?_, ?_, padded_two _ _⟩
    · exact (congrArg Supply.vsysGood hsupply).trans (hu ▸ rfl)
    · exact (congrArg Supply.hiZ hsupply).trans (hu ▸ rfl)
    · exact congrArg Supply.failing hsupply
    · rw [State.standing, hstore]
      exact hrecord
  case failBusy =>
    intro op hvsys hop herase
    obtain ⟨hkeeps, hkop, hsupply⟩ := failBegun_leaves hop herase
    have hexec := exec_powerfail_of_good hvsys
    rw [if_pos (by simp [hkop])] at hexec
    generalize s.failBegun = u at *
    obtain ⟨hkeys, hsealed, hotp, hactive, hpending⟩ := hkeeps
    exact ⟨_, hexec, ⟨hkeys, hsealed, hotp, hactive, hpending⟩, rfl, congrArg Supply.vsysGood hsupply,
      congrArg Supply.hiZ hsupply, congrArg Supply.power hsupply, hkop⟩
  case floor =>
    intro hvsys
    obtain ⟨⟨hkeys, hsealed, hotp, hactive, hpending⟩, ⟨hpower, hlast, hdom⟩, hstore, hsupply⟩ := wipe_leaves s false
    have hexec := exec_vholdFloor_of_low hvsys
    generalize s.wipe false = u at *
    exact ⟨_, hexec, ⟨hkeys, hsealed, hotp, hactive, hpending⟩, ⟨hpower, hlast, hdom⟩, hstore, rfl⟩
  case pin =>
    intro hfail hpower
    obtain ⟨⟨hkeys, hsealed, hotp, hactive, hpending⟩, hsupply, hlast, -, -, hbuckets, -, hstore⟩ := restart_leaves s 4
    have hexec := exec_pinReset_of_awake hfail hpower
    generalize s.restart 4 = u at *
    exact ⟨_, hexec, ⟨hkeys, hsealed, hotp, hactive, hpending⟩, ⟨congrArg Supply.power hsupply, hlast,
      congrArg Supply.dom hsupply⟩, rfl, congrArg Supply.rstCause hsupply, hbuckets, hstore⟩
  case wake =>
    intro hpin hpower
    obtain ⟨hkeeps, hmail, href, hsupply⟩ := wake_leaves { s with supply.wakePin := true } mv
    have hexec := exec_wakePin_of_asleep (mv := mv) hpin hpower
    generalize State.wake _ mv = u at *
    obtain ⟨hkeys, hsealed, hotp, hactive, hpending⟩ := hkeeps
    refine ⟨_, hexec, ⟨hkeys, hsealed, hotp, hactive, hpending⟩, href, congrArg Supply.power hsupply, ?_,
      congrArg Supply.wakePin hsupply, hmail⟩
    rw [hsupply]
    simp [vset]
  case low =>
    intro hpowered
    have hnote := s.note_tells 0x1204
    exact ⟨_, exec_vholdLow_of_powered hpowered, hnote.keeps, hnote.last, hnote.spares.mail⟩
  case host =>
    intro h0 h1
    have hexec := exec_domainUp_of_powering (s := s) (d := .host) (by simp [Domain.ctorIdx]; exact h0) rfl
    rw [domainUp_host h1] at hexec
    exact ⟨_, hexec, rfl, by simp [vset], by simp [vset], by simp [vset, x]⟩
  case keeper =>
    intro h1 h0
    have hexec := exec_domainUp_of_powering (s := s) (d := .keeper) (by simp [Domain.ctorIdx]; exact h1)
      (by simp [State.depsUp, State.up, Domain.ctorIdx]; exact h0)
    rw [domainUp_keeper h0] at hexec
    refine ⟨_, hexec, rfl, ?_⟩
    dsimp only
    split <;> simp [vset, x, h0]
  case bench =>
    intro h2 h0 h1 hmoving hctl hload hok
    have hexec := exec_domainUp_of_powering (s := s) (d := .bench) (by simp [Domain.ctorIdx]; exact h2)
      (by simp [State.depsUp, State.up, Domain.ctorIdx]; exact ⟨h0, h1⟩)
    obtain ⟨hkeeps, hsupply, hregs, hloadable⟩ := benchRaised_ready s
    rw [domainUp_bench hmoving] at hexec
    generalize s.benchRaised = u at *
    have hreg : (u.reg 0x003).toNat % 4 = 3 := by
      rw [State.reg, hregs]
      exact hctl
    have hradio := powerRadio_of_both (s := { u with
      prog.image := some (imageOf bytes), prog.ledger := (imageOf bytes).ledger }) hreg
    rw [loadImage_of_good (hloadable.trans hload) hok, hradio,
      runReady_of_powering (by simp [State.setDom, vset, Domain.ctorIdx])] at hexec
    obtain ⟨hkeys, hsealed, hotp, hactive, hpending⟩ := hkeeps
    refine ⟨_, hexec, rfl, rfl, ?_, ?_, ?_, (congrArg Supply.moving hsupply).trans hmoving,
      hkeys, hsealed, hotp, hactive, hpending⟩
    all_goals simp [State.setDom, vset, Domain.ctorIdx, hsupply]
  case waits =>
    intro h2 hwait
    refine exec_domainUp_of_waiting ?_
    have hdown : s.supply.dom[0] ≠ .up ∨ s.supply.dom[1] ≠ .up := hwait
    simpa [State.depsUp, State.up, Domain.ctorIdx, imp_iff_not_or] using hdown
  case unloadable =>
    intro h2 h0 h1 hmoving hload
    have hexec := exec_domainUp_of_powering (s := s) (d := .bench) (by simp [Domain.ctorIdx]; exact h2)
      (by simp [State.depsUp, State.up, Domain.ctorIdx]; exact ⟨h0, h1⟩)
    obtain ⟨hkeeps, hsupply, hregs, hloadable⟩ := benchRaised_ready s
    rw [domainUp_bench hmoving] at hexec
    generalize s.benchRaised = u at *
    obtain ⟨kkeeps, ksupply, hcause⟩ := loadFailed_leaves u 0xB212
    have hsu : s.Keeps u := (setDom_kept s _ _).trans hkeeps
    rw [loadImage_of_none (hloadable.trans hload), runReady_of_still (congrArg Supply.moving ksupply)] at hexec
    exact ⟨_, hexec, congrArg Supply.power ksupply, hcause, congrArg Supply.moving ksupply, hkept _ (hsu.trans kkeeps)⟩
  case hearth =>
    intro i h4 hmoving h2 h3 hctl himage hconfig
    have hexec := exec_domainUp_of_powering (s := s) (d := .hearth) (by simp [Domain.ctorIdx]; exact h4)
      (by simp [State.depsUp, State.up, Domain.ctorIdx]; exact h2)
    have hup : s.domainUp .hearth = (s.setDom .hearth .up).markHearth.runReady := rfl
    obtain ⟨hkeeps, hsupply, hprog, hregs⟩ := markHearth_leaves (s.setDom .hearth .up)
    rw [hup] at hexec
    generalize (s.setDom .hearth .up).markHearth = u at *
    have hreg : (u.reg 0x003).toNat % 4 = 3 := by
      rw [State.reg, hregs]
      exact hctl
    obtain ⟨kkeeps, kprog, ksupply⟩ := runReady_of_up (s := u) ((congrArg Supply.moving hsupply).trans hmoving)
      (by rw [hsupply]; simpa [State.setDom, vset, Domain.ctorIdx] using h2)
      (by rw [hsupply]; simpa [State.setDom, vset, Domain.ctorIdx] using h3)
      (by rw [hsupply]; simp [State.setDom, vset, Domain.ctorIdx]) hreg
      ((congrArg Program.image hprog).trans himage) hconfig
    have hsu : s.Keeps u := (setDom_kept s _ _).trans hkeeps
    refine ⟨_, hexec, congrArg Supply.power ksupply, ?_, congrArg Supply.moving ksupply,
      congrArg Supply.starting ksupply, kprog.trans hprog, hkept _ (hsu.trans kkeeps)⟩
    rw [ksupply, hsupply]
    simp [State.setDom, vset, Domain.ctorIdx]

end Sys2Proof.Machine
end

section
/-! PROOFS. The access kinds of the register map (chapters 21 and 22). -/

namespace Sys2Proof.Machine

open Sys2Proof

variable {s t : State} {a : Nat} {v : Word} {l : RegLine} {ack : Bool}

/-! ### What the map says of its lines -/

/-- A line is of the lanes or of the maps. -/
theorem regLine_cases (h : regLine a = some l) : l = laneLine a ∨
    l ∈ mapTime ++ mapBench ++ mapHost ++ mapKeeper ++ mapRadio ++ mapLanes := by
  rw [regLine] at h
  split at h
  · exact .inl (Option.some.inj h).symm
  · exact .inr (List.mem_of_find?_eq_some h)

/-- Configuration is read-write, and bench 4 owns none of it; what bench 4 owns is written whole or as a command. -/
def RegLine.sound (l : RegLine) : Bool :=
  (!l.cfg || l.access == .rw && !l.owned) && (!l.owned || l.access == .rw || l.access == .wo)

theorem laneLine_sound (a : Nat) : (laneLine a).sound = true ∧ (laneLine a).cfg = false := by
  simp only [laneLine]
  split <;> exact ⟨rfl, rfl⟩

theorem regLine_sound (h : regLine a = some l) : l.sound = true := by
  have hmaps : (mapTime ++ mapBench ++ mapHost ++ mapKeeper ++ mapRadio ++ mapLanes).all RegLine.sound = true := by
    decide
  rcases regLine_cases h with rfl | hmem
  · exact (laneLine_sound a).1
  · exact List.all_eq_true.mp hmaps l hmem

theorem cfg_access (h : regLine a = some l) (hcfg : l.cfg = true) : l.access = .rw ∧ l.owned = false := by
  have hsound := regLine_sound h
  simp only [RegLine.sound, hcfg] at hsound
  simpa using (Bool.and_eq_true_iff.mp hsound).1

theorem owned_access (h : regLine a = some l) (howned : l.owned = true) : l.access = .rw ∨ l.access = .wo := by
  have hsound := regLine_sound h
  simp only [RegLine.sound, howned] at hsound
  simpa using (Bool.and_eq_true_iff.mp hsound).2

/-! ### Reads (R619, R828) -/

/-- The registers that a read clears or moves (Table 0-6). -/
def readCleared : List Nat :=
  [0x011, 0x10A, 0x182, 0x183, 0x184, 0x185, 0x211, 0x215, 0x219, 0x21D, 0x221, 0x224, 0x2A0, 0x2A1, 0x2A2, 0x307,
    0x385, 0x3C3, 0x415, 0x604, 0x613, 0x614, 0x615, 0x703, 0x704, 0xB81, 0xB82, 0xB89, 0xB8A, 0xC0A, 0xC0B, 0xC45,
    0xD08, 0xD28, 0xD09, 0xD29, 0xE06]

/-- The registers whose read captures followers, or the high-water mark of the lag. -/
def readCaptured : List Nat :=
  [0x012, 0x104, 0x186, 0x202, 0x204, 0x304, 0x413, 0x506, 0x526, 0xC21, 0xC43, 0xE02]

theorem readCleared_access (h : a ∈ readCleared) (hline : regLine a = some l) : l.access ≠ .ro := by
  have hall : readCleared.all (fun a => (regLine a).all fun l => l.access != .ro) = true := by decide
  have ha := List.all_eq_true.mp hall a h
  rw [hline] at ha
  simpa using ha

/-- A read of a register of neither kind changes nothing. -/
theorem readEffect_of_plain (hcaptured : a ∉ readCaptured) (hcleared : a ∉ readCleared) : s.readEffect a = s := by
  have hcapture : s.capture a = s := by
    unfold State.capture
    split <;> simp_all [readCaptured]
  have hhost : s.clearHost a = s := by
    unfold State.clearHost
    split <;> simp_all [readCaptured, readCleared]
  have hradio : s.clearRadio a = s := by
    unfold State.clearRadio
    split <;> simp_all [readCleared]
  rw [State.readEffect, hcapture, hhost, hradio]

/-- An access that its domain and the Keeper allow. -/
theorem regRefusal_of_up (hline : regLine a = some l) (hdom : s.domainRefusal (regDomain a) = none) :
    s.regRefusal a = none := by
  simp only [State.regRefusal, hline, hdom, Option.isNone_some, Option.map_none, Bool.false_eq_true, if_false]

theorem writeRefusal_of_free (hline : regLine a = some l) (hdom : s.domainRefusal (regDomain a) = none)
    (hfree : 0xF00 ≤ a → s.keeperBusy = false) : s.writeRefusal a = none := by
  have hbusy : ¬(0xF00 ≤ a ∧ s.keeperBusy = true) := fun h => absurd ((hfree h.1).symm.trans h.2) (by decide)
  simp only [State.writeRefusal, regRefusal_of_up hline hdom, if_neg hbusy]

theorem busRegRead_of_up (h : s.answers = true) (hline : regLine a = some l)
    (hdom : s.domainRefusal (regDomain a) = none) : s.busRegRead a ack =
      ((s.readFull a).2.readEffect a).sendRead 0x10 (bytesBE 2 a) ack (bytesBE 4 (s.readFull a).1.toNat) := by
  rw [State.busRegRead, regRefusal_of_up hline hdom, State.busRead_accepted h]

theorem busRegWrite_of_free (h : s.answers = true) (hline : regLine a = some l)
    (hdom : s.domainRefusal (regDomain a) = none) (hfree : 0xF00 ≤ a → s.keeperBusy = false) :
    s.busRegWrite a v .good = s.regWrite a v := by
  rw [State.busRegWrite, writeRefusal_of_free hline hdom hfree, State.busWrite_accepted h]

/-- What a read returns lets nothing stand but a free value's count. -/
theorem readFull_state (s : State) (a : Nat) : ∃ n, (s.readFull a).2 = { s with freeCtr := n } := by
  simp only [State.readFull]
  split
  · exact ⟨_, rfl⟩
  · split <;> exact ⟨_, rfl⟩

/-- A read's effect leaves the address of the device as it is. -/
theorem readEffect_addr (s : State) (a : Nat) : (s.readEffect a).bus.addr = s.bus.addr := by
  have hcapture : ∀ u : State, (u.capture a).bus.addr = u.bus.addr := by
    intro u
    unfold State.capture
    split <;> rfl
  have hhost : ∀ u : State, (u.clearHost a).bus.addr = u.bus.addr := by
    intro u
    unfold State.clearHost
    split <;> rfl
  have hradio : ∀ u : State, (u.clearRadio a).bus.addr = u.bus.addr := by
    intro u
    unfold State.clearRadio
    split <;> rfl
  exact (hradio _).trans ((hhost _).trans (hcapture s))

/-- The bytes of a read, with the PEC of the whole transaction when the host ACKs the last of them (R619). -/
def readAnswer (addr a : Nat) (ack : Bool) (data : List Byte) : List Byte := data ++ if ack then
  [pecOf (bytesBE 1 (2 * addr) ++ bytesBE 1 0x10 ++ bytesBE 2 a ++ bytesBE 1 (2 * addr + 1) ++ data)] else []

theorem sendRead_eq (s : State) (data : List Byte) : s.sendRead 0x10 (bytesBE 2 a) ack data =
    { s with bus := { s.bus with out := readAnswer s.bus.addr a ack data } } := rfl

/-- A read of a register returns what stands there, and has the effect of a read of it. -/
theorem exec_regRead_of_up (h : s.answers = true) (hline : regLine a = some l)
    (hdom : s.domainRefusal (regDomain a) = none) : exec (.regRead a ack) s = .next
      (((s.readFull a).2.readEffect a).sendRead 0x10 (bytesBE 2 a) ack (bytesBE 4 (s.readFull a).1.toNat)) :=
  congrArg Host.Outcome.next (busRegRead_of_up h hline hdom)

theorem exec_captureRead_eq (s : State) : exec (.captureRead a ack) s = exec (.regRead a ack) s := rfl

theorem exec_readClear_eq (s : State) : exec (.readClear a ack) s = exec (.regRead a ack) s := rfl

/-- The bytes that a read leaves to be sent. -/
theorem sendRead_out (h : (s.readFull a).2.bus.addr = s.bus.addr) (data : List Byte) :
    (((s.readFull a).2.readEffect a).sendRead 0x10 (bytesBE 2 a) ack data).bus.out =
      readAnswer s.bus.addr a ack data := by
  rw [sendRead_eq, readEffect_addr, h]

/-- The read of a register whose value and effect are known. -/
theorem exec_regRead_of_effect {w : Word} (h : s.answers = true) (hline : regLine a = some l)
    (hdom : s.domainRefusal (regDomain a) = none) (hfull : s.readFull a = (w, s)) (heffect : s.readEffect a = t)
    (haddr : t.bus.addr = s.bus.addr) : exec (.regRead a ack) s = .next { t with
      bus := { t.bus with out := readAnswer s.bus.addr a ack (bytesBE 4 w.toNat) } } := by
  rw [exec_regRead_of_up h hline hdom, hfull, heffect, sendRead_eq, haddr]

/-! ### Writes (R620, R823, R838) -/

theorem exec_regWrite_of_free (h : s.answers = true) (hline : regLine a = some l)
    (hdom : s.domainRefusal (regDomain a) = none) (hfree : 0xF00 ≤ a → s.keeperBusy = false) :
    exec (.regWrite a v .good) s = .next (s.regWrite a v) :=
  congrArg Host.Outcome.next (busRegWrite_of_free h hline hdom hfree)

theorem exec_regWrite_bad (h : s.answers = true) (hline : regLine a = some l)
    (hdom : s.domainRefusal (regDomain a) = none) (hfree : 0xF00 ≤ a → s.keeperBusy = false) :
    exec (.regWrite a v .bad) s = .next (s.nack 0x11 6 2) := by
  refine congrArg Host.Outcome.next ?_
  simp [State.busRegWrite, State.busWrite, State.busGate, writeRefusal_of_free hline hdom hfree, h, pecCheck, nackPec,
    phPec]

theorem regWrite_of_readOnly (hline : regLine a = some l) (haccess : l.access = .ro ∨ l.access = .rc) :
    s.regWrite a v = s := by
  rcases haccess with h | h <;> simp only [State.regWrite, hline, h]

/-- A register of the radio's chains, or of HL_CTRL and LAST_CTRL, is not written as the others are. -/
def writtenApart : List Nat := [0x100, 0x101, 0x500, 0x520, 0x600, 0x608]

/-- Configuration apart from these is that of HL_CTRL and LAST_CTRL. -/
theorem cfg_apart (hline : regLine a = some l) (hcfg : l.cfg = true) (h : a ∉ [0x100, 0x101, 0x608]) :
    a ∉ writtenApart := by
  intro hmem
  have hall : [0x500, 0x520, 0x600].all (fun a => (regLine a).all fun l => !l.cfg) = true := by decide
  have ha : a ∈ [0x500, 0x520, 0x600] := by
    simp only [writtenApart, List.mem_cons, List.not_mem_nil, or_false, not_or] at hmem h ⊢
    omega
  have hline' := List.all_eq_true.mp hall a ha
  rw [hline] at hline'
  simp [hcfg] at hline'

/-- What bench 4 owns apart from these is the control of the chains. -/
theorem owned_apart (hline : regLine a = some l) (howned : l.owned = true) (h : a ∉ [0x500, 0x520, 0x600]) :
    a ∉ writtenApart := by
  intro hmem
  have hall : [0x100, 0x101, 0x608].all (fun a => (regLine a).all fun l => !l.owned) = true := by decide
  have ha : a ∈ [0x100, 0x101, 0x608] := by
    simp only [writtenApart, List.mem_cons, List.not_mem_nil, or_false, not_or] at hmem h ⊢
    omega
  have hline' := List.all_eq_true.mp hall a ha
  rw [hline] at hline'
  simp [howned] at hline'

theorem writeRw_of_common (h : a ∉ writtenApart) : s.writeRw l a v =
    if l.owned then (if s.hostOwns then s.atEdge a v else s)
    else if l.cfg || (State.chainOfReg a).isSome then s.atEdge a v else s.regEffect a v := by
  unfold State.writeRw
  split <;> simp_all [writtenApart]

theorem atEdge_of_up (hup : s.supply.dom[2] = .up) : s.atEdge a v =
    { s with regWrites := s.regWrites ++ [⟨a, v, s.last.edge⟩] } :=
  if_pos (by simp [State.up, Domain.ctorIdx, hup])

theorem regWrite_of_cfg (hline : regLine a = some l) (hcfg : l.cfg = true) (h : a ∉ writtenApart)
    (hup : s.supply.dom[2] = .up) :
    s.regWrite a v = { s with regWrites := s.regWrites ++ [⟨a, v, s.last.edge⟩] } := by
  obtain ⟨hrw, howned⟩ := cfg_access hline hcfg
  simp only [State.regWrite, hline, hrw, writeRw_of_common h, howned, hcfg, Bool.true_or, Bool.false_eq_true, if_false,
    if_true]
  exact atEdge_of_up hup

/-- Bench 4's registers are the host's while bench 4 is OFF or HALTED (R838). -/
theorem regWrite_of_owned (hline : regLine a = some l) (howned : l.owned = true) (h : a ∉ writtenApart) :
    s.regWrite a v = if s.hostOwns then s.atEdge a v else s := by
  rcases owned_access hline howned with hrw | hwo
  · simp only [State.regWrite, hline, hrw, writeRw_of_common h, howned, if_true]
  · simp only [State.regWrite, hline, hwo, howned, if_true]

/-- The registers that hold a plain value and take a write at once. -/
def plainRegs : List Nat := [0x006, 0x303, 0x380, 0x383, 0x3C0, 0x412, 0x720, 0xC42]

theorem plainRegs_line (h : a ∈ plainRegs) (hline : regLine a = some l) : l.access = .rw ∧ l.owned = false ∧
    l.cfg = false ∧ State.chainOfReg a = none ∧ a ∉ writtenApart := by
  have hall : plainRegs.all (fun a => (regLine a).all (fun l => l.access == .rw && !l.owned && !l.cfg) &&
      (State.chainOfReg a).isNone && !writtenApart.contains a) = true := by decide
  have ha := List.all_eq_true.mp hall a h
  rw [hline] at ha
  simpa [and_assoc] using ha

theorem regEffect_of_plain (h : a ∈ plainRegs) (hline : regLine a = some l) :
    s.regEffect a v = s.setReg a (v &&& l.mask) := by
  simp only [plainRegs, List.mem_cons, List.not_mem_nil, or_false] at h
  rcases h with rfl | rfl | rfl | rfl | rfl | rfl | rfl | rfl <;>
    simp [State.regEffect, State.effectRadio, State.chainOfReg, hline]

/-- A register of a plain value takes the bits that its line lets a write reach. -/
theorem regWrite_of_plain (h : a ∈ plainRegs) (hline : regLine a = some l) :
    s.regWrite a v = s.setReg a (v &&& l.mask) := by
  obtain ⟨hrw, howned, hcfg, hchain, hapart⟩ := plainRegs_line h hline
  simp only [State.regWrite, hline, hrw]
  rw [writeRw_of_common hapart]
  simp only [howned, hcfg, hchain, Option.isSome_none, Bool.or_self, Bool.false_eq_true, if_false]
  exact regEffect_of_plain h hline

/-- Settles O43: by the access kind of the line, and for reads by the registers that a read clears or captures. -/
theorem registerAccessFollowsTheMap : Obligations.RegisterAccessFollowsTheMap := by
  unfold Obligations.RegisterAccessFollowsTheMap
  intro s a v l ack h hline hdom hfree reads gives chainReg
  obtain ⟨n, hfull⟩ := readFull_state s a
  refine ⟨?value, exec_captureRead_eq s, exec_readClear_eq s, ?plain, ?lastPp, ?lost, ?disp, ?dups, ?txCount, ?readOnly,
    ?cfg, ?owned, ?ignored, ?set, exec_regWrite_bad h hline hdom hfree⟩
  case value => exact ⟨_, exec_regRead_of_up h hline hdom, sendRead_out (by rw [hfull]) _⟩
  case plain =>
    intro hro hapart
    have hcaptured : a ∉ readCaptured := fun hmem => hapart a hmem rfl
    have hcleared : a ∉ readCleared := fun hmem => readCleared_access hmem hline hro
    refine ⟨_, exec_regRead_of_up h hline hdom, ?_⟩
    rw [hfull, readEffect_of_plain hcaptured hcleared]
    rfl
  case lastPp =>
    rintro rfl
    exact exec_regRead_of_effect h hline hdom rfl rfl rfl
  case lost =>
    rintro rfl
    exact exec_regRead_of_effect h hline hdom rfl rfl rfl
  case disp =>
    rintro rfl
    exact exec_regRead_of_effect h hline hdom rfl rfl rfl
  case dups =>
    rintro rfl
    exact exec_regRead_of_effect h hline hdom rfl rfl rfl
  case txCount =>
    rintro rfl
    exact exec_regRead_of_effect h hline hdom rfl rfl rfl
  case readOnly =>
    intro haccess
    rw [exec_regWrite_of_free h hline hdom hfree, regWrite_of_readOnly hline haccess]
  case cfg =>
    intro hcfg h100 h101 h608 hup
    have hapart := cfg_apart hline hcfg (by simp [h100, h101, h608])
    rw [exec_regWrite_of_free h hline hdom hfree, regWrite_of_cfg hline hcfg hapart hup]
  case owned =>
    intro howned hhost hup hchain
    have hapart := owned_apart hline howned (by simpa [chainReg] using hchain)
    rw [exec_regWrite_of_free h hline hdom hfree, regWrite_of_owned hline howned hapart, if_pos hhost,
      atEdge_of_up hup]
  case ignored =>
    intro howned hhost hchain
    have hapart := owned_apart hline howned (by simpa [chainReg] using hchain)
    rw [exec_regWrite_of_free h hline hdom hfree, regWrite_of_owned hline howned hapart, if_neg (by simp [hhost])]
  case set =>
    intro hregs hplain
    refine ⟨_, exec_regWrite_of_free h hline hdom hfree, ?_⟩
    rw [regWrite_of_plain hplain hline]
    exact ⟨rfl, State.reg_setReg_self hregs, fun b hb => State.reg_setReg_ne hb⟩

end Sys2Proof.Machine
end

section
/-! PROOFS. The register rows of the radio, at their write (chapters 7, 8, 9 and 22). -/

namespace Sys2Proof.Machine

open Sys2Proof

variable {s t : State} {a : Nat} {v : Word} {l : RegLine}

/-! ### Writes that wait for the tick edge (R838) -/

theorem dom_broadcast (h : s.supply.dom[3] = .up) : s.supply.dom[Domain.broadcast.ctorIdx]? = some .up := by
  simp [Domain.ctorIdx, h]

theorem dom_hearth (h : s.supply.dom[4] = .up) : s.supply.dom[Domain.hearth.ctorIdx]? = some .up := by
  simp [Domain.ctorIdx, h]

/-- A write of what bench 4 owns waits for the tick edge while the host may write it. -/
theorem busRegWrite_queued (h : s.answers = true) (hline : regLine a = some l)
    (hup : s.supply.dom[(regDomain a).ctorIdx]? = some .up) (ha : a < 0xF00) (howned : l.owned = true)
    (hapart : a ∉ [0x500, 0x520, 0x600]) (hhost : s.hostOwns = true) (h2 : s.supply.dom[2] = .up) :
    s.busRegWrite a v .good = { s with regWrites := s.regWrites ++ [⟨a, v, s.last.edge⟩] } := by
  rw [State.busRegWrite_of_up h hline hup (.inl ha), regWrite_of_owned hline howned (owned_apart hline howned hapart),
    if_pos hhost, atEdge_of_up h2]

/-- A lane's register lies in the lanes' block, in the BROADCAST domain. -/
theorem laneReg_facts {lane off : Nat} (hlane : lane ≤ 101) (hoff : off < 8) :
    regLine (0x800 + 8 * lane + off) = some (laneLine (0x800 + 8 * lane + off)) ∧
      regDomain (0x800 + 8 * lane + off) = .broadcast ∧ (0x800 + 8 * lane + off) % 8 = off := by
  refine ⟨if_pos (by omega), ?_, by omega⟩
  simp only [regDomain]
  repeat rw [if_neg (by omega)]
  rw [if_pos (by omega)]

theorem laneReg_queued {lane off : Nat} (h : s.answers = true) (h2 : s.supply.dom[2] = .up)
    (h3 : s.supply.dom[3] = .up) (hhost : s.hostOwns = true) (hlane : lane ≤ 101) (hoff : off = 0 ∨ off = 3) :
    s.busRegWrite (0x800 + 8 * lane + off) v .good =
      { s with regWrites := s.regWrites ++ [⟨0x800 + 8 * lane + off, v, s.last.edge⟩] } := by
  obtain ⟨hline, hdom, hmod⟩ := laneReg_facts (off := off) hlane (by omega)
  have howned : (laneLine (0x800 + 8 * lane + off)).owned = true := by
    rcases hoff with rfl | rfl <;> simp [laneLine, hmod, ownedLine]
  refine busRegWrite_queued h hline (by rw [hdom]; exact dom_broadcast h3) (by omega) howned ?_ hhost h2
  simp only [List.mem_cons, List.not_mem_nil, or_false]
  omega

theorem exec_laneCtrlEnWrite_queued {lane : Nat} (h : s.answers = true) (h2 : s.supply.dom[2] = .up)
    (h3 : s.supply.dom[3] = .up) (hhost : s.hostOwns = true) (hlane : lane ≤ 101) :
    exec (.laneCtrlEnWrite lane v .good) s =
      .next { s with regWrites := s.regWrites ++ [⟨0x800 + 8 * lane, v, s.last.edge⟩] } := by
  show execLaneCtrlEnWrite lane v .good s = _
  rw [execLaneCtrlEnWrite, if_pos hlane]
  exact congrArg Host.Outcome.next (laneReg_queued h h2 h3 hhost hlane (.inl rfl))

theorem exec_laneFirFadeWrite_queued {lane : Nat} (h : s.answers = true) (h2 : s.supply.dom[2] = .up)
    (h3 : s.supply.dom[3] = .up) (hhost : s.hostOwns = true) (hlane : lane ≤ 101) :
    exec (.laneFirFadeWrite lane v .good) s =
      .next { s with regWrites := s.regWrites ++ [⟨0x803 + 8 * lane, v, s.last.edge⟩] } := by
  show execLaneFirFadeWrite lane v .good s = _
  rw [execLaneFirFadeWrite, if_pos hlane, show 0x803 + 8 * lane = 0x800 + 8 * lane + 3 by omega]
  exact congrArg Host.Outcome.next (laneReg_queued h h2 h3 hhost hlane (.inr rfl))

theorem exec_brModeWrite_queued (h : s.answers = true) (h2 : s.supply.dom[2] = .up) (h3 : s.supply.dom[3] = .up)
    (hhost : s.hostOwns = true) : exec (.brModeWrite v .good) s =
      .next { s with regWrites := s.regWrites ++ [⟨0x540, v, s.last.edge⟩] } :=
  congrArg Host.Outcome.next (busRegWrite_queued (l := ownedLine 0x540 0x540 0xFF07#32) h (by decide)
    (dom_broadcast h3) (by decide) rfl (by decide) hhost h2)

theorem exec_dabDecoderReset_queued (d : Fin 2) (h : s.answers = true) (h2 : s.supply.dom[2] = .up)
    (h3 : s.supply.dom[3] = .up) (hhost : s.hostOwns = true) : exec (.dabDecoderReset d v .good) s =
      .next { s with regWrites := s.regWrites ++ [⟨0xD00 + 0x20 * d.val, v, s.last.edge⟩] } := by
  have hline : regLine (0xD00 + 0x20 * d.val) =
      some ⟨0xD00 + 0x20 * d.val, 0xD00 + 0x20 * d.val, .rw, false, true, 0xF2#32, 1#32⟩ := by
    fin_cases d <;> decide
  have hdom : regDomain (0xD00 + 0x20 * d.val) = .broadcast := by fin_cases d <;> rfl
  exact congrArg Host.Outcome.next (busRegWrite_queued h hline (by rw [hdom]; exact dom_broadcast h3) (by omega) rfl
    (by simp only [List.mem_cons, List.not_mem_nil, or_false]; omega) hhost h2)

theorem busRegWrite_irCtrl_queued (h : s.answers = true) (h2 : s.supply.dom[2] = .up) (hhost : s.hostOwns = true) :
    s.busRegWrite 0x700 v .good = { s with regWrites := s.regWrites ++ [⟨0x700, v, s.last.edge⟩] } :=
  busRegWrite_queued (l := ⟨0x700, 0x700, .wo, false, true, 0x1F#32, 0x1F#32⟩) h (by decide) (dom_host_of_answers h)
    (by decide) rfl (by decide) hhost h2

/-! ### The control registers of the chains (R269, R309) -/

/-- The line of a chain's control register, which bench 4 owns. -/
theorem chainCtrl_facts (c : Fin 3) : (∃ l, regLine (chainCtrlReg c) = some l ∧ l.access = .rw) ∧
    chainCtrlReg c < 0xF00 ∧ regDomain (chainCtrlReg c) = if c = 2 then .hearth else .broadcast := by
  have haccess : (regLine (chainCtrlReg c)).map RegLine.access = some .rw := by revert c; decide
  refine ⟨Option.map_eq_some_iff.mp haccess, ?_, ?_⟩ <;> revert c <;> decide

theorem busRegWrite_chainCtrl (c : Fin 3) (h : s.answers = true) (h3 : s.supply.dom[3] = .up)
    (h4 : s.supply.dom[4] = .up) :
    s.busRegWrite (chainCtrlReg c) v .good = s.writeChainCtrl (chainCtrlReg c) c.val v := by
  obtain ⟨⟨l, hline, hrw⟩, ha, hdom⟩ := chainCtrl_facts c
  have hup : s.supply.dom[(regDomain (chainCtrlReg c)).ctorIdx]? = some .up := by
    rw [hdom]
    split
    · exact dom_hearth h4
    · exact dom_broadcast h3
  rw [busRegWrite_rw h hline hrw hup (.inl ha)]
  fin_cases c <;> rfl

theorem exec_chainStateWrite_queued (c : Fin 3) (h : s.answers = true) (h2 : s.supply.dom[2] = .up)
    (h3 : s.supply.dom[3] = .up) (h4 : s.supply.dom[4] = .up) (hhost : s.hostOwns = true) (hreset : v.bit 3 = false)
    (hstopped : c = 2 → s.hearth.mode = .stopped) : exec (.chainStateWrite c v .good) s =
      .next { s with regWrites := s.regWrites ++ [⟨chainCtrlReg c, v, s.last.edge⟩] } := by
  have hallowed : (s.hostOwns && (c.val != 2 || s.hearth.mode == .stopped)) = true := by
    by_cases hc : c = 2
    · simp [hhost, hstopped hc]
    · have : c.val ≠ 2 := fun hv => hc (Fin.ext hv)
      simp [hhost, this]
  refine congrArg Host.Outcome.next ((busRegWrite_chainCtrl c h h3 h4).trans ?_)
  simp only [State.writeChainCtrl, hreset, Bool.false_eq_true, if_false, hallowed, if_true]
  exact atEdge_of_up h2

/-! ### What leaves the chains and the waiting writes alone -/

namespace State

variable {u : State}

/-- The chains and their pins, and the writes that wait, stand. -/
structure SameRadio (s t : State) : Prop where
  radio : t.radio = s.radio
  regWrites : t.regWrites = s.regWrites

theorem SameRadio.refl (s : State) : s.SameRadio s := ⟨rfl, rfl⟩

theorem SameRadio.trans (h : s.SameRadio t) (k : t.SameRadio u) : s.SameRadio u :=
  ⟨k.radio.trans h.radio, k.regWrites.trans h.regWrites⟩

theorem SameRadio.after (k : t.SameRadio u) (h : s.SameRadio t) : s.SameRadio u := h.trans k

theorem Tells.sameRadio (h : s.Tells t) : s.SameRadio t := by
  obtain ⟨-, _, _, _, _, _, _, rfl⟩ := h
  exact ⟨rfl, rfl⟩

theorem Moves.sameRadio (h : s.Moves t) : s.SameRadio t := by
  obtain ⟨-, -, _, _, _, _, _, _, _, rfl⟩ := h
  exact ⟨rfl, rfl⟩

theorem foldl_sameRadio {α : Type} {f : State → α → State} (hf : ∀ (s : State) a, s.SameRadio (f s a)) (l : List α)
    (s : State) : s.SameRadio (l.foldl f s) :=
  foldl_leaves f l .refl .trans hf s

theorem note_ite_sameRadio (s : State) (p : Prop) [Decidable p] (code : Nat) :
    s.SameRadio (if p then s.note code else s) := by
  split
  · exact (note_tells s code).sameRadio
  · exact .refl s

theorem frameLost_sameRadio (s : State) (handle : Word) (cause : Nat) : s.SameRadio (s.frameLost handle cause) := by
  simp only [frameLost]
  exact (hlEvent_tells _ _ _).sameRadio.after ((note_ite_sameRadio _ _ _).after ((note_ite_sameRadio _ _ _).after
    ⟨rfl, rfl⟩))

theorem burstBGone_sameRadio (s : State) (f : HFrame) : s.SameRadio (s.burstBGone f) := by
  simp only [burstBGone]
  split
  · exact frameLost_sameRadio _ _ _
  · exact ⟨rfl, rfl⟩

theorem cancelBs_sameRadio (s : State) : s.SameRadio s.cancelBs := by
  simp only [cancelBs]
  exact (foldl_sameRadio (fun s b => s.burstBGone_sameRadio _) _ _).after ⟨rfl, rfl⟩

theorem dropUnbegun_sameRadio (s : State) : s.SameRadio s.dropUnbegun := by
  simp only [dropUnbegun]
  split
  · split
    · exact .refl s
    · split
      · split
        · exact (burstBGone_sameRadio _ _).after ⟨rfl, rfl⟩
        · exact ⟨rfl, rfl⟩
      · exact ⟨rfl, rfl⟩
  · exact .refl s

theorem hearthReset_sameRadio (s : State) : s.SameRadio s.hearthReset := by
  refine (cancelBs_sameRadio _).after (.after ?_ s.dropUnbegun_sameRadio)
  simp only [abandonBurst]
  split <;> exact ⟨rfl, rfl⟩

/-- What is ordered of chain `c` stands: its mode, its epoch, its requests and its transition. -/
structure SameOrders (c : Fin 3) (s t : State) : Prop where
  mode : (t.chain c).mode = (s.chain c).mode
  epoch : (t.chain c).epoch = (s.chain c).epoch
  tunes : (t.chain c).tunes = (s.chain c).tunes
  gains : (t.chain c).gains = (s.chain c).gains
  trans : (t.chain c).trans = (s.chain c).trans

variable {c : Fin 3}

theorem SameOrders.refl (c : Fin 3) (s : State) : s.SameOrders c s := ⟨rfl, rfl, rfl, rfl, rfl⟩

theorem SameOrders.comp (h : SameOrders c s t) (k : SameOrders c t u) : SameOrders c s u :=
  ⟨k.mode.trans h.mode, k.epoch.trans h.epoch, k.tunes.trans h.tunes, k.gains.trans h.gains, k.trans.trans h.trans⟩

theorem SameRadio.chain (h : s.SameRadio t) (c : Nat) : t.chain c = s.chain c :=
  congrArg (fun r : Radio => vget Chain.init r.chain c) h.radio

theorem SameRadio.orders (h : s.SameRadio t) : SameOrders c s t := by
  constructor <;> rw [h.chain]

@[simp] theorem chain_setChain_self (s : State) (c : Fin 3) (x : Chain) : (s.setChain c x).chain c = x :=
  vget_vset_self c.isLt

theorem setChain_bubbles_orders (s : State) (c : Fin 3) (l : List Bubble) :
    SameOrders c s (s.setChain c { s.chain c with bubbles := l }) := by
  constructor <;> rw [chain_setChain_self]

theorem placeBubble_orders (s : State) (c : Fin 3) (kind : BubbleKind) (urgent : Bool) :
    SameOrders c s (s.placeBubble c kind urgent) :=
  (setChain_bubbles_orders s c _).comp (deliver_tells _ _ _).sameRadio.orders

theorem placeCals_orders (s : State) (c : Fin 3) : SameOrders c s (s.placeCals c) := by
  have hplace : ∀ (t : State) (p : Prop) [Decidable p] (urgent : Bool),
      SameOrders c t (if p then t.placeBubble c .synthcal urgent else t) := by
    intro t p _ urgent
    split
    · exact placeBubble_orders _ _ _ _
    · exact .refl c t
  exact (hplace s _ true).comp (hplace _ _ false)

theorem endBubbles_orders (s : State) (c : Fin 3) : SameOrders c s (s.endBubbles c) := by
  simp only [endBubbles]
  generalize hu : List.foldl _ _ _ = u
  have hdone : SameOrders c s u := (setChain_bubbles_orders s c _).comp
    (hu ▸ (foldl_tells (fun s b => s.deliver_tells _ _) _ _).sameRadio.orders)
  split
  · exact hdone
  · exact hdone.comp (u.placeCals_orders c)

end State

/-! ### RESET of a chain (R309) -/

/-- Chain `c` is asleep in its epoch, with no request and no transition. -/
structure State.Asleep (s : State) (c : Fin 3) (epoch : Nat) : Prop where
  mode : (s.chain c).mode = .sleep
  epoch : (s.chain c).epoch = epoch
  tunes : (s.chain c).tunes = []
  gains : (s.chain c).gains = []
  trans : (s.chain c).trans = none

theorem State.Asleep.of_orders {c : Fin 3} {n : Nat} (h : s.Asleep c n) (k : State.SameOrders c s t) : t.Asleep c n :=
  ⟨k.mode.trans h.mode, k.epoch.trans h.epoch, k.tunes.trans h.tunes, k.gains.trans h.gains, k.trans.trans h.trans⟩

/-- The requests of a chain aborted, and its transition given up. -/
theorem abortChain_orders (s : State) (c : Fin 3) (reason : Nat) :
    ((s.abortChain c reason).chain c).mode = (s.chain c).mode ∧
    ((s.abortChain c reason).chain c).epoch = (s.chain c).epoch ∧
    ((s.abortChain c reason).chain c).tunes = [] ∧ ((s.abortChain c reason).chain c).gains = [] ∧
    ((s.abortChain c reason).chain c).trans = none := by
  unfold State.abortChain
  extract_lets due old x clks y link z
  have hy : x.SameRadio y := by
    simp only [y]
    split
    · split <;> exact ⟨rfl, rfl⟩
    · exact .refl x
  have hz : y.SameRadio z := by
    simp only [z]
    split <;> exact ⟨rfl, rfl⟩
  rw [((hy.trans hz).trans (State.abortAll_tells z due).sameRadio).chain c, State.chain_setChain_self]
  exact ⟨rfl, rfl, rfl, rfl, rfl⟩

theorem resetChain_asleep (s : State) (c : Fin 3) :
    (s.resetChain c none).Asleep c (((s.chain c).epoch + 1) % 256) := by
  unfold State.resetChain
  extract_lets old x w y z told ended link clks
  have hx : x.chain c = { s.chain c with mode := .sleep } := by
    simp only [x]
    split
    · next h =>
      obtain rfl : c = 2 := Fin.ext h
      exact State.chain_setChain_self s 2 _
    · exact State.chain_setChain_self s c _
  have hy : y.chain c = { s.chain c with
      mode := .sleep, epoch := ((s.chain c).epoch + 1) % 256, quiet := 0, clipRun := 0, loopI := 0, loopQ := 0
      failed := (s.chain c).failed || false } := by
    simp only [y, w, State.chain_setChain_self, hx]
    rfl
  obtain ⟨hmode, hepoch, htunes, hgains, htrans⟩ := abortChain_orders y c 0
  have hz : z.Asleep c (((s.chain c).epoch + 1) % 256) :=
    ⟨hmode.trans (by rw [hy]), hepoch.trans (by rw [hy]), htunes, hgains, htrans⟩
  have hended : ended.Asleep c (((s.chain c).epoch + 1) % 256) := hz.of_orders (z.endBubbles_orders c)
  have hlink : link.Asleep c (((s.chain c).epoch + 1) % 256) := by
    simp only [link]
    split
    · exact hended.of_orders (ended.hearthReset_sameRadio.orders)
    · exact hended
  exact hlink.of_orders (State.SameRadio.orders ⟨rfl, rfl⟩)

/-- A chain reset by the host, back in service, with what its reset leaves alone (R309, R32). -/
structure State.ResetBy (s t : State) (c : Fin 3) : Prop where
  asleep : t.Asleep c (((s.chain c).epoch + 1) % 256)
  failed : (t.chain c).failed = false
  theSeal : t.theSeal = s.theSeal
  store : t.store = s.store
  supply : t.supply = s.supply

theorem hostChainReset_resetBy (s : State) (c : Fin 3) : s.ResetBy (s.hostChainReset c) c := by
  have hreset := resetChain_asleep s c
  have hside := (s.resetChain_radioSide c none).trans ((s.resetChain c none).setChain_radioSide c
    { (s.resetChain c none).chain c with failed := false })
  refine ⟨hreset.of_orders ?_, ?_, hside.theSeal, hside.store, hside.supply⟩
  · simp only [State.hostChainReset]
    constructor <;> rw [State.chain_setChain_self]
  · simp only [State.hostChainReset, State.chain_setChain_self]

/-- What a write of the control register does besides leaves the reset chain as it is. -/
theorem State.ResetBy.leaves {c : Fin 3} {u : State} (h : s.ResetBy t c) (hchain : u.chain c = t.chain c)
    (hseal : u.theSeal = t.theSeal) (hstore : u.store = t.store) (hsupply : u.supply = t.supply) : s.ResetBy u c :=
  ⟨h.asleep.of_orders (by constructor <;> rw [hchain]), (congrArg Chain.failed hchain).trans h.failed,
    hseal.trans h.theSeal, hstore.trans h.store, hsupply.trans h.supply⟩

theorem writeHrCtrl_leaves (s : State) (v : Word) : (s.writeHrCtrl v).radio.chain = s.radio.chain ∧
    (s.writeHrCtrl v).theSeal = s.theSeal ∧ (s.writeHrCtrl v).store = s.store ∧
    (s.writeHrCtrl v).supply = s.supply := by
  unfold State.writeHrCtrl
  extract_lets u
  split <;> exact ⟨rfl, rfl, rfl, rfl⟩

theorem writeChainCtrl_resetBy (a : Nat) (c : Fin 3) (hreset : v.bit 3 = true) (h2 : s.supply.dom[2] = .up) :
    s.ResetBy (s.writeChainCtrl a c v) c := by
  have hreset' := hostChainReset_resetBy s c
  simp only [State.writeChainCtrl, hreset, if_true]
  generalize s.hostChainReset c = t at *
  split
  · rw [atEdge_of_up (by rw [hreset'.supply]; exact h2)]
    exact hreset'.leaves rfl rfl rfl rfl
  · split
    · obtain ⟨hchain, hseal, hstore, hsupply⟩ := writeHrCtrl_leaves t ((v &&& 0x000F7F30#32) ||| (t.reg 0x600 &&& 7#32))
      exact hreset'.leaves (congrArg (fun m => vget Chain.init m c) hchain) hseal hstore hsupply
    · exact hreset'

theorem exec_chainReset_resetBy (c : Fin 3) (h : s.answers = true) (h2 : s.supply.dom[2] = .up)
    (h3 : s.supply.dom[3] = .up) (h4 : s.supply.dom[4] = .up) (hreset : v.bit 3 = true) :
    ∃ t, exec (.chainReset c v .good) s = .next t ∧ s.ResetBy t c :=
  ⟨_, congrArg Host.Outcome.next (busRegWrite_chainCtrl c h h3 h4), writeChainCtrl_resetBy _ c hreset h2⟩

/-! ### Write-1-to-clear registers (R296, R855) -/

/-- A write of a register whose ones clear it, past the gate. -/
theorem busRegWrite_w1c (h : s.answers = true) (hline : regLine a = some l) (hw1c : l.access = .w1c)
    (hup : s.supply.dom[(regDomain a).ctorIdx]? = some .up) (ha : a < 0xF00) :
    s.busRegWrite a v .good = s.writeOnes a v := by
  rw [State.busRegWrite_of_up h hline hup (.inl ha)]
  simp only [State.regWrite, hline, hw1c]

theorem exec_hrPaevtClear_of_up (h : s.answers = true) (h4 : s.supply.dom[4] = .up) :
    exec (.hrPaevtClear v .good) s = .next { s with radio := { s.radio with
      paflt := s.radio.paflt && !v.bit 0, clamp := s.radio.clamp && !v.bit 1
      maskref := s.radio.maskref && !v.bit 2, noseal := s.radio.noseal && !v.bit 3 } } :=
  congrArg Host.Outcome.next (busRegWrite_w1c (a := 0x603) (l := plainLine 0x603 0x603 .w1c) h (by decide) rfl
    (dom_hearth h4) (by decide))

theorem exec_laneFailedWrite_of_up (k : Fin 4) (h : s.answers = true) (h3 : s.supply.dom[3] = .up) :
    exec (.laneFailedWrite k v .good) s =
      .next (if k = 3 then s.returnSpare v else s.returnLanes (32 * k.val) v) := by
  have hline : regLine (0xB84 + k.val) = some (plainLine 0xB84 0xB87 .w1c) := by revert k; decide
  have hdom : regDomain (0xB84 + k.val) = .broadcast := by revert k; decide
  refine congrArg Host.Outcome.next ((busRegWrite_w1c h hline rfl (by rw [hdom]; exact dom_broadcast h3)
    (by omega)).trans ?_)
  fin_cases k <;> rfl

/-! ### Lanes returned to service (R855) -/

/-- The lanes are listed once each, in their order. -/
abbrev State.LanesWf (s : State) : Prop := swf Lane.init s.lanes.lane = true

theorem setLane_wf {s : State} (hwf : s.LanesWf) (n : Nat) (x : Lane) : (s.setLane n x).LanesWf := swf_sput hwf

theorem lane_setLane_self {s : State} (hwf : s.LanesWf) (n : Nat) (x : Lane) : (s.setLane n x).lane n = x :=
  sget_sput_self hwf

theorem lane_setLane_ne (s : State) {m n : Nat} (h : m ≠ n) (x : Lane) : (s.setLane n x).lane m = s.lane m :=
  sget_sput_ne h

/-- Lane `n` returned to service. -/
def State.returnLane (s : State) (n : Nat) : State :=
  s.setLane n { s.lane n with failed := false, returned := (s.lane n).under.isSome }

theorem returnLane_failed {s : State} (hwf : s.LanesWf) {m n : Nat} (h : m = n ∨ (s.lane m).failed = false) :
    ((s.returnLane n).lane m).failed = false := by
  by_cases hmn : m = n
  · subst hmn
    exact congrArg Lane.failed (lane_setLane_self hwf m _)
  · rw [State.returnLane, lane_setLane_ne s hmn]
    exact h.resolve_left hmn

/-- Lanes returned one after another: each is in service after it, and the others stand. -/
theorem foldl_returnLane (base : Nat) (l : List Nat) : ∀ s : State, s.LanesWf →
    let t := l.foldl (fun (s : State) i => s.returnLane (base + i)) s
    t = { s with lanes := t.lanes } ∧ (∀ n, (∀ i ∈ l, n ≠ base + i) → t.lane n = s.lane n) ∧
      ∀ n, (∃ i ∈ l, n = base + i) ∨ (s.lane n).failed = false → (t.lane n).failed = false := by
  induction l with
  | nil => exact fun s _ => ⟨rfl, fun _ _ => rfl, fun n h => h.elim (fun ⟨_, hi, _⟩ => absurd hi (by simp)) id⟩
  | cons i is ih =>
    intro s hwf t
    obtain ⟨hframe, hother, hfailed⟩ := ih (s.returnLane (base + i)) (setLane_wf hwf _ _)
    refine ⟨hframe.trans rfl, fun n hn => ?_, fun n hn => hfailed n ?_⟩
    · rw [← lane_setLane_ne s (hn i List.mem_cons_self) _]
      exact hother n fun j hj => hn j (List.mem_cons_of_mem _ hj)
    · rcases hn with ⟨j, hj, rfl⟩ | hn
      · rcases List.mem_cons.mp hj with rfl | hj
        · exact .inr (returnLane_failed hwf (.inl rfl))
        · exact .inl ⟨j, hj, rfl⟩
      · exact .inr (returnLane_failed hwf (.inr hn))

/-- The lanes that a word names are in service after its write, and the others stand. -/
theorem returnLanes_leaves (hwf : s.LanesWf) (base : Nat) (v : Word) :
    s.returnLanes base v = { s with lanes := (s.returnLanes base v).lanes } ∧
      (∀ n, n < 32 → v.bit n = true → ((s.returnLanes base v).lane (base + n)).failed = false) ∧
      ∀ n, (∀ m, m < 32 → v.bit m = true → n ≠ base + m) → (s.returnLanes base v).lane n = s.lane n := by
  obtain ⟨hframe, hother, hfailed⟩ := foldl_returnLane base
    ((List.range 32).filter fun i => v.bit i && (s.lane (base + i)).failed) s hwf
  refine ⟨hframe, fun n hn hbit => hfailed _ ?_, fun n hn => hother n fun i hi => ?_⟩
  · by_cases hf : (s.lane (base + n)).failed = true
    · exact .inl ⟨n, by simp [hn, hbit, hf], rfl⟩
    · exact .inr (by simpa using hf)
  · obtain ⟨hi, hb⟩ := List.mem_filter.mp hi
    exact hn i (List.mem_range.mp hi) (Bool.and_eq_true_iff.mp hb).1

end Sys2Proof.Machine
end

section
/-! PROOFS. The coefficient RAM, the spare lanes and the clocks of the host (chapters 6, 9 and 22). -/

namespace Sys2Proof.Machine

open Sys2Proof

variable {s t : State} {a n : Nat} {k : CoefSet} {v : Word} {l : RegLine}

/-! ### Spare lanes (R855) -/

theorem returnSpare_leaves (v : Word) : s.returnSpare v = { s with lanes := (s.returnSpare v).lanes } ∧
    (s.returnSpare v).lanes.lane = s.lanes.lane ∧
    (∀ n : Fin 4, (s.returnSpare v).lanes.underFailed.get n = (s.lanes.underFailed.get n && !v.bit n.val)) ∧
    ∀ n : Fin 2, (s.returnSpare v).lanes.wideFailed.get n = (s.lanes.wideFailed.get n && !v.bit (4 + n.val)) :=
  ⟨rfl, rfl, fun n => by simp [State.returnSpare, Vector.get_eq_getElem],
    fun n => by simp [State.returnSpare, Vector.get_eq_getElem]⟩

/-! ### The coefficient index (R852) -/

theorem tablesWf_iff : s.tablesWf = true ↔ regsWf s.regs = true ∧ sealWf s.theSeal.view = true ∧
    sealWf s.theSeal.otp = true ∧ s.LanesWf ∧ swf CoefSet.init s.lanes.coef = true ∧
    (s.lanes.coef.all fun e => swf 0 e.2.taps) = true := by
  simp only [State.tablesWf, Bool.and_eq_true, and_assoc, State.LanesWf]

theorem bits_coefSet (w : Word) : w.bits 4 0 = w.toNat % 32 := rfl

theorem bits_coefIndex (w : Word) : w.bits 10 5 = w.toNat / 32 % 64 :=
  congrArg (· % 64) (Nat.shiftRight_eq_div_pow w.toNat 5)

/-- The index field of a word set to an index. -/
theorem setBits_coefIndex (w : Word) {n : Nat} (h : n < 64) : (w.setBits 10 5 n).toNat / 32 % 64 = n := by
  simp only [Word.setBits, bits_coefIndex, BitVec.toNat_ofNat]
  have hw := w.isLt
  omega

theorem coefNext_lt {n : Nat} (h : n < 64) : State.coefNext n < 64 := by
  unfold State.coefNext
  split <;> omega

/-- The index after an access, and what the access leaves. -/
theorem coefMove_leaves (hwf : regsWf s.regs = true) : s.coefMove = { s with regs := s.coefMove.regs } ∧
    (s.coefMove.reg 0xB88).toNat / 32 % 64 = State.coefNext ((s.reg 0xB88).toNat / 32 % 64) := by
  refine ⟨rfl, ?_⟩
  rw [State.coefMove, State.reg_setReg_self hwf, bits_coefIndex]
  exact setBits_coefIndex _ (coefNext_lt (Nat.mod_lt _ (by decide)))

/-- A write of the coefficient RAM's registers, past the gate. -/
theorem busRegWrite_coef (h : s.answers = true) (h3 : s.supply.dom[3] = .up) (ha : a = 0xB88 ∨ a = 0xB89) :
    s.busRegWrite a v .good = s.regEffect a v := by
  rcases ha with rfl | rfl
  · exact (busRegWrite_rw h (l := rwLine 0xB88 0xB88 0x7FF#32) (by decide) rfl (dom_broadcast h3) (.inl (by decide)))
  · exact (busRegWrite_rw h (l := rwLine 0xB89 0xB89 0x3FFFF#32) (by decide) rfl (dom_broadcast h3) (.inl (by decide)))

theorem exec_laneCoefidxWrite_of_up (h : s.answers = true) (h3 : s.supply.dom[3] = .up) (hset : v.toNat % 32 < 16) :
    exec (.laneCoefidxWrite v .good) s = .next (s.setReg 0xB88 (v &&& 0x7FF)) := by
  refine congrArg Host.Outcome.next ((busRegWrite_coef h h3 (.inl rfl)).trans ?_)
  exact congrArg (s.setReg 0xB88) (if_neg (Nat.not_le.mpr hset))

theorem exec_laneCoefdatAccess_write (h : s.answers = true) (h3 : s.supply.dom[3] = .up) :
    exec (.laneCoefdatAccess (some v) .good) s = .next (s.coefWrite v) :=
  congrArg Host.Outcome.next (busRegWrite_coef h h3 (.inr rfl))

theorem exec_laneCoefdatAccess_read (h : s.answers = true) (h3 : s.supply.dom[3] = .up) :
    exec (.laneCoefdatAccess none .absent) s =
      .next { s.coefMove with bus := { s.bus with out := bytesBE 4 s.coefRead.toNat } } := by
  refine congrArg Host.Outcome.next ((busRegRead_of_up (a := 0xB89) h (l := rwLine 0xB89 0xB89 0x3FFFF#32) (by decide)
    (State.domainRefusal_of_up (dom_broadcast h3))).trans ?_)
  rfl

/-! ### The coefficient RAM (R375, R852–R854) -/

/-- The set that LANE_COEFIDX names. -/
def State.coefIdxSet (s : State) : Nat := (s.reg 0xB88).toNat % 32

/-- The entry that LANE_COEFIDX names. -/
def State.coefIdxEntry (s : State) : Nat := (s.reg 0xB88).toNat / 32 % 64

/-- A set stored: it reads as stored, and the others stand. -/
theorem coefSet_stored (hwf : swf CoefSet.init s.lanes.coef = true) (hcoef : t.lanes.coef =
    sput CoefSet.init s.lanes.coef n k) : t.coefSet n = k ∧ ∀ m, m ≠ n → t.coefSet m = s.coefSet m := by
  refine ⟨?_, fun m hm => ?_⟩ <;> simp only [State.coefSet, hcoef]
  · exact sget_sput_self hwf
  · exact sget_sput_ne hm

/-- What the default and every entry of a sparse memory satisfy, every read does. -/
theorem sget_satisfies {α : Type} {d : α} {p : α → Bool} (hd : p d = true) {m : List (Nat × α)}
    (hm : (m.all fun e => p e.2) = true) (i : Nat) : p (sget d m i) = true := by
  induction m with
  | nil => exact hd
  | cons e m ih =>
    obtain ⟨he, hrest⟩ := Bool.and_eq_true_iff.mp hm
    rw [sget]
    split
    · exact he
    · exact ih hrest

theorem coefSet_tapsWf (htaps : (s.lanes.coef.all fun e => swf 0 e.2.taps) = true) (n : Nat) :
    swf 0 (s.coefSet n).taps = true :=
  sget_satisfies (p := fun k : CoefSet => swf 0 k.taps) rfl htaps n

theorem settleLane_coef (s : State) (n : Nat) : (s.settleLane n).lanes.coef = s.lanes.coef := rfl

theorem foldl_settleLane_coef (l : List Nat) : ∀ s : State,
    (l.foldl (fun (t : State) n => t.settleLane n) s).lanes.coef = s.lanes.coef := by
  induction l with
  | nil => exact fun _ => rfl
  | cons n l ih => exact fun s => (ih (s.settleLane n)).trans (settleLane_coef s n)

theorem coefWrite_stores (hentry : s.coefIdxEntry ≤ 48)
    (hfree : s.coefNamed s.coefIdxSet = false ∨ (s.coefSet s.coefIdxSet).ecc = true) :
    s.coefWrite v = (s.coefStore s.coefIdxSet s.coefIdxEntry v).coefMove := by
  have hrefused : ¬(s.coefNamed s.coefIdxSet && !(s.coefSet s.coefIdxSet).ecc) = true := by
    rcases hfree with h | h <;> simp [h]
  simp only [State.coefWrite, bits_coefSet, bits_coefIndex]
  exact congrArg State.coefMove ((if_neg (Nat.not_lt.mpr hentry)).trans (if_neg hrefused))

theorem coefWrite_refused (hentry : s.coefIdxEntry ≤ 48)
    (hnamed : s.coefNamed s.coefIdxSet = true) (hecc : (s.coefSet s.coefIdxSet).ecc = false) :
    s.coefWrite v = { s with lanes.coefRef := satAdd 65535 s.lanes.coefRef 1 }.coefMove := by
  have hrefused : (s.coefNamed s.coefIdxSet && !(s.coefSet s.coefIdxSet).ecc) = true := by simp [hnamed, hecc]
  simp only [State.coefWrite, bits_coefSet, bits_coefIndex]
  exact congrArg State.coefMove ((if_neg (Nat.not_lt.mpr hentry)).trans (if_pos hrefused))

/-- A tap stored. -/
theorem coefStore_tap (hwf : swf CoefSet.init s.lanes.coef = true)
    (htaps : (s.lanes.coef.all fun e => swf 0 e.2.taps) = true) {n i : Nat} (hi : i < 48) :
    let t := s.coefStore n i v
    t = { s with lanes := t.lanes } ∧ sget 0 (t.coefSet n).taps i = BitVec.ofNat 32 (v.toNat % 2 ^ 18) ∧
      (t.coefSet n).ecc = (s.coefSet n).ecc ∧ (t.coefSet n).len = (s.coefSet n).len ∧
      ∀ m, m ≠ n → t.coefSet m = s.coefSet m := by
  intro t
  have ht : t = { s with lanes.coef := sput CoefSet.init s.lanes.coef n { s.coefSet n with
      taps := sput 0 (s.coefSet n).taps i (BitVec.ofNat 32 (v.bits 17 0)) } } := if_pos hi
  obtain ⟨hset, hother⟩ := coefSet_stored (t := t) hwf (by rw [ht])
  refine ⟨by rw [ht], ?_, ?_, ?_, hother⟩ <;> rw [hset]
  exact sget_sput_self (coefSet_tapsWf htaps n)

/-- L stored, which ends the flag of a double-bit error. -/
theorem coefStore_len (hwf : swf CoefSet.init s.lanes.coef = true) (n : Nat) :
    let t := s.coefStore n 48 v
    (t.coefSet n).len = State.coefLenOf v ∧ (t.coefSet n).ecc = false ∧ (t.coefSet n).taps = (s.coefSet n).taps ∧
      ∀ m, m ≠ n → t.coefSet m = s.coefSet m := by
  intro t
  have hcoef : t.lanes.coef = sput CoefSet.init s.lanes.coef n { s.coefSet n with
      len := State.coefLenOf v, ecc := false } := by
    simp only [t, State.coefStore, Nat.lt_irrefl, if_false]
    split
    · exact foldl_settleLane_coef _ _
    · rfl
  obtain ⟨hset, hother⟩ := coefSet_stored hwf hcoef
  refine ⟨?_, ?_, ?_, hother⟩ <;> rw [hset]

/-! ### Sweeps, commits and clocks (R334, R347, R794) -/

theorem startSweep_leaves (mask n : Nat) (id : Option Nat) :
    (s.startSweep mask n id).clk = { s.clk with sweep := some ⟨mask, id, n,
      (s.clk.table.filter fun e => mask.testBit e.2.chain).map (·.1), 0, 0⟩ } ∧
      (s.startSweep mask n id).theSeal = s.theSeal := by
  have hrecord : ∀ u : State, u.Journals u.sweepRecord := fun u => by
    simp only [State.sweepRecord]
    split
    · exact (u.checkEnergy_journals 40).trans (State.journalPut_journals _ _ _ _)
    · exact u.checkEnergy_journals 40
  obtain ⟨j, q, n', e, htells⟩ := hrecord { s with clk.sweep := some ⟨mask, id, n,
      (s.clk.table.filter fun e => mask.testBit e.2.chain).map (·.1), 0, 0⟩ }
  exact ⟨htells.clk, htells.keeps.1⟩

theorem busRegWrite_calCtrl (h : s.answers = true) (h2 : s.supply.dom[2] = .up) :
    s.busRegWrite 0x410 v .good = s.writeCalCtrl v :=
  busRegWrite_rw h (a := 0x410) (l := ⟨0x410, 0x410, .rw, false, false, 0x001C011F#32, 0x00030000#32⟩) (by decide) rfl
    (dom_bench h2) (.inl (by decide))

theorem busRegWrite_clkCtrl (h : s.answers = true) : s.busRegWrite 0x400 v .good = s.writeClkCtrl v :=
  busRegWrite_wo h (a := 0x400) (l := plainLine 0x400 0x400 .wo) (by decide) rfl rfl
    (dom_host_of_answers h) (.inl (by decide))

theorem exec_calSweep_of_up (h : s.answers = true) (h2 : s.supply.dom[2] = .up) (hsweep : v.bit 17 = true)
    (hmask : v.toNat / 2 ^ 18 % 8 ≠ 0) (hfree : s.sweepable (v.toNat / 2 ^ 18 % 8) = true) :
    exec (.calSweep v .good) s =
      .next ((s.setReg 0x410 (v &&& 0x001C011F#32)).startSweep (v.toNat / 2 ^ 18 % 8) 0 none) := by
  have hbits : v.bits 20 18 = v.toNat / 2 ^ 18 % 8 := congrArg (· % 8) (Nat.shiftRight_eq_div_pow v.toNat 18)
  refine congrArg Host.Outcome.next ((busRegWrite_calCtrl h h2).trans ?_)
  simp only [State.writeCalCtrl, hsweep, if_true, hbits]
  exact if_pos ⟨hmask, hfree⟩

theorem startCommit_of_energy (hidle : s.store.commit = .idle) (henergy : 2040 ≤ s.energy) :
    s.startCommit = { s with store := { s.store with need := 2000, commit := .erase } } := by
  rw [State.startCommit, if_neg (not_not.mpr hidle), State.checkEnergy_of_energy henergy]
  rfl

theorem exec_calCommit_of_up (h : s.answers = true) (h2 : s.supply.dom[2] = .up) (hsweep : v.bit 17 = false)
    (hcommit : v.bit 16 = true) (hnone : s.clk.sweep = none) (hidle : s.store.commit = .idle)
    (henergy : 2040 ≤ s.energy) : exec (.calCommit v .good) s =
      .next { s.setReg 0x410 (v &&& 0x001C011F#32) with
        store := { s.store with need := 2000, commit := .erase } } := by
  refine congrArg Host.Outcome.next ((busRegWrite_calCtrl h h2).trans ?_)
  rw [State.writeCalCtrl, if_neg (by simp [hsweep])]
  refine (if_pos ?_).trans (startCommit_of_energy (s := s.setReg 0x410 (v &&& 0x001C011F#32)) hidle henergy)
  show (v.bit 16 && s.clk.sweep.isNone) = true
  rw [hcommit, hnone]
  rfl

theorem exec_sysrestart_of_up (h : s.answers = true) (hsys : v.bit 0 = true) (hsck : v.bit 1 = false)
    (hlock : s.clk.sysLock = false) :
    exec (.sysrestart v .good) s = .next { s with clk := { s.clk with sysLost := false } } := by
  refine congrArg Host.Outcome.next ((busRegWrite_clkCtrl h).trans ?_)
  simp only [State.writeClkCtrl, hsys, hsck, hlock, Bool.not_false, Bool.and_self, Bool.false_and, if_true,
    Bool.false_eq_true, if_false]

theorem exec_sckrestart_of_up (h : s.answers = true) (hsys : v.bit 0 = false) (hsck : v.bit 1 = true)
    (hlock : s.clk.sckLock = false) :
    exec (.sckrestart v .good) s = .next { s with clk := { s.clk with sckLost := false } } := by
  refine congrArg Host.Outcome.next ((busRegWrite_clkCtrl h).trans ?_)
  simp only [State.writeClkCtrl, hsys, hsck, hlock, Bool.not_false, Bool.and_self, Bool.false_and, if_true,
    Bool.false_eq_true, if_false]

/-- STOP of HL_CTRL waits for the slot (R539). -/
theorem exec_hlCtrlStop_of_up (h : s.answers = true) (h2 : s.supply.dom[2] = .up) (h4 : s.supply.dom[4] = .up)
    (hstop : v.bit 0 = true) (hmode : s.hearth.mode ≠ .stopped) : exec (.hlCtrlStop v .good) s =
      .next { s with hearth := { s.hearth with stopping := s.hearth.stopping ++ [0] },
                     regWrites := s.regWrites ++ [⟨0x608, v, s.last.edge⟩] } := by
  refine congrArg Host.Outcome.next ((busRegWrite_rw h (a := 0x608)
    (l := ⟨0x608, 0x608, .rw, true, false, 0x1F0#32, 1#32⟩) (by decide) rfl (dom_hearth h4) (.inl
    (by decide))).trans ?_)
  show (if v.bit 0 then s.hostStopsLink else s).atEdge 0x608 v = _
  rw [if_pos hstop, State.hostStopsLink, if_neg hmode]
  exact atEdge_of_up h2

end Sys2Proof.Machine
end

section
/-! PROOFS. The writes of lane registers at their edge (chapter 9). -/

namespace Sys2Proof.Machine

open Sys2Proof

variable {s t u : State} {a n e : Nat} {v : Word}

/-! ### What leaves the setting of every lane (R381) -/

/-- What a lane is assigned as, the stage fields of its fades, and its epoch. -/
def Lane.core (x : Lane) : LaneUse × Preset × Nat × Nat × Nat × Nat × Nat :=
  (x.use, x.preset, x.centre, x.xf, x.setA, x.setB, x.epoch)

/-- The lanes stay listed once each; whatever else differs of them, the core of each stands. -/
def State.SameCores (s t : State) : Prop :=
  s.LanesWf → t.LanesWf ∧ ∀ n, (t.lane n).core = (s.lane n).core

namespace State

theorem SameCores.refl (s : State) : s.SameCores s := fun hwf => ⟨hwf, fun _ => rfl⟩

theorem SameCores.trans (h : s.SameCores t) (k : t.SameCores u) : s.SameCores u := fun hwf =>
  ⟨(k (h hwf).1).1, fun n => ((k (h hwf).1).2 n).trans ((h hwf).2 n)⟩

/-- `trans`, told from the later step. -/
theorem SameCores.after (k : t.SameCores u) (h : s.SameCores t) : s.SameCores u := h.trans k

theorem SameCores.of_lane (h : t.lanes.lane = s.lanes.lane) : s.SameCores t := fun hwf =>
  ⟨by rw [LanesWf, h]; exact hwf, fun n => by simp only [State.lane, h]⟩

theorem Tells.sameCores (h : s.Tells t) : s.SameCores t := .of_lane (congrArg _ h.lanes)

/-- A lane rewritten with its core. -/
theorem setLane_sameCores {x : Lane} (hcore : x.core = (s.lane n).core) : s.SameCores (s.setLane n x) := fun hwf => by
  refine ⟨setLane_wf hwf n x, fun m => ?_⟩
  by_cases hm : m = n
  · subst hm
    rw [lane_setLane_self hwf]
    exact hcore
  · rw [lane_setLane_ne s hm]

theorem foldl_sameCores {α : Type} {f : State → α → State} (hf : ∀ (s : State) a, s.SameCores (f s a)) (l : List α)
    (s : State) : s.SameCores (l.foldl f s) :=
  foldl_leaves f l .refl .trans hf s

theorem settleLane_sameCores (s : State) (n : Nat) : s.SameCores (s.settleLane n) := setLane_sameCores rfl

theorem stopSlewing_sameCores (s : State) (n : Nat) : s.SameCores (s.stopSlewing n) := setLane_sameCores rfl

theorem dropSplice_sameCores (s : State) (sp : Splice) : s.SameCores (s.dropSplice sp) := by
  simp only [dropSplice]
  split
  · exact .of_lane rfl
  · have hslews := (stopSlewing_sameCores { s with follow.splices := s.follow.splices.filter fun x => x.id != sp.id }
      (fieldBE sp.blk 1 1)).trans (stopSlewing_sameCores _ (fieldBE sp.blk 2 1))
    exact (hslews.after (.of_lane rfl)).trans (.of_lane rfl)

theorem abandonedSplice_sameCores (s : State) : s.SameCores s.abandonedSplice := by
  simp only [abandonedSplice]
  exact (note_tells _ _).sameCores.after (.of_lane rfl)

theorem abandonSplice_sameCores (s : State) (sp : Splice) (status reason : Nat) :
    s.SameCores (s.abandonSplice sp status reason) :=
  ((s.dropSplice_sameCores sp).trans (abandonedSplice_sameCores _)).trans (reply_tells _ _ _ _ _).sameCores

theorem finishSplice_sameCores (s : State) (sp : Splice) : s.SameCores (s.finishSplice sp) := by
  simp only [finishSplice, spliceReply]
  exact (reply_tells _ _ _ _ _).sameCores.after ((radioFor_tells _ _ _ _).sameCores.after (.of_lane rfl))

theorem carrierGone_sameCores (s : State) (carrier : Nat) : s.SameCores (s.carrierGone carrier) := by
  simp only [carrierGone, endFades]
  refine (foldl_sameCores finishSplice_sameCores _ _).after ((foldl_sameCores
    (fun s sp => s.abandonSplice_sameCores sp _ _) _ _).after
    ((foldl_tells (fun s q => s.reply_tells _ _ _ _) _ _).sameCores.after (.of_lane rfl)))

theorem dropCarrier_sameCores (s : State) (carrier : Nat) : s.SameCores (s.dropCarrier carrier) := by
  simp only [dropCarrier]
  generalize hlost : List.foldl _ s _ = u
  have hu : s.SameCores u :=
    hlost ▸ foldl_sameCores (fun s sp => (s.dropSplice_sameCores sp).trans (abandonedSplice_sameCores _)) _ s
  exact hu.trans (.of_lane rfl)

theorem endCapture_sameCores (s : State) (n : Nat) : s.SameCores (s.endCapture n) := by
  simp only [endCapture]
  split <;> exact .of_lane rfl

theorem setDelta_sameCores (s : State) (n delta : Nat) (slewing : Bool) : s.SameCores (s.setDelta n delta slewing) := by
  simp only [setDelta]
  have hset : s.SameCores (s.setLane n { s.lane n with
      delta := delta, slewing := slewing, delayBlocks := Nat.min (s.lane n).delayBlocks ((delta + 65535) / 65536) }) :=
    setLane_sameCores rfl
  exact hset.trans (.of_lane rfl)

theorem retuneLane_sameCores {x : Lane} (hcore : x.core = (s.lane n).core) (word : Word) :
    s.SameCores (s.retuneLane n x word) := by
  simp only [retuneLane]
  split
  · exact (setLane_sameCores (by exact hcore)).trans (settleLane_sameCores _ n)
  · exact setLane_sameCores (by exact hcore)

/-- A lane freed is FREE. -/
theorem freeLane_use (hwf : s.LanesWf) (n : Nat) : ((s.freeLane n).lane n).use = .free := by
  simp only [freeLane]
  generalize hu : (State.setLane _ n _ : State) = w
  have hw : w.LanesWf ∧ (w.lane n).use = .free := by
    rw [← hu]
    exact ⟨setLane_wf hwf n _, congrArg Lane.use (lane_setLane_self (s := s.returnShared _) hwf n _)⟩
  obtain ⟨hwf', huse⟩ := hw
  have hgone : ∀ x : State, x.lanes.lane = w.lanes.lane →
      (((((x.carrierGone n).poLost n).dropPartials n).endCapture n).lane n).use = .free := fun x hx => by
    have hsame : w.SameCores ((((x.carrierGone n).poLost n).dropPartials n).endCapture n) :=
      (endCapture_sameCores _ n).after (((carrierGone_sameCores x n).trans (.of_lane rfl)).after (.of_lane hx))
    exact (congrArg Prod.fst ((hsame hwf').2 n)).trans huse
  exact hgone _ (by rfl)

end State

/-! ### The writes of one lane register (R839, R850) -/

/-- One lane register written, and no lane request waiting: the write takes effect. -/
theorem exec_laneApplyEdge_of_write {lane off : Nat} (hreqs : u.lanes.reqs = [])
    (hwrites : u.regWrites = [⟨0x800 + 8 * lane + off, v, e⟩]) (hlane : lane < 94) (hoff : off < 8)
    (hedge : e < u.last.edge) :
    exec .laneApplyEdge u = .next ({ u with regWrites := [] }.writeLane lane off v).watchSource := by
  have hdiv : (2048 + 8 * lane + off - 2048) / 8 = lane := by omega
  have hmod : (2048 + 8 * lane + off) % 8 = off := by omega
  have haddr : 2048 + 8 * lane + off < 2864 := by omega
  have haddr' : 2048 ≤ 2048 + 8 * lane + off := by omega
  show execLaneApplyEdge u = _
  have hlanes : ({ u.lanes with reqs := [] } : Lanes) = u.lanes := by rw [← hreqs]
  simp only [execLaneApplyEdge, hreqs, List.filter_nil, List.foldl_nil, hwrites]
  simp only [haddr, haddr', hedge, hdiv, hmod, State.laneWritable, hlane, decide_true, Bool.and_self, Bool.true_or,
    List.filter_cons_of_pos, List.filter_nil, Bool.not_true, Bool.false_eq_true, not_false_eq_true,
    List.filter_cons_of_neg, List.foldl_cons, List.foldl_nil, if_true]
  exact congrArg (fun x => Host.Outcome.next ({ u with lanes := x, regWrites := [] }.writeLane lane off v).watchSource)
    hlanes

/-- A lane that runs is released by EN (R850). -/
theorem writeCtrl_frees (hwf : s.LanesWf) (hen : v.bit 0 = false) (hrun : (s.lane n).use = .run) :
    ((s.writeCtrl n v).lane n).use = .free := by
  rw [State.writeCtrl, if_neg (by simp [hrun]), if_neg (by simp [hen])]
  exact State.freeLane_use hwf n

theorem bindLane_preset {x z : Lane} (h : s.bindLane x = some z) : z.preset = x.preset := by
  unfold State.bindLane at h
  split at h
  · rw [← Option.some.inj h]
  · split at h
    · split at h
      · exact absurd h nofun
      · obtain ⟨i, -, rfl⟩ := Option.map_eq_some_iff.mp h
        rfl
    · rw [← Option.some.inj h]

theorem settleLane_self (hwf : s.LanesWf) (n : Nat) : (s.settleLane n).lane n = { s.lane n with
    settle := s.settleCount (s.lane n)
    sig := { (s.lane n).sig with
      branch := (s.lane n).sig.branch.map fun (b : Branch) => { b with raw := s.firSettle (s.lane n) } } } :=
  lane_setLane_self hwf n _

/-- A lane as it starts, but for what an FM preset brings. -/
def State.started (s : State) (x : Lane) (word : Word) : Lane :=
  { State.cleared x with
    use := .run, bankB := false, nco := word, epoch := (x.epoch + 1) % 256, branches := s.branchesOf x }

theorem startLane_of_notFm {x : Lane} (hpreset : x.preset.isFm = false) (word : Word) :
    s.startLane n x word = (s.setLane n (s.started x word)).settleLane n := by
  have hfm : ¬(s.started x word).preset.isFm = true := by rw [show (s.started x word).preset = x.preset from rfl]; simpa
  show (if (if (s.started x word).preset.isFm then _ else s.started x word).preset.isFm then State.setFm _ _ _ else
    (s.setLane n (if (s.started x word).preset.isFm then _ else s.started x word)).settleLane n) = _
  rw [if_neg hfm, if_neg hfm]

/-- A lane that starts, and is of no FM preset, runs with a new epoch and its word. -/
theorem startLane_runs (hwf : s.LanesWf) {x : Lane} (hpreset : x.preset.isFm = false) (word : Word) :
    let y := (s.startLane n x word).lane n
    y.use = .run ∧ y.preset = x.preset ∧ y.centre = x.centre ∧ y.nco = word ∧ y.epoch = (x.epoch + 1) % 256 := by
  rw [startLane_of_notFm hpreset, settleLane_self (setLane_wf hwf n _), lane_setLane_self hwf]
  exact ⟨rfl, rfl, rfl, rfl, rfl⟩

/-- EN assigns a FREE lane (R850). -/
theorem writeCtrl_assigns {z y : Lane} (hen : v.bit 0 = true) (hfree : (s.lane n).use = .free)
    (hbind : (s.setLane n { s.lane n with hold := v.bit 1, reson := v.bit 2 }).bindLane
      { s.lane n with hold := v.bit 1, reson := v.bit 2, preset := .custom } = some z)
    (hy : y = { z with centre := s.centreOf z }) (hstages : s.stagesOk y = true) (hbranches : s.branchesOf y ≠ 0) :
    s.writeCtrl n v = (s.setLane n { s.lane n with hold := v.bit 1, reson := v.bit 2 }).startLane n y z.nco := by
  subst hy
  rw [State.writeCtrl, if_pos hfree]
  simp only [hen, if_true]
  rw [hbind]
  refine if_pos ?_
  rw [Bool.and_eq_true_iff]
  exact ⟨hstages, bne_iff_ne.mpr hbranches⟩

/-- The lane that EN assigns runs as CUSTOM, with its registers' centre and word and its next epoch (R850). -/
theorem writeCtrl_runs (hwf : s.LanesWf) {z y : Lane} (hen : v.bit 0 = true) (hfree : (s.lane n).use = .free)
    (hbind : (s.setLane n { s.lane n with hold := v.bit 1, reson := v.bit 2 }).bindLane
      { s.lane n with hold := v.bit 1, reson := v.bit 2, preset := .custom } = some z)
    (hy : y = { z with centre := s.centreOf z }) (hstages : s.stagesOk y = true) (hbranches : s.branchesOf y ≠ 0) :
    let w := (s.writeCtrl n v).lane n
    w.use = .run ∧ w.preset = .custom ∧ w.centre = y.centre ∧ w.nco = z.nco ∧ w.epoch = (z.epoch + 1) % 256 := by
  have hpreset : y.preset = .custom := (congrArg Lane.preset hy).trans (bindLane_preset hbind)
  have hepoch : y.epoch = z.epoch := by rw [hy]
  intro w
  simp only [w, writeCtrl_assigns hen hfree hbind hy hstages hbranches]
  obtain ⟨huse, hpre, hcentre, hnco, hep⟩ := startLane_runs (n := n) (setLane_wf hwf n
    { s.lane n with hold := v.bit 1, reson := v.bit 2 }) (x := y) (by rw [hpreset]; rfl) z.nco
  exact ⟨huse, hpre.trans hpreset, hcentre, hnco, hep.trans (by rw [hepoch])⟩

/-- A fade begins with a length that is not 0 (R358). -/
theorem startFade_fades (hwf : s.LanesWf) {k : Nat} (hk : 0 < k) : ((s.startFade n k).lane n) =
    { s.lane n with xf := k, fading := true, sig := { (s.lane n).sig with fadeK := 0 } } := by
  rw [State.startFade, if_neg (Nat.ne_of_gt hk)]
  exact lane_setLane_self hwf n _

/-- What a MODIFY does beyond setting its lane leaves the cores of all. -/
theorem modifyLane_sameCores (s : State) (n : Nat) (x : Lane) (word : Option Word) :
    (s.setLane n (Lane.clearStages (s.lane n) { x with branches := s.branchesOf x })).SameCores
      (s.modifyLane n x word) := by
  unfold State.modifyLane
  extract_lets old y moved settles w t t₁ t₂ t₃
  have ht₁ : t.SameCores t₁ := by
    simp only [t₁]
    split
    · exact .refl t
    · exact (State.setDelta_sameCores t n 0 false).trans (State.stopSlewing_sameCores _ n)
  have ht₂ : t₁.SameCores t₂ := State.retuneLane_sameCores rfl w
  have ht₃ : t₂.SameCores t₃ := by
    simp only [t₃]
    split
    · exact State.settleLane_sameCores t₂ n
    · exact .refl t₂
  refine ((ht₁.trans ht₂).trans ht₃).trans ?_
  split
  · split
    · exact .of_lane rfl
    · exact .refl t₃
  · exact .refl t₃

/-- A MODIFY leaves its lane with the core asked for. -/
theorem modifyLane_core (hwf : s.LanesWf) (x : Lane) (word : Option Word) :
    (s.modifyLane n x word).LanesWf ∧ ((s.modifyLane n x word).lane n).core = x.core := by
  obtain ⟨hwf', hcore⟩ := modifyLane_sameCores s n x word (setLane_wf hwf n _)
  refine ⟨hwf', (hcore n).trans ?_⟩
  rw [lane_setLane_self hwf]
  rfl

/-- FADE of a lane that runs begins a cross-fade of its length to its sets (R358). -/
theorem writeLane_fades (hwf : s.LanesWf) (hfade : v.bit 11 = true) (hrun : (s.lane n).use = .run)
    (hidle : (s.lane n).fading = false)
    (hstages : s.stagesOk { s.lane n with setA := v.toNat % 32, setB := v.toNat / 32 % 32 } = true)
    (hpos : 0 < v.toNat / 65536 % 8192) (hmax : v.toNat / 65536 % 8192 ≤ 4096) :
    let y := (s.writeLane n 3 v).lane n
    y.fading = true ∧ y.xf = v.toNat / 65536 % 8192 ∧ y.setA = v.toNat % 32 ∧ y.setB = v.toNat / 32 % 32 := by
  have hxf : Nat.min 4096 (v.bits 28 16) = v.toNat / 65536 % 8192 := by
    rw [Word.bits, Nat.shiftRight_eq_div_pow]
    exact Nat.min_eq_right hmax
  have hsetB : v.bits 9 5 = v.toNat / 32 % 32 := congrArg (· % 32) (Nat.shiftRight_eq_div_pow v.toNat 5)
  let z : Lane := { s.lane n with xf := Nat.min 4096 (v.bits 28 16), setA := v.bits 4 0, setB := v.bits 9 5 }
  have hwrite : s.writeLane n 3 v =
      (s.modifyLane n z none).startFade n ((s.modifyLane n z none).lane n).xf := by
    have hput : (if (s.lane n).use = .free then s.setLane n z else if s.stagesOk z then s.modifyLane n z none else
        s.setLane n { s.lane n with xf := Nat.min 4096 (v.bits 28 16) }) = s.modifyLane n z none := by
      rw [if_neg (by rw [hrun]; decide)]
      exact if_pos (by rw [← hstages, ← hsetB]; rfl)
    have hbegin : (v.bit 11 && (s.lane n).use == .run && !(s.lane n).fading) = true := by
      rw [hfade, hrun, hidle]
      rfl
    show (if (v.bit 11 && (s.lane n).use == .run && !(s.lane n).fading) = true then State.startFade
      (if (s.lane n).fading then _ else _) n (State.lane (if (s.lane n).fading then _ else _) n).xf else _) = _
    rw [if_pos hbegin, if_neg (by rw [hidle]; decide), hput]
  obtain ⟨hwf', hcore⟩ := modifyLane_core hwf (n := n) z none
  simp only [Lane.core, Prod.mk.injEq] at hcore
  obtain ⟨-, -, -, hxf', hsetA, hsetB', -⟩ := hcore
  have hfaded := startFade_fades hwf' (n := n) (k := ((s.modifyLane n z none).lane n).xf)
    (by rw [hxf', show z.xf = _ from hxf]; exact hpos)
  rw [← hwrite] at hfaded
  intro y
  simp only [y, hfaded]
  exact ⟨trivial, hxf'.trans hxf, hsetA, hsetB'.trans hsetB⟩

end Sys2Proof.Machine
end

section
/-! PROOFS. The writes of chain, decoder and infrared registers at their edge, and the register rows of the radio
(chapters 7, 12, 14 and 22). -/

namespace Sys2Proof.Machine

open Sys2Proof

variable {s t u : State} {a n e : Nat} {v : Word}

namespace State

/-! ### What the lanes' part of a new span leaves of the chains (R361, R362) -/

theorem dropSplice_sameRadio (s : State) (sp : Splice) : s.SameRadio (s.dropSplice sp) := by
  simp only [dropSplice]
  split <;> exact ⟨rfl, rfl⟩

theorem abandonSplice_sameRadio (s : State) (sp : Splice) (status reason : Nat) :
    s.SameRadio (s.abandonSplice sp status reason) := by
  refine (reply_tells _ _ _ _ _).sameRadio.after (.after ?_ (s.dropSplice_sameRadio sp))
  simp only [abandonedSplice]
  exact (note_tells _ _).sameRadio.after ⟨rfl, rfl⟩

theorem finishSplice_sameRadio (s : State) (sp : Splice) : s.SameRadio (s.finishSplice sp) := by
  simp only [finishSplice, spliceReply]
  exact (reply_tells _ _ _ _ _).sameRadio.after ((radioFor_tells _ _ _ _).sameRadio.after ⟨rfl, rfl⟩)

theorem carrierGone_sameRadio (s : State) (carrier : Nat) : s.SameRadio (s.carrierGone carrier) := by
  simp only [carrierGone, endFades]
  refine (foldl_sameRadio finishSplice_sameRadio _ _).after ((foldl_sameRadio
    (fun s sp => s.abandonSplice_sameRadio sp _ _) _ _).after
    ((foldl_tells (fun s q => s.reply_tells _ _ _ _) _ _).sameRadio.after ⟨rfl, rfl⟩))

theorem freeLane_sameRadio (s : State) (n : Nat) : s.SameRadio (s.freeLane n) := by
  simp only [freeLane]
  have hcapture : ∀ u : State, u.SameRadio (u.endCapture n) := fun u => by
    simp only [endCapture]
    split <;> exact ⟨rfl, rfl⟩
  refine (hcapture _).after (SameRadio.after (t := State.carrierGone _ n) ⟨rfl, rfl⟩
    ((carrierGone_sameRadio _ n).after ⟨rfl, rfl⟩))

theorem setDabMode_sameRadio (s : State) (d : Nat) (m : DabMode) : s.SameRadio (s.setDabMode d m) := by
  simp only [setDabMode]
  split
  · exact (raise_tells _ _ _ _).sameRadio.after ⟨rfl, rfl⟩
  · exact ⟨rfl, rfl⟩

theorem stopDecoder_sameRadio (s : State) (d : Nat) : s.SameRadio (s.stopDecoder d) := by
  simp only [stopDecoder]
  generalize hids : List.foldl _ _ _ = u
  have hu : s.SameRadio u :=
    hids ▸ (foldl_tells (fun s _ => s.dabReply_tells _ _ _ _ _ _) _ _).sameRadio.after ⟨rfl, rfl⟩
  refine hu.trans ((carrierGone_sameRadio _ _).after ((setDabMode_sameRadio _ d _).after ?_))
  split
  · exact .refl u
  · exact freeLane_sameRadio u _

theorem retuneLane_sameRadio (s : State) (n : Nat) (x : Lane) (word : Word) : s.SameRadio (s.retuneLane n x word) := by
  simp only [retuneLane]
  split <;> exact ⟨rfl, rfl⟩

theorem respanLanes_sameRadio (s : State) : s.SameRadio s.respanLanes := by
  refine foldl_sameRadio (fun s n => ?_) _ s
  dsimp only
  have hlost : s.SameRadio ((s.freeLane n).laneLost n 1) :=
    (freeLane_sameRadio s n).trans (deliver_tells _ _ _).sameRadio
  split
  · split
    · split
      · exact (hlost.trans (stopDecoder_sameRadio _ _)).trans (dabSync_tells _ _).sameRadio
      · exact hlost
    · exact retuneLane_sameRadio s n _ _
  · exact .refl s

theorem lastEvt_sameRadio (s : State) (k : Nat) : s.SameRadio (s.lastEvt k) := by
  simp only [lastEvt]
  exact (alert_tells _ 6).sameRadio.after ⟨rfl, rfl⟩

theorem watchSource_sameRadio (s : State) : s.SameRadio s.watchSource := by
  simp only [watchSource]
  split
  · exact .refl s
  · simp only [moveTo]
    split
    · exact .refl s
    · split
      · exact (lastLoss_tells _ _ _ _).sameRadio.after ((note_tells _ _).sameRadio.after
        ((lastEvt_sameRadio _ _).after ⟨rfl, rfl⟩))
      · split
        · exact (lastLoss_tells _ _ _ _).sameRadio.after ⟨rfl, rfl⟩
        · exact ⟨rfl, rfl⟩

end State

/-! ### The writes of one chain register (R269, R839, R840) -/

/-- A chain with no tune left waiting: only the marks of what it gives may differ. -/
theorem setChain_untuned (c : Fin 3) (htunes : (u.chain c).tunes = []) :
    ∃ h, u.setChain c { u.chain c with tunes := [] } = { u with radio := { u.radio with heard := h } } := by
  have hx : ({ u.chain c with tunes := [] } : Chain) = u.radio.chain[c.val] := by
    rw [← htunes]
    exact dif_pos c.isLt
  have hset : vset u.radio.chain c u.radio.chain[c.val] = u.radio.chain := by
    rw [vset, dif_pos c.isLt, Vector.set_getElem_self]
  refine ⟨vset u.radio.heard c (markHeard (vget [] u.radio.heard c) (u.last.edge * 65536) u.radio.chain[c.val]), ?_⟩
  simp only [hx, State.setChain, State.setChainAt, hset]

/-- One chain register written, and no tune waiting: the write takes effect. -/
theorem exec_chainTuneApply_of_write (c : Fin 3) (htunes : (u.chain c).tunes = []) (hwrites : u.regWrites = [⟨a, v, e⟩])
    (hchain : State.chainOfReg a = some c.val) (hedge : e < u.last.edge) : ∃ h, exec (.chainTuneApply c) u =
      .next ({ u with radio := { u.radio with heard := h }, regWrites := [] }.chainWrite ⟨a, v, e⟩).watchSource := by
  obtain ⟨h, hset⟩ := setChain_untuned c htunes
  refine ⟨h, ?_⟩
  show execChainTuneApply c u = _
  simp only [execChainTuneApply, htunes, List.filter_nil, List.foldl_nil, hset, State.chainWrites, hwrites]
  simp [hchain, hedge]

/-- BR_MODE takes the mode (R840). -/
theorem writeBrMode_takes (hmode : v.toNat % 4 < 2) (hradio : s.radio.mode ≠ 2) :
    (s.writeBrMode v).radio.mode = v.toNat % 4 ∧ (s.writeBrMode v).regWrites = s.regWrites := by
  have hwrite : s.writeBrMode v =
      State.respanLanes { s.setReg 0x540 (v &&& 0x0000FF04#32) with
        radio := { s.radio with mode := v.toNat % 4 } } :=
    if_pos ⟨hmode, hradio⟩
  obtain ⟨hsame, hwrites⟩ := State.respanLanes_sameRadio
    { s.setReg 0x540 (v &&& 0x0000FF04#32) with radio := { s.radio with mode := v.toNat % 4 } }
  rw [hwrite, hsame, hwrites]
  exact ⟨rfl, rfl⟩

/-- STATE orders the chain (R269). -/
theorem hostChainState_orders (c : Fin 3) {k : Nat} (hk : k ≤ 3) (howned : s.hrOwned c = false)
    (hfailed : (s.chain c).failed = false) (hbusy : s.chainBusy c = false)
    (hmode : (s.chain c).mode ≠ State.modeOfCode k) : s.hostChainState c k = s.setChain c { s.chain c with
      trans := some ⟨State.modeOfCode k, 4, none, s.entersCold c (State.modeOfCode k), false, s.last.edge⟩ } := by
  rw [State.hostChainState, if_neg (by simp [hk, howned, hfailed, hbusy]), State.orderState, if_neg hmode]

theorem chainOfReg_chainCtrlReg (c : Fin 3) : State.chainOfReg (chainCtrlReg c) = some c.val := by
  revert c
  decide

/-- A write of the register that holds a chain's STATE. -/
theorem chainWrite_state (c : Fin 3) : ∃ r p, s.chainWrite ⟨chainCtrlReg c, v, e⟩ =
    State.hostChainState { s with regs := r, radio := { s.radio with pinAntsel := p } } c (v.toNat % 8) := by
  match c with
  | 0 =>
    have hwrite : s.chainWrite ⟨0x500, v, e⟩ = (s.setReg 0x500 (v &&& 7#32)).hostChainState 0 (v.bits 2 0) := by
      simp [State.chainWrite]
    exact ⟨_, s.radio.pinAntsel, hwrite⟩
  | 1 =>
    have hwrite : s.chainWrite ⟨0x520, v, e⟩ = (s.setReg 0x520 (v &&& 7#32)).hostChainState 1 (v.bits 2 0) := by
      simp [State.chainWrite]
    exact ⟨_, s.radio.pinAntsel, hwrite⟩
  | 2 =>
    show ∃ r p, (s.writeHrCtrl (v &&& 0x000F7F37#32)).hostChainState 2 (v.toNat % 8) = _
    rw [State.writeHrCtrl]
    split
    · exact ⟨_, s.radio.pinAntsel, rfl⟩
    · exact ⟨_, _, rfl⟩

/-! ### The writes of a decoder and of infrared (R32, R603, R610) -/

/-- One register written that is of no lane and no chain: the write takes effect. -/
theorem edgeWrites_of_write (hwrites : u.regWrites = [⟨a, v, e⟩]) (hchain : State.chainOfReg a = none)
    (hlane : a < 0x800 ∨ 0xB30 ≤ a) (hedge : e < u.last.edge) :
    u.edgeWrites = { u with regWrites := [] }.regEffect a v := by
  have hout : (decide (0x800 ≤ a) && decide (a < 0xB30)) = false := by
    rw [Bool.and_eq_false_iff, decide_eq_false_iff_not, decide_eq_false_iff_not]
    omega
  simp only [State.edgeWrites, hwrites]
  simp only [hchain, hedge, hout, decide_true, Option.isNone_none, Bool.and_self, Bool.not_false,
    List.filter_cons_of_pos, List.filter_nil, Bool.not_true, Bool.false_eq_true, not_false_eq_true,
    List.filter_cons_of_neg, List.foldl_cons, List.foldl_nil]

theorem chainOfReg_dabCtrl (d : Fin 2) : State.chainOfReg (0xD00 + 0x20 * d.val) = none := by
  revert d
  decide

theorem regEffect_dabCtrl (d : Fin 2) : s.regEffect (0xD00 + 0x20 * d.val) v = s.writeDabCtrl d v :=
  match d with
  | 0 => rfl
  | 1 => rfl

/-- A reset of a decoder begins its next epoch, and its search where it is not IDLE (R526). -/
theorem dabReset_restarts (s : State) (d : Fin 2) :
    ((s.dabReset d).decoder d).epoch = ((s.decoder d).epoch + 1) % 256 ∧
      ((s.decoder d).mode ≠ .idle → ((s.dabReset d).decoder d).mode = .search) := by
  simp only [State.dabReset]
  have hdrop := s.dropGroups_becomes d
  rw [hdrop.decoder]
  generalize s.dropGroups d = u at hdrop
  have hepoch := congrArg Decoder.epoch hdrop.decoder
  have hmode := congrArg Decoder.mode hdrop.decoder
  rw [← hdrop.decoder]
  generalize hy : ({ u.decoder d with epoch := _, sels := _ } : Decoder) = y
  have hyepoch : y.epoch = ((s.decoder d).epoch + 1) % 256 := by rw [← hy, hepoch]
  have hymode : y.mode = (s.decoder d).mode := by rw [← hy]; exact hmode
  have habort := (State.BecomesDab.set u d y).trans (State.dabAbort_becomes _ d 0)
  rw [State.decoder_setDab_self] at habort
  generalize (u.setDab d y).dabAbort d 0 = w at habort ⊢
  generalize hz : List.foldl _ w _ = z
  have hz := habort.tell (hz ▸ (State.foldl_tells (fun s q => s.dabRaise_tells _ _ _ _) _ w).sameDab)
  have hzmode : (z.decoder d).mode = (s.decoder d).mode := by rw [hz.decoder]; exact hymode
  have hzepoch : (z.decoder d).epoch = ((s.decoder d).epoch + 1) % 256 := by rw [hz.decoder]; exact hyepoch
  split
  · next hidle => exact ⟨hzepoch, fun h => absurd (hzmode.symm.trans hidle) h⟩
  · have hsearch := State.setDabMode_becomes z d .search
    rw [hsearch.decoder]
    have hset : ∀ x, (((z.setDabMode d .search).setDab d x).dabSync d).decoder d = x := fun x =>
      ((State.BecomesDab.set (z.setDabMode d .search) d x).tell (State.dabSync_tells _ d).sameDab).decoder
    rw [hset]
    exact ⟨hzepoch, fun _ => rfl⟩

theorem writeDabCtrl_restarts (d : Fin 2) (hreset : v.bit 0 = true) :
    ((s.writeDabCtrl d v).decoder d).failed = false ∧
      ((s.writeDabCtrl d v).decoder d).epoch = ((s.decoder d).epoch + 1) % 256 ∧
      ((s.decoder d).mode ≠ .idle → ((s.writeDabCtrl d v).decoder d).mode = .search) := by
  obtain ⟨hepoch, hmode⟩ := dabReset_restarts (s.setReg (0xD00 + 0x20 * d) (v &&& 0xF2#32)) d
  simp only [State.writeDabCtrl, hreset, if_true, State.decoder_setDab_self]
  exact ⟨trivial, hepoch, hmode⟩

namespace State

/-- The codes of the outputs and the lanes stand. -/
structure SameOuts (s t : State) : Prop where
  out : t.infra.out = s.infra.out
  lane : t.lanes.lane = s.lanes.lane

theorem SameOuts.refl (s : State) : s.SameOuts s := ⟨rfl, rfl⟩

theorem SameOuts.trans (h : s.SameOuts t) (k : t.SameOuts u) : s.SameOuts u :=
  ⟨k.out.trans h.out, k.lane.trans h.lane⟩

/-- `trans`, told from the later step. -/
theorem SameOuts.after (k : t.SameOuts u) (h : s.SameOuts t) : s.SameOuts u := h.trans k

theorem Tells.sameOuts (h : s.Tells t) : s.SameOuts t := ⟨congrArg _ h.infra, congrArg _ h.lanes⟩

theorem foldl_sameOuts {α : Type} {f : State → α → State} (hf : ∀ (s : State) a, s.SameOuts (f s a)) (l : List α)
    (s : State) : s.SameOuts (l.foldl f s) :=
  foldl_leaves f l .refl .trans hf s

theorem irBurstOver_sameOuts (s : State) (c : Nat) (b : IrBurst) : s.SameOuts (s.irBurstOver c b) := by
  simp only [irBurstOver]
  split
  · split <;> exact ⟨rfl, rfl⟩
  · split
    · split <;> exact ⟨rfl, rfl⟩
    · exact ⟨rfl, rfl⟩

theorem irCut_sameOuts (s : State) (c : Nat) : s.SameOuts (s.irCut c) := by
  simp only [irCut]
  split
  · exact ⟨rfl, rfl⟩
  · exact (irBurstOver_sameOuts _ c _).after ((raise_tells _ _ _ _).sameOuts.after ⟨rfl, rfl⟩)

theorem irWatch_sameOuts (s : State) (c : Nat) : s.SameOuts (s.irWatch c) := by
  simp only [irWatch]
  split
  · exact (irCut_sameOuts _ c).after ⟨rfl, rfl⟩
  · exact ⟨rfl, rfl⟩
  · exact .refl s

theorem irWatchAll_sameOuts (s : State) : s.SameOuts s.irWatchAll :=
  (irWatch_sameOuts s 0).trans (irWatch_sameOuts _ 1)

theorem irTxQuiet_sameOuts (s : State) : s.SameOuts s.irTxQuiet := by
  simp only [irTxQuiet]
  split
  · exact .refl s
  · refine foldl_sameOuts (fun s c => ?_) _ s
    split
    · exact ⟨rfl, rfl⟩
    · exact .refl s

theorem irReport_sameOuts (s : State) (c : Nat) (d : IrDecided) : s.SameOuts (s.irReport c d) := by
  simp only [irReport]
  generalize hu : List.foldl _ s d.deliver = u
  have htells : s.Tells u := hu ▸ foldl_tells (fun s i => foldl_tells (fun s e => s.deliver_tells _ _) _ s) _ s
  generalize hv : ({ u with infra.ok := _, infra.single := _, infra.floodCodes := _ } : State) = w
  have hcounts : u.SameOuts w := hv ▸ ⟨rfl, rfl⟩
  obtain ⟨n, hfree⟩ := irCarrier_frame w d.lead
  rw [hfree]
  have hfreed : w.SameOuts { w with freeCtr := n } := ⟨rfl, rfl⟩
  exact ((htells.sameOuts.trans hcounts).trans hfreed).trans (deliver_tells _ _ _).sameOuts

theorem irLaneReset_sameOuts (s : State) (c : Nat) : s.SameOuts (s.irLaneReset c) := by
  simp only [irLaneReset]
  split
  · exact .refl s
  · exact (irWatch_sameOuts _ c).after ((foldl_sameOuts (fun s b => irReport_sameOuts s c _) _ _).after ⟨rfl, rfl⟩)

/-- An output with no code: none is sending, and none waits. -/
def OutIdle (s : State) (o : Nat) : Prop := (s.irOut o).sending = none ∧ (s.irOut o).waiting = none

theorem OutIdle.keep {o : Nat} (h : s.OutIdle o) (hout : t.infra.out = s.infra.out) : t.OutIdle o := by
  simp only [OutIdle, irOut, hout]
  exact h

/-- An output aborted has no code, nor does one that had none; the lanes stand (R610). -/
theorem irTxAbort_leaves (s : State) (i : Nat) : (s.irTxAbort i).lanes.lane = s.lanes.lane ∧
    ∀ o, o < 4 → o = i ∨ s.OutIdle o → (s.irTxAbort i).OutIdle o := by
  simp only [irTxAbort]
  split
  · next hnone =>
    refine ⟨rfl, fun o _ ho => ho.elim (fun hoi => ?_) id⟩
    subst hoi
    simp only [Nat.add_eq_zero_iff, List.length_eq_zero_iff, Option.toList_eq_nil_iff] at hnone
    exact hnone
  · generalize hu : ({ s with infra.out := _, infra.aborted := _, tack.failIr := _ } : State) = u
    have hsame : u.SameOuts (((u.raise 0x7303 i clsNote).irTxQuiet).irWatchAll) :=
      ((raise_tells u _ _ _).sameOuts.trans (irTxQuiet_sameOuts _)).trans (irWatchAll_sameOuts _)
    have hout : u.infra.out = vset s.infra.out i IrOut.init := by rw [← hu]
    refine ⟨hsame.lane.trans (by rw [← hu]), fun o ho h => OutIdle.keep ?_ hsame.out⟩
    simp only [OutIdle, irOut, hout]
    by_cases hoi : o = i
    · subst hoi
      rw [vget_vset_self ho]
      exact ⟨rfl, rfl⟩
    · rw [vget_vset_ne hoi]
      exact h.resolve_left hoi

/-- Outputs aborted one after another. -/
theorem foldl_irTxAbort (v : Word) (l : List Nat) : ∀ s : State,
    let t := l.foldl (fun (s : State) i => if v.bit i then s.irTxAbort i else s) s
    t.lanes.lane = s.lanes.lane ∧ ∀ o, o < 4 → (o ∈ l ∧ v.bit o = true) ∨ s.OutIdle o → t.OutIdle o := by
  induction l with
  | nil => exact fun s => ⟨rfl, fun o _ h => h.elim (fun h => absurd h.1 (by simp)) id⟩
  | cons i l ih =>
    intro s t
    obtain ⟨hlane, hidle⟩ := ih (if v.bit i then s.irTxAbort i else s)
    have hstep : (if v.bit i then s.irTxAbort i else s).lanes.lane = s.lanes.lane ∧ ∀ o, o < 4 →
        (o = i ∧ v.bit o = true) ∨ s.OutIdle o → (if v.bit i then s.irTxAbort i else s).OutIdle o := by
      split
      · exact ⟨(irTxAbort_leaves s i).1, fun o ho h => (irTxAbort_leaves s i).2 o ho (h.imp_left (·.1))⟩
      · next hi => exact ⟨rfl, fun o _ h => h.elim (fun ⟨hoi, hb⟩ => absurd (hoi ▸ hb) hi) id⟩
    obtain ⟨hlane', hidle'⟩ := hstep
    refine ⟨hlane.trans hlane', fun o ho h => hidle o ho ?_⟩
    rcases h with ⟨hmem, hb⟩ | h
    · rcases List.mem_cons.mp hmem with hoi | hmem
      · exact .inr (hidle' o ho (.inl ⟨hoi, hb⟩))
      · exact .inl ⟨hmem, hb⟩
    · exact .inr (hidle' o ho (.inr h))

theorem dropCarrier_infra (s : State) (n : Nat) : (s.dropCarrier n).infra = s.infra := by
  have hdrop : ∀ (s : State) (sp : Splice), ((s.dropSplice sp).abandonedSplice).infra = s.infra := fun s sp => by
    simp only [abandonedSplice]
    refine (note_tells _ _).infra.trans ?_
    simp only [dropSplice]
    split <;> rfl
  exact foldl_leaves (fun (s : State) (sp : Splice) => (s.dropSplice sp).abandonedSplice) _
    (R := fun s t : State => t.infra = s.infra) (fun _ => rfl) (fun h k => k.trans h) hdrop s

/-- A lane reset begins its next epoch, and every other lane keeps its core. -/
theorem resetLane_epochs (hwf : s.LanesWf) (n : Nat) : (s.resetLane n).LanesWf ∧
    (s.resetLane n).infra.out = s.infra.out ∧
    ((s.resetLane n).lane n).epoch = ((s.lane n).epoch + 1) % 256 ∧
    ∀ m, m ≠ n → ((s.resetLane n).lane m).epoch = (s.lane m).epoch := by
  simp only [resetLane]
  generalize hu : s.setLane n _ = u
  have hself : (u.lane n).epoch = ((s.lane n).epoch + 1) % 256 := by
    rw [← hu, lane_setLane_self hwf]
  have hother : ∀ m, m ≠ n → u.lane m = s.lane m := fun m hm => hu ▸ lane_setLane_ne s hm _
  generalize hx : ({ u with lanes.reqs := _, fm.reqs := _, infra.reqs := _ } : State) = w
  have hlane : w.lanes.lane = u.lanes.lane := by rw [← hx]
  have hout : w.infra.out = s.infra.out := by rw [← hx, ← hu]; rfl
  obtain ⟨hwf', hcore⟩ := ((abortAll_tells _ _).sameCores.after ((dropCarrier_sameCores w n).after (.of_lane hlane)))
    (hu ▸ setLane_wf hwf n _)
  have hepoch := fun m => congrArg (·.2.2.2.2.2.2) (hcore m)
  refine ⟨hwf', ?_, (hepoch n).trans hself, fun m hm => (hepoch m).trans (congrArg Lane.epoch (hother m hm))⟩
  exact (congrArg _ ((abortAll_tells _ _).infra.trans (dropCarrier_infra w n))).trans hout

end State

/-- TXRESET and RXRESET (R603, R610). -/
theorem irCtrl_resets (hwf : s.LanesWf) (v : Word) :
    (∀ o, o < 4 → v.bit o = true → (s.irCtrl v).OutIdle o) ∧
      (v.bit 4 = true → (s.lane 94).use = .ir → ∀ n, n = 94 ∨ n = 95 →
        ((s.irCtrl v).lane n).epoch = ((s.lane n).epoch + 1) % 256) := by
  rw [State.irCtrl]
  obtain ⟨hlane, hidle⟩ := State.foldl_irTxAbort v [0, 1, 2, 3] s
  generalize List.foldl _ s _ = u at hlane hidle
  have hu : ∀ n, u.lane n = s.lane n := fun n => by rw [State.lane, hlane]; rfl
  have hwf' : u.LanesWf := by rw [State.LanesWf, hlane]; exact hwf
  have hidle' : ∀ o, o < 4 → v.bit o = true → u.OutIdle o := fun o ho hb => hidle o ho (.inl ⟨by
    simp only [List.mem_cons, List.not_mem_nil, or_false]; omega, hb⟩)
  dsimp only
  split
  · obtain ⟨hwf₁, hout₁, hself₁, hother₁⟩ := State.resetLane_epochs hwf' 94
    obtain ⟨hwf₂, hout₂, hself₂, hother₂⟩ := State.resetLane_epochs hwf₁ 95
    generalize (u.resetLane 94).resetLane 95 = w at *
    have hsettled := ((State.settleLane_sameCores w 94).trans (State.settleLane_sameCores _ 95)) hwf₂
    have hreset := (State.irLaneReset_sameOuts ((w.settleLane 94).settleLane 95) 0).trans
      (State.irLaneReset_sameOuts _ 1)
    have hepoch : ∀ n, ((((w.settleLane 94).settleLane 95).irLaneReset 0).irLaneReset 1 |>.lane n).epoch =
        (w.lane n).epoch := fun n =>
      (congrArg (fun m => (sget Lane.init m n).epoch) hreset.lane).trans (congrArg (·.2.2.2.2.2.2) (hsettled.2 n))
    refine ⟨fun o ho hb => State.OutIdle.keep (s := u) (hidle' o ho hb)
      (hreset.out.trans (hout₂.trans hout₁)), fun _ _ n hn => ?_⟩
    · rw [hepoch]
      rcases hn with rfl | rfl
      · rw [hother₂ 94 (by decide), hself₁, hu]
      · rw [hself₂, hother₁ 95 (by decide), hu]
  · next hoff =>
    exact ⟨hidle', fun hb hir => absurd (by rw [hb, hu, hir]; rfl) hoff⟩

/-- The index moved after a change of the lanes alone. -/
theorem coefMove_frame (h : t = { s with lanes := t.lanes }) :
    t.coefMove = { s with lanes := t.coefMove.lanes, regs := t.coefMove.regs } := by
  rw [h]
  rfl

/-- Settles O44: each register row at its write or at its edge, and what telling of it leaves. -/
theorem radioRegisterRowsComplete : Obligations.RadioRegisterRowsComplete := by
  unfold Obligations.RadioRegisterRowsComplete
  intro s v lane c d k h h2 h3 h4 hwf queued idx set i
  obtain ⟨hregs, -, -, hlanes, hcoef, htaps⟩ := tablesWf_iff.mp hwf
  refine ⟨exec_laneCtrlEnWrite_queued h h2 h3, exec_laneFirFadeWrite_queued h h2 h3, fun hhost => ?queued,
    exec_chainStateWrite_queued c h h2 h3 h4, ?laneEdge, ?edges, ?chainReset, ?returned, ?spare, ?coefidx, ?coefRead,
    ?tap, ?len, ?refused, exec_hrPaevtClear_of_up h h4, ?sweep, ?commit, exec_sysrestart_of_up h,
    fun hsck hsys => exec_sckrestart_of_up h hsys hsck, exec_hlCtrlStop_of_up h h2 h4⟩
  case queued =>
    have hir := busRegWrite_irCtrl_queued (v := v) h h2 hhost
    exact ⟨exec_brModeWrite_queued h h2 h3 hhost, exec_dabDecoderReset_queued d h h2 h3 hhost,
      congrArg Host.Outcome.next hir, congrArg Host.Outcome.next hir⟩
  case laneEdge =>
    intro u e hreqs hedge huwf x
    obtain ⟨-, -, -, hulanes, -⟩ := tablesWf_iff.mp huwf
    refine ⟨fun hwrites hlane => ⟨fun z y hen hfree hbind hy hstages hbranches => ?_, fun hen hrun => ?_⟩,
      fun hwrites hlane hfade hrun hidle hstages hpos hmax => ?_⟩
    · refine ⟨_, exec_laneApplyEdge_of_write (off := 0) hreqs hwrites hlane (by decide) hedge, ?_⟩
      simp only [State.lane, State.watchSource_lanes]
      exact writeCtrl_runs (s := { u with regWrites := [] }) hulanes hen hfree hbind hy hstages hbranches
    · refine ⟨_, exec_laneApplyEdge_of_write (off := 0) hreqs hwrites hlane (by decide) hedge, ?_⟩
      simp only [State.lane, State.watchSource_lanes]
      exact writeCtrl_frees (s := { u with regWrites := [] }) hulanes hen hrun
    · refine ⟨_, exec_laneApplyEdge_of_write (off := 3) hreqs (by rw [hwrites, Nat.add_right_comm]) hlane (by decide)
        hedge, ?_⟩
      simp only [State.lane, State.watchSource_lanes]
      exact writeLane_fades (s := { u with regWrites := [] }) hulanes hfade hrun hidle hstages hpos hmax
  case edges =>
    intro u e hedge huwf
    obtain ⟨-, -, -, hulanes, -⟩ := tablesWf_iff.mp huwf
    refine ⟨fun hwrites htunes hmode hradio => ?_, fun hwrites htunes hcode howned hfailed hbusy hmode => ?_,
      fun hwrites hreset => ?_, fun hwrites => ?_⟩
    · obtain ⟨hd, hexec⟩ := exec_chainTuneApply_of_write 0 htunes hwrites rfl hedge
      obtain ⟨hw, hq⟩ := writeBrMode_takes (v := v)
        (s := { u with radio := { u.radio with heard := hd }, regWrites := [] }) hmode hradio
      obtain ⟨hr, hq'⟩ := State.watchSource_sameRadio
        (State.writeBrMode { u with radio := { u.radio with heard := hd }, regWrites := [] } v)
      exact ⟨_, hexec, (congrArg _ hr).trans hw, hq'.trans hq⟩
    · have hchain : State.chainOfReg (chainCtrlReg c) = some c.val := chainOfReg_chainCtrlReg c
      obtain ⟨hd, hexec⟩ := exec_chainTuneApply_of_write c htunes hwrites hchain hedge
      obtain ⟨r, p, hwrite⟩ := chainWrite_state (e := e) (v := v)
        (s := { u with radio := { u.radio with heard := hd }, regWrites := [] }) c
      generalize hx : ({ u with regs := r, radio := { u.radio with heard := hd, pinAntsel := p }, regWrites := [] }
        : State) = x
      have horder := hostChainState_orders (s := x) c (k := v.toNat % 8) hcode (hx ▸ howned) (hx ▸ hfailed) (hx ▸ hbusy)
        (hx ▸ hmode)
      have hw := (hwrite.trans (congrArg (fun y : State => y.hostChainState c (v.toNat % 8)) hx)).trans horder
      have hmode' : (x.chain c).mode = (u.chain c).mode := by rw [← hx]; rfl
      refine ⟨_, ⟨State.modeOfCode (v.toNat % 8), 4, none, x.entersCold c (State.modeOfCode (v.toNat % 8)), false,
        x.last.edge⟩, hexec, ?_⟩
      rw [hw, (State.watchSource_sameRadio _).chain, State.chain_setChain_self]
      exact ⟨rfl, rfl, rfl, hmode'⟩
    · rw [edgeWrites_of_write hwrites (chainOfReg_dabCtrl d) (.inr (by omega)) hedge, regEffect_dabCtrl]
      exact writeDabCtrl_restarts (s := { u with regWrites := [] }) d hreset
    · rw [edgeWrites_of_write hwrites rfl (.inl (by decide)) hedge]
      exact irCtrl_resets (s := { u with regWrites := [] }) hulanes v
  case chainReset =>
    intro hreset
    obtain ⟨t, ht, hasleep, hfailed, hseal, hstore, hsupply⟩ := exec_chainReset_resetBy c h h2 h3 h4 hreset
    exact ⟨t, ht, hasleep.mode, hasleep.epoch, hfailed, hasleep.tunes, hasleep.gains, hasleep.trans, hseal, hstore,
      hsupply⟩
  case returned =>
    intro hk
    have hne : k ≠ 3 := fun hk3 => by subst hk3; exact absurd hk (by decide)
    refine ⟨_, (exec_laneFailedWrite_of_up k h h3).trans (congrArg _ (if_neg hne)), ?_⟩
    exact returnLanes_leaves hlanes _ v
  case spare =>
    intro hk
    exact ⟨_, (exec_laneFailedWrite_of_up k h h3).trans (congrArg _ (if_pos hk)), returnSpare_leaves v⟩
  case coefidx =>
    exact fun hset => ⟨_, exec_laneCoefidxWrite_of_up h h3 hset, rfl, State.reg_setReg_self hregs⟩
  case coefRead =>
    exact ⟨_, exec_laneCoefdatAccess_read h h3, rfl, (coefMove_leaves hregs).2⟩
  case tap =>
    intro hi hnamed
    refine ⟨_, exec_laneCoefdatAccess_write h h3, ?_⟩
    rw [coefWrite_stores (Nat.le_of_lt hi) (.inl hnamed)]
    obtain ⟨hframe, htap, hecc, hlen, hother⟩ := coefStore_tap (v := v) (n := set) hcoef htaps hi
    exact ⟨coefMove_frame hframe, htap, hecc, hlen, hother⟩
  case len =>
    intro hi hfree
    refine ⟨_, exec_laneCoefdatAccess_write h h3, ?_⟩
    rw [coefWrite_stores (Nat.le_of_eq hi) hfree, show s.coefIdxEntry = 48 from hi]
    exact coefStore_len hcoef set
  case refused =>
    intro hi hnamed hecc
    refine ⟨_, exec_laneCoefdatAccess_write h h3, ?_⟩
    rw [coefWrite_refused hi hnamed hecc]
    exact ⟨rfl, rfl⟩
  case sweep =>
    intro hsweep hmask hfree
    obtain ⟨hclk, hseal⟩ := startSweep_leaves (s := s.setReg 0x410 (v &&& 0x001C011F#32)) (v.toNat / 2 ^ 18 % 8) 0 none
    refine ⟨_, exec_calSweep_of_up h h2 hsweep hmask hfree, ?_, ?_, hseal⟩
    · rw [hclk]; rfl
    · rw [hclk]; rfl
  case commit =>
    exact fun hsweep hcommit hnone hidle henergy =>
      ⟨_, exec_calCommit_of_up h h2 hsweep hcommit hnone hidle henergy, rfl⟩

end Sys2Proof.Machine
end

section
/-! PROOFS. The canonical form of the sparse state: what it rests on, and the operations on the parts it speaks of. -/

namespace Sys2Proof.Machine

open Sys2Proof

/-! ### Sparse forms -/

theorem above_wordsFrom {a b : Nat} (h : b < a) (xs : List Byte) : Above b (wordsFrom a xs) := by
  induction a, xs using wordsFrom.induct with
  | case1 a x y z u rest w hw ih =>
    rw [wordsFrom, if_pos hw]
    exact ih (by omega)
  | case2 a x y z u rest w hw ih =>
    rw [wordsFrom, if_neg hw]
    exact above_cons.mpr ⟨h, ih (by omega)⟩
  | case3 a xs hxs =>
    rw [wordsFrom]
    · exact fun _ he => absurd he (by simp)
    · exact hxs

theorem swf_wordsFrom (a : Nat) (xs : List Byte) : swf 0 (wordsFrom a xs) = true := by
  induction a, xs using wordsFrom.induct with
  | case1 a x y z u rest w hw ih =>
    rw [wordsFrom, if_pos hw]
    exact ih
  | case2 a x y z u rest w hw ih =>
    rw [wordsFrom, if_neg hw]
    exact swf_cons.mpr ⟨hw, above_wordsFrom (by omega) rest, ih⟩
  | case3 a xs hxs =>
    rw [wordsFrom]
    · rfl
    · exact hxs

theorem imageOf_memWf (b : List Byte) : (imageOf b).memWf = true := by
  have hledger : swf 0 (imageOf b).ledger = true := by
    simp only [imageOf]
    split
    · rfl
    · exact swf_wordsFrom 0 _
  have hdata : ∀ m ∈ (imageOf b).data, swf 0 m = true := by
    intro m hm
    simp only [imageOf] at hm
    split at hm
    · rw [List.eq_of_mem_replicate hm]
      rfl
    · obtain ⟨k, -, rfl⟩ := List.mem_map.mp hm
      exact swf_cellsOf
  exact Bool.and_eq_true_iff.mpr ⟨hledger, List.all_eq_true.mpr hdata⟩

/-- A lane entry after a reset: only what has FAILED and not been returned. -/
theorem lanesDown_wf {m : List (Nat × Lane)} (h : swf Lane.init m = true) :
    swf Lane.init (m.filterMap fun (e : Nat × Lane) =>
      let x := e.2
      if x.failed || x.under.isSome || x.returned || x.bare then
        some (e.1, { Lane.init with failed := x.failed, under := x.under, returned := x.returned, bare := x.bare })
      else none) = true := by
  induction m with
  | nil => rfl
  | cons e m ih =>
    obtain ⟨k, x⟩ := e
    obtain ⟨hx, hk, hm⟩ := swf_cons.mp h
    rw [List.filterMap_cons]
    split
    · exact ih hm
    · next y hy =>
      obtain ⟨hbit, hy⟩ := Option.ite_none_right_eq_some.mp hy
      cases hy
      refine swf_cons.mpr ⟨fun hinit => ?_, fun e' he' => ?_, ih hm⟩
      · have hfailed := congrArg Lane.failed hinit
        have hunder := congrArg Lane.under hinit
        have hreturned := congrArg Lane.returned hinit
        have hbare := congrArg Lane.bare hinit
        simp only [Lane.init] at hfailed hunder hreturned hbare
        simp [hfailed, hunder, hreturned, hbare] at hbit
      · obtain ⟨e, he, hme⟩ := List.mem_filterMap.mp he'
        obtain ⟨-, hme⟩ := Option.ite_none_right_eq_some.mp hme
        cases hme
        exact hk e he

theorem sealWf_viewPut {m : List (Nat × Word)} (h : sealWf m = true) (a : Nat) (v : Word) :
    sealWf (State.viewPut m a v) = true := by
  show sealWf (sput (sealReset a) m a v) = true
  induction m with
  | nil =>
    simp only [sput]
    split
    · rfl
    · next hv => exact sealWf_cons.mpr ⟨hv, fun e he => absurd he (by simp), rfl⟩
  | cons e m ih =>
    obtain ⟨k, w⟩ := e
    obtain ⟨hw, hk, hm⟩ := sealWf_cons.mp h
    simp only [sput]
    split
    · next ha =>
      split
      · exact h
      · next hv => exact sealWf_cons.mpr ⟨hv, above_cons.mpr ⟨ha, fun e he => Nat.lt_trans ha (hk e he)⟩, h⟩
    · split
      · next ha =>
        subst ha
        split
        · exact hm
        · next hv => exact sealWf_cons.mpr ⟨hv, hk, hm⟩
      · next hak ha => exact sealWf_cons.mpr ⟨hw, above_sput (by omega) hk, ih hm⟩

/-- What every entry satisfies, and the value stored, every entry then satisfies. -/
theorem sput_satisfies {α : Type} [DecidableEq α] {d v : α} {p : α → Bool} (hv : p v = true) {m : List (Nat × α)}
    (hm : (m.all fun e => p e.2) = true) (a : Nat) : ((sput d m a v).all fun e => p e.2) = true := by
  induction m with
  | nil =>
    simp only [sput]
    split
    · rfl
    · simpa using hv
  | cons e m ih =>
    obtain ⟨k, w⟩ := e
    obtain ⟨hw, hrest⟩ := Bool.and_eq_true_iff.mp hm
    have hw' : p w = true := hw
    simp only [sput]
    split
    · split
      · exact hm
      · simp only [List.all_cons, hv, hw', hrest, Bool.and_self]
    · split
      · split
        · exact hrest
        · simp only [List.all_cons, hv, hrest, Bool.and_self]
      · simp only [List.all_cons, hw', ih hrest, Bool.and_self]

/-! ### Parts -/

/-- What the state holds in sparse form, and the benches that hold the data memories. -/
def State.sparse (s : State) : Vector Bench 5 × List (Nat × Word) × Option Ckpt × Option Ckpt × Option Image ×
    List (Nat × Word) × List (Nat × Word) × List (Nat × Word) × List (Nat × Lane) × List (Nat × CoefSet) :=
  (s.prog.bench, s.prog.ledger, s.prog.ckpt, s.prog.ckptPrev, s.prog.image, s.regs, s.theSeal.view, s.theSeal.otp,
    s.lanes.lane, s.lanes.coef)

/-- All that the state holds in sparse form is canonical. -/
structure State.Canonical (s : State) : Prop where
  wf : s.wf = true

/-- The canonical form, part by part. -/
structure State.Parts (s : State) : Prop where
  data : ∀ i (h : i < 5), swf 0 (s.prog.bench[i]).data = true
  ledger : swf 0 s.prog.ledger = true
  ckpt : s.prog.ckpt.all (·.memWf) = true
  ckptPrev : s.prog.ckptPrev.all (·.memWf) = true
  image : s.prog.image.all (·.memWf) = true
  regs : regsWf s.regs = true
  view : sealWf s.theSeal.view = true
  otp : sealWf s.theSeal.otp = true
  lane : swf Lane.init s.lanes.lane = true
  coef : swf CoefSet.init s.lanes.coef = true
  taps : (s.lanes.coef.all fun e => swf 0 e.2.taps) = true

theorem State.canonical_iff {s : State} : s.Canonical ↔ s.Parts := by
  have hdata : (s.prog.bench.toList.all fun n => swf 0 n.data) = true ↔
      ∀ i (h : i < 5), swf 0 (s.prog.bench[i]).data = true := by
    simp only [List.all_eq_true, Vector.mem_toList_iff, Vector.mem_iff_getElem]
    exact ⟨fun h i hi => h _ ⟨i, hi, rfl⟩, by rintro h n ⟨i, hi, rfl⟩; exact h i hi⟩
  have hwf : s.Canonical ↔ s.wf = true := ⟨fun h => h.wf, fun h => ⟨h⟩⟩
  simp only [hwf, State.wf, State.memWf, State.tablesWf, Program.memWf, Bool.and_eq_true, hdata]
  constructor
  · rintro ⟨⟨⟨⟨⟨hledger, hd⟩, hckpt⟩, hprev⟩, himage⟩, ⟨⟨⟨⟨hregs, hview⟩, hotp⟩, hlane⟩, hcoef⟩, htaps⟩
    exact ⟨hd, hledger, hckpt, hprev, himage, hregs, hview, hotp, hlane, hcoef, htaps⟩
  · rintro ⟨hd, hledger, hckpt, hprev, himage, hregs, hview, hotp, hlane, hcoef, htaps⟩
    exact ⟨⟨⟨⟨⟨hledger, hd⟩, hckpt⟩, hprev⟩, himage⟩, ⟨⟨⟨⟨hregs, hview⟩, hotp⟩, hlane⟩, hcoef⟩, htaps⟩

namespace State.Canonical

variable {s t : State}

/-- What leaves the sparse parts leaves their form. -/
theorem congr (h : s.Canonical) (e : t.sparse = s.sparse) : t.Canonical := by
  simp only [State.sparse, Prod.mk.injEq] at e
  obtain ⟨hbench, hledger, hckpt, hprev, himage, hregs, hview, hotp, hlane, hcoef⟩ := e
  rw [State.canonical_iff] at h ⊢
  obtain ⟨h1, h2, h3, h4, h5, h6, h7, h8, h9, h10, h11⟩ := h
  refine ⟨?_, ?_, ?_, ?_, ?_, ?_, ?_, ?_, ?_, ?_, ?_⟩
  all_goals simp only [hbench, hledger, hckpt, hprev, himage, hregs, hview, hotp, hlane, hcoef]; assumption

end State.Canonical

end Sys2Proof.Machine
end

section
/-! PROOFS. The canonical form through folds, choices and pairs, and what it says of an outcome. -/

namespace Sys2Proof.Machine

open Sys2Proof

theorem Bench.foldl_enqueue_data (es : List Event) (n : Bench) : (es.foldl Bench.enqueue n).data = n.data :=
  List.foldlRecOn es Bench.enqueue (motive := fun m => m.data = n.data) rfl
    fun m hm e _ => (Bench.enqueue_data m e).trans hm

/-- The state that a command goes on with is canonical. -/
def Goes : Host.Outcome State Fault Refusal → Prop
  | .next t => t.Canonical
  | _ => True

/-- The state that an instruction goes on with is canonical. -/
def Exec.Canonical : Exec → Prop
  | .cont t _ | .goto t _ _ | .finish t _ => t.Canonical
  | .fault _ _ => True

namespace State.Canonical

variable {s t : State}

theorem foldl {α : Type} {f : State → α → State} {l : List α} (hs : s.Canonical)
    (hf : ∀ {t} x, t.Canonical → (f t x).Canonical) : (l.foldl f s).Canonical :=
  List.foldlRecOn l f hs fun _ ht x _ => hf x ht

theorem foldlFst {α β : Type} {f : State × β → α → State × β} {l : List α} {p : State × β} (hp : p.1.Canonical)
    (hf : ∀ p x, p.1.Canonical → (f p x).1.Canonical) : (l.foldl f p).1.Canonical :=
  List.foldlRecOn l f (motive := fun q => q.1.Canonical) hp fun q hq x _ => hf q x hq

theorem ite {p : Prop} [Decidable p] (hs : s.Canonical) (ht : t.Canonical) : (if p then s else t).Canonical := by
  split
  · exact hs
  · exact ht

theorem iteSnd {α : Type} {p : Prop} [Decidable p] {x y : α × State} (hx : x.2.Canonical) (hy : y.2.Canonical) :
    (if p then x else y).2.Canonical := by
  split
  · exact hx
  · exact hy

theorem fst {α : Type} {p : State × α} {a : α} (e : p = (s, a)) (h : p.1.Canonical) : s.Canonical := by
  subst e
  exact h

theorem snd {α : Type} {p : α × State} {a : α} (e : p = (a, s)) (h : p.2.Canonical) : s.Canonical := by
  subst e
  exact h

theorem withInfra {x : Infra} (hs : s.Canonical) : ({ s with infra := x } : State).Canonical := .congr hs rfl

theorem withWelt {x : Welt} (hs : s.Canonical) : ({ s with welt := x } : State).Canonical := .congr hs rfl

end State.Canonical

end Sys2Proof.Machine
end

section
/-! PROOFS. The canonical form through the shared operations, the benches and the tack store. -/

namespace Sys2Proof.Machine.State.Canonical

open Sys2Proof

variable {s t : State}

/-! ### The operations the families share -/

theorem parts (hs : s.Canonical) : s.Parts := State.canonical_iff.mp hs

theorem data (hs : s.Canonical) (b : Nat) : swf 0 (s.bench b).data = true := by
  unfold State.bench vget
  split
  · next hb => exact hs.parts.data b hb
  · rfl

/-- Benches with canonical data in place of those of a canonical state. -/
theorem withBenches {v : Vector Bench 5} (hs : s.Canonical) (hv : ∀ i (hi : i < 5), swf 0 (v[i]).data = true) :
    ({ s with prog.bench := v } : State).Canonical := by
  obtain ⟨-, h2, h3, h4, h5, h6, h7, h8, h9, h10, h11⟩ := hs.parts
  exact State.canonical_iff.mpr ⟨hv, h2, h3, h4, h5, h6, h7, h8, h9, h10, h11⟩

/-- A bench put back with canonical data. -/
theorem writeBench {b : Nat} {n : Bench} (hs : s.Canonical) (hn : swf 0 n.data = true) :
  (s.setBench b n).Canonical := by
  refine hs.withBenches fun i hi => ?_
  unfold vset
  split
  · rw [Vector.getElem_set]
    split
    · exact hn
    · exact hs.parts.data i hi
  · exact hs.parts.data i hi

/-- A bench put back with the data it had. -/
theorem setBench {b d : Nat} {n : Bench} (hs : s.Canonical) (hn : n.data = (s.bench d).data) :
    (s.setBench b n).Canonical :=
  hs.writeBench (hn ▸ hs.data d)

/-- Every bench replaced by one with the same data. -/
theorem mapBench {f : Bench → Bench} (hs : s.Canonical) (hf : ∀ n, (f n).data = n.data) :
    ({ s with prog.bench := s.prog.bench.map f } : State).Canonical := by
  refine hs.withBenches fun i hi => ?_
  rw [Vector.getElem_map, hf]
  exact hs.parts.data i hi

theorem setReg {a : Nat} {v : Word} (hs : s.Canonical) : (s.setReg a v).Canonical := by
  obtain ⟨h1, h2, h3, h4, h5, h6, h7, h8, h9, h10, h11⟩ := hs.parts
  exact State.canonical_iff.mpr ⟨h1, h2, h3, h4, h5, State.regsWf_setReg h6, h7, h8, h9, h10, h11⟩

theorem clearRegs {lo hi : Nat} (hs : s.Canonical) : (s.clearRegs lo hi).Canonical := by
  obtain ⟨h1, h2, h3, h4, h5, h6, h7, h8, h9, h10, h11⟩ := hs.parts
  exact State.canonical_iff.mpr ⟨h1, h2, h3, h4, h5, State.regsWf_clearRegs h6, h7, h8, h9, h10, h11⟩

theorem ageItems {e : Nat} (hs : s.Canonical) : (s.ageItems e).Canonical :=
  .congr (hs.mapBench (f := fun n => { n with
    queue := n.queue.map (Event.aged e), held := n.held.map (Event.aged e)
    inbox := n.inbox.map (Event.aged e) }) fun _ => rfl) rfl

theorem deliver {b : Nat} {e : Event} (hs : s.Canonical) : (s.deliver b e).Canonical := by
  obtain hd | hd | hd := s.deliver_cases b e
  · rw [hd]
    exact hs
  · rw [hd]
    exact .congr hs rfl
  · rw [hd]
    exact hs.setBench (Bench.enqueue_data _ _)

theorem deliverAll {e : Event} (hs : s.Canonical) : (s.deliverAll e).Canonical :=
  .foldl hs fun _ ht => .deliver ht

theorem radioEvent {code : Nat} {win : List Byte} {fields : List (Nat × Word)} (hs : s.Canonical) :
    (s.radioEvent code win fields).Canonical :=
  .deliver hs

theorem reply {code id status : Nat} {win : List Byte} (hs : s.Canonical) : (s.reply code id status win).Canonical :=
  .radioEvent hs

theorem abortAll {rs : List (Nat × Nat × List Byte)} (hs : s.Canonical) : (s.abortAll rs).Canonical :=
  .foldl hs fun _ ht => .reply ht

theorem radioFor {code id : Nat} {win : List Byte} (hs : s.Canonical) : (s.radioFor code id win).Canonical :=
  .radioEvent hs

theorem arise {i : Nat} (hs : s.Canonical) : (s.arise i).Canonical :=
  .ite (.congr hs rfl) hs

theorem alert {i : Nat} (hs : s.Canonical) : (s.alert i).Canonical :=
  .ite (.congr hs rfl) (.arise (.congr hs rfl))

theorem logFault {code unit cls : Nat} (hs : s.Canonical) : (s.logFault code unit cls).2.Canonical := by
  obtain ⟨b, f, e⟩ := s.logFault_frame code unit cls
  rw [e]
  exact .congr hs rfl

theorem faultEvent {code unit cls : Nat} (hs : s.Canonical) : (s.faultEvent code unit cls).Canonical :=
  .deliver hs

theorem losePacket {marker : Bool} {pos : Pos} {len : Nat} (hs : s.Canonical) :
    (s.losePacket marker pos len).2.Canonical :=
  .ite (.congr hs rfl) (.congr hs rfl)

theorem tryPacket {type sub : Nat} {pos : Pos} {payload : List Byte} (hs : s.Canonical) :
    (s.tryPacket type sub pos payload).2.Canonical := by
  unfold State.tryPacket
  extract_lets
  split
  · split
    · exact .congr hs rfl
    · exact .congr hs rfl
  · exact .losePacket hs

theorem streamFault {e : FaultEntry} (hs : s.Canonical) : (s.streamFault e).2.Canonical := by
  unfold State.streamFault
  split
  · exact .tryPacket hs
  · exact hs

theorem dropBegins (hs : s.Canonical) : s.dropBegins.Canonical :=
  .radioFor (.streamFault (.faultEvent (.logFault hs)))

theorem packet {type sub : Nat} {pos : Pos} {payload : List Byte} (hs : s.Canonical) :
    (s.packet type sub pos payload).Canonical :=
  .ite (.dropBegins (.tryPacket hs)) (.tryPacket hs)

theorem raise {code unit cls : Nat} (hs : s.Canonical) : (s.raise code unit cls).Canonical := by
  unfold State.raise
  extract_lets r1 t2 r3
  have ht2 : t2.Canonical := .faultEvent (.logFault hs)
  exact .ite (.dropBegins (.streamFault ht2)) (.streamFault ht2)

theorem note {code : Nat} (hs : s.Canonical) : (s.note code).Canonical :=
  .raise hs

theorem raiseBench {code b cls : Nat} (hs : s.Canonical) : (s.raiseBench code b cls).Canonical :=
  .ite (.dropBegins (.streamFault (.logFault hs))) (.streamFault (.logFault hs))

theorem postOut {mb : Nat} {sender : Sender} {bytes : List Byte} {pos : Pos} (hs : s.Canonical)
    (ht : s.postOut mb sender bytes pos = some t) : t.Canonical := by
  unfold State.postOut at ht
  split at ht
  · cases ht
  · cases ht
    split
    · exact .congr (.arise hs) rfl
    · exact .congr hs rfl

theorem postRefused {mb : Nat} (hs : s.Canonical) : (s.postRefused mb).Canonical :=
  .ite (.congr hs rfl) (.raise (.congr hs rfl))

theorem ringHost {e : Nat} (hs : s.Canonical) : (s.ringHost e).Canonical :=
  .congr (.ite (.arise hs) hs) rfl

theorem mirror {p : WPayload} (hs : s.Canonical) : (s.mirror p).Canonical :=
  .ite (.congr hs rfl) hs

/-! ### The benches (chapter 4) -/

theorem consumed {b : Nat} {e : Event} (hs : s.Canonical) : (s.consumed b e).Canonical := by
  unfold State.consumed
  split
  · exact .congr hs rfl
  · exact .ite (.congr hs rfl) hs

theorem discardEvents {b : Nat} {es : List Event} (hs : s.Canonical) : (s.discardEvents b es).Canonical :=
  .foldl hs fun _ ht => .consumed (.congr ht rfl)

theorem applyLedger (hs : s.Canonical) : s.applyLedger.Canonical := by
  have hledger : swf 0 s.applyLedger.prog.ledger = true := by
    refine List.foldlRecOn (motive := fun l => swf 0 l = true) _ _ hs.parts.ledger fun l hl n _ => ?_
    exact List.foldrRecOn (motive := fun l => swf 0 l = true) _ _ hl fun m hm _ _ => swf_sput hm
  obtain ⟨h1, -, h3, h4, h5, h6, h7, h8, h9, h10, h11⟩ := (hs.mapBench (f := fun n =>
    { n with ledgerBuf := [], lsws := 0, sent := Vector.replicate 5 0 }) fun _ => rfl).parts
  exact State.canonical_iff.mpr ⟨h1, hledger, h3, h4, h5, h6, h7, h8, h9, h10, h11⟩

/-- A message lands or is refused FULL. -/
theorem post {mb : Nat} {sender : Sender} {bytes : List Byte} {pos : Pos} (hs : s.Canonical) :
    (match s.postOut mb sender bytes pos with | some t => t | none => s.postRefused mb).Canonical := by
  split
  · next t ht => exact .postOut hs ht
  · exact .postRefused hs

theorem applyPosts (hs : s.Canonical) : s.applyPosts.Canonical := by
  unfold State.applyPosts
  exact .foldl (.congr hs rfl) fun _ ht => .foldl ht fun _ ht => .post ht

theorem watchLag (hs : s.Canonical) : s.watchLag.Canonical := by
  unfold State.watchLag
  extract_lets _ _ t1
  have ht1 : t1.Canonical := .congr hs rfl
  exact .ite (.ite ht1 (.note (.congr ht1 rfl))) (.ite (.congr ht1 rfl) ht1)

theorem settle (hs : s.Canonical) : s.settle.Canonical :=
  .ite (.watchLag (.applyLedger (.applyPosts hs))) hs

theorem haltBench {b : Nat} (hs : s.Canonical) : (s.haltBench b).Canonical :=
  .settle (.discardEvents (.setBench hs rfl))

theorem raiseFault {b code cls pc arg : Nat} (hs : s.Canonical) : (s.raiseFault b code cls pc arg).Canonical :=
  .setBench (.congr (.raiseBench hs) rfl) rfl

theorem replayMismatch {b : Nat} (hs : s.Canonical) : (s.replayMismatch b).Canonical :=
  .haltBench (.raiseFault hs)

theorem initialData {b : Nat} (hs : s.Canonical) : swf 0 (s.initialData b) = true := by
  unfold State.initialData
  split
  · next i hi =>
    have himage : swf 0 i.ledger = true ∧ ∀ m ∈ i.data, swf 0 m = true := by
      simpa [hi, Image.memWf] using hs.parts.image
    cases hm : i.data[b]? with
    | none => simp [List.getD_eq_getElem?_getD, hm, swf]
    | some m => simpa [List.getD_eq_getElem?_getD, hm] using himage.2 m (List.mem_of_getElem? hm)
  · rfl

/-- What a bench takes back: the data of the checkpoint, or those of the image (R138, R141). -/
theorem takenBack {b : Nat} (hs : s.Canonical) :
    swf 0 (((s.benchCkpt b).map (·.data)).getD (s.initialData b)) = true := by
  unfold State.benchCkpt
  cases hc : s.prog.ckpt with
  | none => exact hs.initialData
  | some c =>
    have hckpt : swf 0 c.ledger = true ∧ ∀ n ∈ c.benches, swf 0 n.data = true := by
      simpa [hc, Ckpt.memWf] using hs.parts.ckpt
    cases hb : c.benches[b]? with
    | none => simpa [hb] using hs.initialData
    | some n => simpa [hb] using hckpt.2 n (List.mem_of_getElem? hb)

theorem benchFault {b : Nat} {h : Handler} {code arg : Nat} (hs : s.Canonical) :
    (s.benchFault b h code arg).Canonical := by
  unfold State.benchFault
  dsimp only
  split
  · exact .replayMismatch hs
  · generalize hvoid : (if code = 0x8101 ∧ decide (b < 4) = true then s.voidFrom h.ev.pos else s) = v
    have hv : v.Canonical := by
      subst hvoid
      split
      · exact .congr hs rfl
      · exact hs
    generalize (if code = 0x8101 ∧ decide (b < 4) = true then clsVoid else clsNote) = cls
    have hraised : (v.raiseFault b code cls h.pc arg).Canonical := .raiseFault hv
    generalize v.raiseFault b code cls h.pc arg = w at hraised
    split
    · exact .haltBench (.raiseFault (.setBench (d := b) hraised rfl))
    · refine .congr (s := w.setBench b _) (.writeBench hraised ?_) rfl
      exact hraised.takenBack

theorem queueMail {mb : Nat} {p : Pos} (hs : s.Canonical) : (s.queueMail mb p).Canonical := by
  unfold State.queueMail
  split
  · exact .congr (.deliver hs) rfl
  · exact hs

theorem queueEyelet {b i : Nat} {p : Pos} (hs : s.Canonical) : (s.queueEyelet b i p).Canonical :=
  .congr (.deliver hs) rfl

theorem queueWaiting {b : Nat} {p : Pos} (hs : s.Canonical) : (s.queueWaiting b p).Canonical :=
  .ite hs (.foldl (.foldl hs fun _ ht => .queueMail ht) fun _ ht => .queueEyelet ht)

theorem stopBench {b : Nat} (hs : s.Canonical) : (s.stopBench b).Canonical := by
  unfold State.stopBench
  extract_lets n _ _ t u
  have ht : t.Canonical := .setBench (d := b) hs rfl
  have hu : u.Canonical := .foldl ht fun _ ht => .congr ht rfl
  exact .congr hu rfl

/-- A bench starts with the image's data, or goes on with its own (R141, R888). -/
theorem joinBench {b : Nat} {p : Pos} (hs : s.Canonical) : (s.joinBench b p).Canonical := by
  unfold State.joinBench
  dsimp only
  refine .queueWaiting (.writeBench hs ?_)
  split
  · exact hs.initialData
  · exact hs.data b

/-- What a checkpoint takes of each bench: its data, or those of the checkpoint before (R152). -/
theorem ckpt_data (hs : s.Canonical) (p : Pos) (b : Nat) :
    swf 0 (if (s.bench b).mode == .run then (s.bench b).ckpt p
      else (s.benchCkpt b).getD (Bench.init.ckpt p)).data = true := by
  split
  · exact hs.data b
  · unfold State.benchCkpt
    cases hc : s.prog.ckpt with
    | none => rfl
    | some c =>
      have hckpt : swf 0 c.ledger = true ∧ ∀ n ∈ c.benches, swf 0 n.data = true := by
        simpa [hc, Ckpt.memWf] using hs.parts.ckpt
      cases hb : c.benches[b]? with
      | none => simp [hb, Bench.ckpt, Bench.init, swf]
      | some n => simpa [hb] using hckpt.2 n (List.mem_of_getElem? hb)

theorem takeCkpt {p : Pos} (hs : s.Canonical) : (s.takeCkpt p).Canonical := by
  unfold State.takeCkpt
  extract_lets benches prog t
  have hbenches : ∀ n ∈ benches, swf 0 n.data = true := by
    intro n hn
    obtain ⟨b, -, rfl⟩ := List.mem_map.mp hn
    exact hs.ckpt_data p b
  have ht : t.Canonical := by
    obtain ⟨h1, h2, h3, h4, h5, h6, h7, h8, h9, h10, h11⟩ := hs.parts
    refine State.canonical_iff.mpr ⟨fun i hi => ?_, h2, ?_, h3, h5, h6, h7, h8, h9, h10, h11⟩
    · simp only [t, Vector.getElem_map]
      exact h1 i hi
    · simpa [t, Ckpt.memWf] using ⟨h2, hbenches⟩
  exact .congr (s := t.mirror _) (.mirror ht) rfl

theorem arrive {b : Nat} {p : Pos} (hs : s.Canonical) : (s.arrive b p).Canonical :=
  .foldl (.foldl (.setBench hs rfl) fun _ ht => .deliver ht) fun _ ht => .deliver ht

/-- The counts of a superframe, which the benches begin with a new superframe. -/
theorem beginSf {other : Bool} (hs : s.Canonical) :
    ({ s with prog.bench := if other then
        s.prog.bench.map fun (n : Bench) => { n with stepsPrev := n.stepsSf, stepsSf := 0 }
      else s.prog.bench } : State).Canonical := by
  cases other with
  | false => exact .congr hs rfl
  | true => exact .mapBench hs fun _ => rfl

theorem beginPosition {p : Pos} (hs : s.Canonical) : (s.beginPosition p).Canonical := by
  unfold State.beginPosition
  extract_lets prev t1 t2 other prog t3 t4 t5 t6
  have ht1 : t1.Canonical := .settle hs
  clear_value t1
  have ht2 : t2.Canonical := .foldl ht1 fun _ ht => .ite (.stopBench ht) ht
  clear_value t2
  have ht3 : t3.Canonical := .congr (ht2.beginSf (other := other)) rfl
  clear_value t3
  have ht4 : t4.Canonical := .foldl ht3 fun _ ht => .ite (.joinBench ht) ht
  clear_value t4
  have ht5 : t5.Canonical := .ite (.takeCkpt ht4) ht4
  clear_value t5
  have ht6 : t6.Canonical := .foldl ht5 fun _ ht => .arrive ht
  exact .watchLag ht6

theorem without_data (n : Bench) (e : Event) : (n.without e).data = n.data := by
  unfold Bench.without
  split <;> rfl

theorem takeEvent {b : Nat} {e : Event} (hs : s.Canonical) : (s.takeEvent b e).Canonical := by
  unfold State.takeEvent
  extract_lets n t
  have hn : n.data = (s.bench b).data := without_data _ e
  split
  · have ht : t.Canonical := .setBench hs hn
    exact .settle (.consumed (.congr ht rfl))
  · next a _ =>
    have hu : ∀ h, ((s.setBench b (n.start h)).consumed b (s.withMarks e)).Canonical := fun h =>
      .consumed (.setBench hs hn)
    exact .ite (.benchFault (hu _)) (hu _)

theorem disarm_data (n : Bench) (e : Event) : (n.disarm e).data = n.data := by
  unfold Bench.disarm
  split <;> rfl

theorem replayNext {b : Nat} (hs : s.Canonical) : (s.replayNext b).Canonical := by
  unfold State.replayNext
  extract_lets n
  split
  · exact hs
  · next r rest _ =>
    extract_lets m
    have hm : m.data = (s.bench b).data := disarm_data _ _
    split
    · split
      · exact .setBench hs hm
      · exact .replayMismatch hs
    · exact .setBench hs hm

theorem execHandlerEntry {b : Fin 5} (hs : s.Canonical) : Goes (execHandlerEntry b s) := by
  unfold Machine.execHandlerEntry
  extract_lets
  show State.Canonical _
  split
  · exact hs
  · split
    · exact .replayNext hs
    · split
      · exact .takeEvent hs
      · exact hs
    · exact hs

theorem execPositionClose (hs : s.Canonical) : Goes (execPositionClose s) := by
  unfold Machine.execPositionClose
  show State.Canonical _
  split
  · exact .beginPosition hs
  · exact hs

theorem execWakeatFire {b : Fin 5} {slot : Fin 16} (hs : s.Canonical) : Goes (execWakeatFire b slot s) := by
  unfold Machine.execWakeatFire
  extract_lets
  show State.Canonical _
  split
  · exact .ite (.deliver (.setBench hs rfl)) hs
  · exact hs

theorem execBenchRunEffect {b : Fin 5} (hs : s.Canonical) : Goes (execBenchRunEffect b s) := by
  unfold Machine.execBenchRunEffect
  extract_lets _ _ _ _ t1
  have ht1 : t1.Canonical := .congr hs rfl
  exact .ite hs
    (.ite (.ite (.setBench ht1 rfl) ht1) (.ite (.stopBench (.setBench ht1 rfl)) (.ite ht1 (.setBench ht1 rfl))))

/-! ### The tack store (chapter 6) -/

theorem complete {t : Tack} {status reason : Nat} {p : Pos} {lateness : Nat} (hs : s.Canonical) :
    (s.complete t status reason p lateness).Canonical :=
  .ite (.deliver (.congr hs rfl)) (.congr hs rfl)

theorem watchTacks (hs : s.Canonical) : s.watchTacks.Canonical := by
  unfold State.watchTacks
  extract_lets _ _ t1
  have ht1 : t1.Canonical := .congr hs rfl
  exact .ite (.ite ht1 (.note (.congr ht1 rfl))) (.congr ht1 rfl)

theorem applyStep {st : StepMade} (hs : s.Canonical) : (s.applyStep st).Canonical :=
  .watchTacks (.foldl (.congr hs rfl) fun _ ht => .complete ht)

theorem enterAt {d : Due} (hs : s.Canonical) : (s.enterAt d).Canonical := by
  unfold State.enterAt
  extract_lets
  split
  · extract_lets t1 t2 _ _ t3 t4
    have ht1 : t1.Canonical := .congr hs rfl
    have ht2 : t2.Canonical := .watchTacks (.foldl ht1 fun _ ht => .complete ht)
    have ht3 : t3.Canonical := by
      unfold t3
      refine .foldl ht2 fun _ ht => ?_
      split
      · exact .complete ht
      · exact .complete ht
      · exact ht
    have ht4 : t4.Canonical := by
      unfold t4
      refine .foldl ht3 fun _ ht => ?_
      split
      · exact ht
      · exact .ite (.congr ht rfl) (.raise (.complete (.congr ht rfl)))
    exact .watchTacks ht4

theorem digestReport {p : Pos} (hs : s.Canonical) : (s.digestReport p).Canonical :=
  .ite (.packet (.mirror (.alert (.congr hs rfl)))) (.mirror (.alert (.congr hs rfl)))

theorem storeWork (hs : s.Canonical) : s.storeWork.Canonical := by
  unfold State.storeWork
  split
  · exact hs
  · extract_lets t1 t2 _ t3 t4
    have ht1 : t1.Canonical := .foldl hs fun _ ht => .applyStep ht
    have ht2 : t2.Canonical := by
      unfold t2
      split
      · exact .ite ht1 (.digestReport ht1)
      · exact ht1
    have ht3 : t3.Canonical := .ite hs (.congr ht2 rfl)
    have ht4 : t4.Canonical := .enterAt ht3
    exact .ite (.congr ht4 rfl) ht3

theorem storePublish {step : Option Nat} (hs : s.Canonical) : (s.storePublish step).Canonical :=
  .ite hs (.storeWork (.congr hs rfl))

/-! ### How a bench executes one instruction -/

theorem putHandler {b : Nat} {h : Handler} (hs : s.Canonical) : (s.putHandler b h).Canonical :=
  .setBench hs rfl

theorem endHandler {b : Nat} {h : Handler} (hs : s.Canonical) : (s.endHandler b h).Canonical := by
  unfold State.endHandler
  extract_lets _ t1
  have ht1 : t1.Canonical := by
    unfold t1
    split
    · exact .setBench hs rfl
    · exact .setBench hs rfl
  exact .settle ht1

/-- An instruction keeps the canonical form when what it goes on with has it. -/
theorem instruct {b cost : Nat} {f : State → Handler → Exec} (hs : s.Canonical) (hf : ∀ h, (f s h).Canonical) :
    (s.instruct b cost f).Canonical := by
  unfold State.instruct
  split
  · exact hs
  · next h _ =>
    split
    · exact .benchFault hs
    · dsimp only
      have hrun := hf { h with used := h.used + cost }
      split
      · next t k hcont =>
        rw [hcont] at hrun
        have ht : t.Canonical := hrun
        split
        · exact .benchFault (.putHandler ht)
        · exact .putHandler ht
      · next t k a hgoto =>
        rw [hgoto] at hrun
        have ht : t.Canonical := hrun
        split
        · exact .benchFault hs
        · exact .putHandler ht
      · next t k hfinish =>
        rw [hfinish] at hrun
        have ht : t.Canonical := hrun
        exact .endHandler ht
      · exact .benchFault hs

theorem compute {b cost : Nat} {rd : Fin 16} {f : Handler → Word} (hs : s.Canonical) :
    (s.compute b cost rd f).Canonical :=
  .instruct hs (fun _ => hs)

end Sys2Proof.Machine.State.Canonical
end

section
/-! PROOFS. The canonical form through what the chapters share, record intake and the Last. -/

namespace Sys2Proof.Machine.State.Canonical

open Sys2Proof

variable {s t : State}

/-! ### What the chain chapters share -/

theorem setChain {c : Nat} {x : Chain} (hs : s.Canonical) : (s.setChain c x).Canonical := .congr hs rfl

theorem chainReply {code c id status reason : Nat} {rest : List Byte} (hs : s.Canonical) :
    (s.chainReply code c id status reason rest).Canonical :=
  .reply hs

theorem calServed {c slot : Nat} {ok : Option Bool} (hs : s.Canonical) : (s.calServed c slot ok).Canonical :=
  .ite hs (.foldl (.congr hs rfl) fun _ ht => .chainReply ht)

theorem calWrite {c key hz : Nat} {r : CalResult} (hs : s.Canonical) : (s.calWrite c key hz r).Canonical := by
  unfold State.calWrite
  extract_lets _ _ _ t1
  have ht1 : t1.Canonical := .congr hs rfl
  split
  · exact .raise (.congr hs rfl)
  · split
    · exact .congr ht1 rfl
    · split
      · exact .congr ht1 rfl
      · split
        · exact .calServed (.congr ht1 rfl)
        · exact .raise ht1

theorem placeBubble {c : Nat} {kind : BubbleKind} {urgent : Bool} (hs : s.Canonical) :
    (s.placeBubble c kind urgent).Canonical :=
  .radioEvent (.congr hs rfl)

theorem replaceBubbles (hs : s.Canonical) : s.replaceBubbles.Canonical :=
  .foldl (.foldl hs fun _ ht => .congr ht rfl) fun _ ht => .placeBubble ht

theorem placeCals {c : Nat} (hs : s.Canonical) : (s.placeCals c).Canonical := by
  unfold State.placeCals
  dsimp only
  generalize hplaced : (if (!(s.calUrgent c).isEmpty && !s.calPlaced c true) = true then s.placeBubble c .synthcal true
    else s) = t
  have ht : t.Canonical := by
    subst hplaced
    split
    · exact .placeBubble hs
    · exact hs
  split
  · exact .placeBubble ht
  · exact ht

/-! ### The signal plane of a lane (chapter 9) -/

theorem setLane {n : Nat} {x : Lane} (hs : s.Canonical) : (s.setLane n x).Canonical := by
  obtain ⟨h1, h2, h3, h4, h5, h6, h7, h8, h9, h10, h11⟩ := hs.parts
  exact State.canonical_iff.mpr ⟨h1, h2, h3, h4, h5, h6, h7, h8, swf_sput h9, h10, h11⟩

/-! ### Lane operations that several chapters share (chapters 9, 10 and 11) -/

theorem settleLane {n : Nat} (hs : s.Canonical) : (s.settleLane n).Canonical :=
  .setLane hs

theorem retuneLane {n : Nat} {x : Lane} {word : Word} (hs : s.Canonical) : (s.retuneLane n x word).Canonical :=
  .ite (.settleLane (.setLane hs)) (.setLane hs)

theorem setDelta {n delta : Nat} {slewing : Bool} (hs : s.Canonical) : (s.setDelta n delta slewing).Canonical :=
  .congr (.setLane hs) rfl

theorem startSlewing {n goal : Nat} (hs : s.Canonical) : (s.startSlewing n goal).Canonical :=
  .setLane hs

theorem stopSlewing {n : Nat} (hs : s.Canonical) : (s.stopSlewing n).Canonical :=
  .setLane hs

theorem fmEvent {n i : Nat} {rest : List Byte} (hs : s.Canonical) : (s.fmEvent n i rest).Canonical := by
  unfold State.fmEvent
  split
  · exact .ite (.radioFor hs) hs
  · exact hs

theorem spliceReply {id : Nat} {blk : List Byte} {status reason : Nat} {d : Int} {edge : Nat} (hs : s.Canonical) :
    (s.spliceReply id blk status reason d edge).Canonical :=
  .reply hs

theorem dropSplice {sp : Splice} (hs : s.Canonical) : (s.dropSplice sp).Canonical :=
  .ite (.congr hs rfl) (.congr (.stopSlewing (.stopSlewing (.congr hs rfl))) rfl)

theorem abandonedSplice (hs : s.Canonical) : s.abandonedSplice.Canonical :=
  .note (.congr hs rfl)

theorem abandonSplice {sp : Splice} {status reason : Nat} (hs : s.Canonical) :
    (s.abandonSplice sp status reason).Canonical :=
  .spliceReply (.abandonedSplice (.dropSplice hs))

theorem finishSplice {sp : Splice} (hs : s.Canonical) : (s.finishSplice sp).Canonical :=
  .spliceReply (.radioFor (.congr hs rfl))

theorem endFades {carrier : Nat} (hs : s.Canonical) : (s.endFades carrier).Canonical :=
  .foldl hs fun _ ht => .finishSplice ht

theorem carrierGone {carrier : Nat} (hs : s.Canonical) : (s.carrierGone carrier).Canonical :=
  .endFades (.foldl (.foldl (.congr hs rfl) fun _ ht => .reply ht) fun _ ht => .abandonSplice ht)

theorem dropCarrier {carrier : Nat} (hs : s.Canonical) : (s.dropCarrier carrier).Canonical :=
  .congr (.foldl hs fun _ ht => .abandonedSplice (.dropSplice ht)) rfl

theorem endCapture {n : Nat} (hs : s.Canonical) : (s.endCapture n).Canonical :=
  .ite (.congr (.setReg hs) rfl) hs

theorem freeLane {n : Nat} (hs : s.Canonical) : (s.freeLane n).Canonical := by
  unfold State.freeLane
  extract_lets _ t1 _ t2 _ _ t3
  have ht1 : t1.Canonical := .congr hs rfl
  have ht2 : t2.Canonical := .setLane ht1
  have ht3 : t3.Canonical := .congr ht2 rfl
  exact .endCapture (.congr (.carrierGone ht3) rfl)

theorem laneLost {n cause : Nat} (hs : s.Canonical) : (s.laneLost n cause).Canonical :=
  .radioEvent hs

theorem laneReply {release : Bool} {n id status reason : Nat} {rest : List Byte} (hs : s.Canonical) :
    (s.laneReply release n id status reason rest).Canonical :=
  .reply hs

theorem resetLane {n : Nat} (hs : s.Canonical) : (s.resetLane n).Canonical := by
  unfold State.resetLane
  extract_lets _ t1 _ _ _ _ _ _ _ _ t2
  have ht1 : t1.Canonical := .setLane hs
  have ht2 : t2.Canonical := .congr ht1 rfl
  exact .abortAll (.dropCarrier ht2)

/-! ### The FM receivers (chapter 10) but for demodulation and RDS -/

theorem pilotLost {lane : Nat} {f : FmLane} (hs : s.Canonical) : (s.pilotLost lane f).Canonical :=
  .fmEvent (.ite (.raise (.congr hs rfl)) (.congr hs rfl))

theorem judgePilot {lane : Nat} {clean : Bool} {phaseErr : Nat} (hs : s.Canonical) :
    (s.judgePilot lane clean phaseErr).Canonical := by
  unfold State.judgePilot
  split
  · exact .ite (.ite (.fmEvent (.congr hs rfl)) (.congr hs rfl)) (.ite (.pilotLost hs) (.congr hs rfl))
  · exact hs

theorem measureFm {r : Req} (hs : s.Canonical) : (s.measureFm r).Canonical := by
  unfold State.measureFm
  extract_lets n op period answer zeros
  have hanswer : ∀ {t : State} status reason rec, t.Canonical → (answer t status reason rec).Canonical :=
    fun _ _ _ ht => .reply ht
  split
  · exact hanswer _ _ _ hs
  · split
    · exact hanswer _ _ _ hs
    · next f _ =>
      generalize op = k
      match k with
      | 0 => exact hanswer _ _ _ (.congr hs rfl)
      | 1 => exact hanswer _ _ _ (.congr hs rfl)
      | k + 2 => exact hanswer _ _ _ hs

/-! ### What DAB reception (chapter 12) shares with the chains, the lanes and the Last -/

theorem dabReply {code d id status reason : Nat} {rest : List Byte} (hs : s.Canonical) :
    (s.dabReply code d id status reason rest).Canonical :=
  .reply hs

theorem dabRaise {code d id : Nat} {rest : List Byte} (hs : s.Canonical) : (s.dabRaise code d id rest).Canonical :=
  .radioFor hs

theorem dabEvent {i d : Nat} {rest : List Byte} (hs : s.Canonical) : (s.dabEvent i d rest).Canonical := by
  unfold State.dabEvent
  split
  · exact .ite (.radioFor hs) hs
  · exact hs

theorem dabSync {d : Nat} (hs : s.Canonical) : (s.dabSync d).Canonical :=
  .dabRaise hs

theorem dabSubch {d : Nat} {q : Selection} {cause : Nat} (hs : s.Canonical) : (s.dabSubch d q cause).Canonical :=
  .dabRaise hs

theorem setDabMode {d : Nat} {m : DabMode} (hs : s.Canonical) : (s.setDabMode d m).Canonical :=
  .ite (.raise (.congr hs rfl)) (.congr hs rfl)

theorem dabAbort {d reason : Nat} (hs : s.Canonical) : (s.dabAbort d reason).Canonical := by
  unfold State.dabAbort
  extract_lets _ _ t1 _ t2
  have ht1 : t1.Canonical := .congr hs rfl
  have ht2 : t2.Canonical := .congr ht1 rfl
  exact .abortAll (.dropCarrier ht2)

theorem stopDecoder {d : Nat} (hs : s.Canonical) : (s.stopDecoder d).Canonical := by
  unfold State.stopDecoder
  extract_lets _ _ t1 t2 t3 t4
  have ht1 : t1.Canonical := .congr hs rfl
  have ht2 : t2.Canonical := .congr ht1 rfl
  have ht3 : t3.Canonical := .foldl ht2 fun _ ht => .dabReply ht
  have ht4 : t4.Canonical := .ite ht3 (.freeLane ht3)
  exact .carrierGone (.setDabMode ht4)

theorem assignWide {d kHz : Nat} (hs : s.Canonical) : (s.assignWide d kHz).Canonical :=
  .settleLane (.setLane (.setLane hs))

theorem startDecoder {d kHz : Nat} {id : Option Nat} {run : Nat} {sels : List Selection} (hs : s.Canonical) :
    (s.startDecoder d kHz id run sels).Canonical :=
  .congr (.assignWide hs) rfl

theorem dabReset {d : Nat} (hs : s.Canonical) : (s.dabReset d).Canonical := by
  unfold State.dabReset
  extract_lets t1 _ t2 t3 t4 t5
  have ht1 : t1.Canonical := .congr hs rfl
  have ht2 : t2.Canonical := .congr ht1 rfl
  have ht3 : t3.Canonical := .dabAbort ht2
  have ht4 : t4.Canonical := .foldl ht3 fun _ ht => .dabSubch ht
  have ht5 : t5.Canonical := .setDabMode ht4
  exact .ite ht4 (.dabSync (.congr ht5 rfl))

theorem dabFail {d : Nat} (hs : s.Canonical) : (s.dabFail d).Canonical := by
  unfold State.dabFail
  extract_lets x o y covers t1 t2 x' t3 t4 t5 sels t6 t7 t8 _
  have ht1 : t1.Canonical := .raise hs
  clear_value t1
  have ht2 : t2.Canonical := .congr ht1 rfl
  clear_value t2
  have ht3 : t3.Canonical := .congr ht2 rfl
  clear_value t3
  have ht4 : t4.Canonical := .dabAbort ht3
  clear_value t4
  have ht5 : t5.Canonical := .dabRaise ht4
  clear_value t5
  have ht6 : t6.Canonical := .congr ht5 rfl
  clear_value t6
  have ht7 : t7.Canonical := .ite ht6 (.freeLane ht6)
  clear_value t7
  have ht8 : t8.Canonical := .setDabMode ht7
  clear_value t8
  exact .ite hs (.ite (.congr ht8 rfl) ht8)

theorem respanLanes (hs : s.Canonical) : s.respanLanes.Canonical := by
  unfold State.respanLanes
  refine .foldl hs fun _ ht => ?_
  extract_lets _ _ t1
  have ht1 : t1.Canonical := .laneLost (.freeLane ht)
  exact .ite (.ite (.ite (.dabSync (.stopDecoder ht1)) ht1) (.retuneLane ht)) ht

/-! ### What the hearth link, the chains and the welt pair share of chapter 13 -/

theorem hlEvent {code : Nat} {rest : List Byte} (hs : s.Canonical) : (s.hlEvent code rest).Canonical :=
  .radioEvent hs

theorem setLink {m : LinkMode} {cause : Nat} (hs : s.Canonical) : (s.setLink m cause).Canonical :=
  .hlEvent (.congr hs rfl)

theorem frameLost {handle : Word} {cause : Nat} (hs : s.Canonical) : (s.frameLost handle cause).Canonical := by
  unfold State.frameLost
  extract_lets _ _ t1 _ _ t2 t3 t4
  have ht1 : t1.Canonical := .congr hs rfl
  have ht2 : t2.Canonical := .congr ht1 rfl
  have ht3 : t3.Canonical := .ite (.note ht2) ht2
  have ht4 : t4.Canonical := .ite (.note ht3) ht3
  exact .hlEvent ht4

theorem frameRefused {f : HFrame} (hs : s.Canonical) : (s.frameRefused f).Canonical :=
  .frameLost hs

theorem burstBGone {f : HFrame} (hs : s.Canonical) : (s.burstBGone f).Canonical :=
  .ite (.frameRefused hs) (.congr hs rfl)

theorem cancelBs (hs : s.Canonical) : s.cancelBs.Canonical :=
  .foldl (.congr hs rfl) fun _ ht => .burstBGone ht

theorem dropUnbegun (hs : s.Canonical) : s.dropUnbegun.Canonical := by
  unfold State.dropUnbegun
  split
  · extract_lets _ t1
    have ht1 : t1.Canonical := .congr hs rfl
    split
    · exact hs
    · split
      · exact .ite (.burstBGone ht1) (.congr ht1 rfl)
      · exact ht1
  · exact hs

theorem hearthStep (hs : s.Canonical) : s.hearthStep.Canonical :=
  .ite (.dropUnbegun (.cancelBs hs)) (.congr (.dropUnbegun (.cancelBs hs)) rfl)

theorem abandonBurst (hs : s.Canonical) : s.abandonBurst.Canonical := by
  unfold State.abandonBurst
  extract_lets t1
  have ht1 : t1.Canonical := .dropUnbegun hs
  split
  · exact .congr ht1 rfl
  · exact .congr ht1 rfl

theorem hearthReset (hs : s.Canonical) : s.hearthReset.Canonical :=
  .cancelBs (.abandonBurst hs)

theorem stopLink {cause : Nat} (hs : s.Canonical) : (s.stopLink cause).Canonical := by
  unfold State.stopLink
  extract_lets t1 _ _ _ t2 t3 t4 t5
  have ht1 : t1.Canonical := .dropUnbegun hs
  have ht2 : t2.Canonical := .congr ht1 rfl
  have ht3 : t3.Canonical := .cancelBs ht2
  have ht4 : t4.Canonical := .foldl ht3 fun _ ht => .frameLost ht
  have ht5 : t5.Canonical := .ite ht4 (.setLink ht4)
  exact .ite ht5 (.reply (.congr ht5 rfl))

theorem hearthFailed (hs : s.Canonical) : s.hearthFailed.Canonical :=
  .ite hs (.stopLink (.raise hs))

/-! ### Record intake (chapter 3) -/

theorem completeBatch {carrier : Nat} {bytes : List Byte} {anchors : List Anchor} (hs : s.Canonical) :
    (s.completeBatch carrier bytes anchors).Canonical := by
  unfold State.completeBatch
  extract_lets _ _ t1 _ t2 _ _ _ t3
  have ht1 : t1.Canonical := .ite (.congr hs rfl) hs
  have ht2 : t2.Canonical := .congr ht1 rfl
  have ht3 : t3.Canonical := .congr ht2 rfl
  exact .ite (.note (.congr hs rfl)) (.ite (.ite (.note ht3) ht3) ht2)

theorem growPartial {p : Partial} (hs : s.Canonical) : (s.growPartial p).Canonical :=
  .ite (.congr hs rfl) (.ite (.completeBatch (.congr hs rfl)) (.congr hs rfl))

theorem odaGroup {n low : Nat} {bytes : List Byte} {anchor : Anchor} (hs : s.Canonical) :
    (s.odaGroup n low bytes anchor).Canonical := by
  unfold State.odaGroup
  extract_lets _ t1
  have ht1 : t1.Canonical := .congr hs rfl
  split
  · exact .growPartial ht1
  · split
    · exact hs
    · exact .ite (.congr hs rfl) (.growPartial hs)

theorem intakeGroup {n : Nat} {blocks : List (Nat × Nat)} {verB : Bool} {anchor : Anchor} (hs : s.Canonical) :
    (s.intakeGroup n blocks verB anchor).Canonical := by
  unfold State.intakeGroup
  extract_lets
  split
  · exact hs
  · split
    · exact hs
    · exact .ite hs (.ite (.congr hs rfl) (.odaGroup hs))

theorem declareLost {e : Stream} {ns : List Nat} (hs : s.Canonical) : (s.declareLost e ns).1.Canonical :=
  .foldlFst hs fun _ _ hp => .note (.congr hp rfl)

theorem takeRecord {b : Batch} {r : Nat × Nat × List Byte} {i : Nat} (hs : s.Canonical) :
    (s.takeRecord b r i).1.Canonical := by
  unfold State.takeRecord
  split
  · exact hs
  · next e _ =>
    extract_lets n
    split
    · exact .congr hs rfl
    · exact .congr hs rfl
    · split
      next e gone _ =>
      extract_lets e t
      have ht : t.Canonical := .congr hs rfl
      split
      next u losses hlost =>
      have hu : u.Canonical := .fst hlost (.declareLost ht)
      split
      · exact .ite hu (.congr hu rfl)
      · exact hu

theorem entryFor {b : Batch} (hs : s.Canonical) : (s.entryFor b).1.Canonical := by
  unfold State.entryFor
  extract_lets verified last
  split
  · split
    · exact .note (.congr hs rfl)
    · exact .congr hs rfl
  · next e _ =>
    extract_lets ahead e
    split
    · exact .congr hs rfl
    · split
      · exact .congr hs rfl
      · exact .congr hs rfl

theorem acceptBatch {b : Batch} (hs : s.Canonical) : (s.acceptBatch b).1.Canonical := by
  unfold State.acceptBatch
  split
  rename_i t1 _ e1
  have ht1 : t1.Canonical := .fst e1 (.entryFor hs)
  split
  · exact ht1
  · split
    · exact ht1
    · exact .foldlFst ht1 fun _ _ hp => .takeRecord hp

theorem recordTo {mask : Nat} {e : Event} (hs : s.Canonical) : (s.recordTo mask e).Canonical :=
  .foldl hs fun _ ht => .ite (.deliver ht) ht

theorem deliverRecord {r : Record} (hs : s.Canonical) : (s.deliverRecord r).Canonical :=
  .ite hs (.ite (.congr hs rfl) (.mirror (.recordTo hs)))

/-! ### The Last (chapter 2) -/

theorem raiseLast {e : Event} (hs : s.Canonical) : (s.raiseLast e).Canonical :=
  .ite (.deliver hs) (.mirror (.deliverAll hs))

theorem lastEvt {bits : Nat} (hs : s.Canonical) : (s.lastEvt bits).Canonical :=
  .alert (.congr hs rfl)

theorem lastLoss {change : Nat} {a b : Source} (hs : s.Canonical) : (s.lastLoss change a b).Canonical :=
  .raiseLast hs

theorem moveTo {x : Source} (hs : s.Canonical) : (s.moveTo x).Canonical := by
  unfold State.moveTo
  extract_lets _ _ t1 _ t2
  have ht1 : t1.Canonical := .congr hs rfl
  have ht2 : t2.Canonical := .congr ht1 rfl
  exact .ite hs (.ite (.lastLoss (.note (.lastEvt ht2))) (.ite (.lastLoss (.congr ht1 rfl)) ht1))

theorem watchSource (hs : s.Canonical) : s.watchSource.Canonical :=
  .ite hs (.moveTo hs)

theorem bestSource (hs : s.Canonical) : s.bestSource.Canonical :=
  .ite hs (.moveTo hs)

theorem resumeLast (hs : s.Canonical) : s.resumeLast.Canonical :=
  .ite (.lastLoss (.congr hs rfl)) hs

theorem stopLast (hs : s.Canonical) : s.stopLast.Canonical :=
  .ite hs (.lastLoss (.note (.lastEvt (.congr hs rfl))))

theorem setGovCarrier {c : Option Nat} (hs : s.Canonical) : (s.setGovCarrier c).Canonical :=
  .ite hs (.watchSource (.congr hs rfl))

theorem publish {p : Pos} {step : Option Nat} (hs : s.Canonical) : (s.publish p step).Canonical := by
  unfold State.publish
  extract_lets t1 _ t2 t3 _ t4 t5 _ t6
  have ht1 : t1.Canonical := .ite hs (.ageItems hs)
  have ht2 : t2.Canonical := .congr ht1 rfl
  have ht3 : t3.Canonical := .mirror ht2
  have ht4 : t4.Canonical := .ite (.watchLag (.congr ht3 rfl)) ht3
  have ht5 : t5.Canonical := .storePublish ht4
  have ht6 : t6.Canonical := .ite (.congr ht5 rfl) ht5
  exact .ite (.congr ht6 rfl) ht6

theorem endCorrection (hs : s.Canonical) : s.endCorrection.Canonical :=
  .ite (.congr hs rfl) (.congr hs rfl)

theorem completeCorrection (hs : s.Canonical) : s.completeCorrection.Canonical :=
  .endCorrection (.congr hs rfl)

theorem startHold {x : Nat} (hs : s.Canonical) : (s.startHold x).Canonical :=
  .congr (.endCorrection hs) rfl

theorem startSlew {x : Nat} (hs : s.Canonical) : (s.startSlew x).Canonical :=
  .congr (.endCorrection hs) rfl

theorem moveStamps {e : Int} (hs : s.Canonical) : (s.moveStamps e).Canonical := .congr hs rfl

theorem stepLast {e : Int} {cause : Nat} (hs : s.Canonical) : (s.stepLast e cause).Canonical := by
  unfold State.stepLast
  extract_lets p0 q0 q1 p1 back t1 _ t2 t3 t4 t5
  have ht1 : t1.Canonical := .endCorrection hs
  clear_value t1
  have ht2 : t2.Canonical := .congr ht1 rfl
  clear_value t2
  have ht3 : t3.Canonical := .lastEvt ht2
  clear_value t3
  have ht4 : t4.Canonical := .publish ht3
  clear_value t4
  have ht4 : t4.replaceBubbles.hearthStep.Canonical := .hearthStep (.replaceBubbles ht4)
  have ht5 : t5.Canonical := .moveStamps ht4
  clear_value t5
  exact .raiseLast ht5

theorem stampEvent {v : Nat} {a e : List Byte} {action : Nat} (hs : s.Canonical) :
    (s.stampEvent v a e action).Canonical :=
  .raiseLast hs

theorem freeBytes {n : Nat} (hs : s.Canonical) : (State.freeBytes n s).2.Canonical := by
  induction n generalizing s with
  | zero => exact hs
  | succ n ih => exact .congr (s := (State.freeBytes n s).2) (ih hs) rfl

theorem answer {e : Int} (hs : s.Canonical) : (s.answer e).2.Canonical := by
  unfold State.answer
  extract_lets tol small _ t1 t2 run
  have ht1 : t1.Canonical := .congr hs rfl
  clear_value t1
  have ht2 : t2.Canonical := .congr hs rfl
  clear_value t2
  have hfirst : (t1.stepLast e 1).Canonical := .stepLast ht1
  have hstep : (s.stepLast e 0).Canonical := .stepLast hs
  refine .iteSnd (.iteSnd ht1 ?_) (.iteSnd ?_ (.iteSnd (.iteSnd ?_ ?_) (.iteSnd ?_ ?_)))
  all_goals dsimp only
  · exact hfirst
  · exact .endCorrection (.congr hs rfl)
  · exact .startHold ht2
  · exact .startSlew ht2
  · exact hstep
  · exact .congr hs rfl

theorem applyStamp {v carrier : Nat} {anchor : Option Anchor} (hs : s.Canonical) :
    (s.applyStamp v carrier anchor).Canonical := by
  unfold State.applyStamp
  split
  · split
    next a t ht =>
    split
    next e u hu =>
    exact .stampEvent (.snd hu (.freeBytes (.snd ht (.freeBytes hs))))
  · extract_lets a e ab eb first
    refine .ite (.stampEvent hs) (.ite (.stampEvent (.note hs)) ?_)
    split
    next action t ht =>
    have ht : t.Canonical := .snd ht (.answer hs)
    extract_lets _ t1 _ _ t2
    have ht1 : t1.Canonical := .ite ht (.congr ht rfl)
    clear_value t1
    have ht2 : t2.Canonical := .ite (.setGovCarrier (.congr ht1 rfl)) ht1
    exact .stampEvent ht2

theorem setGoverning {id : Nat} (hs : s.Canonical) : (s.setGoverning id).Canonical := by
  unfold State.setGoverning
  extract_lets t1 _ t2
  have ht1 : t1.Canonical := .setReg hs
  have ht2 : t2.Canonical := .congr ht1 rfl
  exact .ite hs (.watchSource (.ite ht2 (.setGovCarrier ht2)))

theorem governReply {id status reason : Nat} (hs : s.Canonical) : (s.governReply id status reason).Canonical :=
  .reply hs

end Sys2Proof.Machine.State.Canonical
end

section
/-! PROOFS. The canonical form through FM, following, the stream and audio ports and the store. -/

namespace Sys2Proof.Machine.State.Canonical

open Sys2Proof

variable {s t : State}

/-! ### FM demodulation and the programme outputs (chapter 10) -/

theorem feedOutput {n : Nat} {es : List (Mpx × BitVec 32)} {po : Nat} (hs : s.Canonical) :
    (s.feedOutput n es po).Canonical :=
  .ite (.note (.congr hs rfl)) (.congr hs rfl)

theorem recordMpx {n : Nat} {ms : List Mpx} (hs : s.Canonical) : (s.recordMpx n ms).Canonical := by
  unfold State.recordMpx
  extract_lets
  exact .congr hs rfl

theorem demodulate {n : Nat} {b : OutBlock} (hs : s.Canonical) : (s.demodulate n b).2.Canonical := by
  unfold State.demodulate
  split
  · exact hs
  · exact .foldl (.recordMpx (.congr hs rfl)) fun _ ht => .feedOutput ht

theorem moveDelay {n po : Nat} (hs : s.Canonical) : (s.moveDelay n po).Canonical := by
  unfold State.moveDelay
  extract_lets _ _ _ _ r1 _ t2 _ t3 _ t4
  have ht2 : t2.Canonical := by
    unfold t2
    unfold r1
    split
    · exact .congr hs rfl
    · exact hs
  have ht3 : t3.Canonical := .congr ht2 rfl
  have ht4 : t4.Canonical := .setLane ht3
  exact .setDelta ht4

theorem fmQuality {n : Nat} {aliased : Bool} (hs : s.Canonical) : (s.fmQuality n aliased).Canonical := by
  unfold State.fmQuality
  split
  · extract_lets r1 t2
    have ht2 : t2.Canonical := .congr hs rfl
    split
    · exact .ite (.radioFor (.congr ht2 rfl)) (.congr ht2 rfl)
    · exact .congr ht2 rfl
  · exact hs

theorem execPoTick {po : Fin 2} (hs : s.Canonical) : Goes (execPoTick po s) := by
  unfold Machine.execPoTick
  extract_lets
  show State.Canonical _
  split
  · exact .ite (.congr hs rfl) hs
  · exact hs

theorem execDetectorBlock {lane : Nat} (hs : s.Canonical) : Goes (execDetectorBlock lane s) := by
  unfold Machine.execDetectorBlock
  extract_lets _ _ _ _ t1
  have ht1 : t1.Canonical := .setLane hs
  show State.Canonical _
  split
  · exact hs
  · split
    · exact .congr ht1 rfl
    · exact ht1

/-! ### Following a programme across frequencies (chapter 11) -/

theorem correlateReply {id : Nat} {blk : List Byte} {status reason : Nat} {d : Int} {conf ratio pp : Nat}
    (hs : s.Canonical) :
    (s.correlateReply id blk status reason d conf ratio pp).Canonical :=
  .reply hs

theorem startCorrelate {r : Req} (hs : s.Canonical) : (s.startCorrelate r).Canonical :=
  .ite (.correlateReply hs) (.ite (.correlateReply hs) (.ite (.correlateReply hs) (.congr hs rfl)))

theorem noteStamp {stream seq carrier : Nat} {a : Anchor} (hs : s.Canonical) :
    (s.noteStamp stream seq carrier a).Canonical := by
  unfold State.noteStamp
  extract_lets
  exact .congr hs rfl

theorem endCorrelate {q : Corr} {status reason : Nat} {d : Int} {conf ratio pp : Nat} (hs : s.Canonical) :
    (s.endCorrelate q status reason d conf ratio pp).Canonical :=
  .correlateReply (.ite (.congr hs rfl) (.congr hs rfl))

theorem execCorrelateReply {id : Nat} (hs : s.Canonical) : Goes (execCorrelateReply id s) := by
  unfold Machine.execCorrelateReply
  show State.Canonical _
  split
  · exact hs
  · extract_lets
    split
    · exact .ite hs (.ite (.endCorrelate hs) (.ite (.endCorrelate hs) (.endCorrelate hs)))
    · split
      · exact .ite (.endCorrelate hs) hs
      · exact .ite (.endCorrelate hs) hs

theorem spliceStage {sp : Splice} {code : Nat} (hs : s.Canonical) : (s.spliceStage sp code).Canonical :=
  .radioFor hs

theorem startAlign {sp : Splice} (hs : s.Canonical) : (s.startAlign sp).Canonical := by
  unfold State.startAlign
  split
  · exact .ite (.congr hs rfl) (.congr (.spliceStage hs) rfl)
  · extract_lets d target sp' p _ _ t1 t2
    have ht1 : t1.Canonical := .congr hs rfl
    clear_value t1
    have ht2 : t2.Canonical := .startSlewing (.setDelta ht1)
    exact .congr ht2 rfl

theorem acceptSplice {r : Req} {q : CorrResult} (hs : s.Canonical) : (s.acceptSplice r q).Canonical := by
  unfold State.acceptSplice
  extract_lets _ _ t1 t2
  have ht1 : t1.Canonical := .congr hs rfl
  have ht2 : t2.Canonical := .spliceStage ht1
  split
  · exact .ite (.congr (.startSlewing ht2) rfl) (.startAlign ht2)
  · exact .startAlign ht2

theorem startSplice {r : Req} (hs : s.Canonical) : (s.startSplice r).Canonical := by
  unfold State.startSplice
  extract_lets
  split
  · exact .spliceReply hs
  · split
    · exact .spliceReply hs
    · split
      · exact .spliceReply hs
      · split
        · exact .spliceReply hs
        · exact .ite (.spliceReply hs) (.ite (.spliceReply hs) (.ite (.spliceReply (.note hs)) (.acceptSplice hs)))

theorem followEdge (hs : s.Canonical) : s.followEdge.Canonical :=
  .ite hs (.foldl (.congr hs rfl) fun _ ht => .ite (.startCorrelate ht) (.startSplice ht))

theorem growDelta {n : Nat} (hs : s.Canonical) : (s.growDelta n).Canonical := by
  unfold State.growDelta
  extract_lets _ _ t1
  have ht1 : t1.Canonical := .setDelta hs
  split
  · exact hs
  · split
    · exact .ite (.moveDelay ht1) ht1
    · exact ht1

theorem endAlign {sp : Splice} (hs : s.Canonical) : (s.endAlign sp).Canonical :=
  .ite (.congr (.spliceStage hs) rfl) (.congr (.spliceStage (.spliceStage hs)) rfl)

theorem execSpliceAlignEnd {id : Nat} (hs : s.Canonical) : Goes (execSpliceAlignEnd id s) := by
  unfold Machine.execSpliceAlignEnd
  show State.Canonical _
  split
  · exact hs
  · split
    · exact .ite hs (.startAlign (.spliceStage hs))
    · exact .ite hs (.endAlign hs)
    · exact hs

theorem spliceEdge {sp : Splice} (hs : s.Canonical) : (s.spliceEdge sp).Canonical := by
  unfold State.spliceEdge
  extract_lets _ _ _ t1 _ _ _ t2 _ t3
  have ht1 : t1.Canonical := .congr hs rfl
  have ht2 : t2.Canonical := .ite (.bestSource (.setGovCarrier (.congr ht1 rfl))) ht1
  have ht3 : t3.Canonical := .congr (.spliceStage ht2) rfl
  exact .ite (.finishSplice ht3) ht3

theorem execSpliceEdge {id : Nat} {invalid : Bool} (hs : s.Canonical) : Goes (execSpliceEdge id invalid s) := by
  unfold Machine.execSpliceEdge
  show State.Canonical _
  split
  · exact hs
  · split
    · exact hs
    · split
      · exact .ite (.spliceEdge hs) hs
      · exact .ite (.ite (.spliceEdge hs) (.abandonSplice hs)) hs
      · exact hs

theorem execSpliceFadeEnd {id : Nat} (hs : s.Canonical) : Goes (execSpliceFadeEnd id s) := by
  unfold Machine.execSpliceFadeEnd
  show State.Canonical _
  split
  · exact .ite (.finishSplice hs) hs
  · exact hs

theorem execSpliceExpiry {id : Nat} (hs : s.Canonical) : Goes (execSpliceExpiry id s) := by
  unfold Machine.execSpliceExpiry
  show State.Canonical _
  split
  · exact .ite (.spliceReply (.dropSplice hs)) hs
  · exact hs

/-! ### The stream port, and of the audio ports what the tack targets use (chapter 17) -/

theorem audioMarker {p : Nat} {handle : Word} {due : Pos} {payload : List Byte} (hs : s.Canonical) :
    (s.audioMarker p handle due payload).Canonical :=
  .ite (.congr hs rfl) (.congr hs rfl)

theorem writeCapture {v : Word} (hs : s.Canonical) : (s.writeCapture v).Canonical :=
  .congr (.setReg hs) rfl

theorem execStreamPacketSend {stHold : Bool} (hs : s.Canonical) : Goes (execStreamPacketSend stHold s) := by
  unfold Machine.execStreamPacketSend
  extract_lets _ t1
  have ht1 : t1.Canonical := .congr hs rfl
  show State.Canonical _
  split
  · split
    · exact .congr ht1 rfl
    · exact ht1
  · exact ht1

/-! ### The audio ports at work (chapter 17) -/

theorem routeReply {r : Req} {status reason : Nat} (hs : s.Canonical) : (s.routeReply r status reason).Canonical :=
  .reply hs

theorem setSource {po : Nat} {lane : Option Nat} (hs : s.Canonical) : (s.setSource po lane).Canonical := by
  unfold State.setSource
  extract_lets _ _ t1
  have ht1 : t1.Canonical := by
    unfold t1
    split
    · exact .ite hs (.setDelta hs)
    · exact hs
  exact .congr ht1 rfl

theorem setPorts {po mask : Nat} (hs : s.Canonical) : (s.setPorts po mask).Canonical :=
  .foldl hs fun _ ht => .ite (.congr ht rfl) ht

theorem routeReq {r : Req} (hs : s.Canonical) : (s.routeReq r).Canonical := by
  unfold State.routeReq
  extract_lets
  split
  · exact .routeReply hs
  · split
    · exact .ite (.routeReply hs) (.ite (.routeReply hs) (.routeReply (.setSource hs)))
    · exact .ite (.routeReply hs) (.routeReply (.setSource hs))
    · exact .routeReply (.setPorts hs)

theorem routeEdge (hs : s.Canonical) : s.routeEdge.Canonical :=
  .foldl (.congr hs rfl) fun _ ht => .routeReq ht

theorem produceMarkers {p t : Nat} (hs : s.Canonical) : (s.produceMarkers p t).Canonical :=
  .foldl (.congr hs rfl) fun _ ht => .packet ht

theorem realign {p sub : Nat} {loud : Bool} (hs : s.Canonical) : (s.realign p sub loud).Canonical := by
  unfold State.realign
  extract_lets _ _ _ t1 t2 t3
  have ht1 : t1.Canonical := .congr hs rfl
  have ht2 : t2.Canonical := .radioFor ht1
  have ht3 : t3.Canonical := .ite (.note ht2) ht2
  exact .ite ht3 (.note ht3)

theorem writeAudCtrl {p sub : Nat} {v : Word} (hs : s.Canonical) : (s.writeAudCtrl p sub v).Canonical := by
  unfold State.writeAudCtrl
  extract_lets _ t1 _ _ _ t2
  have ht1 : t1.Canonical := .setReg hs
  have ht2 : t2.Canonical := .congr ht1 rfl
  exact .ite (.congr ht1 rfl) (.ite ht2 (.realign ht2))

/-! ### The store beneath its rows (chapter 19) -/

theorem checkEnergy {need : Nat} (hs : s.Canonical) : (s.checkEnergy need).2.Canonical := by
  unfold State.checkEnergy
  extract_lets _ t1
  have ht1 : t1.Canonical := .congr hs rfl
  split
  · exact ht1
  · exact .note (.congr ht1 rfl)

theorem started {r : Bool × State} {op : StoreOp} (hr : r.2.Canonical) :
    (if r.1 then (true, { r.2 with store.op := some op }) else r).2.Canonical := by
  split
  · exact .congr hr rfl
  · exact hr

theorem startOp {op : StoreOp} (hs : s.Canonical) : (s.startOp op).2.Canonical :=
  .started (.checkEnergy hs)

theorem journalTidy (hs : s.Canonical) : s.journalTidy.Canonical := by
  unfold State.journalTidy
  have hr : (s.checkEnergy 2000).2.Canonical := .checkEnergy hs
  generalize s.checkEnergy 2000 = r at hr ⊢
  obtain ⟨ok, u⟩ := r
  split
  · extract_lets
    refine .ite hs (.ite hr (.foldl (.congr hr rfl) fun _ ht => .congr ht rfl))
  · exact hs

theorem journalPut {k : JKind} {step : Nat} {body : List Byte} (hs : s.Canonical) :
    (s.journalPut k step body).Canonical :=
  .journalTidy (.congr hs rfl)

theorem sweepRecord (hs : s.Canonical) : s.sweepRecord.Canonical :=
  .ite (.journalPut (.checkEnergy hs)) (.checkEnergy hs)

theorem abandonCommit (hs : s.Canonical) : s.abandonCommit.Canonical := .congr hs rfl

theorem startCommit (hs : s.Canonical) : s.startCommit.Canonical := by
  unfold State.startCommit
  have hr : (s.checkEnergy 2000).2.Canonical := .checkEnergy hs
  generalize s.checkEnergy 2000 = r at hr ⊢
  obtain ⟨ok, u⟩ := r
  exact .ite hs (.ite (.congr hr rfl) (.abandonCommit hr))

theorem loadTable (hs : s.Canonical) : s.loadTable.Canonical := by
  unfold State.loadTable
  extract_lets slot
  generalize slot = o
  match o with
  | some _ => exact .congr hs rfl
  | none => exact .note (.congr hs rfl)

theorem setBank {b : Bool} {x : Bank} (hs : s.Canonical) : (s.setBank b x).Canonical :=
  .ite (.congr hs rfl) (.congr hs rfl)

end Sys2Proof.Machine.State.Canonical
end

section
/-! PROOFS. The canonical form through the RF chains, infrared and the lanes. -/

namespace Sys2Proof.Machine.State.Canonical

open Sys2Proof

variable {s t : State}

/-! ### The RF chains (chapter 7) and their recalibration (chapter 8) -/

theorem abortChain {c reason : Nat} (hs : s.Canonical) : (s.abortChain c reason).Canonical := by
  unfold State.abortChain
  extract_lets _ _ t1 _ t2 _ t3
  have ht1 : t1.Canonical := .congr hs rfl
  have ht2 : t2.Canonical := by
    unfold t2
    split
    · exact .ite (.congr ht1 rfl) ht1
    · exact ht1
  have ht3 : t3.Canonical := .ite (.congr ht2 rfl) ht2
  exact .abortAll ht3

theorem endBubbles {c : Nat} (hs : s.Canonical) : (s.endBubbles c).Canonical := by
  unfold State.endBubbles
  extract_lets _ _ t1 t2
  have ht1 : t1.Canonical := .congr hs rfl
  have ht2 : t2.Canonical := .foldl ht1 fun _ ht => .radioEvent ht
  exact .ite ht2 (.placeCals ht2)

theorem resetChain {c : Nat} {failed : Option Nat} (hs : s.Canonical) : (s.resetChain c failed).Canonical := by
  unfold State.resetChain
  extract_lets _ t1 _ t2 t3 t4 t5 t6
  have ht1 : t1.Canonical := .ite (.congr hs rfl) (.congr hs rfl)
  have ht2 : t2.Canonical := .congr ht1 rfl
  have ht3 : t3.Canonical := .abortChain ht2
  have ht4 : t4.Canonical := by
    unfold t4
    split
    · exact .radioEvent ht3
    · exact ht3
  have ht5 : t5.Canonical := .endBubbles ht4
  have ht6 : t6.Canonical := .ite (.hearthReset ht5) ht5
  exact .congr ht6 rfl

theorem failChain {c : Nat} {codes : List Nat} (hs : s.Canonical) : (s.failChain c codes).Canonical := by
  unfold State.failChain
  extract_lets _ t1 t2
  have ht1 : t1.Canonical := .foldl hs fun _ ht => .raise ht
  have ht2 : t2.Canonical := .resetChain ht1
  exact .ite (.hearthFailed ht2) (.respanLanes (.congr ht2 rfl))

theorem holdChain {c : Nat} (hs : s.Canonical) : (s.holdChain c).Canonical := by
  unfold State.holdChain
  extract_lets _ t1 _ t2
  have ht1 : t1.Canonical := .ite (.congr (.abandonBurst hs) rfl) (.congr hs rfl)
  have ht2 : t2.Canonical := .congr ht1 rfl
  exact .ite (.congr hs rfl) (.endBubbles (.abortChain ht2))

theorem orderState {c : Nat} {m : ChainMode} {id : Option Nat} (hs : s.Canonical) :
    (s.orderState c m id).Canonical := by
  unfold State.orderState
  extract_lets
  split
  · split
    · exact .chainReply hs
    · exact hs
  · exact .congr hs rfl

theorem chainStateReq {r : Req} (hs : s.Canonical) : (s.chainStateReq r).Canonical := by
  unfold State.chainStateReq
  extract_lets _ _ _ _ t1
  have ht1 : t1.Canonical := .ite (.congr hs rfl) hs
  exact .ite (.chainReply hs) (.ite (.chainReply hs) (.ite (.chainReply hs) (.ite (.chainReply hs) (.orderState ht1))))

theorem chainTuneReq {r : Req} (hs : s.Canonical) : (s.chainTuneReq r).Canonical := by
  unfold State.chainTuneReq
  extract_lets
  split
  · exact .chainReply hs
  · exact .congr hs rfl

theorem applyTune {r : Req} (hs : s.Canonical) : (s.applyTune r).Canonical := by
  unfold State.applyTune
  extract_lets _ _ _ _ t1 t2
  have ht1 : t1.Canonical := .ite (.congr hs rfl) hs
  have ht2 : t2.Canonical := .foldl ht1 fun _ ht => .congr ht rfl
  split
  · exact .chainReply hs
  · exact .ite (.respanLanes ht2) ht2

theorem endTransition {c us : Nat} {cal : CalResult} {t : Transition} (hs : s.Canonical) :
    (s.endTransition c us cal t).Canonical := by
  unfold State.endTransition
  extract_lets _ t1 t2 _ t3 t4
  have ht1 : t1.Canonical := .ite (.calWrite hs) hs
  have ht2 : t2.Canonical := .ite (.congr ht1 rfl) ht1
  have ht3 : t3.Canonical := .congr ht2 rfl
  have ht4 : t4.Canonical := .placeCals ht3
  split
  · exact .ite (.chainReply ht4) (.chainReply ht4)
  · exact ht4

theorem settleGain {c : Nat} (hs : s.Canonical) : (s.settleGain c).Canonical := by
  unfold State.settleGain
  split
  · exact .congr hs rfl

theorem gainReq {r : Req} (hs : s.Canonical) : (s.gainReq r).Canonical :=
  .ite (.chainReply hs) (.ite (.chainReply hs) (.ite (.chainReply hs) (.congr hs rfl)))

theorem applyGains {c : Nat} (hs : s.Canonical) : (s.applyGains c).Canonical :=
  .foldl (.congr hs rfl) fun _ ht => .chainReply (.settleGain (.setReg ht))

theorem protectReq {r : Req} (hs : s.Canonical) : (s.protectReq r).Canonical := by
  unfold State.protectReq
  extract_lets _ _ _ _ _ _ _ t1
  have ht1 : t1.Canonical := .foldl hs fun _ ht => .congr ht rfl
  exact .ite (.chainReply hs) (.ite (.chainReply hs) (.ite (.chainReply hs) (.chainReply ht1)))

theorem startSweep {mask c : Nat} {id : Option Nat} (hs : s.Canonical) : (s.startSweep mask c id).Canonical :=
  .sweepRecord (.congr hs rfl)

theorem calibrateReq {r : Req} (hs : s.Canonical) : (s.calibrateReq r).Canonical := by
  unfold State.calibrateReq
  extract_lets _ _ _ _ _ _ _ _ t1
  have ht1 : t1.Canonical := .congr hs rfl
  split
  · exact .chainReply hs
  · split
    · exact .chainReply hs
    · split
      · exact .chainReply hs
      · exact .ite (.chainReply hs)
          (.ite (.ite (.startSweep hs) (.chainReply hs))
            (.ite (.chainReply hs) (.ite (.chainReply hs) (.ite ht1 (.placeCals ht1)))))

theorem bubbleDone {c : Nat} {kind : BubbleKind} {result : Nat} (hs : s.Canonical) :
    (s.bubbleDone c kind result).Canonical :=
  .radioEvent hs

theorem finishBubble {c : Nat} {b : Bubble} {cal : CalResult} (hs : s.Canonical) :
    (s.finishBubble c b cal).Canonical := by
  unfold State.finishBubble
  extract_lets _ t1 _ t2 t3
  have ht1 : t1.Canonical := .congr hs rfl
  have ht2 : t2.Canonical := .congr ht1 rfl
  have ht3 : t3.Canonical := .ite (.raise ht2) ht2
  split
  · exact .placeCals (.bubbleDone ht1)
  · split
    · split
      · exact .placeCals (.calServed (.bubbleDone (.calWrite ht1)))
      · exact .placeCals (.bubbleDone ht1)
    · exact .bubbleDone ht3
    · exact .bubbleDone ht1

theorem execChainTransitionDone {c : Fin 3} {us : Nat} {cal : CalResult} (hs : s.Canonical) :
    Goes (execChainTransitionDone c us cal s) := by
  unfold Machine.execChainTransitionDone
  show State.Canonical _
  split
  · exact .endTransition hs
  · exact hs

theorem execProtectWindowEnd {c : Fin 3} {w : Fin 16} (hs : s.Canonical) : Goes (execProtectWindowEnd c w s) := by
  unfold Machine.execProtectWindowEnd
  show State.Canonical _
  split
  · exact .ite (.congr hs rfl) hs
  · exact hs

theorem execGainAutoTick {c : Fin 3} {above clipped : Nat} {low : Bool} (hs : s.Canonical) :
    Goes (execGainAutoTick c above clipped low s) := by
  unfold Machine.execGainAutoTick
  extract_lets
  show State.Canonical _
  split
  · exact hs
  · split
    · exact .ite (.radioEvent (.raise (.congr hs rfl))) (.congr hs rfl)

theorem execBubbleStart {c : Fin 3} (hs : s.Canonical) : Goes (execBubbleStart c s) := by
  unfold Machine.execBubbleStart
  show State.Canonical _
  split
  · exact .ite (.bubbleDone (.congr hs rfl)) (.congr hs rfl)
  · exact hs

theorem execBubbleDone {c : Fin 3} {cal : CalResult} (hs : s.Canonical) : Goes (execBubbleDone c cal s) := by
  unfold Machine.execBubbleDone
  show State.Canonical _
  split
  · exact .finishBubble hs
  · exact hs

theorem execPafaultAssert {level : Bool} (hs : s.Canonical) : Goes (execPafaultAssert level s) := by
  unfold Machine.execPafaultAssert
  extract_lets _ t1 _ t2 _ _ t3
  have ht1 : t1.Canonical := .congr hs rfl
  have ht2 : t2.Canonical := .congr ht1 rfl
  have ht3 : t3.Canonical := .congr ht2 rfl
  exact .ite (.radioEvent (.raise ht3)) ht1

theorem readTemp {c : Nat} {t : Int} (hs : s.Canonical) : (readTemp s c t).Canonical :=
  .ite (.raise (.congr hs rfl)) (.congr hs rfl)

/-! ### Infrared (chapter 14) -/

theorem irBurstOver {c : Nat} {b : IrBurst} (hs : s.Canonical) : (s.irBurstOver c b).Canonical := by
  unfold State.irBurstOver
  extract_lets
  split
  · exact .ite (.congr hs rfl) (.congr hs rfl)
  · split
    · extract_lets t1
      have ht1 : t1.Canonical := .congr hs rfl
      split
      · exact .congr ht1 rfl
      · exact .congr ht1 rfl
      · exact .congr ht1 rfl
      · exact .congr ht1 rfl
    · exact .congr hs rfl

theorem irCut {c : Nat} (hs : s.Canonical) : (s.irCut c).Canonical := by
  unfold State.irCut
  extract_lets _ _ t1
  have ht1 : t1.Canonical := .congr hs rfl
  split
  · exact ht1
  · exact .irBurstOver (.raise ht1)

theorem irAbandon {c cause : Nat} (hs : s.Canonical) : (s.irAbandon c cause).Canonical := by
  unfold State.irAbandon
  extract_lets _ t1
  have ht1 : t1.Canonical := .congr hs rfl
  split
  · exact hs
  · exact .congr ht1 rfl

theorem irWatch {c : Nat} (hs : s.Canonical) : (s.irWatch c).Canonical := by
  unfold State.irWatch
  extract_lets
  split
  · exact .irCut (.congr hs rfl)
  · exact .congr hs rfl
  · exact hs

theorem irWatchAll (hs : s.Canonical) : s.irWatchAll.Canonical :=
  .irWatch (.irWatch hs)

theorem irMove {c : Nat} {m : IrMode} {cause : Nat} (hs : s.Canonical) : (s.irMove c m cause).Canonical :=
  .radioEvent (.congr hs rfl)

theorem irCarrier {b : Option IrBurst} (hs : s.Canonical) : (s.irCarrier b).2.Canonical := by
  unfold State.irCarrier
  split
  · exact hs
  · split
    · exact .congr hs rfl
    · exact hs

theorem irReport {c : Nat} {d : IrDecided} (hs : s.Canonical) : (s.irReport c d).Canonical := by
  unfold State.irReport
  extract_lets t1 _ t2
  have ht1 : t1.Canonical := .foldl hs fun _ ht => .foldl ht fun _ ht => .radioEvent ht
  have ht2 : t2.Canonical := .congr ht1 rfl
  exact .radioEvent (.irCarrier ht2)

theorem irLaneReset {c : Nat} (hs : s.Canonical) : (s.irLaneReset c).Canonical :=
  .ite hs (.irWatch (.foldl (.congr hs rfl) fun _ ht => .irReport ht))

theorem irSettled {c : Nat} (hs : s.Canonical) : (s.irSettled c).Canonical :=
  .irWatch (.congr hs rfl)

theorem assignIr {n : Nat} (hs : s.Canonical) : (s.assignIr n).Canonical :=
  .settleLane (.setLane (.congr hs rfl))

theorem irReply {id c status reason : Nat} (hs : s.Canonical) : (s.irReply id c status reason).Canonical :=
  .reply hs

theorem rxSet {c : Nat} {blk : List Byte} (hs : s.Canonical) : (s.rxSet c blk).Canonical := by
  unfold State.rxSet
  extract_lets t1 n word _ t2
  have ht1 : t1.Canonical := .irAbandon hs
  clear_value t1
  have ht2 : t2.Canonical := .settleLane (.setLane ht1)
  clear_value t2
  split
  next f u hu =>
  have hu : u.Canonical := .snd hu (.congr ht2 rfl)
  extract_lets x t3
  have ht3 : t3.Canonical := .congr hu rfl
  exact .irWatch ht3

theorem rxOff {c : Nat} (hs : s.Canonical) : (s.rxOff c).Canonical :=
  .ite (.freeLane (.freeLane (.congr hs rfl))) (.congr hs rfl)

theorem irReq {r : Req} (hs : s.Canonical) : (s.irReq r).Canonical := by
  unfold State.irReq
  dsimp only
  split
  · exact .ite (.irReply hs)
      (.ite (.ite (.irReply hs) (.irReply (.rxSet (.assignIr (.assignIr hs))))) (.irReply (.rxSet hs)))
  · exact .ite (.irReply hs) (.irReply (.rxOff hs))
  · exact .ite (.irReply hs) (.irReply (.congr hs rfl))
  · exact .irReply hs

theorem irEdge (hs : s.Canonical) : s.irEdge.Canonical :=
  .irWatchAll (.foldl (.congr hs rfl) fun _ ht => .irReq ht)

theorem irSend {out prof : Nat} {payload : List Byte} {handle : Word} (hs : s.Canonical) :
    (s.irSend out prof payload handle).Canonical := by
  unfold State.irSend
  extract_lets
  exact .ite (.raise (.congr hs rfl))
    (.ite (.irWatchAll (.congr hs rfl)) (.ite (.congr hs rfl) (.raise (.congr hs rfl))))

theorem irTxQuiet (hs : s.Canonical) : s.irTxQuiet.Canonical :=
  .ite hs (.foldl hs fun _ ht => .ite (.congr ht rfl) ht)

theorem irTxAbort {i : Nat} (hs : s.Canonical) : (s.irTxAbort i).Canonical :=
  .ite hs (.irWatchAll (.irTxQuiet (.raise (.congr hs rfl))))

theorem irCtrl {v : Word} (hs : s.Canonical) : (s.irCtrl v).Canonical := by
  unfold State.irCtrl
  extract_lets t1 t2 t3
  have ht1 : t1.Canonical := .foldl hs fun _ ht => .ite (.irTxAbort ht) ht
  have ht2 : t2.Canonical := .resetLane (.resetLane ht1)
  have ht3 : t3.Canonical := .settleLane (.settleLane ht2)
  exact .ite (.irLaneReset (.irLaneReset ht3)) ht1

theorem irMarkStart {c us at_ : Nat} (hs : s.Canonical) : (s.irMarkStart c us at_).Canonical := by
  unfold State.irMarkStart
  extract_lets
  split
  · exact .congr hs rfl
  · exact .congr hs rfl

theorem irMarkStop {c us carrier peak : Nat} (hs : s.Canonical) : (s.irMarkStop c us carrier peak).Canonical := by
  unfold State.irMarkStop
  extract_lets
  split
  · exact .congr hs rfl
  · exact .ite (.congr hs rfl) (.ite (.congr hs rfl) (.irAbandon (.raise (.congr hs rfl))))

theorem execIrMarkEdge {c : Fin 2} {y : Iq} {us at_ carrier peak : Nat} (hs : s.Canonical) :
    Goes (execIrMarkEdge c y us at_ carrier peak s) := by
  unfold Machine.execIrMarkEdge
  extract_lets
  exact .ite hs (.ite (.congr hs rfl) (.ite (.irMarkStart (.congr hs rfl)) (.ite (.irMarkStop (.congr hs rfl)) hs)))

theorem execIrBurstEnd {c : Fin 2} (hs : s.Canonical) : Goes (execIrBurstEnd c s) := by
  unfold Machine.execIrBurstEnd
  extract_lets
  show State.Canonical _
  split
  · exact .ite hs (.irBurstOver (.congr hs rfl))
  · exact hs

theorem execIrFloodBlock {c : Fin 2} {at_ : Nat} {irin : List Nat} {out : List Iq} (hs : s.Canonical) :
    Goes (execIrFloodBlock c at_ irin out s) := by
  unfold Machine.execIrFloodBlock
  extract_lets _ _ _ t1 _ t2 _ t3 t4 _ t5
  have ht1 : t1.Canonical := .congr hs rfl
  have ht2 : t2.Canonical := .congr ht1 rfl
  have ht3 : t3.Canonical := .congr ht2 rfl
  have ht4 : t4.Canonical := .irMove ht3
  have ht5 : t5.Canonical := .ite ht4 (.raise (.congr ht4 rfl))
  exact .ite hs (.ite ht1 (.ite ht2 (.irWatch ht5)))

theorem irRecover {c cause : Nat} (hs : s.Canonical) : (s.irRecover c cause).Canonical :=
  .irMove (.congr hs rfl)

theorem execPairWindowExpiry {c : Fin 2} (hs : s.Canonical) : Goes (execPairWindowExpiry c s) := by
  unfold Machine.execPairWindowExpiry
  extract_lets
  show State.Canonical _
  split
  · exact hs
  · exact .ite hs (.ite (.congr hs rfl) (.ite (.congr hs rfl) (.ite (.congr hs rfl) (.congr hs rfl))))

theorem execIrTxCodeEnd {out : Fin 4} (hs : s.Canonical) : Goes (execIrTxCodeEnd out s) := by
  unfold Machine.execIrTxCodeEnd
  extract_lets _ _ t1
  have ht1 : t1.Canonical := .congr hs rfl
  show State.Canonical _
  split
  · exact hs
  · exact .irWatchAll (.irTxQuiet ht1)

/-! ### Lane requests, host writes of the lane registers and the coefficient RAM (chapter 9, chapter 22) -/

theorem laneDone {n id : Nat} (hs : s.Canonical) : (s.laneDone n id).Canonical :=
  .laneReply hs

theorem startLane {n : Nat} {x : Lane} {word : Word} (hs : s.Canonical) : (s.startLane n x word).Canonical := by
  unfold State.startLane
  extract_lets _ _ _ t1
  have ht1 : t1.Canonical := .settleLane (.setLane hs)
  exact .ite (.congr ht1 rfl) ht1

theorem assignReq {r : Req} (hs : s.Canonical) : (s.assignReq r).Canonical := by
  unfold State.assignReq
  extract_lets
  split
  · exact .laneReply hs
  · split
    · exact .laneReply hs
    · split
      · exact .laneReply hs
      · split
        · exact .laneReply hs
        · exact .ite (.laneReply hs) (.laneDone (.startLane hs))

theorem modifyLane {n : Nat} {x : Lane} {word : Option Word} (hs : s.Canonical) :
    (s.modifyLane n x word).Canonical := by
  unfold State.modifyLane
  extract_lets _ _ _ _ _ t1 t2 t3 t4
  have ht1 : t1.Canonical := .setLane hs
  have ht2 : t2.Canonical := .ite ht1 (.stopSlewing (.setDelta ht1))
  have ht3 : t3.Canonical := .retuneLane ht2
  have ht4 : t4.Canonical := .ite (.settleLane ht3) ht3
  split
  · exact .ite (.congr ht4 rfl) ht4
  · exact ht4

theorem modifyReq {r : Req} (hs : s.Canonical) : (s.modifyReq r).Canonical := by
  unfold State.modifyReq
  extract_lets
  exact .ite (.laneReply hs)
    (.ite (.laneReply hs)
      (.ite (.laneReply hs) (.ite (.laneReply hs) (.ite (.laneReply hs) (.laneDone (.modifyLane hs))))))

theorem switchBank {n : Nat} (hs : s.Canonical) : (s.switchBank n).Canonical :=
  .radioEvent (.setLane hs)

theorem startFade {n xf : Nat} (hs : s.Canonical) : (s.startFade n xf).Canonical :=
  .ite (.switchBank (.setLane hs)) (.setLane hs)

theorem fadeReq {r : Req} (hs : s.Canonical) : (s.fadeReq r).Canonical :=
  .ite (.laneReply hs) (.ite (.laneReply hs) (.ite (.laneReply hs) (.laneDone (.startFade hs))))

theorem releaseReq {r : Req} (hs : s.Canonical) : (s.releaseReq r).Canonical :=
  .ite (.laneReply hs) (.ite (.laneReply hs) (.laneReply (.freeLane hs)))

theorem laneReq {q : LaneReq} (hs : s.Canonical) : (s.laneReq q).Canonical := by
  unfold State.laneReq
  split
  · exact .releaseReq hs
  · split
    · exact .assignReq hs
    · exact .modifyReq hs
    · exact .fadeReq hs
    · exact .laneReply hs

theorem writeCtrl {n : Nat} {v : Word} (hs : s.Canonical) : (s.writeCtrl n v).Canonical := by
  unfold State.writeCtrl
  extract_lets _ _ t1
  have ht1 : t1.Canonical := .setLane hs
  split
  · split
    · split
      · exact ht1
      · exact .ite (.startLane ht1) ht1
    · exact ht1
  · exact .ite (.modifyLane hs) (.freeLane hs)

theorem writeLane {n off : Nat} {v : Word} (hs : s.Canonical) : (s.writeLane n off v).Canonical := by
  unfold State.writeLane
  extract_lets _ _ _ _ _ _ t1
  have ht1 : t1.Canonical := .ite (.setLane hs) (.ite (.setLane hs) (.ite (.modifyLane hs) (.setLane hs)))
  split
  · exact .writeCtrl hs
  · exact .ite (.setLane hs) (.ite hs (.modifyLane hs))
  · exact .ite hs (.ite (.setLane hs) (.ite (.modifyLane hs) hs))
  · exact .ite (.startFade ht1) ht1
  · exact .ite hs (.setLane hs)
  · exact hs

theorem coefMove (hs : s.Canonical) : s.coefMove.Canonical :=
  .setReg hs

theorem coefSet_taps (hs : s.Canonical) (set : Nat) : swf 0 (s.coefSet set).taps = true :=
  sget_satisfies (p := fun k : CoefSet => swf 0 k.taps) rfl hs.parts.taps set

/-- A coefficient set stored with canonical taps. -/
theorem putCoef {set : Nat} {k : CoefSet} (hs : s.Canonical) (hk : swf 0 k.taps = true) :
    ({ s with lanes.coef := sput CoefSet.init s.lanes.coef set k } : State).Canonical := by
  obtain ⟨h1, h2, h3, h4, h5, h6, h7, h8, h9, h10, h11⟩ := hs.parts
  have hcoef : swf CoefSet.init (sput CoefSet.init s.lanes.coef set k) = true := swf_sput h10
  have htaps := sput_satisfies (d := CoefSet.init) (p := fun x : CoefSet => swf 0 x.taps) hk h11 set
  exact State.canonical_iff.mpr ⟨h1, h2, h3, h4, h5, h6, h7, h8, h9, hcoef, htaps⟩

theorem coefStore {set i : Nat} {w : Word} (hs : s.Canonical) : (s.coefStore set i w).Canonical := by
  unfold State.coefStore
  extract_lets k k₁ k₂ lanes t
  have hk : swf 0 k.taps = true := hs.coefSet_taps set
  have ht : t.Canonical := hs.putCoef hk
  split
  · exact hs.putCoef (swf_sput hk)
  · exact .ite (.foldl ht fun _ hu => .settleLane hu) ht

theorem coefWrite {w : Word} (hs : s.Canonical) : (s.coefWrite w).Canonical :=
  .coefMove (.ite hs (.ite (.congr hs rfl) (.coefStore hs)))

theorem execLaneApplyEdge (hs : s.Canonical) : Goes (execLaneApplyEdge s) := by
  unfold Machine.execLaneApplyEdge
  extract_lets _ _ t1 t2 _ _ t3 t4
  have ht1 : t1.Canonical := .congr hs rfl
  have ht2 : t2.Canonical := .foldl ht1 fun _ ht => .laneReq ht
  have ht3 : t3.Canonical := .congr ht2 rfl
  have ht4 : t4.Canonical := .foldl ht3 fun _ ht => .ite (.writeLane ht) ht
  exact .watchSource ht4

theorem execCoefEccError {set : Nat} {double : Bool} (hs : s.Canonical) :
    Goes (Machine.execCoefEccError set double s) :=
  .ite (.note (hs.putCoef (hs.coefSet_taps set))) (.congr hs rfl)

/-! ### A lane at work (chapter 9) -/

theorem detect {n : Nat} {v : Iq} {marked : Bool} {slot : Nat} (hs : s.Canonical) :
    (s.detect n v marked slot).Canonical := by
  unfold State.detect
  extract_lets
  split
  · exact .setLane hs
  · split
    · exact .ite hs (.setLane hs)
    · exact .ite hs (.setLane hs)

theorem captureBlock {n : Nat} {b : OutBlock} (hs : s.Canonical) : (s.captureBlock n b).Canonical := by
  unfold State.captureBlock
  extract_lets v run
  refine .ite ?_ hs
  split
  next ends t ht =>
  split
  next rest u hu =>
  have hu : u.Canonical := .snd hu (.freeBytes (.snd ht (.freeBytes hs)))
  exact .congr hu rfl

theorem deliverBlock {n : Nat} {b : OutBlock} (hs : s.Canonical) : (s.deliverBlock n b).Canonical := by
  unfold State.deliverBlock
  extract_lets _ t1 t2 r3
  have ht1 : t1.Canonical := .setLane hs
  have ht2 : t2.Canonical := .captureBlock ht1
  exact .ite (.foldl (.demodulate ht2) fun _ ht => .detect ht) (.demodulate ht2)

theorem closeBlock {n : Nat} {ok : Bool} (hs : s.Canonical) : (s.closeBlock n ok).Canonical := by
  unfold State.closeBlock
  extract_lets
  split
  · exact hs
  · exact .ite (.deliverBlock (.setLane hs)) (.congr (.setLane hs) rfl)

theorem laneSample {n : Nat} {ok : Bool} {y : Sample} (hs : s.Canonical) : (s.laneSample n ok y).Canonical := by
  unfold State.laneSample
  extract_lets t1 _ _ t2 t3 _ _ _ t4
  have ht1 : t1.Canonical := .growDelta hs
  have ht2 : t2.Canonical := .setLane ht1
  have ht3 : t3.Canonical := .ite (.detect ht2) ht2
  have ht4 : t4.Canonical := .setLane ht3
  exact .ite (.setLane ht3) (.ite (.setLane (.closeBlock ht3)) (.ite ht4 (.closeBlock ht4)))

theorem laneInput {n : Nat} {ok : Bool} {t : Nat} {v : Iq × Iq} (hs : s.Canonical) :
    (s.laneInput n ok t v).Canonical := by
  unfold State.laneInput
  extract_lets _ t1 _ _ t2
  have ht1 : t1.Canonical := .ite (.detect hs) hs
  have ht2 : t2.Canonical := .setLane ht1
  split
  · exact .laneSample ht2
  · exact ht2

theorem releaseBlocks {n freed : Nat} (hs : s.Canonical) : (s.releaseBlocks n freed).Canonical :=
  .congr (.setLane hs) rfl

theorem failLane {n : Nat} (hs : s.Canonical) : (s.failLane n).Canonical := by
  unfold State.failLane
  extract_lets _ t1 _ t2 _ _ _ t3 _ t4
  have ht1 : t1.Canonical := .setLane hs
  have ht2 : t2.Canonical := by
    unfold t2
    split
    · exact .congr ht1 rfl
    · exact .setLane hs
  have ht3 : t3.Canonical := .setLane hs
  have ht4 : t4.Canonical := .congr ht3 rfl
  exact .ite (.endFades ht2) (.dabFail (.raise ht4))

theorem loseLane {n code : Nat} (hs : s.Canonical) : (s.loseLane n code).Canonical := by
  unfold State.loseLane
  extract_lets _ t1 t2
  have ht1 : t1.Canonical := .resetLane (.raise hs)
  have ht2 : t2.Canonical := .laneLost (.freeLane ht1)
  exact .ite (.rxOff ht2) ht2

theorem dropClaims {n : Nat} (hs : s.Canonical) : (s.dropClaims n).Canonical := .congr hs rfl

theorem substEvent {n i : Nat} (hs : s.Canonical) : (s.substEvent n i).Canonical :=
  .radioEvent hs

theorem substitute {n i : Nat} (hs : s.Canonical) : (s.substitute n i).Canonical := by
  unfold State.substitute
  extract_lets goal t1 t2 t3
  have ht1 : t1.Canonical := .dropClaims (.setDelta (.resetLane (.raise hs)))
  clear_value t1
  have ht2 : t2.Canonical := .startSlewing (.settleLane (.setLane ht1))
  clear_value t2
  have ht3 : t3.Canonical := .substEvent ht2
  exact .ite (.irLaneReset ht3) ht3

theorem claimRefused {q : Claim} (hs : s.Canonical) : (s.claimRefused q).Canonical := by
  unfold State.claimRefused
  extract_lets _ _ _ t1 t2 t3
  have ht1 : t1.Canonical := .congr hs rfl
  have ht2 : t2.Canonical := .ite (.congr ht1 rfl) ht1
  have ht3 : t3.Canonical := .ite ht2 (.raise ht2)
  exact .ite (.radioEvent (.stopSlewing ht3)) ht3

theorem captureDone {granted : Bool} (hs : s.Canonical) : (s.captureDone granted).Canonical := by
  unfold State.captureDone
  split
  · exact hs
  · extract_lets _ t1 r2 _ t3 _ _ _ t4 t5
    have ht1 : t1.Canonical := .congr hs rfl
    have ht3 : t3.Canonical := .packet ht1
    have ht4 : t4.Canonical := .congr ht3 rfl
    have ht5 : t5.Canonical := .setReg ht4
    exact .ite (.ite (.dropBegins (.losePacket ht1)) (.losePacket ht1)) (.ite (.ite (.congr ht5 rfl) ht4) ht3)

theorem storeBlock {n : Nat} (hs : s.Canonical) : (s.storeBlock n).Canonical := by
  unfold State.storeBlock
  extract_lets
  split
  · exact .deliverBlock (.setLane hs)
  · exact hs

theorem loseBlock {n : Nat} (hs : s.Canonical) : (s.loseBlock n).Canonical := by
  unfold State.loseBlock
  extract_lets
  split
  · exact .setLane hs
  · exact .setLane hs
  · exact hs

theorem grant {q : Claim} (hs : s.Canonical) : (s.grant q).Canonical := by
  unfold State.grant
  extract_lets _ _ t1 _ t2
  have ht1 : t1.Canonical := .claimRefused hs
  have ht2 : t2.Canonical := .congr hs rfl
  split
  · exact .storeBlock hs
  · split
    · exact .ite ht1 (.ite (.captureDone ht1) (.loseBlock ht1))
    · exact .ite (.setLane ht2) (.ite (.congr (s := t2.captureDone true) (.captureDone ht2) rfl) (.storeBlock ht2))

theorem execLaneOutputBlock {lane : Nat} {inp : LaneInput} (hs : s.Canonical) :
    Goes (execLaneOutputBlock lane inp s) := by
  unfold Machine.execLaneOutputBlock
  extract_lets t1 _ t2
  have ht1 : t1.Canonical := .releaseBlocks hs
  have ht2 : t2.Canonical := .foldl ht1 fun _ ht => .laneInput ht
  exact .ite ht1 (.ite (.watchSource (.failLane ht2)) ht2)

theorem execLaneSubstitution {lane : Nat} (hs : s.Canonical) : Goes (execLaneSubstitution lane s) := by
  unfold Machine.execLaneSubstitution
  extract_lets
  show State.Canonical _
  split
  · exact hs
  · split
    · exact hs
    · split
      · exact .watchSource (.loseLane (.setLane hs))
      · split
        · exact .watchSource (.loseLane (.setLane hs))
        · exact .substitute hs

end Sys2Proof.Machine.State.Canonical
end

section
/-! PROOFS. The canonical form through the bus, RDS, the welt pair, the clocks and DAB. -/

namespace Sys2Proof.Machine.State.Canonical

open Sys2Proof

variable {s t : State}

/-! ### The two-wire bus beneath its commands (chapter 15) -/

theorem nack {code cause phase : Nat} (hs : s.Canonical) : (s.nack code cause phase).Canonical := .congr hs rfl

theorem busGate {code : Nat} {refusal : Option (Nat × Nat)} {f : State → State} (hs : s.Canonical) (hf : ∀
    {t : State}, t.Canonical → (f t).Canonical) :
    (s.busGate code refusal f).Canonical := by
  unfold State.busGate
  split
  · exact hs
  · split
    · exact .congr hs rfl
    · exact hf hs

theorem busWrite {code : Nat} {data : List Byte} {refusal : Option (Nat × Nat)} {pec : Pec} {always : Bool}
    {f : State → State} (hs : s.Canonical) (hf : ∀ {t : State}, t.Canonical → (f t).Canonical) :
    (s.busWrite code data refusal pec always f).Canonical := by
  unfold State.busWrite
  refine .busGate hs fun {t} ht => ?_
  split
  · exact .nack ht
  · exact .nack ht
  · exact .ite (.nack ht) (hf ht)
  · exact hf ht

theorem busRead {code : Nat} {refusal : Option (Nat × Nat)} {f : State → State} (hs : s.Canonical) (hf : ∀
    {t : State}, t.Canonical → (f t).Canonical) :
    (s.busRead code refusal f).Canonical :=
  .busGate hs (fun ht => hf ht)

/-! ### RDS (chapter 10) -/

theorem fmReport {n i : Nat} {f : FmLane} {r : List Byte} (hs : s.Canonical) : (s.fmReport n i f r).Canonical :=
  .fmEvent (.congr hs rfl)

theorem takePi {n v : Nat} (hs : s.Canonical) : (s.takePi n v).Canonical := by
  unfold State.takePi
  split
  · exact hs
  · extract_lets
    exact .ite (.fmReport hs) (.congr hs rfl)

theorem takePs {n : Nat} {f : FmLane} {b d : Nat} (hs : s.Canonical) : (s.takePs n f b d).Canonical := by
  unfold State.takePs
  extract_lets
  split
  · exact .ite (.congr hs rfl) (.fmReport hs)
  · exact .congr hs rfl

theorem afList {n : Nat} {f : FmLane} (hs : s.Canonical) : (s.afList n f).Canonical := by
  unfold State.afList
  extract_lets
  exact .ite (.congr hs rfl) (.fmReport hs)

theorem takeAf {n : Nat} {f : FmLane} {c : Nat} (hs : s.Canonical) : (s.takeAf n f c).Canonical := by
  unfold State.takeAf
  extract_lets
  refine .foldl (.congr hs rfl) fun _ ht => ?_
  split
  · exact .ite (.afList ht) (.ite (.congr ht rfl) (.congr ht rfl))
  · exact ht

theorem takeTa {n : Nat} {f : FmLane} {b : Nat} (hs : s.Canonical) : (s.takeTa n f b).Canonical :=
  .ite hs (.fmReport hs)

theorem ptyReport {n : Nat} {f : FmLane} (hs : s.Canonical) : (s.ptyReport n f).Canonical :=
  .fmReport hs

theorem takePty {n : Nat} {f : FmLane} {b : Nat} (hs : s.Canonical) : (s.takePty n f b).Canonical :=
  .ite hs (.ptyReport hs)

theorem takePtyn {n : Nat} {f : FmLane} {b c d : Nat} (hs : s.Canonical) : (s.takePtyn n f b c d).Canonical := by
  unfold State.takePtyn
  extract_lets
  split
  · exact .ite (.congr hs rfl) (.ptyReport hs)
  · exact .congr hs rfl

theorem rtReport {n half : Nat} (hs : s.Canonical) : (s.rtReport n half).Canonical := by
  unfold State.rtReport
  split
  · exact hs
  · extract_lets
    split
    · exact hs
    · exact .ite hs (.fmReport hs)

theorem takeRt {n : Nat} {f : FmLane} {verB : Bool} {b c d : Nat} (hs : s.Canonical) :
    (s.takeRt n f verB b c d).Canonical := by
  unfold State.takeRt
  extract_lets
  exact .ite (.rtReport (.congr hs rfl)) (.ite (.rtReport (.congr hs rfl)) (.rtReport (.congr hs rfl)))

theorem takeOda {n : Nat} {f : FmLane} {b c d : Nat} (hs : s.Canonical) : (s.takeOda n f b c d).Canonical :=
  .ite hs (.fmReport hs)

theorem takeAid {n : Nat} {f : FmLane} {b d : Nat} (hs : s.Canonical) : (s.takeAid n f b d).Canonical :=
  .ite hs (.congr hs rfl)

theorem takeCt {n b c d : Nat} (hs : s.Canonical) : (s.takeCt n b c d).Canonical :=
  .fmEvent hs

theorem takeSlc {n : Nat} {f : FmLane} {c d : Nat} (hs : s.Canonical) : (s.takeSlc n f c d).Canonical :=
  .ite hs (.fmReport hs)

theorem withFm {n : Nat} {k : State → FmLane → State} (hs : s.Canonical)
    (hk : ∀ {t : State} f, t.Canonical → (k t f).Canonical) : (s.withFm n k).Canonical := by
  unfold State.withFm
  split
  · exact hk _ hs
  · exact hs

theorem decodeGroup {n : Nat} {blocks : List (Nat × Nat)} {verB : Bool} (hs : s.Canonical) :
    (s.decodeGroup n blocks verB).Canonical := by
  unfold State.decodeGroup
  extract_lets blk ok b c d t1
  refine .ite hs ?_
  split
  · have ht1 : t1.Canonical := .ite (.withFm hs fun _ ht => .takePs ht) hs
    clear_value t1
    extract_lets t2
    have ht2 : t2.Canonical := .ite (.withFm ht1 fun _ ht => .takeAf ht) ht1
    clear_value t2
    exact .withFm (.withFm ht2 fun _ ht => .takeTa ht) fun _ ht => .takePty ht
  · exact .ite (.withFm hs fun _ ht => .takeSlc ht) hs
  · exact .ite (.withFm hs fun _ ht => .takeRt ht) hs
  · exact .ite (.withFm hs fun _ ht => .takeOda ht) (.ite (.withFm hs fun _ ht => .takeAid ht) hs)
  · exact .ite (.takeCt hs) hs
  · exact .ite (.withFm hs fun _ ht => .takePtyn ht) hs
  · exact .ite (.fmEvent hs) hs
  · exact .ite (.fmEvent hs) hs
  · exact hs

theorem rawGroup {n : Nat} {blocks : List (Nat × Nat)} {a : Anchor} (hs : s.Canonical) :
    (s.rawGroup n blocks a).Canonical :=
  .ite (.packet hs) hs

theorem rdsGroup {n : Nat} {blocks : List (Nat × Nat)} {verB : Bool} {a : Anchor} (hs : s.Canonical) :
    (s.rdsGroup n blocks verB a).Canonical :=
  .decodeGroup (.rawGroup (.intakeGroup hs))

theorem rdsSearch {n : Nat} {f : FmLane} {w : BitVec 26} {bit : Nat} (hs : s.Canonical) :
    (s.rdsSearch n f w bit).Canonical := by
  unfold State.rdsSearch
  split
  · exact hs
  · extract_lets
    split
    · exact .congr hs rfl
    · extract_lets _ t1 t2 t3
      have ht1 : t1.Canonical := .congr hs rfl
      have ht2 : t2.Canonical := .fmEvent ht1
      have ht3 : t3.Canonical := .ite (.takePi ht2) ht2
      exact .ite (.takePi ht3) ht3

theorem rdsLost {n : Nat} (hs : s.Canonical) : (s.rdsLost n).Canonical := by
  unfold State.rdsLost
  extract_lets t1 t2
  have ht1 : t1.Canonical := .withFm hs fun _ ht => .congr ht rfl
  clear_value t1
  have ht2 : t2.Canonical := .ite (.raise ht1) ht1
  exact .fmEvent ht2

theorem rdsInSync {n : Nat} {f : FmLane} {w marks : BitVec 26} {bit : Nat} {a : Anchor} (hs : s.Canonical) :
    (s.rdsInSync n f w marks bit a).Canonical := by
  unfold State.rdsInSync
  split
  · extract_lets _ _ _ _ _ t1 t2 t3 t4
    have ht1 : t1.Canonical := .congr hs rfl
    have ht2 : t2.Canonical := .congr ht1 rfl
    have ht3 : t3.Canonical := .ite (.rdsLost ht2) ht2
    have ht4 : t4.Canonical := .ite (.takePi ht3) ht3
    exact .ite (.rdsGroup ht4) ht4

theorem execRdsBlockDelivery {lane : Nat} {syms : List RdsSym} {bitPos anchor ago : Nat} (hs : s.Canonical) :
    Goes (execRdsBlockDelivery lane syms bitPos anchor ago s) := by
  unfold Machine.execRdsBlockDelivery
  show State.Canonical _
  split
  · exact hs
  · exact .ite (.rdsSearch hs) (.ite (.watchSource (.rdsInSync hs)) hs)

/-! ### What the welt chapter does beneath its rows (chapter 18) -/

theorem setRole {r : Role} {cause : Nat} (hs : s.Canonical) : (s.setRole r cause).Canonical :=
  .deliver (.congr hs rfl)

theorem askAdopt (hs : s.Canonical) : s.askAdopt.Canonical :=
  .ite (.congr hs rfl) (.congr hs rfl)

theorem becomeStandby {cause : Nat} (hs : s.Canonical) : (s.becomeStandby cause).Canonical :=
  .askAdopt (.bestSource (.setRole (.congr (.endCorrection hs) rfl)))

theorem queueHeldHost (hs : s.Canonical) : s.queueHeldHost.Canonical :=
  .foldl hs fun _ ht => .ite (.queueWaiting ht) ht

theorem releaseShadow (hs : s.Canonical) : s.releaseShadow.Canonical :=
  .foldl (.congr hs rfl) fun _ ht => .recordTo ht

theorem becomeParted {cause : Nat} (hs : s.Canonical) : (s.becomeParted cause).Canonical := by
  unfold State.becomeParted
  extract_lets _ t1 _ t2
  have ht1 : t1.Canonical := .setRole hs
  have ht2 : t2.Canonical := .congr ht1 rfl
  exact .ite (.watchSource (.queueHeldHost (.releaseShadow ht2))) ht2

theorem linkDown (hs : s.Canonical) : s.linkDown.Canonical := by
  unfold State.linkDown
  extract_lets _ t1 t2
  have ht1 : t1.Canonical := .congr hs rfl
  have ht2 : t2.Canonical := .note (.congr ht1 rfl)
  split
  · exact hs
  · split
    · exact .becomeParted ht2
    · exact .setRole ht2
    · exact .congr ht2 rfl
    · exact ht2

theorem compareOne {a b : DigestRep} (hs : s.Canonical) : (s.compareOne a b).Canonical := by
  unfold State.compareOne
  extract_lets same _ t1 _ t2
  have ht1 : t1.Canonical := .withWelt hs
  clear_value t1
  have ht2 : t2.Canonical := .withWelt ht1
  exact .ite (.ite hs (.askAdopt hs)) (.ite (.withWelt ht1) (.askAdopt (.setRole (.note ht2))))

theorem compareDigests (hs : s.Canonical) : s.compareDigests.Canonical :=
  .ite (.congr hs rfl) (.foldl (.congr hs rfl) fun _ ht => .compareOne ht)

theorem weltAck {ack : Nat} (hs : s.Canonical) : (s.weltAck ack).Canonical := by
  unfold State.weltAck
  split
  · exact .congr hs rfl
  · exact hs

theorem weltTake {h : WHead} {f : State → State} (hs : s.Canonical) (hf : ∀
    {t : State}, t.Canonical → (f t).Canonical) :
    (s.weltTake h f).Canonical :=
  .ite hs (.ite (.congr hs rfl) (.ite (hf (.congr (.weltAck hs) rfl)) (.weltAck hs)))

theorem standbyTake {h : WHead} {f : State → State} (hs : s.Canonical) (hf : ∀
    {t : State}, t.Canonical → (f t).Canonical) :
    (s.standbyTake h f).Canonical :=
  .weltTake hs (fun ht => .ite (hf ht) ht)

/-! ### Clocks and gating (chapter 8), the host's writes to the chain registers (chapters 7 and 22), and the rows in
which a chain's tunes and host writes take effect -/

theorem unholdChain {c : Nat} (hs : s.Canonical) : (s.unholdChain c).Canonical :=
  .ite (.congr hs rfl) hs

theorem unholdChains (hs : s.Canonical) : s.unholdChains.Canonical :=
  .foldl hs fun _ ht => .unholdChain ht

theorem receptionStops (hs : s.Canonical) : s.receptionStops.Canonical := by
  unfold State.receptionStops
  extract_lets t1
  have ht1 : t1.Canonical := by
    unfold t1
    refine .foldl hs fun _ ht => ?_
    split
    · exact ht
    · exact .ite (.rdsLost (.ite (.pilotLost ht) (.congr ht rfl))) (.ite (.pilotLost ht) (.congr ht rfl))
  exact .foldl ht1 fun _ ht => .ite (.dabSync (.setDabMode (.congr ht rfl))) ht

theorem sysPllLost (hs : s.Canonical) : s.sysPllLost.Canonical :=
  .watchSource (.linkDown (.receptionStops (.raise (.congr hs rfl))))

theorem sckPllLost (hs : s.Canonical) : s.sckPllLost.Canonical :=
  .watchSource (.receptionStops (.holdChain (.holdChain (.raise (.congr hs rfl)))))

theorem synthLost {c : Nat} (hs : s.Canonical) : (s.synthLost c).Canonical := by
  unfold State.synthLost
  extract_lets _ _ t1
  have ht1 : t1.Canonical := .failChain (.congr hs rfl)
  exact .ite (.congr ht1 rfl) hs

theorem sysBack (hs : s.Canonical) : s.sysBack.Canonical :=
  .unholdChains (.congr hs rfl)

theorem sckBack (hs : s.Canonical) : s.sckBack.Canonical :=
  .unholdChains (.congr hs rfl)

theorem writeClkCtrl {v : Word} (hs : s.Canonical) : (s.writeClkCtrl v).Canonical := by
  unfold State.writeClkCtrl
  extract_lets _ t1
  have ht1 : t1.Canonical := .ite (.congr hs rfl) hs
  exact .ite (.congr ht1 rfl) ht1

theorem hostChainState {c code : Nat} (hs : s.Canonical) : (s.hostChainState c code).Canonical :=
  .ite hs (.orderState hs)

theorem hostChainReset {c : Nat} (hs : s.Canonical) : (s.hostChainReset c).Canonical :=
  .congr (s := s.resetChain c none) (.resetChain hs) rfl

theorem writeBrMode {v : Word} (hs : s.Canonical) : (s.writeBrMode v).Canonical :=
  .ite (.respanLanes (.congr (.setReg hs) rfl)) (.setReg hs)

theorem writeHrCtrl {v : Word} (hs : s.Canonical) : (s.writeHrCtrl v).Canonical :=
  .ite (.setReg hs) (.congr (.setReg hs) rfl)

theorem chainWrite {w : RegWrite} (hs : s.Canonical) : (s.chainWrite w).Canonical := by
  unfold State.chainWrite
  extract_lets
  split
  · exact .writeBrMode hs
  · split
    · exact .hostChainState (.writeHrCtrl hs)
    · split
      · exact .hostChainState (.setReg hs)
      · exact .settleGain (.setReg hs)
      · exact .setReg hs

theorem chainWrites {c : Nat} (hs : s.Canonical) : (s.chainWrites c).Canonical :=
  .foldl (.congr hs rfl) fun _ ht => .chainWrite ht

theorem execPllLockLoss {pll : Pll} (hs : s.Canonical) : Goes (execPllLockLoss pll s) := by
  unfold Machine.execPllLockLoss
  show State.Canonical _
  split
  · exact hs
  · split
    · exact .ite (.sysPllLost hs) hs
    · exact .ite (.sckPllLost hs) hs
    · exact .synthLost hs
    · exact .synthLost hs
    · exact .synthLost hs

theorem execReferenceLoss (hs : s.Canonical) : Goes (execReferenceLoss s) := by
  unfold Machine.execReferenceLoss
  extract_lets _ t1 t2 t3 t4
  have ht1 : t1.Canonical := .congr hs rfl
  have ht2 : t2.Canonical := .raise ht1
  have ht3 : t3.Canonical := .receptionStops (.holdChain (.holdChain (.holdChain ht2)))
  have ht4 : t4.Canonical := .foldl ht3 fun _ ht => .irTxAbort ht
  exact .ite hs (.linkDown (.stopLast ht4))

theorem execPllRelock {pll : Pll} (hs : s.Canonical) : Goes (execPllRelock pll s) := by
  unfold Machine.execPllRelock
  show State.Canonical _
  split
  · exact .ite (.sysBack hs) hs
  · exact .ite (.sckBack hs) hs
  · exact hs
  · exact hs
  · exact hs

/-! ### DAB reception (chapter 12) -/

theorem ensembleReq {r : Req} (hs : s.Canonical) : (s.ensembleReq r).Canonical := by
  unfold State.ensembleReq
  extract_lets
  exact .ite (.dabReply hs)
    (.ite (.dabReply (.watchSource (.stopDecoder hs)))
      (.ite (.dabReply hs) (.ite (.dabReply hs) (.ite (.dabReply hs) (.startDecoder hs)))))

theorem subchannelReq {r : Req} (hs : s.Canonical) : (s.subchannelReq r).Canonical := by
  unfold State.subchannelReq
  extract_lets
  split
  · exact .dabReply hs
  · split
    · split
      · exact .dabReply hs
      · split
        · exact .dabReply hs
        · split
          · exact .dabReply hs
          · exact .congr hs rfl
    · split
      · exact .dabReply hs
      · split
        · exact .congr hs rfl
        · extract_lets _ _ t1
          have ht1 : t1.Canonical := .congr hs rfl
          split
          · exact .dabReply ht1
          · exact ht1

theorem measureDab {r : Req} (hs : s.Canonical) : (s.measureDab r).Canonical := by
  unfold State.measureDab
  extract_lets d op period answer zeros x
  have hanswer : ∀ {t : State} status reason rec, t.Canonical → (answer t status reason rec).Canonical :=
    fun _ _ _ ht => .dabReply ht
  split
  · exact hanswer _ _ _ hs
  · split
    · exact hanswer _ _ _ hs
    · generalize op = k
      match k with
      | 0 => exact hanswer _ _ _ (.congr hs rfl)
      | 1 => exact hanswer _ _ _ (.congr hs rfl)
      | k + 2 => exact hanswer _ _ _ hs

theorem measureEdge (hs : s.Canonical) : s.measureEdge.Canonical := by
  unfold State.measureEdge
  extract_lets _ _ t1
  have ht1 : t1.Canonical := .congr hs rfl
  refine .foldl ht1 fun _ ht => ?_
  split
  · exact .measureFm ht
  · exact .measureDab ht
  · exact .reply ht

theorem dabEdge {d : Nat} (hs : s.Canonical) : (s.dabEdge d).Canonical := by
  unfold State.dabEdge
  extract_lets _ t1 t2 _ _ _ t3 t4
  have ht1 : t1.Canonical := .congr hs rfl
  have ht2 : t2.Canonical := by
    unfold t2
    split
    · exact .ite (.foldl (.startDecoder ht1) fun _ ht => .dabSubch ht) hs
    · exact hs
  have ht3 : t3.Canonical := .congr ht2 rfl
  have ht4 : t4.Canonical := .foldl ht3 fun _ ht => .dabReply ht
  exact .foldl ht4 fun _ ht => .ite (.ensembleReq ht) (.subchannelReq ht)

theorem dabReport {i d key : Nat} {bytes : List Byte} (hs : s.Canonical) : (s.dabReport i d key bytes).Canonical := by
  unfold State.dabReport
  extract_lets
  split
  · exact hs
  · exact .ite hs (.dabEvent (.congr hs rfl))

theorem dabRefresh {d : Nat} (hs : s.Canonical) : (s.dabRefresh d).Canonical := by
  unfold State.dabRefresh
  extract_lets _ t1 t2 t3
  have ht1 : t1.Canonical := .ite (.dabReport hs) hs
  have ht2 : t2.Canonical := by
    unfold t2
    refine .foldl ht1 fun _ ht => ?_
    refine .foldlFst ht fun _ _ hp => ?_
    split
    · exact .dabReport hp
    · exact hp
  have ht3 : t3.Canonical := .foldl ht2 fun _ ht => .dabReport ht
  exact .foldl ht3 fun _ ht => .dabReport ht

theorem newEnsemble {d : Nat} (hs : s.Canonical) : (s.newEnsemble d).Canonical := by
  unfold State.newEnsemble
  extract_lets t1 _ t2
  have ht1 : t1.Canonical := .congr hs rfl
  have ht2 : t2.Canonical := .congr ht1 rfl
  refine .foldl ht2 fun _ ht => ?_
  extract_lets t3 t4
  have ht3 : t3.Canonical := .dabSubch ht
  have ht4 : t4.Canonical := .foldl ht3 fun _ ht => .dabReply ht
  split
  · exact .dabReply ht4
  · exact ht4

theorem dabFig {d : Nat} {f : Fig} (hs : s.Canonical) : (s.dabFig d f).Canonical := by
  unfold State.dabFig
  extract_lets
  split
  · extract_lets t1 _ _ t2 t3
    have ht1 : t1.Canonical := .ite (.newEnsemble hs) hs
    have ht2 : t2.Canonical := .congr ht1 rfl
    have ht3 : t3.Canonical := .ite ht2 (.dabReport ht2)
    exact .dabRefresh ht3
  · exact .dabRefresh (.congr hs rfl)
  · exact .dabRefresh (.congr hs rfl)
  · exact .dabRefresh (.congr hs rfl)
  · exact .dabReport hs
  · exact .dabRefresh hs
  · exact .dabRefresh (.congr hs rfl)
  · exact .dabEvent hs
  · exact .dabRefresh (.congr hs rfl)
  · exact .dabRefresh (.congr hs rfl)
  · exact .dabRefresh (.congr hs rfl)
  · exact .dabReport hs
  · exact .dabReport hs
  · exact .dabRefresh (.congr hs rfl)
  · exact .dabRefresh (.congr hs rfl)
  · exact .congr hs rfl

theorem dabFib {d : Nat} {b : Fib} (hs : s.Canonical) : (s.dabFib d b).Canonical :=
  .ite (.foldl (.congr hs rfl) fun _ ht => .dabFig ht) (.congr hs rfl)

theorem ficPacket {d a : Nat} {fibs : List Fib} (hs : s.Canonical) : (s.ficPacket d a fibs).Canonical :=
  .ite (.packet hs) hs

theorem dabReady {d : Nat} (hs : s.Canonical) : (s.dabReady d).Canonical := by
  unfold State.dabReady
  extract_lets _ t1
  have ht1 : t1.Canonical := .congr hs rfl
  split
  · split
    · exact .dabReply ht1
    · exact ht1
  · exact hs

theorem dabFound {d : Nat} {a : Anchor} {t foff : Int} {fibs : List Fib} (hs : s.Canonical) :
    (s.dabFound d a t foff fibs).Canonical := by
  unfold State.dabFound
  extract_lets _ t1 t2 _ t3
  have ht1 : t1.Canonical := .congr hs rfl
  have ht2 : t2.Canonical := .foldl ht1 fun _ ht => .dabFib ht
  have ht3 : t3.Canonical := .ite (.congr ht2 rfl) ht2
  exact .dabReady (.ficPacket ht3)

theorem execDabFrame {d : Fin 2} {anchor ago : Nat} {foff : Int} {fibs : List Fib} (hs : s.Canonical) :
    Goes (execDabFrame d anchor ago foff fibs s) := by
  unfold Machine.execDabFrame
  extract_lets _ _ _ _ _ t1
  have ht1 : t1.Canonical := .setDabMode hs
  show State.Canonical _
  split
  · exact hs
  · exact .ite hs (.ite (.dabSync (.dabFound (.setDabMode hs))) (.congr hs rfl))
  · exact .ite hs (.dabFound (.ite (.dabSync ht1) ht1))

theorem execDabFrameMissed {d : Fin 2} (hs : s.Canonical) : Goes (execDabFrameMissed d s) := by
  unfold Machine.execDabFrameMissed
  extract_lets _ _ _ t1 t2 t3 _ t4 t5
  have ht1 : t1.Canonical := .congr hs rfl
  have ht2 : t2.Canonical := .ite (.dabSync (.setDabMode ht1)) ht1
  have ht3 : t3.Canonical := .setDabMode ht2
  have ht4 : t4.Canonical := .congr ht3 rfl
  have ht5 : t5.Canonical := .ite (.dabSync (.raise ht4)) ht2
  exact .ite hs (.watchSource ht5)

theorem execAcqtimeExpiry {d : Fin 2} (hs : s.Canonical) : Goes (execAcqtimeExpiry d s) := by
  unfold Machine.execAcqtimeExpiry
  extract_lets _ _ t1
  have ht1 : t1.Canonical := .congr hs rfl
  show State.Canonical _
  split
  · exact .ite (.watchSource (.stopDecoder (.dabReply ht1))) hs
  · exact hs

theorem cifLeave {d : Nat} (hs : s.Canonical) : (s.cifLeave d).Canonical := by
  unfold State.cifLeave
  extract_lets _ _ _ t1 _ t2
  have ht1 : t1.Canonical := .congr hs rfl
  have ht2 : t2.Canonical := .congr ht1 rfl
  refine .foldl ht2 fun _ ht => ?_
  extract_lets t3
  have ht3 : t3.Canonical := .foldl ht fun _ ht => .dabReply ht
  split
  · exact .dabReply ht3
  · exact ht3

theorem cifChange {d : Nat} {x : Decoder} {q : Selection} (hs : s.Canonical) : (s.cifChange d x q).Canonical := by
  unfold State.cifChange
  extract_lets _ _ _ _ _ t1 t2 t3
  have ht1 : t1.Canonical := .congr hs rfl
  have ht2 : t2.Canonical := .congr ht1 rfl
  have ht3 : t3.Canonical := .raise (.dabSubch ht2)
  split
  · exact .ite hs (.dabSubch (.congr hs rfl))
  · exact .ite (.foldl ht3 fun _ ht => .dabReply ht) (.dabSubch (.congr hs rfl))

theorem cifReconfigure {d cif : Nat} (hs : s.Canonical) : (s.cifReconfigure d cif).Canonical :=
  .ite (.congr (.foldl hs fun _ ht => .cifChange ht) rfl) hs

theorem dabGroup {d : Nat} {g : DGroup} {bytes : List Byte} (hs : s.Canonical) :
    (s.dabGroup d g bytes).1.Canonical := by
  unfold State.dabGroup
  split
  next crc good index field _ =>
  extract_lets g x
  split
  · exact .congr hs rfl
  · split
    · exact .congr hs rfl
    · exact .ite (.completeBatch hs) hs

theorem dabPacket {d : Nat} {q : Selection} {p : DabPacket} (hs : s.Canonical) : (s.dabPacket d q p).1.Canonical := by
  unfold State.dabPacket
  extract_lets put x
  split
  · exact .ite hs (.congr hs rfl)
  · split
    · exact .congr hs rfl
    · split
      · exact hs
      · extract_lets cur g
        split
        · split
          · exact .dabGroup hs
          · exact hs
        · exact hs

theorem dabSuper {d cif a : Nat} {q : Selection} {c : CifSub} (hs : s.Canonical) :
    (s.dabSuper d cif a q c).1.Canonical := by
  unfold State.dabSuper
  extract_lets
  split
  · exact hs
  · split
    · split
      · exact .packet (.congr hs rfl)
      · exact hs
    · split
      · exact .packet (.congr hs rfl)
      · split
        · exact .packet (.congr hs rfl)
        · exact .raise hs

theorem dabDeliver {d cif a : Nat} {c : CifSub} (hs : s.Canonical) : (s.dabDeliver d cif a c).Canonical := by
  unfold State.dabDeliver
  split
  · exact hs
  · next q _ =>
    extract_lets inRun x t r u y
    have ht : t.Canonical := .ite (.packet hs) hs
    have hr : r.1.Canonical := by
      unfold r
      split
      · exact .dabSuper ht
      · exact ht
    have hu : u.1.Canonical := by
      unfold u
      split
      · exact .foldlFst hr fun _ _ hp => .dabPacket hp
      · exact hr
    exact .ite (.congr hs rfl) (.congr (s := u.1) hu rfl)

theorem dabQuality {d : Nat} {record : List Byte} (hs : s.Canonical) : (s.dabQuality d record).Canonical := by
  unfold State.dabQuality
  extract_lets
  split
  · exact .ite (.radioFor (.congr hs rfl)) (.congr hs rfl)
  · exact .congr hs rfl

end Sys2Proof.Machine.State.Canonical
end

section
/-! PROOFS. The canonical form through mailboxes, the hearth link and the dispatch of tacks. -/

namespace Sys2Proof.Machine.State.Canonical

open Sys2Proof

variable {s t : State}

/-! ### Mailboxes, eyelets and sessions beneath their rows (chapter 16) -/

theorem landHost {mb : Nat} {bytes : List Byte} (hs : s.Canonical) : (s.landHost mb bytes).Canonical :=
  .mirror (.ite (.congr hs rfl) (.queueMail (.congr hs rfl)))

theorem ringBench {b i : Nat} (hs : s.Canonical) : (s.ringBench b i).Canonical :=
  .ite hs (.ite (.mirror (.ite (.congr hs rfl) (.queueEyelet (.congr hs rfl)))) (.congr hs rfl))

theorem markIn {stale : Bool} {p : Nat → Msg → Bool} (hs : s.Canonical) : (s.markIn stale p).Canonical := .congr hs rfl

theorem markOut {stale : Bool} {p : Nat → Msg → Bool} (hs : s.Canonical) :
    (s.markOut stale p).Canonical := .congr hs rfl

theorem flagEyelets {e : Nat} (hs : s.Canonical) : (s.flagEyelets e).Canonical :=
  .ite hs (.congr hs rfl)

theorem marksBench {b : Nat} (hs : s.Canonical) : (s.marksBench b).Canonical := by
  unfold State.marksBench
  exact .flagEyelets (.markOut (.markIn hs))

theorem marksBenches (hs : s.Canonical) : s.marksBenches.Canonical := by
  unfold State.marksBenches
  extract_lets t1 t2 t3
  have ht2 : t2.Canonical := .markOut (.markIn hs)
  clear_value t2
  have ht3 : t3.Canonical := .foldl ht2 fun _ ht => .flagEyelets ht
  clear_value t3
  exact .congr ht3 rfl

theorem closeSession (hs : s.Canonical) : s.closeSession.Canonical :=
  .ite hs (.alert (.congr hs rfl))

theorem marksKeeper (hs : s.Canonical) : s.marksKeeper.Canonical := by
  unfold State.marksKeeper
  extract_lets keeper t1 mail t2
  have ht1 : t1.Canonical := .markOut (.markIn hs)
  clear_value t1
  have ht2 : t2.Canonical := .congr ht1 rfl
  exact .closeSession ht2

theorem keeperPost {mb : Nat} {payload : List Byte} (hs : s.Canonical) : (s.keeperPost mb payload).Canonical := by
  unfold State.keeperPost
  extract_lets n bytes
  split
  · next t ht => exact .congr (s := t) (.postOut hs ht) rfl
  · exact hs

theorem keeperStatus (hs : s.Canonical) : s.keeperStatus.Canonical :=
  .keeperPost hs

/-! ### The hearth link (chapter 13) -/

theorem hearthReply {code id status reason : Nat} (hs : s.Canonical) :
    (s.hearthReply code id status reason).Canonical :=
  .reply hs

theorem calNow {ch : Nat} (hs : s.Canonical) : (s.calNow ch).Canonical := by
  unfold State.calNow
  split
  next b t ht =>
  have ht : t.Canonical := .snd ht (.congr hs rfl)
  split
  next k u hu =>
  have hu : u.Canonical := .snd hu (.congr ht rfl)
  split
  next g v hv =>
  exact .calWrite (.snd hv (.congr hu rfl))

theorem calChannel {ch : Nat} (hs : s.Canonical) : (s.calChannel ch).Canonical :=
  .ite hs (.calNow hs)

theorem planReq {r : Req} (hs : s.Canonical) : (s.planReq r).Canonical := by
  unfold State.planReq
  split
  · exact .hearthReply hs
  · extract_lets _ t1 t2
    have ht1 : t1.Canonical := .congr hs rfl
    have ht2 : t2.Canonical := .foldl ht1 fun _ ht => .calChannel ht
    exact .ite (.hearthReply hs) (.ite (.hearthReply hs) (.ite (.hearthReply hs) (.hearthReply ht2)))

theorem linkReq {r : Req} (hs : s.Canonical) : (s.linkReq r).Canonical := by
  unfold State.linkReq
  split
  · extract_lets _ t1
    have ht1 : t1.Canonical := .congr hs rfl
    exact .ite (.hearthReply hs)
      (.ite (.hearthReply hs) (.ite (.hearthReply hs) (.ite (.hearthReply hs) (.setLink ht1))))
  · exact .congr hs rfl
  · exact .hearthReply hs

theorem hearthEdge (hs : s.Canonical) : s.hearthEdge.Canonical :=
  .foldl (.congr hs rfl) fun _ ht => .ite (.planReq ht) (.linkReq ht)

theorem hearthDispatch {handle : Word} {tparam : Nat} {payload : List Byte} (hs : s.Canonical) :
    (s.hearthDispatch handle tparam payload).Canonical := by
  unfold State.hearthDispatch
  extract_lets
  split
  · exact .frameLost hs
  · split
    · exact .frameLost hs
    · exact .ite (.frameLost hs) (.ite (.frameLost hs) (.ite (.frameLost hs) (.congr hs rfl)))

theorem beginSlot {p : Plan} {slot : Nat} (hs : s.Canonical) : (s.beginSlot p slot).Canonical := by
  unfold State.beginSlot
  extract_lets k role put acks hearth t
  refine .ite hs (.ite ?_ (.ite (.ite ?_ hs) ?_))
  · split
    · exact hs
    · next f rest _ =>
      generalize s.frameBurst p f false slot = burst
      match burst with
      | some b => exact .congr hs rfl
      | none => exact .frameLost (.congr hs rfl)
  · generalize t.mail.keys.site = site
    match site with
    | none => exact .congr hs rfl
    | some key => exact .congr hs rfl
  · split
    · exact hs
    · next b _ =>
      extract_lets u
      have hu : u.Canonical := .congr hs rfl
      clear_value u
      cases u.frameBurst p b.frame true slot with
      | some x => exact .congr hu rfl
      | none => exact .burstBGone hu

theorem dropLateBs {slot : Nat} (hs : s.Canonical) : (s.dropLateBs slot).Canonical :=
  .foldl (.congr hs rfl) fun _ ht => .burstBGone ht

theorem refusalNoted {b : Burst} {k : Nat} (hs : s.Canonical) : (s.refusalNoted b k).Canonical := by
  unfold State.refusalNoted
  split
  · exact .note (.congr hs rfl)
  · exact .note (.congr hs rfl)
  · extract_lets _ t1
    have ht1 : t1.Canonical := .congr hs rfl
    split
    · exact .ite ht1 (.hlEvent (.raise (.congr ht1 rfl)))
    · exact ht1
  · exact hs

theorem refuseBurst {b : Burst} {k : Nat} (hs : s.Canonical) : (s.refuseBurst b k).Canonical := by
  unfold State.refuseBurst
  extract_lets t1 _ t2
  have ht1 : t1.Canonical := .refusalNoted hs
  have ht2 : t2.Canonical := .congr ht1 rfl
  split
  · exact ht2
  · exact .ite (.burstBGone ht2) (.congr ht2 rfl)

theorem busyBurst {b : Burst} (hs : s.Canonical) : (s.busyBurst b).Canonical := by
  unfold State.busyBurst
  extract_lets _ t1
  have ht1 : t1.Canonical := .congr hs rfl
  split
  · exact ht1
  · exact .ite (.burstBGone ht1) (.congr ht1 rfl)

theorem sendBurst {b : Burst} (hs : s.Canonical) : (s.sendBurst b).Canonical := by
  unfold State.sendBurst
  extract_lets _ _ _ _ t1 t2 _ _ t3 _ t4 t5
  have ht1 : t1.Canonical := .congr hs rfl
  have ht2 : t2.Canonical := .ite (.ite (.note ht1) ht1) hs
  have ht3 : t3.Canonical := .congr ht2 rfl
  have ht4 : t4.Canonical := .congr ht3 rfl
  have ht5 : t5.Canonical := by
    unfold t5
    split
    · exact .congr ht4 rfl
    · exact ht4
  split
  · exact .congr ht5 rfl
  · extract_lets _ t6
    have ht6 : t6.Canonical := .congr ht5 rfl
    exact .ite (.ite (.congr ht6 rfl) ht6) (.congr ht6 rfl)

theorem execSlotStart (hs : s.Canonical) : Goes (execSlotStart s) := by
  unfold Machine.execSlotStart
  extract_lets _ t1 _ t2
  have ht1 : t1.Canonical := .congr hs rfl
  have ht2 : t2.Canonical := .dropLateBs ht1
  show State.Canonical _
  split
  · exact hs
  · split
    · exact .foldl (.ite (.congr (.stopLink ht1) rfl) (.stopLink ht1)) fun _ ht => .ite ht (.hearthReply ht)
    · split
      · exact ht1
      · extract_lets _ t3 t4
        have ht3 : t3.Canonical := .congr ht2 rfl
        have ht4 : t4.Canonical := .ite (.calNow ht3) ht3
        exact .ite ht2 (.ite (.congr ht2 rfl) (.beginSlot (.congr ht4 rfl)))

theorem execLbtResult {rssi : Int} (hs : s.Canonical) : Goes (execLbtResult rssi s) := by
  unfold Machine.execLbtResult
  show State.Canonical _
  split
  · exact hs
  · extract_lets
    split
    · exact hs
    · split
      · split
        · exact .refuseBurst hs
        · exact .busyBurst (.congr hs rfl)
      · exact .congr hs rfl

theorem execBurstTransmit (hs : s.Canonical) : Goes (execBurstTransmit s) := by
  unfold Machine.execBurstTransmit
  show State.Canonical _
  split
  · exact hs
  · split
    · exact hs
    · split
      · exact .refuseBurst hs
      · exact .sendBurst hs

theorem execBurstEnd (hs : s.Canonical) : Goes (execBurstEnd s) := by
  unfold Machine.execBurstEnd
  show State.Canonical _
  split
  · exact .ite (.congr hs rfl) hs
  · exact hs

theorem execMaxwaitTimeout {handle : Word} (hs : s.Canonical) : Goes (execMaxwaitTimeout handle s) := by
  unfold Machine.execMaxwaitTimeout
  extract_lets
  show State.Canonical _
  split
  · exact .frameLost (.congr hs rfl)
  · exact hs

theorem rxFail {hears : Nat} {mac : Bool} (hs : s.Canonical) : (s.rxFail hears mac).Canonical :=
  .ite (.ite (.congr hs rfl) (.congr hs rfl)) (.congr hs rfl)

theorem beaconEvent {hub flags plan source : Nat} (hs : s.Canonical) :
    (s.beaconEvent hub flags plan source).Canonical :=
  .hlEvent hs

theorem rxBeacon {p : Plan} {payload : List Byte} (hs : s.Canonical) : (s.rxBeacon p payload).Canonical := by
  unfold State.rxBeacon
  extract_lets _ _ _ _ _ _ _ _ t1 _ _ _ t2 t3 _ _ t4
  have ht1 : t1.Canonical := .ite (.congr hs rfl) hs
  have ht2 : t2.Canonical := .congr ht1 rfl
  have ht3 : t3.Canonical := .ite (.ite ht2 (.note ht2)) ht1
  have ht4 : t4.Canonical := .congr ht3 rfl
  exact .ite hs (.ite ht4 (.beaconEvent ht4))

theorem rxUplink {troupe seq : Nat} {rssi : Int} {payload : List Byte} (hs : s.Canonical) :
    (s.rxUplink troupe seq rssi payload).Canonical :=
  .ite (.congr hs rfl) (.hlEvent (.congr hs rfl))

theorem rxDownlink {type troupe seq sf : Nat} {isB : Bool} {offset : Int} {payload : List Byte} (hs : s.Canonical) :
    (s.rxDownlink type troupe seq sf isB offset payload).Canonical := by
  unfold State.rxDownlink
  extract_lets _ _ t1
  have ht1 : t1.Canonical := .congr hs rfl
  exact .ite (.congr hs rfl) (.ite (.ite (.completeBatch ht1) ht1) (.hlEvent ht1))

theorem pickAntenna {rx : HearthRx} (hs : s.Canonical) : (s.pickAntenna rx).Canonical := by
  unfold State.pickAntenna
  extract_lets _ _ _ t1
  have ht1 : t1.Canonical := .congr hs rfl
  exact .congr ht1 rfl

theorem execHearthFrameRx {rx : HearthRx} (hs : s.Canonical) : Goes (execHearthFrameRx rx s) := by
  unfold Machine.execHearthFrameRx
  show State.Canonical _
  split
  · exact hs
  · extract_lets _ t1
    have ht1 : t1.Canonical := .pickAntenna hs
    split
    · exact hs
    · split
      · exact ht1
      · split
        · exact .rxFail ht1
        · split
          · exact .ite ht1 (.rxFail ht1)
          · exact .ite (.rxFail ht1)
              (.ite (.ite (.rxUplink ht1) ht1)
                (.ite (.rxBeacon (.congr ht1 rfl)) (.ite (.congr ht1 rfl) (.rxDownlink ht1))))

theorem execBeaconMissed {own : Bool} (hs : s.Canonical) : Goes (execBeaconMissed own s) := by
  unfold Machine.execBeaconMissed
  extract_lets _ _ _ _ t1
  have ht1 : t1.Canonical := .congr hs rfl
  exact .ite (.ite (.congr hs rfl) hs) (.ite hs (.ite (.watchSource (.beaconEvent (.note ht1))) ht1))

/-! ### The dispatch of tacks (chapter 6) -/

theorem mailTack {x : Tack} {p : Pos} (hs : s.Canonical) : (s.mailTack x p).Canonical := by
  unfold State.mailTack
  extract_lets mb e
  refine .ite (.ringHost hs) ?_
  split
  · next t ht => exact .ringHost (.postOut hs ht)
  · exact .congr (s := s.postRefused mb) (.postRefused hs) rfl

theorem handTack {t : Tack} {p : Pos} (hs : s.Canonical) : (s.handTack t p).Canonical := by
  unfold State.handTack
  extract_lets
  exact .ite (.hearthDispatch hs)
    (.ite (.irSend hs) (.ite (.congr hs rfl) (.ite (.mailTack hs) (.ite (.audioMarker hs) (.packet hs)))))

theorem silentTack {t : Tack} {p : Pos} (hs : s.Canonical) : (s.silentTack t p).Canonical := by
  unfold State.silentTack
  extract_lets t1
  have ht1 : t1.Canonical := .ite (.congr hs rfl) hs
  exact .congr ht1 rfl

theorem dispatchTack {t : Tack} {p : Pos} (hs : s.Canonical) : (s.dispatchTack t p).Canonical := by
  unfold State.dispatchTack
  extract_lets _ _ _ t1 t2
  have ht1 : t1.Canonical := .congr hs rfl
  have ht2 : t2.Canonical := .complete ht1
  exact .ite ht2 (.ite (.silentTack ht2) (.handTack ht2))

theorem execTackDispatch (hs : s.Canonical) : Goes (execTackDispatch s) := by
  unfold Machine.execTackDispatch
  extract_lets t1
  have ht1 : t1.Canonical := .storeWork hs
  show State.Canonical _
  split
  · exact hs
  · split
    · exact ht1
    · extract_lets _ t2 t3
      have ht2 : t2.Canonical := .congr ht1 rfl
      have ht3 : t3.Canonical := .foldl ht2 fun _ ht => .dispatchTack ht
      exact .ite ht1 (.compareDigests (.storeWork (.watchTacks (.congr ht3 rfl))))

end Sys2Proof.Machine.State.Canonical
end

section
/-! PROOFS. The canonical form through power and the Awl. -/

namespace Sys2Proof.Machine.State.Canonical

open Sys2Proof

variable {s t : State}

/-! ### Power beneath its rows (chapters 1 and 19) -/

theorem powerOn {d : Domain} (hs : s.Canonical) : (s.powerOn d).Canonical :=
  .ite (.congr hs rfl) hs

theorem setPower {p : Power} (hs : s.Canonical) : (s.setPower p).Canonical :=
  .alert (.congr hs rfl)

theorem lowerHearth (hs : s.Canonical) : s.lowerHearth.Canonical := by
  unfold State.lowerHearth
  extract_lets t1 _ t2 _ t3
  have ht1 : t1.Canonical := .resetChain hs
  clear_value t1
  have ht2 : t2.Canonical := .ite (.congr ht1 rfl) hs
  clear_value t2
  have ht3 : t3.Canonical := .clearRegs (.setChain ht2)
  clear_value t3
  exact .watchSource (.congr ht3 rfl)

theorem abortReception (hs : s.Canonical) : s.abortReception.Canonical := by
  unfold State.abortReception
  extract_lets t1 lanes fms follows _ _ _ t2
  have ht1 : t1.Canonical := .foldl hs fun _ ht => .ite ht (.resetLane ht)
  clear_value t1
  have ht2 : t2.Canonical := .congr ht1 rfl
  exact .abortAll ht2

theorem lowerBroadcast (hs : s.Canonical) : s.lowerBroadcast.Canonical := by
  unfold State.lowerBroadcast
  extract_lets t1 t2 t3 t4 bad _ down t5 t6
  have ht1 : t1.Canonical := .abortReception (.resetChain (.resetChain hs))
  clear_value t1
  have ht2 : t2.Canonical := .rxOff (.dabReset (.dabReset ht1))
  clear_value t2
  have ht3 : t3.Canonical := .rxOff ht2
  clear_value t3
  have ht4 : t4.Canonical := .ite (.foldl ht3 fun _ ht => .ite ht (.freeLane ht)) hs
  clear_value t4
  have ht5 : t5.Canonical := .clearRegs (.setChain (.setChain ht4))
  clear_value t5
  have ht6 : t6.Canonical := .clearRegs ht5
  clear_value t6
  refine .watchSource (.congr (s := { t6 with lanes := t6.lanesDown }) ?_ rfl)
  obtain ⟨h1, h2, h3, h4, h5, h6, h7, h8, h9, -, -⟩ := ht6.parts
  exact State.canonical_iff.mpr ⟨h1, h2, h3, h4, h5, h6, h7, h8, lanesDown_wf h9, rfl, rfl⟩

theorem program_init_data (i : Nat) (hi : i < 5) : swf 0 (Program.init.bench[i]).data = true := by
  simp [Program.init, Bench.init, swf]

/-- The benches as after a reset. -/
theorem withoutProgram (hs : s.Canonical) : ({ s with prog := Program.init } : State).Canonical := by
  obtain ⟨-, -, -, -, -, h6, h7, h8, h9, h10, h11⟩ := hs.parts
  exact State.canonical_iff.mpr ⟨program_init_data, rfl, rfl, rfl, rfl, h6, h7, h8, h9, h10, h11⟩

theorem lowerBench (hs : s.Canonical) : s.lowerBench.Canonical := by
  unfold State.lowerBench
  extract_lets t1 t2 t3
  have ht1 : t1.Canonical := .marksBenches hs
  clear_value t1
  have ht2 : t2.Canonical := .ite ht1 (.abandonCommit ht1)
  clear_value t2
  have ht3 : t3.Canonical := .clearRegs (.clearRegs (.clearRegs ht2))
  clear_value t3
  exact .congr ht3.withoutProgram rfl

/-- A seal view taken from the OTP, or emptied (R572, R843). -/
theorem resetView (hs : s.Canonical) :
    ({ s with theSeal.view := if s.theSeal.sealed then s.theSeal.otp else [] } : State).Canonical := by
  obtain ⟨h1, h2, h3, h4, h5, h6, -, h8, h9, h10, h11⟩ := hs.parts
  refine State.canonical_iff.mpr ⟨h1, h2, h3, h4, h5, h6, ?_, h8, h9, h10, h11⟩
  show sealWf (if s.theSeal.sealed then s.theSeal.otp else []) = true
  split
  · exact h8
  · rfl

theorem lowerKeeper (hs : s.Canonical) : s.lowerKeeper.Canonical := by
  unfold State.lowerKeeper
  extract_lets t1 _ _ _ _ t2
  have ht1 : t1.Canonical := .marksKeeper hs
  clear_value t1
  have ht2 : t2.Canonical := .congr ht1.resetView rfl
  clear_value t2
  exact .congr (s := t2.clearRegs 0xF00 0xFFF) (.clearRegs ht2) rfl

theorem lowerHost (hs : s.Canonical) : s.lowerHost.Canonical := by
  unfold State.lowerHost
  extract_lets t _ _ _
  have ht : t.Canonical := .clearRegs (.clearRegs (.clearRegs (.clearRegs hs)))
  clear_value t
  exact .congr ht rfl

theorem toIdle (hs : s.Canonical) : s.toIdle.Canonical := by
  unfold State.toIdle
  extract_lets t1 _ _ t2
  have ht1 : t1.Canonical := .lowerBench (.lowerBroadcast (.lowerHearth hs))
  clear_value t1
  have ht2 : t2.Canonical := .congr ht1 rfl
  exact .setPower ht2

theorem toRun (hs : s.Canonical) : s.toRun.Canonical :=
  .powerOn (.congr hs rfl)

theorem mailWake (hs : s.Canonical) : s.mailWake.Canonical :=
  .ite (.toRun hs) hs

theorem toSleep (hs : s.Canonical) : s.toSleep.Canonical := by
  unfold State.toSleep
  extract_lets _ t1 t2
  have ht1 : t1.Canonical := .congr hs rfl
  have ht2 : t2.Canonical := .lowerHost (.lowerKeeper ht1)
  exact .congr ht2 rfl

theorem wake {refCount : Nat} (hs : s.Canonical) : (s.wake refCount).Canonical :=
  .alert (.congr hs rfl)

theorem reset_parts : State.reset.Parts := by
  refine ⟨program_init_data, ?_, ?_, ?_, ?_, ?_, ?_, ?_, ?_, ?_, ?_⟩ <;> rfl

theorem wipe {sole : Bool} (hs : s.Canonical) : (s.wipe sole).Canonical := by
  unfold State.wipe
  obtain ⟨h1, h2, h3, h4, h5, h6, -, -, h9, h10, h11⟩ := reset_parts
  have hview : sealWf (if s.theSeal.sealed then s.theSeal.otp else []) = true := hs.resetView.parts.view
  exact State.canonical_iff.mpr ⟨h1, h2, h3, h4, h5, h6, hview, hs.parts.otp, h9, h10, h11⟩

theorem spoilBank {b : Bool} (hs : s.Canonical) : (s.spoilBank b).Canonical :=
  .setBank hs

theorem recoverJournal (hs : s.Canonical) : s.recoverJournal.Canonical := by
  unfold State.recoverJournal
  extract_lets _ _ t1 t2 _ _ _ t3 _ t4
  have ht1 : t1.Canonical := .congr hs rfl
  have ht2 : t2.Canonical := .ite (.congr ht1 rfl) ht1
  have ht3 : t3.Canonical := .congr ht2 rfl
  have ht4 : t4.Canonical := by
    unfold t4
    split
    · exact ht3
    · extract_lets _ t5
      have ht5 : t5.Canonical := .congr ht3 rfl
      exact .ite (.spoilBank (.congr ht5 rfl)) (.ite (.congr ht5 rfl) (.congr ht5 rfl))
  exact .ite (.note ht4) ht4

theorem enterHold (hs : s.Canonical) : s.enterHold.Canonical := by
  unfold State.enterHold
  extract_lets _ _ t1 t2
  have ht1 : t1.Canonical := .congr hs rfl
  have ht2 : t2.Canonical := .recoverJournal ht1
  exact .loadTable (.congr ht2 rfl)

theorem leaveReset (hs : s.Canonical) : s.leaveReset.Canonical :=
  .ite (.enterHold hs) hs

/-! ### The Awl (chapter 19) -/

theorem awlReply {id status reason : Nat} (hs : s.Canonical) : (s.awlReply id status reason).Canonical :=
  .reply hs

theorem startAwl {mask : Nat} {req : Option Nat} (hs : s.Canonical) : (s.startAwl mask req).Canonical := by
  unfold State.startAwl
  extract_lets _ _ _ t1
  have ht1 : t1.Canonical := .congr hs rfl
  split
  · split
    · exact .awlReply hs
    · exact hs
  · exact .foldl ht1 fun _ ht => .placeBubble ht

theorem awlTake {run : Nat} {res : AwlResult} (hs : s.Canonical) : (s.awlTake run res).Canonical := by
  unfold State.awlTake
  extract_lets _ _ _ _ t1
  have ht1 : t1.Canonical := .congr hs rfl
  exact .ite (.congr ht1 rfl) ht1

theorem awlRaise (hs : s.Canonical) : s.awlRaise.Canonical :=
  .foldl hs fun _ ht => .note ht

theorem awlFailUnit {i : Nat} (hs : s.Canonical) : (s.awlFailUnit i).Canonical := by
  unfold State.awlFailUnit
  split
  · exact .ite (.sysPllLost hs) hs
  · exact .ite (.sckPllLost hs) hs
  · exact .ite hs (.failChain hs)
  · exact .ite hs (.failChain hs)
  · exact .ite hs (.failChain hs)
  · exact .foldl (.congr hs rfl) fun _ ht => .ite ht (.failLane ht)
  · exact .foldl hs fun _ ht => .ite ht (.failLane ht)
  · exact hs

theorem markBroadcast (hs : s.Canonical) : s.markBroadcast.Canonical := by
  unfold State.markBroadcast
  extract_lets _ _ _ t1 _ t2 t3
  have ht1 : t1.Canonical := .foldl hs fun _ ht => .setLane ht
  have ht2 : t2.Canonical := .congr ht1 rfl
  have ht3 : t3.Canonical := .foldl ht2 fun _ ht => .ite (.congr ht rfl) ht
  split
  · exact hs
  · refine .foldl ht3 fun _ ht => ?_
    extract_lets _ t4
    have ht4 : t4.Canonical := .congr ht rfl
    exact .ite (.congr ht4 rfl) ht

theorem markHearth (hs : s.Canonical) : s.markHearth.Canonical :=
  .ite (.congr hs rfl) hs

theorem markBench (hs : s.Canonical) : s.markBench.Canonical :=
  .ite (.congr hs rfl) hs

theorem leaveHold (hs : s.Canonical) : s.leaveHold.Canonical :=
  .congr (s := s.toIdle) (.toIdle hs) rfl

theorem awlFaults (hs : s.Canonical) : s.awlFaults.Canonical :=
  .ite (.note (.ite (.note hs) hs)) (.ite (.note hs) hs)

theorem bootRecord (hs : s.Canonical) : s.bootRecord.Canonical :=
  .ite (.startOp hs) hs

theorem awlLeave (hs : s.Canonical) : s.awlLeave.Canonical := by
  unfold State.awlLeave
  split
  · exact .ite (.toRun (.leaveHold hs)) (.leaveHold hs)
  · exact .congr hs rfl

theorem awlAnswer {bytes : List Byte} (hs : s.Canonical) : (s.awlAnswer bytes).Canonical := by
  unfold State.awlAnswer
  extract_lets mail t
  have ht : t.Canonical := .congr hs rfl
  clear_value t
  cases hu : t.postOut 0 .keeper bytes t.now with
  | none => exact ht
  | some u => exact .postOut ht hu

theorem execAwlRunEnd {res : AwlResult} (hs : s.Canonical) : Goes (Machine.execAwlRunEnd res s) := by
  unfold Machine.execAwlRunEnd
  refine .ite hs ?_
  extract_lets req u _ t1 t2
  have hu : u.Canonical := .awlTake hs
  clear_value u
  have ht1 : t1.Canonical := .congr hu rfl
  clear_value t1
  have ht2 : t2.Canonical := .foldl (.awlRaise ht1) fun _ ht => .awlFailUnit ht
  clear_value t2 req
  cases req with
  | some id => exact .awlReply ht2
  | none => exact ht2

theorem execAwlRerun {res : AwlResult} (hs : s.Canonical) : Goes (execAwlRerun res s) := by
  unfold Machine.execAwlRerun
  show State.Canonical _
  split
  · extract_lets _ t1 _ t2 t3
    have ht1 : t1.Canonical := .awlTake hs
    have ht2 : t2.Canonical := .congr ht1 rfl
    have ht3 : t3.Canonical := .awlRaise ht2
    exact .awlAnswer ht3
  · exact hs

theorem execAwlDetail (hs : s.Canonical) : Goes (execAwlDetail s) := by
  unfold Machine.execAwlDetail
  show State.Canonical _
  split
  · exact .awlAnswer hs
  · exact hs

end Sys2Proof.Machine.State.Canonical
end

section
/-! PROOFS. The canonical form through Alnomal's control and messages, and the Keeper's work. -/

namespace Sys2Proof.Machine.State.Canonical

open Sys2Proof

variable {s t : State}

/-! ### Alnomal branches, calls and control (Table 5-8) -/

theorem branch {h : Handler} {off : BitVec 18} {taken : Bool} (hs : s.Canonical) :
    (branch h off taken s).Canonical := by
  unfold Machine.branch
  split
  · exact hs
  · exact hs

theorem call {h : Handler} {target : Nat} (hs : s.Canonical) : (call h target s).Canonical := by
  unfold Machine.call
  extract_lets
  split
  · exact trivial
  · exact hs

theorem execRet {b : Fin 5} (hs : s.Canonical) : Goes (execRet b s) := by
  unfold Machine.execRet
  show State.Canonical _
  refine .instruct hs ?_
  intro k
  split
  · exact trivial
  · exact hs

theorem execEndHandler {b : Fin 5} (hs : s.Canonical) : Goes (execEndHandler b s) := by
  unfold Machine.execEndHandler
  show State.Canonical _
  refine .instruct hs ?_
  intro k
  split
  · exact trivial
  · split
    · exact trivial
    · exact hs

/-! ### Alnomal tack, message and wake instructions (Tables 5-13, 5-16 and 5-18) -/

theorem execTpost {b : Fin 5} {rd ra : Fin 16} (hs : s.Canonical) : Goes (execTpost b rd ra s) := by
  unfold Machine.execTpost
  show State.Canonical _
  refine .instruct hs ?_
  intro k
  extract_lets _ _ _ _ t1
  have ht1 : t1.Canonical := .setBench hs rfl
  split
  · exact trivial
  · split
    · exact trivial
    · split
      · exact trivial
      · split
        · exact trivial
        · split
          · exact .congr ht1 rfl
          · split
            · exact hs
            · exact trivial
          · exact trivial
          · exact trivial
          · exact trivial

theorem cancelTack {b : Nat} {h : Handler} {x : Word} {op : TackOp} (hs : s.Canonical) :
    (cancelTack s b h x op).Canonical := by
  unfold Machine.cancelTack
  split
  · exact .congr hs rfl
  · split
    · exact hs
    · exact trivial
  · exact trivial
  · exact trivial

theorem execTcan {b : Fin 5} {ra : Fin 16} (hs : s.Canonical) : Goes (execTcan b ra s) := by
  unfold Machine.execTcan
  show State.Canonical _
  refine .instruct hs ?_
  intro k
  extract_lets
  split
  · exact trivial
  · split
    · exact trivial
    · exact cancelTack hs

theorem execTcank {b : Fin 5} {ra : Fin 16} (hs : s.Canonical) : Goes (execTcank b ra s) := by
  unfold Machine.execTcank
  show State.Canonical _
  refine .instruct hs ?_
  intro k
  extract_lets
  split
  · exact trivial
  · exact cancelTack hs

theorem sendMail {dest : Nat} {e : Event} (hs : s.Canonical) : (s.sendMail dest e).Canonical :=
  .ite (.setBench hs rfl) (.ite (.congr hs rfl) hs)

theorem msend {b dest : Nat} {msg : List Byte} {p : Pos} (hs : s.Canonical) : (s.msend b dest msg p).Canonical := by
  unfold State.msend
  extract_lets _ t1
  have ht1 : t1.Canonical := .setBench hs rfl
  exact .ite (.ite ht1 (.mirror (.sendMail ht1))) (.sendMail ht1)

theorem execMsend {b : Fin 5} {rd ra rb : Fin 16} {dest : BitVec 8} (hs : s.Canonical) :
    Goes (execMsend b rd ra rb dest s) := by
  unfold Machine.execMsend
  show State.Canonical _
  refine .instruct hs ?_
  intro k
  extract_lets
  split
  · exact trivial
  · split
    · exact trivial
    · split
      · exact .ite hs (.msend hs)
      · split
        · exact hs
        · exact trivial
      · exact trivial
      · exact trivial
      · exact trivial

theorem execMpost {b : Fin 5} {rd ra rb : Fin 16} {mb : BitVec 8} (hs : s.Canonical) :
    Goes (Machine.execMpost b rd ra rb mb s) := by
  unfold Machine.execMpost
  show State.Canonical _
  refine .instruct hs fun h => ?_
  extract_lets a len m msg done st
  split
  · exact trivial
  split
  · exact trivial
  split
  · split
    · exact .post hs
    · split
      · exact hs
      · exact .congr hs rfl
  · split
    · exact hs
    · exact trivial
  · exact trivial
  · exact trivial
  · exact trivial

theorem execRing {b : Fin 5} {eyelet : BitVec 8} (hs : s.Canonical) : Goes (execRing b eyelet s) := by
  unfold Machine.execRing
  show State.Canonical _
  refine .instruct hs ?_
  intro k
  extract_lets
  split
  · exact trivial
  · split
    · exact .ite hs (.ringHost hs)
    · split
      · exact hs
      · exact trivial
    · exact trivial
    · exact trivial

theorem execWake {b : Fin 5} {ra rb : Fin 16} {slot : BitVec 8} (hs : s.Canonical) :
    Goes (execWake b ra rb slot s) := by
  unfold Machine.execWake
  show State.Canonical _
  refine .instruct hs ?_
  intro k
  extract_lets
  split
  · exact trivial
  · exact .setBench hs rfl

theorem execWcan {b : Fin 5} {slot : BitVec 8} (hs : s.Canonical) : Goes (execWcan b slot s) := by
  unfold Machine.execWcan
  show State.Canonical _
  refine .instruct hs ?_
  intro k
  extract_lets
  split
  · exact trivial
  · exact .setBench hs rfl

/-! ### The Keeper's work (chapters 13, 16 and 19) -/

theorem keeperReply {mb : Nat} {bytes : List Byte} (hs : s.Canonical) : (s.keeperReply mb bytes).Canonical :=
  .ite (.keeperPost hs) hs

theorem keeperTake {mb code : Nat} {known : List Nat} {act : List Byte → State → State} (hs : s.Canonical)
    (hact : ∀ {t : State} b, t.Canonical → (act b t).Canonical) : (s.keeperTake mb known code act).Canonical := by
  unfold State.keeperTake
  split
  · exact hs
  · refine .ite hs ?_
    split
    · exact .note (.closeSession (.congr hs rfl))
    · next body _ =>
      extract_lets c t1 _ _ t2
      have ht2 : t2.Canonical := .congr hs rfl
      exact .ite (.keeperReply ht2) (.ite (hact _ ht2) hs)

theorem provision {cmd : List Byte} (hs : s.Canonical) : (State.provision cmd s).Canonical := by
  unfold State.provision
  have hr : (s.startOp .key).2.Canonical := .startOp hs
  generalize s.startOp .key = r at hr ⊢
  obtain ⟨ok, u⟩ := r
  extract_lets answer
  split
  · exact .keeperReply hs
  · exact .ite (.congr hr rfl) (.keeperReply hr)

theorem provisionRow {code : Nat} (hs : s.Canonical) : (s.provisionRow code).Canonical :=
  .ite hs (.keeperTake hs fun _ ht => .provision ht)

theorem installHak (hs : s.Canonical) : s.installHak.Canonical := by
  unfold State.installHak
  have ht : (s.emptySlot 8).Canonical := .congr hs rfl
  have hr : ((s.emptySlot 8).startOp .key).2.Canonical := .startOp ht
  generalize (s.emptySlot 8).startOp .key = r at hr ⊢
  obtain ⟨ok, u⟩ := r
  split
  · exact .ite hs (.ite (.congr hr rfl) hr)
  · exact hs

theorem keyDone {ok : Bool} (hs : s.Canonical) : (s.keyDone ok).Canonical := by
  unfold State.keyDone
  split
  · exact hs
  · extract_lets _ t1 _ _ _ t2
    have ht1 : t1.Canonical := .congr hs rfl
    have ht2 : t2.Canonical := .ite (.journalPut (.congr ht1 rfl)) ht1
    exact .ite (.ite (.closeSession ht2) ht2) (.keeperReply ht2)

theorem sealCommand {v : Word} (hs : s.Canonical) : (s.sealCommand v).Canonical := by
  unfold State.sealCommand
  have hr : (s.startOp .seal).2.Canonical := .startOp hs
  generalize s.startOp .seal = r at hr ⊢
  obtain ⟨ok, u⟩ := r
  exact .ite hs (.ite (.congr hs rfl) (.ite (.congr hs rfl) (.ite (.congr hr rfl) (.congr hr rfl))))

theorem loosened (hs : s.Canonical) : s.loosened.Canonical :=
  .note (.congr hs rfl)

theorem sealWrite {a : Nat} {v : Word} (hs : s.Canonical) : (s.sealWrite a v).Canonical := by
  unfold State.sealWrite
  have hr : (s.startOp .sealWrite).2.Canonical := .startOp hs
  generalize s.startOp .sealWrite = r at hr ⊢
  obtain ⟨ok, u⟩ := r
  refine .ite hs (.ite (.loosened hs) (.ite ?_ (.ite hs (.ite (.loosened hs) (.ite (.note ?_) (.ite ?_ ?_))))))
  · obtain ⟨h1, h2, h3, h4, h5, h6, h7, h8, h9, h10, h11⟩ := hs.parts
    exact State.canonical_iff.mpr ⟨h1, h2, h3, h4, h5, h6, sealWf_viewPut h7 a _, h8, h9, h10, h11⟩
  · exact .congr hs rfl
  · exact .congr hr rfl
  · exact .congr hr rfl

theorem sealDone {ok : Bool} (hs : s.Canonical) : (s.sealDone ok).Canonical := by
  unfold State.sealDone
  extract_lets theSeal t
  have ht : t.Canonical := .congr hs rfl
  clear_value t
  refine .ite ?_ (.congr ht rfl)
  obtain ⟨h1, h2, h3, h4, h5, h6, h7, -, h9, h10, h11⟩ := ht.parts
  exact State.canonical_iff.mpr ⟨h1, h2, h3, h4, h5, h6, h7, h7, h9, h10, h11⟩

theorem sealWriteDone {ok : Bool} (hs : s.Canonical) : (s.sealWriteDone ok).Canonical := by
  unfold State.sealWriteDone
  extract_lets w theSeal t
  have ht : t.Canonical := .congr hs rfl
  clear_value t w
  match w with
  | none => exact ht
  | some (a, v) =>
    refine .ite ?_ (.congr ht rfl)
    obtain ⟨h1, h2, h3, h4, h5, h6, -, h8, h9, h10, h11⟩ := ht.parts
    have hview : sealWf (viewPut t.theSeal.otp a v) = true := sealWf_viewPut h8 a v
    exact State.canonical_iff.mpr ⟨h1, h2, h3, h4, h5, h6, hview, hview, h9, h10, h11⟩

theorem writeBoot {v : Word} (hs : s.Canonical) : (s.writeBoot v).Canonical :=
  .ite hs (.startOp hs)

theorem bootPut {v : Nat} (hs : s.Canonical) : (s.bootPut v).Canonical :=
  .journalPut (.congr hs rfl)

theorem storeCommand {v : Word} (hs : s.Canonical) : (s.storeCommand v).Canonical :=
  .ite hs (.startOp hs)

theorem writeIvk {i : Nat} {v : Word} (hs : s.Canonical) : (s.writeIvk i v).Canonical :=
  .ite (.congr hs rfl) hs

theorem instPut {step : Nat} {target : Bool} (hs : s.Canonical) : (s.instPut step target).Canonical :=
  .journalPut hs

theorem instFail (hs : s.Canonical) : s.instFail.Canonical :=
  .spoilBank (.congr hs rfl)

theorem instStarted {op : StoreOp} (hs : s.Canonical) : (s.instStarted op).Canonical := by
  unfold State.instStarted
  split
  · exact .instPut (.setBank (.congr hs rfl))
  · exact .instPut (.congr hs rfl)
  · exact hs

theorem instStart {op : StoreOp} (hs : s.Canonical) : (s.instStart op).Canonical := by
  unfold State.instStart
  have hr : (s.startOp op).2.Canonical := .startOp hs
  generalize s.startOp op = r at hr ⊢
  obtain ⟨ok, u⟩ := r
  exact .ite (.instStarted (.congr hr rfl)) (.congr hr rfl)

theorem instReply {op : StoreOp} {status : Nat} (hs : s.Canonical) : (s.instReply op status).Canonical := by
  unfold State.instReply
  extract_lets
  split
  · exact .keeperReply hs
  · exact .keeperReply hs
  · exact .keeperReply hs
  · exact .keeperReply hs
  · exact .keeperReply hs

theorem instBegin {cmd : List Byte} (hs : s.Canonical) : (s.instBegin cmd).Canonical :=
  .ite (.keeperReply hs) (.ite (.keeperReply hs) (.instStart (.congr hs rfl)))

theorem instData {cmd : List Byte} (hs : s.Canonical) : (s.instData cmd).Canonical :=
  .ite (.ite (.instStart (.congr hs rfl)) (.congr hs rfl)) (.congr hs rfl)

theorem instEnd {_cmd : List Byte} (hs : s.Canonical) : (s.instEnd _cmd).Canonical :=
  .ite (.instReply hs) (.ite (.instFail (.instReply hs)) (.instStart hs))

theorem instCommit {_cmd : List Byte} (hs : s.Canonical) : (s.instCommit _cmd).Canonical :=
  .ite (.instStart hs) (.instReply hs)

theorem instRevert {_cmd : List Byte} (hs : s.Canonical) : (s.instRevert _cmd).Canonical :=
  .ite (.instStart hs) (.instReply hs)

theorem instAbort {_cmd : List Byte} (hs : s.Canonical) : (s.instAbort _cmd).Canonical :=
  .ite (.keeperReply hs) (.keeperReply (.spoilBank (.congr hs rfl)))

theorem installRow {code : Nat} {act : List Byte → State → State} (hs : s.Canonical)
    (hact : ∀ {t : State} b, t.Canonical → (act b t).Canonical) : (s.installRow code act).Canonical := by
  unfold State.installRow
  split
  · exact .keeperTake hs hact
  · exact .ite (.keeperTake hs hact) hs
  · exact hs
  · exact .keeperTake hs hact

theorem pageDone (hs : s.Canonical) : s.pageDone.Canonical := by
  unfold State.pageDone
  extract_lets _ _ t1 _ t2
  have ht1 : t1.Canonical := .setBank hs
  have ht2 : t2.Canonical := .congr ht1 rfl
  exact .ite (.instStart ht2) ht2

theorem recordDone {step : Nat} (hs : s.Canonical) : (s.recordDone step).Canonical := by
  unfold State.recordDone
  extract_lets _ _ t1 _ _ t2 _ t3 _ t4
  have ht1 : t1.Canonical := .setBank hs
  have ht2 : t2.Canonical := .setBank hs
  have ht3 : t3.Canonical := .congr ht2 rfl
  have ht4 : t4.Canonical := .congr hs rfl
  split
  · exact .congr ht1 rfl
  · exact .instReply (.instPut ht3)
  · exact .instReply (.instPut ht4)
  · split
    · exact .instReply (.instPut (.congr hs rfl))
    · exact hs

theorem instBad {op : StoreOp} (hs : s.Canonical) : (s.instBad op).Canonical :=
  .ite (.instReply hs) (.instFail (.instReply hs))

theorem opCompletes {op : StoreOp} {ok : Bool} (hs : s.Canonical) : (s.opCompletes op ok).Canonical := by
  unfold State.opCompletes
  split
  · exact hs
  · exact .ite (.pageDone hs) (.instBad hs)
  · exact .ite (.recordDone hs) (.instBad hs)
  · exact .keyDone hs
  · exact .ite (.bootPut hs) hs
  · exact .sealDone hs
  · exact .sealWriteDone hs
  · exact .ite (.congr hs rfl) hs

theorem failEnds {named : Nat × Nat} (hs : s.Canonical) : (s.failEnds named).Canonical :=
  .leaveReset (.congr (.wipe (.journalPut hs)) rfl)

theorem commitStep {next : CommitStep} (hs : s.Canonical) : (s.commitStep next).Canonical := by
  unfold State.commitStep
  have hr : (s.checkEnergy 40).2.Canonical := .checkEnergy hs
  generalize s.checkEnergy 40 = r at hr ⊢
  obtain ⟨ok, u⟩ := r
  exact .ite (.ite (.congr hr rfl) (.congr hr rfl)) (.abandonCommit hr)

theorem commitEnds (hs : s.Canonical) : s.commitEnds.Canonical := by
  unfold State.commitEnds
  extract_lets _ _ _ t1 _ _ t2
  have ht1 : t1.Canonical := .journalPut hs
  have ht2 : t2.Canonical := .congr ht1 rfl
  exact .ite (.startCommit ht2) ht2

theorem execInstVerifyDone (hs : s.Canonical) : Goes (execInstVerifyDone s) := by
  unfold Machine.execInstVerifyDone
  extract_lets
  show State.Canonical _
  split
  · exact hs
  · split
    · exact .instFail (.instReply hs)
    · exact .ite (.note (.instFail (.instReply hs))) (.ite (.note (.instFail (.instReply hs))) (.instStart hs))

theorem execEnergyRecheck (hs : s.Canonical) : Goes (Machine.execEnergyRecheck s) := by
  unfold Machine.execEnergyRecheck
  show State.Canonical _
  split
  · exact hs
  · next op n _ =>
    have hr : (s.startOp op).2.Canonical := .startOp hs
    generalize s.startOp op = r at hr ⊢
    obtain ⟨ok, u⟩ := r
    have ht : (State.instReply { u with store.recheck := none } op 3).Canonical := .instReply (.congr hr rfl)
    exact .ite hs (.ite (.instStart (.congr hs rfl)) (.ite (.instStarted (.congr hr rfl)) (.ite (.instFail ht) ht)))

theorem execStoreOpDone {ok : Bool} (hs : s.Canonical) : Goes (execStoreOpDone ok s) := by
  unfold Machine.execStoreOpDone
  show State.Canonical _
  split
  · exact hs
  · exact hs
  · extract_lets _ _ t1
    have ht1 : t1.Canonical := .opCompletes (.congr hs rfl)
    exact .ite (.failEnds (.congr ht1 rfl)) ht1

theorem execCalCommitStepDone {ok : Bool} (hs : s.Canonical) : Goes (execCalCommitStepDone ok s) := by
  unfold Machine.execCalCommitStepDone
  show State.Canonical _
  split
  · split
    · exact hs
    · exact .commitStep hs
    · exact .congr hs rfl
    · exact .commitStep hs
    · exact .commitEnds hs
  · exact .ite hs (.congr hs rfl)

end Sys2Proof.Machine.State.Canonical
end

section
/-! PROOFS. The canonical form through the register space. -/

namespace Sys2Proof.Machine.State.Canonical

open Sys2Proof

variable {s t : State}

/-! ### The register space at work (chapters 15, 21 and 22) -/

theorem readFull {a : Nat} (hs : s.Canonical) : (s.readFull a).2.Canonical := by
  unfold State.readFull
  extract_lets
  split
  · exact .congr hs rfl
  · split
    · exact .congr hs rfl
    · exact hs

theorem capture {a : Nat} (hs : s.Canonical) : (s.capture a).Canonical := by
  unfold State.capture
  split
  · exact .congr hs rfl
  · exact .congr hs rfl
  · exact .congr hs rfl
  · exact .setReg hs
  · exact .congr hs rfl
  · exact .congr hs rfl
  · exact .setReg hs
  · exact .setReg hs
  · exact .congr hs rfl
  · exact .congr hs rfl
  · exact .congr hs rfl
  · exact hs

theorem clearHost {a : Nat} (hs : s.Canonical) : (s.clearHost a).Canonical := by
  unfold State.clearHost
  split
  · exact .congr hs rfl
  · exact .congr hs rfl
  · exact .congr hs rfl
  · exact .congr hs rfl
  · exact .congr hs rfl
  · exact .congr hs rfl
  · exact .congr hs rfl
  · exact .setBench hs rfl
  · exact .setBench hs rfl
  · exact .setBench hs rfl
  · exact .setBench hs rfl
  · exact .setBench hs rfl
  · exact .congr hs rfl
  · exact .congr hs rfl
  · exact .congr hs rfl
  · exact .congr hs rfl
  · exact .congr hs rfl
  · exact .congr hs rfl
  · exact .congr hs rfl
  · exact hs

theorem clearRadio {a : Nat} (hs : s.Canonical) : (s.clearRadio a).Canonical := by
  unfold State.clearRadio
  split
  · exact .congr hs rfl
  · exact .congr hs rfl
  · exact .congr hs rfl
  · exact .congr hs rfl
  · exact .congr hs rfl
  · exact .congr hs rfl
  · exact .congr hs rfl
  · exact .congr hs rfl
  · exact .congr hs rfl
  · exact .coefMove hs
  · exact .congr hs rfl
  · exact .congr hs rfl
  · exact .congr hs rfl
  · exact .congr hs rfl
  · exact .congr hs rfl
  · exact .congr hs rfl
  · exact .congr hs rfl
  · exact .congr hs rfl
  · exact .congr hs rfl
  · exact hs

theorem readEffect {a : Nat} (hs : s.Canonical) : (s.readEffect a).Canonical :=
  .clearRadio (.clearHost (.capture hs))

theorem busRegRead {a : Nat} {ack : Bool} (hs : s.Canonical) : (s.busRegRead a ack).Canonical :=
  .busRead hs (fun ht => .congr (.readEffect (.readFull ht)) rfl)

theorem hostRestart (hs : s.Canonical) : s.hostRestart.Canonical := by
  unfold State.hostRestart
  exact .flagEyelets (.markIn (.markOut hs))

theorem writeEyeMask {e : Nat} {v : Word} (hs : s.Canonical) : (s.writeEyeMask e v).Canonical := by
  unfold State.writeEyeMask
  extract_lets _ _ t1
  have ht1 : t1.Canonical := .congr hs rfl
  exact .ite hs (.ite (.ite (.arise ht1) ht1) (.ite ht1 (.queueWaiting ht1)))

theorem writeDomCtrl {v : Word} (hs : s.Canonical) : (s.writeDomCtrl v).Canonical := by
  unfold State.writeDomCtrl
  extract_lets t1 t2
  have ht1 : t1.Canonical := .setReg hs
  have ht2 : t2.Canonical := .ite (.ite ht1 (.lowerHearth ht1)) (.ite (.congr ht1 rfl) ht1)
  exact .ite ht1 (.ite (.ite ht2 (.lowerBroadcast ht2)) (.ite (.congr ht2 rfl) ht2))

theorem writeCalCtrl {v : Word} (hs : s.Canonical) : (s.writeCalCtrl v).Canonical :=
  .ite (.ite (.startSweep (.setReg hs)) (.setReg hs)) (.ite (.startCommit (.setReg hs)) (.setReg hs))

theorem weltOff (hs : s.Canonical) : s.weltOff.Canonical := by
  unfold State.weltOff
  extract_lets _ _ t1 t2
  have ht1 : t1.Canonical := .congr hs rfl
  have ht2 : t2.Canonical := .ite ht1 (.setRole ht1)
  exact .ite (.watchSource (.queueHeldHost (.releaseShadow ht2))) (.congr ht2 rfl)

theorem writeWelt {v : Word} (hs : s.Canonical) : (s.writeWelt v).Canonical := by
  unfold State.writeWelt
  extract_lets _ t1 _ t2 t3
  have ht1 : t1.Canonical := .setReg hs
  have ht2 : t2.Canonical := .ite (.weltOff ht1) (.ite (.congr ht1 rfl) ht1)
  have ht3 : t3.Canonical := .ite (.askAdopt ht2) ht2
  exact .ite (.congr ht3 rfl) ht3

theorem hostStopsLink (hs : s.Canonical) : s.hostStopsLink.Canonical :=
  .ite hs (.congr hs rfl)

theorem returnLanes {base : Nat} {v : Word} (hs : s.Canonical) : (s.returnLanes base v).Canonical :=
  .foldl hs fun _ ht => .setLane ht

theorem writeOnes {a : Nat} {v : Word} (hs : s.Canonical) : (s.writeOnes a v).Canonical := by
  unfold State.writeOnes
  extract_lets
  split
  · exact .congr hs rfl
  · exact .congr hs rfl
  · exact .congr hs rfl
  · exact .congr hs rfl
  · exact .congr hs rfl
  · exact .congr hs rfl
  · exact .returnLanes hs
  · exact .returnLanes hs
  · exact .returnLanes hs
  · exact .congr hs rfl
  · exact .congr hs rfl
  · exact .congr hs rfl

theorem writeCoefIdx {v : Word} (hs : s.Canonical) : (s.writeCoefIdx v).Canonical :=
  .setReg hs

theorem writeDabCtrl {d : Nat} {v : Word} (hs : s.Canonical) : (s.writeDabCtrl d v).Canonical :=
  .ite (.congr (.dabReset (.setReg hs)) rfl) (.setReg hs)

theorem effectRadio {a : Nat} {v : Word} (hs : s.Canonical) : (s.effectRadio a v).Canonical := by
  unfold State.effectRadio
  split
  · exact .withInfra hs
  refine .ite (.ite (.writeLane hs) hs) (.ite (.chainWrite hs) ?_)
  split
  · exact .writeClkCtrl hs
  · exact .writeCalCtrl hs
  · exact .sealCommand hs
  · exact .irCtrl hs
  · exact .writeCoefIdx hs
  · exact .coefWrite hs
  · exact .writeDabCtrl hs
  · exact .writeDabCtrl hs
  · split
    · exact .setReg hs
    · exact hs

theorem regEffect {a : Nat} {v : Word} (hs : s.Canonical) : (s.regEffect a v).Canonical := by
  unfold State.regEffect
  split
  · exact .effectRadio hs
  · split
    · exact .writeDomCtrl hs
    · exact .setGoverning hs
    · exact .congr hs rfl
    · exact .ite (.hostRestart (.setReg hs)) (.setReg hs)
    · exact .writeEyeMask hs
    · exact .writeEyeMask hs
    · exact .writeEyeMask hs
    · exact .writeEyeMask hs
    · exact .writeEyeMask hs
    · exact .writeEyeMask hs
    · exact .writeEyeMask hs
    · exact .writeCapture hs
    · exact .writeAudCtrl hs
    · exact .writeAudCtrl hs
    · exact .writeWelt hs
    · exact .writeBoot hs
    · exact .ite (.startAwl hs) hs
    · exact .storeCommand hs
    · split
      · exact .setReg hs
      · exact hs

theorem atEdge {a : Nat} {v : Word} (hs : s.Canonical) : (s.atEdge a v).Canonical :=
  .ite (.congr hs rfl) (.regEffect hs)

theorem writeChainCtrl {a c : Nat} {v : Word} (hs : s.Canonical) : (s.writeChainCtrl a c v).Canonical := by
  unfold State.writeChainCtrl
  extract_lets t1
  have ht1 : t1.Canonical := .ite (.hostChainReset hs) hs
  exact .ite (.atEdge ht1) (.ite (.writeHrCtrl ht1) ht1)

theorem writeRw {l : RegLine} {a : Nat} {v : Word} (hs : s.Canonical) : (s.writeRw l a v).Canonical := by
  unfold State.writeRw
  split
  · exact .atEdge (.setReg hs)
  · exact .congr hs rfl
  · exact .writeChainCtrl hs
  · exact .writeChainCtrl hs
  · exact .writeChainCtrl hs
  · exact .atEdge (.ite (.hostStopsLink hs) hs)
  · exact .ite (.ite (.atEdge hs) hs) (.ite (.atEdge hs) (.regEffect hs))

theorem regWrite {a : Nat} {v : Word} (hs : s.Canonical) : (s.regWrite a v).Canonical := by
  unfold State.regWrite
  split
  · exact hs
  · split
    · exact hs
    · exact hs
    · exact .writeOnes hs
    · exact .sealWrite hs
    · exact .writeIvk hs
    · exact .ite (.ite (.atEdge hs) hs) (.regEffect hs)
    · exact .writeRw hs

theorem busRegWrite {a : Nat} {v : Word} {pec : Pec} (hs : s.Canonical) : (s.busRegWrite a v pec).Canonical :=
  .busWrite hs (fun ht => .regWrite ht)

theorem edgeWrites (hs : s.Canonical) : s.edgeWrites.Canonical :=
  .foldl (.congr hs rfl) fun _ ht => .regEffect ht

theorem applyConfig (hs : s.Canonical) : s.applyConfig.Canonical := by
  unfold State.applyConfig
  split
  · exact .foldl hs fun _ ht => .regEffect ht
  · exact hs

theorem execLaneCoefdatAccess {write : Option Word} {pec : Pec} (hs : s.Canonical) :
    Goes (execLaneCoefdatAccess write pec s) := by
  unfold Machine.execLaneCoefdatAccess
  show State.Canonical _
  split
  · exact .busRegWrite hs
  · exact .busRegRead hs

theorem execSweepDone {cals : List CalResult} (hs : s.Canonical) : Goes (execSweepDone cals s) := by
  unfold Machine.execSweepDone
  show State.Canonical _
  split
  · exact hs
  · extract_lets _ t1 _ _ t2 t3
    have ht1 : t1.Canonical := by
      unfold t1
      refine .foldl hs fun _ ht => ?_
      split
      · exact .calWrite ht
      · exact ht
    have ht2 : t2.Canonical := .congr ht1 rfl
    have ht3 : t3.Canonical := by
      unfold t3
      split
      · exact .chainReply ht2
      · exact ht2
    exact .ite (.startCommit ht3) (.congr ht3 rfl)

end Sys2Proof.Machine.State.Canonical
end

section
/-! PROOFS. The canonical form through the rows of power, the radio requests and the tick edge. -/

namespace Sys2Proof.Machine.State.Canonical

open Sys2Proof

variable {s t : State}

/-! ### The rows of power and reset (chapters 1, 15 and 19) -/

theorem powerCommand {code data : Nat} {ok : Bool} {pec : Pec} {f : State → State} (hs : s.Canonical) (hf : ∀
    {t : State}, t.Canonical → (f t).Canonical) :
    (s.powerCommand code data ok pec f).Canonical :=
  .busWrite hs (fun ht => hf ht)

theorem restart {cause : Nat} (hs : s.Canonical) : (s.restart cause).Canonical :=
  .congr (s := s.wipe true) (.wipe hs) rfl

theorem loadFailed {code : Nat} (hs : s.Canonical) : (s.loadFailed code).Canonical :=
  .setPower (.congr (.note hs) rfl)

theorem powerRadio (hs : s.Canonical) : s.powerRadio.Canonical := by
  unfold State.powerRadio
  extract_lets t
  have ht : t.Canonical := .ite (.congr hs rfl) hs
  clear_value t
  exact .ite (.congr ht rfl) ht

theorem loadImage (hs : s.Canonical) : s.loadImage.Canonical := by
  unfold State.loadImage
  split
  · exact .loadFailed hs
  · next bytes _ =>
    extract_lets i
    refine .ite (.powerRadio ?_) (.loadFailed hs)
    have himage : i.memWf = true := imageOf_memWf bytes
    have hledger : swf 0 i.ledger = true := (Bool.and_eq_true_iff.mp himage).1
    obtain ⟨h1, -, h3, h4, -, h6, h7, h8, h9, h10, h11⟩ := hs.parts
    exact State.canonical_iff.mpr ⟨h1, hledger, h3, h4, himage, h6, h7, h8, h9, h10, h11⟩

theorem runReady (hs : s.Canonical) : s.runReady.Canonical :=
  .ite (.applyConfig (.writeDomCtrl (.setPower (.congr hs rfl)))) hs

theorem domainUp {d : Domain} (hs : s.Canonical) : (s.domainUp d).Canonical := by
  unfold State.domainUp
  extract_lets t1 _ _ t2 t3
  have ht1 : t1.Canonical := .congr hs rfl
  have ht2 : t2.Canonical := .markBench (.loadTable (.congr ht1 rfl))
  have ht3 : t3.Canonical := .ite ht2 (.stopLast ht2)
  split
  · exact .powerOn (.congr ht1 rfl)
  · exact .ite (.powerOn ht1) ht1
  · exact .ite (.runReady (.loadImage ht3)) ht3
  · exact .runReady (.markBroadcast ht1)
  · exact .runReady (.markHearth ht1)

theorem execPowerfail (hs : s.Canonical) : Goes (execPowerfail s) := by
  unfold Machine.execPowerfail
  extract_lets _ _ t1 t2 _ t3
  have ht1 : t1.Canonical := .ite (.congr hs rfl) hs
  have ht2 : t2.Canonical := .ite (.commitEnds ht1) ht1
  have ht3 : t3.Canonical := .congr ht2 rfl
  exact .ite hs (.ite (.congr ht3 rfl) (.failEnds ht3))

theorem awlReq {r : Req} (hs : s.Canonical) : (s.awlReq r).Canonical :=
  .startAwl hs

/-! ### Radio requests (Table 5-17) -/

theorem turnAway {code : Nat} {blk : List Byte} {id status reason : Nat} (hs : s.Canonical) :
    (s.turnAway code blk id status reason).Canonical := by
  unfold State.turnAway
  extract_lets
  split
  · exact .laneReply hs
  · exact .laneReply hs
  · exact .chainReply hs
  · exact .chainReply hs
  · exact .chainReply hs
  · exact .chainReply hs
  · exact .chainReply hs
  · exact .reply hs
  · exact .correlateReply hs
  · exact .spliceReply hs
  · exact .dabReply hs
  · exact .dabReply hs
  · exact .governReply hs
  · exact .hearthReply hs
  · exact .hearthReply hs
  · exact .irReply hs
  · exact .routeReply hs
  · exact .awlReply hs

theorem handOver {code : Nat} {r : Req} (hs : s.Canonical) : (s.handOver code r).Canonical := by
  unfold State.handOver
  split
  · exact .congr hs rfl
  · exact .congr hs rfl
  · exact .chainTuneReq hs
  · exact .chainStateReq hs
  · exact .gainReq hs
  · exact .protectReq hs
  · exact .calibrateReq hs
  · exact .congr hs rfl
  · exact .congr hs rfl
  · exact .congr hs rfl
  · exact .congr hs rfl
  · exact .congr hs rfl
  · exact .congr hs rfl
  · exact .congr hs rfl
  · exact .congr hs rfl
  · exact .congr hs rfl
  · exact .congr hs rfl
  · exact .awlReq hs

theorem carryOut {code : Nat} {blk : List Byte} {id app : Nat} (hs : s.Canonical) :
    (s.carryOut code blk id app).Canonical :=
  .ite (.turnAway hs) (.handOver hs)

theorem issue {code : Nat} {blk : List Byte} {id : Nat} (hs : s.Canonical) : (s.issue code blk id).Canonical := by
  unfold State.issue
  extract_lets _ t1
  have ht1 : t1.Canonical := .turnAway (.congr hs rfl)
  exact .ite (.congr ht1 rfl) (.mirror (.carryOut hs))

theorem request {code : Nat} {blk : List Byte} (hs : s.Canonical) : (s.request code blk).Canonical :=
  .ite hs (.issue (.congr hs rfl))

theorem execRadio {b : Fin 5} {rd ra : Fin 16} {op : BitVec 8} (hs : s.Canonical) : Goes (execRadio b rd ra op s) := by
  unfold Machine.execRadio
  show State.Canonical _
  refine .instruct hs ?_
  intro k
  extract_lets
  split
  · exact trivial
  · split
    · exact trivial
    · split
      · exact trivial
      · split
        · exact trivial
        · split
          · exact .issue (.congr hs rfl)
          · split
            · exact hs
            · exact trivial
          · exact trivial
          · exact trivial
          · exact trivial

/-! ### The tick edge (chapter 2, R889) -/

theorem countSource (hs : s.Canonical) : s.countSource.Canonical :=
  .ite (.congr hs rfl) (.congr hs rfl)

theorem publishNext (hs : s.Canonical) : s.publishNext.Canonical :=
  .publish hs

theorem closeCorrection (hs : s.Canonical) : s.closeCorrection.Canonical :=
  .ite (.completeCorrection hs) hs

theorem rateTick (hs : s.Canonical) : (s.rateTick).2.Canonical := by
  unfold State.rateTick
  extract_lets t1 _ _ t2 _ _ t3
  have ht1 : t1.Canonical := .closeCorrection hs
  have ht2 : t2.Canonical := .congr ht1 rfl
  have ht3 : t3.Canonical := .congr ht1 rfl
  split
  · exact .ite (.completeCorrection ht2) ht2
  · exact .ite (.completeCorrection ht3) ht3
  · exact ht1

theorem advance (hs : s.Canonical) : (s.advance).2.Canonical :=
  .congr (.rateTick hs) rfl

theorem startBenches (hs : s.Canonical) : s.startBenches.Canonical :=
  .ite hs (.foldl (.congr hs rfl) fun _ ht => .setBench ht rfl)

theorem applyGovWrite (hs : s.Canonical) : s.applyGovWrite.Canonical := by
  unfold State.applyGovWrite
  split
  · exact .setGoverning (.congr hs rfl)
  · exact hs

theorem edgeWork (hs : s.Canonical) : s.edgeWork.Canonical := by
  unfold State.edgeWork
  extract_lets t1 t2 t3 t4
  have ht1 : t1.Canonical := .applyGovWrite hs
  have ht2 : t2.Canonical := .applyGains (.applyGains (.applyGains ht1))
  have ht3 : t3.Canonical := .irEdge (.dabEdge (.dabEdge (.measureEdge ht2)))
  have ht4 : t4.Canonical := .routeEdge (.followEdge (.hearthEdge ht3))
  exact .startBenches (.edgeWrites ht4)

theorem publishEdges {n : Nat} (hs : s.Canonical) : (s.publishEdges n).Canonical := by
  fun_induction State.publishEdges s n with
  | case1 s => exact .edgeWork hs
  | case2 s => exact .edgeWork (.publishNext hs)
  | case3 s n _ ih =>
    refine ih ?_
    have hu : s.publishNext.edgeWork.Canonical := .edgeWork (.publishNext hs)
    generalize s.publishNext.edgeWork = u at hu
    exact .congr hu rfl

theorem pulseSync (hs : s.Canonical) : s.pulseSync.Canonical :=
  .ite (.congr hs rfl) hs

theorem execTickEdge (hs : s.Canonical) : Goes (execTickEdge s) := by
  unfold Machine.execTickEdge
  extract_lets t1
  have ht1 : t1.Canonical := .countSource (.bestSource (.congr hs rfl))
  exact .ite hs (.watchSource (.ite (.edgeWork ht1) (.pulseSync (.publishEdges (.advance ht1)))))

end Sys2Proof.Machine.State.Canonical
end

section
/-! PROOFS. The canonical form through the commands of the bus, the release of batches, loads and stores, and the welt
rows. -/

namespace Sys2Proof.Machine.State.Canonical

open Sys2Proof

variable {s t : State}

/-! ### The commands of the two-wire bus (chapters 15 and 16) -/

theorem hostPosts {mb : Nat} {bytes : List Byte} (hs : s.Canonical) : (s.hostPosts mb bytes).Canonical :=
  .ite (.mailWake (.landHost hs)) (.congr hs rfl)

theorem ringKeeper {i : Nat} (hs : s.Canonical) : (s.ringKeeper i).Canonical :=
  .ite (.ite (.keeperStatus hs) hs) (.congr hs rfl)

theorem openSession {kind : Nat} {pec : Pec} (hs : s.Canonical) : (s.openSession kind pec).Canonical := by
  unfold State.openSession
  extract_lets _ t1
  have ht1 : t1.Canonical := .busWrite hs
    (fun ht => .ite (.alert (.congr (.closeSession ht) rfl)) (.congr (.closeSession ht) rfl))
  exact .ite (.note ht1) ht1

theorem sessionResponse {bytes : List Byte} (hs : s.Canonical) : (s.sessionResponse bytes).Canonical :=
  .ite (.alert (.congr hs rfl)) (.congr (.note (.closeSession hs)) rfl)

theorem notifyLost (hs : s.Canonical) : s.notifyLost.Canonical :=
  .ite (.congr hs rfl) (.alert (.note (.congr hs rfl)))

theorem execUnknownCommand {code : Byte} (hs : s.Canonical) : Goes (Machine.execUnknownCommand code s) :=
  .ite hs (.busGate hs fun ht => ht)

theorem execMbRead {mb : Nat} {complete ack : Bool} (hs : s.Canonical) : Goes (execMbRead mb complete ack s) := by
  unfold Machine.execMbRead
  dsimp only
  show State.Canonical _
  refine .busRead hs ?_
  intro t ht
  split
  · exact .ite (.congr ht rfl) (.congr ht rfl)
  · exact ht

theorem execMbTimeout {mb : Fin 16} (hs : s.Canonical) : Goes (execMbTimeout mb s) := by
  unfold Machine.execMbTimeout
  show State.Canonical _
  split
  · exact hs
  · exact .ite hs (.ite (.raise (.alert (.congr hs rfl))) (.congr hs rfl))

theorem execSessionStepDone {nonce : List Byte} (hs : s.Canonical) : Goes (execSessionStepDone nonce s) := by
  unfold Machine.execSessionStepDone
  show State.Canonical _
  split
  · exact hs
  · exact .alert (.congr hs rfl)
  · exact .sessionResponse hs

theorem execAlertResponse {wins ack : Bool} (hs : s.Canonical) : Goes (execAlertResponse wins ack s) := by
  unfold Machine.execAlertResponse
  extract_lets _ t1
  have ht1 : t1.Canonical := .congr hs rfl
  exact .ite (.congr ht1 rfl) hs

theorem notify {taken : Bool} (hs : s.Canonical) : (s.notify taken).Canonical :=
  .ite (.congr hs rfl) (.notifyLost (.congr hs rfl))

theorem restartBench {b : Nat} (hs : s.Canonical) : (s.restartBench b).Canonical := by
  unfold State.restartBench
  extract_lets n back wakes t1 _ t2
  have ht1 : t1.Canonical := .writeBench hs hs.takenBack
  clear_value t1
  have ht2 : t2.Canonical := .congr ht1 rfl
  exact .marksBench ht2

/-! ### The release of batches by record intake (chapter 3) -/

theorem noteStamps {b : Batch} (hs : s.Canonical) : (s.noteStamps b).Canonical := by
  unfold State.noteStamps
  refine .foldl hs fun {t} x ht => ?_
  extract_lets r a
  refine .ite ?_ ht
  clear_value a
  cases a with
  | some a => exact .noteStamp ht
  | none => exact ht

theorem takeBatch {b : Batch} (hs : s.Canonical) : (s.takeBatch b).1.Canonical :=
  .acceptBatch (.noteStamps (.ite (.congr hs rfl) hs))

theorem noteReleased {r : Record} (hs : s.Canonical) : (s.noteReleased r).Canonical :=
  .ite (.setGovCarrier (.congr hs rfl)) (.congr hs rfl)

theorem deliverRelease {rs : List Record} (hs : s.Canonical) : (s.deliverRelease rs).Canonical := by
  unfold State.deliverRelease
  extract_lets _ t1 t2
  have ht1 : t1.Canonical := .foldl hs fun _ ht => .ite ht (.noteReleased ht)
  have ht2 : t2.Canonical := .foldl ht1 fun _ ht => .ite (.applyStamp ht) ht
  exact .foldl ht2 fun _ ht => .deliverRecord ht

theorem releaseBatches {bs : List Batch} (hs : s.Canonical) : (s.releaseBatches bs).Canonical :=
  .deliverRelease (.foldlFst hs fun _ _ hp => .takeBatch hp)

theorem withhold {b : Batch} (hs : s.Canonical) : (s.withhold b).Canonical :=
  .ite (.congr hs rfl) (.congr hs rfl)

/-! ### Alnomal loads, stores, ledger and code accesses, event access, and digest instructions (Tables 5-10, 5-11,
5-12 and 5-19) -/

theorem loadData {b : Nat} {rd ra : Fin 16} {imm : BitVec 18} {n : Nat} {f : Nat → Word} (hs : s.Canonical) :
    (loadData b rd ra imm n f s).Canonical := by
  unfold Machine.loadData
  refine .instruct hs ?_
  intro k
  extract_lets
  split
  · exact trivial
  · exact hs

theorem writeData {b a : Nat} {xs : List Byte} (hs : s.Canonical) : (s.writeData b a xs).Canonical :=
  .writeBench hs (swf_writeBytes (hs.data b))

theorem storeData {b : Nat} {rd ra : Fin 16} {imm : BitVec 18} {n : Nat} (hs : s.Canonical) :
    (storeData b rd ra imm n s).Canonical := by
  unfold Machine.storeData
  refine .instruct hs ?_
  intro k
  extract_lets
  split
  · exact trivial
  · exact .writeData hs

theorem execLlw {b : Fin 5} {rd ra : Fin 16} {imm : BitVec 18} (hs : s.Canonical) : Goes (execLlw b rd ra imm s) := by
  unfold Machine.execLlw
  show State.Canonical _
  refine .instruct hs ?_
  intro k
  extract_lets
  split
  · exact trivial
  · split
    · exact hs
    · exact hs
    · exact trivial
    · exact trivial
    · exact trivial

theorem execLsw {b : Fin 5} {rd ra : Fin 16} {imm : BitVec 18} (hs : s.Canonical) : Goes (execLsw b rd ra imm s) := by
  unfold Machine.execLsw
  show State.Canonical _
  refine .instruct hs ?_
  intro k
  extract_lets
  split
  · exact trivial
  · split
    · exact trivial
    · split
      · exact trivial
      · split
        · exact hs
        · split
          · exact hs
          · exact trivial
        · exact trivial
        · exact trivial

theorem execLdc {b : Fin 5} {rd ra : Fin 16} {imm : BitVec 18} (hs : s.Canonical) : Goes (execLdc b rd ra imm s) := by
  unfold Machine.execLdc
  show State.Canonical _
  refine .instruct hs ?_
  intro k
  extract_lets
  split
  · split
    · exact trivial
    · exact hs

theorem readWindow {b : Nat} {rd ra : Fin 16} {off : BitVec 8} {n : Nat} (hs : s.Canonical) :
    (readWindow b rd ra off n s).Canonical := by
  unfold Machine.readWindow
  refine .instruct hs ?_
  intro k
  extract_lets
  split
  · exact trivial
  · exact hs

theorem execEvf {b : Fin 5} {rd : Fin 16} {field : BitVec 8} (hs : s.Canonical) : Goes (execEvf b rd field s) := by
  unfold Machine.execEvf
  show State.Canonical _
  refine .instruct hs ?_
  intro k
  split
  · exact trivial
  · exact hs

theorem execEvcpy {b : Fin 5} {ra : Fin 16} (hs : s.Canonical) : Goes (execEvcpy b ra s) := by
  unfold Machine.execEvcpy
  show State.Canonical _
  refine .instruct hs ?_
  intro k
  extract_lets
  split
  · exact trivial
  · split
    · exact trivial
    · exact .writeData hs

theorem execCrcd {b : Fin 5} {rd ra : Fin 16} (hs : s.Canonical) : Goes (execCrcd b rd ra s) := by
  unfold Machine.execCrcd
  show State.Canonical _
  refine .instruct hs ?_
  intro k
  extract_lets
  split
  · exact trivial
  · split
    · exact trivial
    · exact hs

/-! ### The rows of welt pairs (chapter 18) -/

theorem heartbeatTold {hb : Heartbeat} (hs : s.Canonical) : (s.heartbeatTold hb).Canonical := by
  unfold State.heartbeatTold
  extract_lets t1 _ t2
  have ht1 : t1.Canonical := .weltAck hs
  have ht2 : t2.Canonical := .congr ht1 rfl
  exact .ite (.congr ht2 rfl) ht2

theorem heartbeatRun (hs : s.Canonical) : (s.heartbeatRun).2.Canonical := by
  unfold State.heartbeatRun
  extract_lets
  split
  · exact hs
  · split
    · exact .congr hs rfl
    · exact .congr hs rfl

theorem digestsDiffer (hs : s.Canonical) : s.digestsDiffer.Canonical :=
  .ite (.becomeParted (.ite hs (.note (.congr hs rfl)))) (.ite hs (.note (.congr hs rfl)))

theorem pairUp {came : Bool} (hs : s.Canonical) : (s.pairUp came).Canonical := by
  unfold State.pairUp
  extract_lets _ t1 _ t2
  have ht1 : t1.Canonical := .congr hs rfl
  have ht2 : t2.Canonical := .note (.congr ht1 rfl)
  split
  · exact .ite (.becomeStandby ht1) (.setRole ht1)
  · split
    · exact .ite (.becomeStandby ht1) ht1
    · exact .ite (.ite ht2 (.becomeStandby ht2)) ht1
    · exact ht1

theorem keepMirrored {b : Nat} {e : Event} (hs : s.Canonical) : (s.keepMirrored b e).Canonical :=
  .ite (.congr hs rfl) hs

theorem mirrorTo {b : Nat} {e : Event} (hs : s.Canonical) : (s.mirrorTo b e).Canonical :=
  .keepMirrored (.deliver hs)

theorem copyTick {p : Pos} (hs : s.Canonical) : (s.copyTick p).Canonical := by
  unfold State.copyTick
  extract_lets p0 _ t
  have ht : t.Canonical := .ite (.congr hs rfl) hs
  clear_value t
  exact .ite (.moveStamps (.hearthStep (.replaceBubbles (.publish ht)))) (.publish ht)

theorem markMirrored {e : Event} (hs : s.Canonical) : (s.markMirrored e).Canonical := by
  unfold State.markMirrored
  extract_lets _ _ _ _ t1
  have ht1 : t1.Canonical := by
    unfold t1
    split
    · exact .ite (.congr hs rfl) (.congr hs rfl)
    · exact .ite hs (.congr hs rfl)
  exact .congr ht1 rfl

theorem copyRecord {e : Event} {mask : Nat} (hs : s.Canonical) : (s.copyRecord e mask).Canonical :=
  .foldl (.markMirrored hs) fun _ ht => .ite (.mirrorTo ht) ht

theorem copyLast {e : Event} (hs : s.Canonical) : (s.copyLast e).Canonical :=
  .foldl hs fun _ ht => .mirrorTo ht

theorem copyHost {m : HostMirror} (hs : s.Canonical) : (s.copyHost m).Canonical := by
  unfold State.copyHost
  split
  · exact .mirrorTo hs
  · exact .mirrorTo hs

theorem copyB4 {dest : Nat} {e : Event} (hs : s.Canonical) : (s.copyB4 dest e).Canonical :=
  .keepMirrored (.sendMail hs)

theorem adoptBench {c : BenchCkpt} {p : Pos} {b : Nat} (hs : s.Canonical) : (s.adoptBench c p b).Canonical := by
  unfold State.adoptBench
  extract_lets n own base rest base' running fresh
  have hdata : ((base' ++ rest).foldl Bench.enqueue fresh).data = canon 0 c.data :=
    Bench.foldl_enqueue_data _ fresh
  exact .writeBench hs (hdata ▸ swf_canon)

theorem adopt {a : Adopted} (hs : s.Canonical) : (s.adopt a).Canonical := by
  unfold State.adopt
  extract_lets p later t1 ledger due _ _ prog _ _ t2
  have ht1 : t1.Canonical := .foldl hs fun _ ht => .adoptBench ht
  clear_value t1
  have ht2 : t2.Canonical := by
    obtain ⟨h1, -, -, -, h5, h6, h7, h8, h9, h10, h11⟩ := ht1.parts
    exact State.canonical_iff.mpr ⟨h1, swf_canon, rfl, rfl, h5, h6, h7, h8, h9, h10, h11⟩
  exact .setRole ht2

theorem failAdoption (hs : s.Canonical) : s.failAdoption.Canonical :=
  .ite (.becomeParted (.note (.congr hs rfl))) (.askAdopt (.note (.congr hs rfl)))

theorem failAmbiguous {t : Tack} (hs : s.Canonical) : (s.failAmbiguous t).Canonical :=
  .ite (.congr hs rfl) (.ite (.congr hs rfl) (.ite hs (.ite (.congr hs rfl) (.congr hs rfl))))

theorem settleWindow (hs : s.Canonical) : s.settleWindow.Canonical := by
  unfold State.settleWindow
  extract_lets _ _ _ _ t1 t2 t3
  have ht1 : t1.Canonical := .foldl hs fun _ ht => .handTack ht
  have ht2 : t2.Canonical := .foldl ht1 fun _ ht => .failAmbiguous ht
  have ht3 : t3.Canonical := .ite ht2 (.note ht2)
  exact .congr ht3 rfl

theorem takeRole (hs : s.Canonical) : s.takeRole.Canonical :=
  .bestSource (.settleWindow (.queueHeldHost (.releaseShadow (.setRole (.congr hs rfl)))))

theorem swapRoles (hs : s.Canonical) : s.swapRoles.Canonical := by
  unfold State.swapRoles
  split
  · exact .ite (.becomeStandby (.congr hs rfl)) hs
  · exact .ite (.takeRole hs) hs
  · exact hs

theorem takeOver (hs : s.Canonical) : s.takeOver.Canonical := by
  unfold State.takeOver
  extract_lets _ t
  have ht : t.Canonical := .withWelt hs
  clear_value t
  have ht : ((t.setRole .active 2).settleWindow.weltEvt 1).Canonical := .congr (.settleWindow (.setRole ht)) rfl
  exact .bestSource (.raise ht)

theorem execHeartbeatSend (hs : s.Canonical) : Goes (execHeartbeatSend s) := by
  unfold Machine.execHeartbeatSend
  extract_lets _ _ t1 _ t2
  have ht1 : t1.Canonical := .congr hs rfl
  have ht2 : t2.Canonical := .congr ht1 rfl
  exact .ite hs (.ite (.linkDown ht2) ht2)

theorem execHeartbeatRx {hb : Heartbeat} (hs : s.Canonical) : Goes (execHeartbeatRx hb s) := by
  unfold Machine.execHeartbeatRx
  extract_lets r1
  exact .ite hs
    (.ite (.heartbeatRun (.heartbeatTold hs))
      (.ite (.digestsDiffer (.heartbeatRun (.heartbeatTold hs))) (.pairUp (.heartbeatRun (.heartbeatTold hs)))))

end Sys2Proof.Machine.State.Canonical
end

section
/-! PROOFS. Every command, and so every step, keeps the canonical form. -/

namespace Sys2Proof.Machine

open Sys2Proof

namespace State.Canonical

variable {s : State}

theorem exec_goes (hs : s.Canonical) (i : Instr) : Goes (exec i s) := by
  cases i with
  | add | sub | adds | subs | addus | subus | and | or | xor | shl | shr | sar | rol | slt | sltu | seq | sne |
    min | max | minu | maxu | clz | popc | mul | mulh | mulhu | div | divu | rem | remu | addi | addis | andi |
    ori | xori | shli | shri | sari | slti | sltiu | lui | srem | crcb | crcw =>
    exact .compute hs
  | beq | bne | blt | bge | bltu | bgeu => exact .instruct hs fun _ => branch hs
  | jmp | jr | nop => exact .instruct hs fun _ => hs
  | call | callr => exact .instruct hs fun _ => call hs
  | ret => exact execRet hs
  | endHandler => exact execEndHandler hs
  | trap | undefinedInstruction => exact .instruct hs fun _ => trivial
  | ldw | ldh | ldhu | ldb | ldbu => exact .loadData hs
  | stw | sth | stb => exact .storeData hs
  | llw => exact execLlw hs
  | lsw => exact execLsw hs
  | ldc => exact execLdc hs
  | evb | evh | evw => exact .readWindow hs
  | evf => exact execEvf hs
  | evcpy => exact execEvcpy hs
  | tpost => exact execTpost hs
  | tcan => exact execTcan hs
  | tcank => exact execTcank hs
  | msend => exact execMsend hs
  | mpost => exact execMpost hs
  | ring => exact execRing hs
  | radio => exact execRadio hs
  | wake => exact execWake hs
  | wcan => exact execWcan hs
  | crcd => exact execCrcd hs
  | replayDone b => exact .ite (.settle (.setBench (d := b) hs rfl)) hs
  | handlerEntry => exact execHandlerEntry hs
  | positionClose => exact execPositionClose hs
  | eventHoldRelease b => exact .setBench (d := b) hs (Bench.foldl_enqueue_data _ _)
  | wakeatFire => exact execWakeatFire hs
  | benchCtrlRun | benchCtrlRestart | lastGovWrite | laneCtrlEnWrite | laneFirFadeWrite | laneFailedWrite |
    laneCoefidxWrite | hrPaevtClear | chainReset | chainStateWrite | brModeWrite | calSweep | calCommit |
    sysrestart | sckrestart | dabDecoderReset | hlCtrlStop | sealCmd | sealWrite | irTxreset | irRxreset |
    regWrite | hostreset | eyeMaskWrite | storeBootWrite | ivkProgram | awlStart | domctrlWrite | strmCapWrite |
    weltAdopt | weltYield =>
    exact .busRegWrite hs
  | benchRunEffect => exact execBenchRunEffect hs
  | benchRestartEffect => exact .ite (.ite (.restartBench (.congr hs rfl)) (.congr hs rfl)) hs
  | tickEdge => exact execTickEdge hs
  | tackDispatch => exact execTackDispatch hs
  | holdEnd | slewEnd => exact .ite (.completeCorrection hs) hs
  | sourceQualify => exact .ite (.resumeLast hs) (.bestSource hs)
  | trimMeasure | dutyBucketRoll | sessionLockoutEnd | rearmExpiry | busTimeout => exact .ite (.congr hs rfl) hs
  | frlimitReached => exact .ite (.lastLoss (.note (.lastEvt (.congr hs rfl)))) hs
  | govern | measureSubscribe | measureUnsubscribe | measureOnce | laneAssign | laneModify | laneFade |
    laneRelease | chainTune | chainState | gain | protectSet | protectClear | calibrateCurrent | calibrateKey |
    calibrateStale | calibrateAll | calibrateSweep | ensembleStart | ensembleStop | subchannelSelect |
    subchannelDeselect | correlateMpx | correlateStamp | spliceAt | spliceArmed | hearthPlan | hearthStart |
    hearthStop | irRxSet | irRxOff | irTxProfile | awl | audioRouteSource | audioRouteNosource | audioRoutePorts =>
    exact .request hs
  | governApply => exact .foldl (.congr hs rfl) fun _ ht => .ite (.governReply ht) (.governReply (.setGoverning ht))
  | bleedCorrection =>
    exact .ite hs (.ite (.radioFor (.congr hs rfl)) (.congr (.ite (.startHold hs) (.startSlew hs)) rfl))
  | rdsBlockDelivery => exact execRdsBlockDelivery hs
  | intakeRelease => exact .releaseBatches (.foldl (.congr hs rfl) fun _ ht => .withhold ht)
  | uvwaitExpiry => exact .releaseBatches (.congr hs rfl)
  | gaptimeLoss => exact .deliverRelease (.foldlFst hs fun _ _ hp => .declareLost (.congr hp rfl))
  | streamEntryIdle | busstuckClear | alertstuckClear => exact .congr hs rfl
  | pilotTickJudge => exact .watchSource (.judgePilot hs)
  | detectorBlock => exact execDetectorBlock hs
  | poTick => exact execPoTick hs
  | fmQuality => exact .ite (.fmQuality hs) (.ite (.dabQuality hs) hs)
  | laneApplyEdge => exact execLaneApplyEdge hs
  | fadeDone => exact .ite (.switchBank hs) hs
  | laneOutputBlock => exact execLaneOutputBlock hs
  | laneSettled => exact .ite (.irSettled hs) hs
  | laneSubstitution => exact execLaneSubstitution hs
  | poolGrantRound => exact .foldl (.congr hs rfl) fun _ ht => .grant ht
  | coefEccError => exact execCoefEccError hs
  | laneCoefdatAccess => exact execLaneCoefdatAccess hs
  | chainTuneApply => exact .watchSource (.chainWrites (.foldl (.congr hs rfl) fun _ ht => .applyTune ht))
  | chainTransitionDone => exact execChainTransitionDone hs
  | protectWindowEnd => exact execProtectWindowEnd hs
  | gainAutoTick => exact execGainAutoTick hs
  | dcLoopLimit => exact .ite hs (.ite (.placeBubble (.congr hs rfl)) (.congr hs rfl))
  | bubbleStart => exact execBubbleStart hs
  | bubbleDone => exact execBubbleDone hs
  | pafaultAssert => exact execPafaultAssert hs
  | adcStuckFail => exact .ite (.failChain hs) hs
  | tempReading => exact .placeCals (.placeCals (.placeCals (.congr (.readTemp (.readTemp (.readTemp hs))) rfl)))
  | sweepDone => exact execSweepDone hs
  | calCommitStepDone => exact execCalCommitStepDone hs
  | pllLockLoss => exact execPllLockLoss hs
  | referenceLoss => exact execReferenceLoss hs
  | referenceBack => exact .ite hs (.resumeLast (.unholdChains (.note (.congr hs rfl))))
  | pllRelock => exact execPllRelock hs
  | limpMeasure => exact .ite hs (.ite (.note (.congr hs rfl)) (.congr hs rfl))
  | dabFrame => exact execDabFrame hs
  | dabFrameMissed => exact execDabFrameMissed hs
  | acqtimeExpiry => exact execAcqtimeExpiry hs
  | cifBoundary => exact .ite hs (.congr (.cifReconfigure (.cifLeave hs)) rfl)
  | cifDecoded => exact .ite hs (.foldl hs fun _ ht => .dabDeliver ht)
  | dabDecoderFailed => exact .ite (.watchSource (.dabFail hs)) hs
  | correlateReply => exact execCorrelateReply hs
  | spliceAlignEnd => exact execSpliceAlignEnd hs
  | spliceEdge => exact execSpliceEdge hs
  | spliceFadeEnd => exact execSpliceFadeEnd hs
  | spliceExpiry => exact execSpliceExpiry hs
  | hearthRunning => exact .ite (.ite (.setLink hs) (.hearthReply (.setLink hs))) hs
  | slotStart => exact execSlotStart hs
  | lbtResult => exact execLbtResult hs
  | burstTransmit => exact execBurstTransmit hs
  | burstEnd => exact execBurstEnd hs
  | hearthFrameRx => exact execHearthFrameRx hs
  | beaconMissed => exact execBeaconMissed hs
  | maxwaitTimeout => exact execMaxwaitTimeout hs
  | irAmbientStep | supplySample | weltResend => exact .ite hs (.congr hs rfl)
  | irMarkEdge => exact execIrMarkEdge hs
  | irBurstEnd => exact execIrBurstEnd hs
  | irFloodBlock => exact execIrFloodBlock hs
  | floodholdExpiry => exact .ite (.irRecover hs) hs
  | irRecoverEnd => exact .ite (.irWatch (.irMove hs)) hs
  | irStuck => exact .ite hs (.note (.foldl (.congr hs rfl) fun _ ht => .irWatch (.irMove ht)))
  | irStuckRelease => exact .ite (.foldl hs fun _ ht => .ite (.irRecover ht) ht) hs
  | recentre => exact .ite (.irWatchAll (.foldl (.congr hs rfl) fun _ ht => .ite ht (.congr ht rfl))) hs
  | pairWindowExpiry => exact execPairWindowExpiry hs
  | irCode => exact .foldl (.congr hs rfl) fun _ ht => .irReport ht
  | irTxCodeEnd => exact execIrTxCodeEnd hs
  | status | devid | revid | lastnack | lastSnapshot | sessChal => exact .busRead hs fun ht => .congr ht rfl
  | faultRead | eyeletTake | alertCause => exact .busRead hs fun ht => .ite (.congr ht rfl) (.congr ht rfl)
  | powerIdle => exact .powerCommand hs fun ht => .ite (.toIdle ht) ht
  | powerRun => exact .powerCommand hs fun ht => .ite (.toRun ht) ht
  | powerSleep => exact .powerCommand hs fun ht => .toSleep ht
  | holdExitNormal => exact .powerCommand hs fun ht => .leaveHold ht
  | holdExitDegraded => exact .powerCommand hs fun ht => .leaveHold (.raise (.congr ht rfl))
  | regRead | captureRead | readClear => exact .busRegRead hs
  | mbPost => exact .ite hs (.busWrite hs fun ht => .hostPosts ht)
  | mbRead => exact execMbRead hs
  | eyeletRing => exact .busWrite hs fun ht => .ite (.ringKeeper ht) (.mailWake (.ringBench ht))
  | sessOpen | sessOpenInstall => exact .openSession hs
  | sessResp => exact .ite hs (.busWrite hs fun ht => .congr ht rfl)
  | sessionStepDone => exact execSessionStepDone hs
  | sessClose => exact .busWrite hs fun ht => .congr (.closeSession ht) rfl
  | sessidleExpiry => exact .closeSession hs
  | deviceReset => exact .busWrite hs fun ht => .enterHold (.restart ht)
  | unknownCommand => exact execUnknownCommand hs
  | alertResponse => exact execAlertResponse hs
  | hostNotify | hostNotifyRetry => exact .ite (.notify hs) hs
  | busWakeMatch => exact .ite (.congr (.wake hs) rfl) hs
  | wakeStretchExpiry | audioClockLoss => exact .ite (.note (.congr hs rfl)) hs
  | busstuck => exact .ite hs (.ite (.alert (.note (.congr hs rfl))) (.alert (.note (.congr hs rfl))))
  | busRecovery => exact .ite (.ite (.congr hs rfl) (.ite (.note (.congr hs rfl)) (.congr hs rfl))) hs
  | alertstuck => exact .ite (.alert (.note (.congr hs rfl))) hs
  | alertReadbackFault => exact .ite (.note hs) hs
  | mbTimeout => exact execMbTimeout hs
  | showSet | showDel | siteSet | linkSet | linkDel => exact .provisionRow hs
  | hakSet => exact .ite (.ite hs (.installHak hs)) (.provisionRow hs)
  | instBegin => exact .installRow hs fun _ ht => .instBegin ht
  | instData => exact .installRow hs fun _ ht => .instData ht
  | instEnd => exact .installRow hs fun _ ht => .instEnd ht
  | instCommit => exact .installRow hs fun _ ht => .instCommit ht
  | instRevert => exact .installRow hs fun _ ht => .instRevert ht
  | instAbort => exact .installRow hs fun _ ht => .instAbort ht
  | instEraseDone => exact .ite (.instReply (.instPut (.congr hs rfl))) hs
  | instVerifyDone => exact execInstVerifyDone hs
  | energyRecheck => exact execEnergyRecheck hs
  | storeOpDone => exact execStoreOpDone hs
  | awlRunEnd => exact execAwlRunEnd hs
  | awlRerun => exact execAwlRerun hs
  | awlDetail => exact execAwlDetail hs
  | powerUpAwlEnd res =>
    have htaken : (s.awlTake awlAll res).Canonical := .awlTake hs
    exact .ite hs (.awlLeave (.bootRecord (.awlFaults (.awlRaise (.congr htaken rfl)))))
  | vsysGood | resetRelease => exact .ite hs (.leaveReset (.congr hs rfl))
  | powerfail => exact execPowerfail hs
  | vholdFloor => exact .ite hs (.congr (s := s.wipe false) (.wipe hs) rfl)
  | vioGood => exact .leaveReset (.congr hs rfl)
  | pinReset => exact .congr (.ite hs (.restart hs)) rfl
  | wakePin => exact .ite (.wake (.congr hs rfl)) (.congr hs rfl)
  | vholdLow => exact .ite hs (.note hs)
  | streamPacketSend => exact execStreamPacketSend hs
  | audioFrame => exact .ite (.ite (.produceMarkers (.congr hs rfl)) (.congr hs rfl)) hs
  | audioTrackMeasure => exact .ite (.ite (.realign (.congr hs rfl)) (.congr hs rfl)) hs
  | audioClockReturn => exact .ite (.realign (.congr hs rfl)) hs
  | audCtrlWrite => exact .busWrite hs fun ht => .writeAudCtrl ht
  | heartbeatSend => exact execHeartbeatSend hs
  | heartbeatRx => exact execHeartbeatRx hs
  | heartbeatMissed => exact .ite hs (.ite (.linkDown (.congr hs rfl)) (.congr hs rfl))
  | wlsyncEdgeLoss | symbolLockLoss => exact .ite (.linkDown (.note hs)) hs
  | weltTickFrame => exact .standbyTake hs fun ht => .copyTick ht
  | weltRecordFrame => exact .standbyTake hs fun ht => .copyRecord ht
  | weltLastevFrame => exact .standbyTake hs fun ht => .copyLast ht
  | weltHostmsgFrame => exact .standbyTake hs fun ht => .copyHost ht
  | weltB4msgFrame => exact .standbyTake hs fun ht => .copyB4 ht
  | weltDecisionFrame => exact .standbyTake hs fun ht => .carryOut ht
  | weltDigestFrame => exact .standbyTake hs fun ht => .compareDigests (.congr ht rfl)
  | weltCkptFrame => exact .standbyTake hs fun ht => .congr ht rfl
  | weltAdoptFrame => exact .weltTake hs fun ht => .ite (.congr ht rfl) ht
  | adoptionComplete => exact .ite (.adopt hs) hs
  | adoptionTimeout => exact .ite (.failAdoption hs) hs
  | roleSwap => exact .ite (.swapRoles hs) hs
  | takeover => exact .ite (.takeOver hs) hs
  | domainPowerUpDone => exact .ite (.domainUp hs) hs
  | linkUpDeadline => exact .ite (.becomeParted hs) hs

theorem step_goes (hs : s.Canonical) : Goes (step s) := by
  cases hq : s.pending with
  | nil => exact step_of_empty hq ▸ hs
  | cons c rest =>
    have hrest : ({ s with pending := rest } : State).Canonical := .congr hs rfl
    exact step_of_front hq ▸ hrest.exec_goes c

end State.Canonical

/-- Settles O59: every function that makes a state of a state keeps the canonical form, and so does every command. -/
theorem stepKeepsTheStateCanonical : Obligations.StepKeepsTheStateCanonical := by
  unfold Obligations.StepKeepsTheStateCanonical
  intro s t hs hstep
  have hgoes : Goes (step s) := State.Canonical.step_goes ⟨hs⟩
  rw [hstep] at hgoes
  exact hgoes.wf

end Sys2Proof.Machine
end
